-- ==== Sys2Proof/Word.lean ====
section
/-!
DEFINITION. Sys2Proof/Word.lean: the word and byte types, the type of sparse stores and the name of an event.
-/

namespace Sys2Proof

/-- A 32-bit register word (R31). -/
abbrev Word := BitVec 32

/-- A byte of DRAM or SRAM. -/
abbrev Byte := BitVec 8

/-- A sparse store: pairs of key and value, keys strictly rising, no value equal to what an unlisted key reads as. -/
abbrev Store (β : Type) := List (Nat × β)

/-- An event: the index of its page and its bit of EVT_STAT (R43). -/
structure EvId where
  page : Nat
  bit : Nat
  deriving DecidableEq, Repr

end Sys2Proof
end

