-- ==== Sys2Proof/Syntax.lean ====
section
/-!
DEFINITION. Sys2Proof/Syntax.lean: the commands of the block, one constructor per row of the command table, with
what each carries. Whatever the device does not compute itself (what a link, a sensor, a memory cell outside the
model or a measurement delivers) is an operand of the command that delivers it (log entry 12).
-/

namespace Sys2Proof

/-- The two parties of register accesses (R35, R52). -/
inductive Party where
  | pcie
  | spi
  deriving DecidableEq, Repr

/-- What falls in the same cycle as a register access (R46, R61, R428; log entry 1): nothing; a write of the other party
to the same register (for TP_CMD: to the TP_CMD of its own bank) with the value `v`, which this command then carries out
too; what the command before it did in the device, and what that command shared its cycle with; or both. -/
inductive Tie where
  | alone
  | both (v : Word)
  | device
  | bothDevice (v : Word)
  deriving DecidableEq, Repr

/-- The access falls in the cycle of the command before it. -/
def Tie.inDevice : Tie → Bool
  | .device | .bothDevice _ => true
  | _ => false

/-- How a register access arrives: its party, whether it is one double word with all byte enables (R34), bits [1:0] of
its address as received, and what falls in its cycle. -/
structure Acc where
  party : Party
  single : Bool
  low : BitVec 2
  tie : Tie
  deriving DecidableEq, Repr

/-- The pages that have an enable set register or other choice of target register are named by a number of the page. -/
abbrev PageNo := BitVec 12

/-- Which leaky bucket (R48): SIG, the beam lanes' common LB_CFG, a region of SRAM, DRAM. -/
inductive BucketSel where
  | sig
  | lane (l : BitVec 7)
  | region (r : BitVec 3)
  | dram
  deriving DecidableEq, Repr

/-- The kind of a clock monitor trip (R400, CLK_LAST_TRIP.KIND). -/
inductive TripKind where
  | activity
  | coarse
  | fine
  | lock
  deriving DecidableEq, Repr

/-- The clock sources that loops can follow (R379). -/
inductive Src where
  | rc
  | xtal
  | sys
  deriving DecidableEq, Repr

/-- How a completion of a device-issued host read ends (R347); `ecrc`: its digest is wrong (R323). -/
inductive Cpl where
  | ok
  | ur
  | ca
  | ep
  | ecrc
  deriving DecidableEq, Repr

/-- The kinds of unsupported requests (R324): I/O, Type 1 configuration, memory reads and writes that hit no BAR, AtomicOp,
requests whose AT field is not 0b00, vendor-defined messages of Type 0 and Type 1; `ecrc`: a request of any kind whose digest
is wrong (R323). -/
inductive Unsupported where
  | io
  | type1
  | memRead
  | memWrite
  | atomic
  | atRead
  | atWrite
  | vdm0
  | vdm1
  | ecrc
  deriving DecidableEq, Repr

/-- A stored SRAM byte that an operation meets: group, row and byte of the row (R352; log entry 11). -/
structure SramHit where
  group : BitVec 7
  row : BitVec 12
  byte : BitVec 8
  deriving DecidableEq, Repr

/-- A byte with an error that an operation meets: of region 4, a table of the stripe, or, where `alm` names it, that byte
of an almanac (R175, R352); of region 5, the entry of a log that a register reads (R359; log entry 11). -/
structure TabHit where
  hit : SramHit
  alm : Option (BitVec 16)
  deriving DecidableEq, Repr

/-- A byte with an error in the frame buffer of a logical lane (R359; log entry 11). -/
structure FrameHit where
  hit : SramHit
  lane : BitVec 7
  deriving DecidableEq, Repr

/-- A byte with an error that the memory controller meets: of the poison table (`which` the line of the entry) or of the
never-written bitmap (`which` the byte of the bitmap) (R359; log entry 11). -/
structure Lookup where
  hit : SramHit
  table : Bool
  which : Nat
  deriving DecidableEq, Repr

/-- A message on a port of a constellation (R285): the lane of the port that brings this copy, its body and the CRC-32 that
follows it. -/
structure Rx where
  second : Bool
  body : List Byte
  crc : Word
  deriving DecidableEq, Repr

/-- One constructor per row of the command table, in its order. -/
inductive Instr where
  /-- REGISTER_WRITE (R35). A write to a register that has no row of its own is checked in the order of R35 and then acts, or is dropped and logged. -/
  | registerWrite (a : Acc) (word : BitVec 22) (v : Word)
  /-- SPI_READ (R39). An SPI read transaction (command 0x0B) returns a 32-bit register word after the dummy clocks, or zeros if t_RA was too short. -/
  | spiRead (addr : BitVec 24) (tRa : Nat) (hits : List TabHit)
  /-- SPI_WRITE (R39). An SPI write transaction (command 0x02) delivers a 32-bit write at the 64th clock; a write cut short is dropped and logged with kind SPI_SHORT. -/
  | spiWrite (addr : BitVec 24) (v : Word) (clocks : Nat)
  /-- EVT_STAT_CLEAR (R46). A W1C write to EVT_STAT clears event bits; an occurrence in the same cycle leaves its bit set and re-signals. -/
  | evtStatClear (a : Acc) (page : PageNo) (v : Word)
  /-- EVT_FORCE (R43). A write of 1 to an EVT_FORCE bit raises that event with its class action and a FORCED log entry, if the test enable is set. -/
  | evtForce (a : Acc) (page : PageNo) (v : Word)
  /-- EVT_CLASS_WRITE (R45). A write to EVT_CLASS sets SEL and, with WR = 1, changes the class of the event if the new class is legal and not below its floor. -/
  | evtClassWrite (a : Acc) (page : PageNo) (v : Word)
  /-- EVT_EN_WRITE (R331). A write to EVT_EN changes which events count for signalling and sends the page's vector for set bits that start to count. -/
  | evtEnWrite (a : Acc) (page : PageNo) (v : Word)
  /-- PAGE_CTL_WRITE (R331). A write to PAGE_CTL changes the IRQ and ALERT enables of the page summary and may send the page's vector. -/
  | pageCtlWrite (a : Acc) (page : PageNo) (v : Word)
  /-- PAGE_LOCK (R38). Setting PAGE_LOCK.LOCK makes the page refuse writes to its block registers and event controls until the next reset. -/
  | pageLock (a : Acc) (page : PageNo) (v : Word)
  /-- CNT_CLR (R64). A write of 1 to a bit of a page's counter-clear register clears the counter that the bit names. -/
  | cntClr (a : Acc) (page : PageNo) (v : Word)
  /-- LB_CFG_WRITE (R48). A write to a leaky bucket's LB_CFG sets its threshold and period, sets COUNT and PEAK to 0 and ARMED to 1. -/
  | lbCfgWrite (a : Acc) (b : BucketSel) (v : Word)
  /-- LB_LEAK (R48). Every PERIOD ms a leaky bucket's COUNT falls by 1, and the bucket is re-armed at THRESH >> 1 or below. -/
  | lbLeak (b : BucketSel)
  /-- NV_PROGRAM_DONE (R50). Programming of a persistent word's pending slot completes, its write counter rises by 1 and NV_WEAR is raised at 95,000. -/
  | nvProgramDone (idx : BitVec 10)
  /-- PROPOSE (R56). A party writes CMD = PROPOSE in its bank, starting validation of its proposal. -/
  | propose (a : Acc)
  /-- TP_VALIDATE_DONE (R58). Validation of a proposal ends: it is refused with BAD_TARGET or BAD_VALUE, or becomes pending with a nonce, a 1 s timer and TP_PROPOSED. -/
  | tpValidateDone
  /-- CONFIRM (R56). The other party writes CMD = CONFIRM with nonce and digest; a mismatch ends the proposal with MISMATCH, a match stops the timer and leads to application. -/
  | confirm (a : Acc)
  /-- TP_APPLY (R60). The confirmed proposal is asked of the owning blocks and, unless refused or worn, every word is applied in one cycle and TP_STATUS completes with APPLIED. -/
  | tpApply
  /-- WITHDRAW (R60). The proposer writes CMD = WITHDRAW and the pending proposal ends with WITHDRAWN. -/
  | withdraw (a : Acc)
  /-- REJECT (R60). The other party writes CMD = REJECT and the pending proposal ends with REJECTED. -/
  | reject (a : Acc)
  /-- TIMEOUT (R60). The 1.000 s proposal timer runs out before a CONFIRM and the proposal ends with TIMEOUT. -/
  | timeout
  /-- GEOM_PITCH_WRITE (R12). A write to GEOM_PITCH takes the new pitch unless it is out of range (PITCH_RANGE) or a stripe is running (PITCH_BUSY). -/
  | geomPitchWrite (a : Acc) (v : Word)
  /-- LOAD (R69). JOB_CMD LOAD moves a FREE context to LOADING and starts the descriptor and table checks. -/
  | load (a : Acc) (ctx : BitVec 7)
  /-- LOAD_DONE (R69). The LOAD checks end; JOB_RESULT completes and the context becomes READY or returns to FREE. -/
  | loadDone
  /-- START (R71). JOB_CMD START puts a READY context at the tail of the start queue. -/
  | start (a : Acc) (ctx : BitVec 7)
  /-- CANCEL (R71). JOB_CMD CANCEL returns a QUEUED or PRIMING context to READY, discarding its density results and unfinished attempts. -/
  | cancel (a : Acc) (ctx : BitVec 7)
  /-- ABORT (R71). JOB_CMD ABORT ends an EXPOSING stripe, moving its context to ABORTED. -/
  | abort (a : Acc) (ctx : BitVec 7)
  /-- RELEASE (R77). JOB_CMD RELEASE returns a READY, DONE or ABORTED context to FREE unless it holds an open ledger record. -/
  | release (a : Acc) (ctx : BitVec 7)
  /-- RESUME (R76). JOB_CMD RESUME clears JOB_QUEUE.HELD so that queued contexts may enter PRIMING again. -/
  | resume (a : Acc) (ctx : BitVec 7)
  /-- PRIMING_ENTRY (R73). The head of the start queue enters PRIMING when no context is PRIMING and the queue is free; pitch, level and block settings are sampled and the density pass starts. -/
  | primingEntry
  /-- JOB_LEVEL (R71). A queue head whose LEVEL differs from CTRL_BEHAV.LEVEL returns to READY and raises JOB_LEVEL. -/
  | jobLevel
  /-- EXPOSING_ENTRY (R74). A PRIMING context enters EXPOSING once no context is EXPOSING, no kill awaits, clocks are SYSREF-derived and DARK_N is high; the almanac is copied and bands are admitted. -/
  | exposingEntry (hits : List TabHit)
  /-- STRIPE_DONE (R75). An EXPOSING stripe becomes DONE once its last frames are sent and every transit's status is decided; suspect log entries are appended. -/
  | stripeDone
  /-- DENS_BAND_PARSE (R130). The density pass parses one band list when the horizon allows, checks its records, and adds to the density and cost maps. -/
  | densBandParse (hits : List SramHit) (row : BitVec 16) (gran : Word)
  /-- RASTER_PARSE (R102). The raster parser transforms a coverage record's vertices and files it in the bucket of every tile its box touches, stalling when the staging region is full. -/
  | rasterParse (full : Bool) (hits : List SramHit)
  /-- DECODE_RESUME (R93). A bitmap decoder stopped on a full output buffer resumes from its kept position when space frees. -/
  | decodeResume (eng : BitVec 6) (room : Nat)
  /-- BITMAP_DECODE_DONE (R92). A bitmap decode ends; its coverage is added to the accumulators, or it faults and raises DECODE_FAULT. -/
  | bitmapDecodeDone (eng : BitVec 6) (room : Nat)
  /-- JOB_FAULT_INFO_CLEAR (R98). A W1C write to JOB_FAULT_INFO.VALID clears the fault capture and re-arms it. -/
  | jobFaultInfoClear (a : Acc) (v : Word)
  /-- BAND_ENQUEUE (R116). A band's pieces enter the tile queue once the band is admitted and its cost rows are final, ordered by cost. -/
  | bandEnqueue (hits : List SramHit) (row : BitVec 16)
  /-- PIECE_DISPATCH (R116). An idle enabled engine takes the piece at the head of the tile queue. -/
  | pieceDispatch (room : Nat)
  /-- PIECE_DONE (R117). An engine completes a piece; when all pieces of a tile are done its coverage is ready for dose formation. -/
  | pieceDone (eng : BitVec 6) (clocks : BitVec 32)
  /-- TILE_LATE (R118). A tile's deadline transit fires with a piece incomplete; the tile is abandoned, written dark and recorded with cause RASTER_LATE. -/
  | tileLate
  /-- WORKSPACE_FAULT (R119). An uncorrectable workspace byte makes the device abandon the tile at once with cause WORKSPACE. -/
  | workspaceFault (eng : BitVec 6) (hit : SramHit)
  /-- RAST_ENG_EN_WRITE (R120). A write of the engine enables takes effect at dispatch or at piece end, or is refused with ENG_NONE if no engine would remain. -/
  | rastEngEnWrite (a : Acc) (hi : Bool) (v : Word)
  /-- RAST_CTL_WRITE (R121). A write of RAST_CTL applies to the next stripe, or is refused with CFG_RANGE if GUARD is out of range. -/
  | rastCtlWrite (a : Acc) (v : Word)
  /-- RAST_PROBE_CMD (R122). A write to RAST_PROBE_CMD starts or restarts the transform probe for a context. -/
  | rastProbeCmd (a : Acc) (v : Word)
  /-- RAST_PROBE_DONE (R122). The transform probe completes RAST_PROBE_STAT with a new TAG and raises PROBE_DONE. -/
  | rastProbeDone (hits : List SramHit)
  /-- DOSE_FORMATION (R132). Dose formation takes a tile whose coverage is complete and whose density is final, waiting with DENS_WAIT otherwise. -/
  | doseFormation (hits : List SramHit) (row : BitVec 16)
  /-- TILE_HANDOFF (R137). Dose formation hands the tile's 65,536 codes to the signature unit and the dose window in one piece. -/
  | tileHandoff
  /-- CORR_CTL_WRITE (R140). A write of CORR_CTL applies to the next stripe, or is refused with CFG_RANGE if HORIZON is out of range. -/
  | corrCtlWrite (a : Acc) (v : Word)
  /-- CORR_PROBE_CMD (R141). A write to CORR_PROBE_CMD starts or restarts the dose probe for a pixel of a context. -/
  | corrProbeCmd (a : Acc) (v : Word)
  /-- CORR_PROBE_DONE (R141). The dose probe completes CORR_PROBE_STAT with a new TAG and raises PROBE_DONE. -/
  | corrProbeDone (hits : List SramHit) (row : BitVec 16)
  /-- SIG_COMPARE (R151). The comparison of a tile attempt completes: a match makes the tile final, a mismatch sends it for regeneration or writes it dark. -/
  | sigCompare (tile : BitVec 20)
  /-- SIG_MIS_INFO_CLEAR (R160). A W1C write to SIG_MIS_INFO.VALID clears the mismatch capture and re-arms it. -/
  | sigMisInfoClear (a : Acc) (v : Word)
  /-- SIG_CAP_CMD (R158). A write to SIG_CAP_CMD arms a signature capture for a tile of a context, or completes at once with VOID. -/
  | sigCapCmd (a : Acc) (v : Word)
  /-- TRANSIT_FIRE (R234). Transit n fires in the first motion cycle in which the loop predicts the boundary close enough; its flash instant is fixed and allocation of n + 1 begins. -/
  | transitFire (hits : List TabHit)
  /-- MARKER_SEND (R197). Each active lane sends the marker of transit n at its slot, then the frame of n + 1 and fill; the marker is DARK when a dark condition holds. -/
  | markerSend (frames : List FrameHit)
  /-- STATUS_RECORD (R209). A blanker status record arrives on an auxiliary lane; its ACK, RESTARTED and FAULT act and its transit part contributes to the status decision. -/
  | statusRecord (lane : BitVec 2) (body : List Byte) (crc : Word)
  /-- STATUS_TIMEOUT (R209). STAT_TMO µs after a marker left, the status of its transit is decided from the records that arrived. -/
  | statusTimeout (n : BitVec 32)
  /-- AUX_DOWN (R211). An enabled auxiliary lane delivers no valid record for 100 µs, is marked DOWN and AUX_DOWN is raised. -/
  | auxDown (lane : BitVec 2)
  /-- KILL (R180). Within 10 µs of an applied kill the device sends one KILL command per new beam on the blanker command path. -/
  | kill
  /-- COMMAND_RESEND (R205). Every 1.000 ms each unacknowledged blanker command is sent again; KILL_UNACKED or REMAP_FAIL is raised after the 10th send. -/
  | commandResend
  /-- BLN_REMAP_CMD (R213). A write of BLN_REMAP_CMD triggers a failover of a logical lane to a spare. -/
  | blnRemapCmd (a : Acc) (v : Word)
  /-- LANE_WAKE_DONE (R220). A lane leaving DEEP finishes its 150 µs wake and becomes SHALLOW or ACTIVE. -/
  | laneWakeDone (phys : BitVec 7)
  /-- BLN_CAL_CMD (R216). A write of BLN_CAL_CMD.GO starts a deskew calibration, or completes with BUSY. -/
  | blnCalCmd (a : Acc) (v : Word)
  /-- CAL_DONE (R216). The deskew calibration ends; taps are applied or restored and BLN_CAL_STAT completes with its outcome. -/
  | calDone (ok : Bool) (taps : List (BitVec 16)) (resid : List (BitVec 10)) (eye : List (BitVec 7))
  /-- BLN_LANE_TAP_WRITE (R215). A write of a lane's deskew tap sets STALE, or is dropped with BLN_IGNORED while EXPOSING. -/
  | blnLaneTapWrite (a : Acc) (v : Word)
  /-- SET_FAIL (R223). BLN_LANE_CMD SET_FAIL marks an unmapped physical lane FAILED. -/
  | setFail (a : Acc)
  /-- CLEAR_FAIL (R214). BLN_LANE_CMD CLEAR_FAIL clears FAILED on an unmapped physical lane. -/
  | clearFail (a : Acc)
  /-- BLN_TEST_CTL_WRITE (R218). A write of BLN_TEST_CTL places one lane in a loop and pattern test, or is dropped with BLN_IGNORED. -/
  | blnTestCtlWrite (a : Acc) (v : Word)
  /-- INJ (R218). A write of BLN_TEST_CTL.INJ = 1 inverts one bit of the next word sent on the lane under test. -/
  | inj (a : Acc)
  /-- BLN_CTL_WRITE (R222). A write of BLN_CTL changes lane settings at once or for the next stripe, or is refused with CFG_RANGE. -/
  | blnCtlWrite (a : Acc) (v : Word)
  /-- BLN_AUX_WRITE (R222). A write of BLN_AUX changes the auxiliary lane enables, rate and peaking, or is refused with CFG_RANGE. -/
  | blnAuxWrite (a : Acc) (v : Word)
  /-- MET_SAMPLE (R229). A metrology sample message on A4 or A5 is checked, accepted or discarded, and an accepted sample updates the loop and the motion checks. -/
  | metSample (second : Bool) (com : BitVec 64) (body : List Byte) (crc : Word)
  /-- SAMPLE_TIMEOUT (R231). No sample of the feeding lane is accepted for TMO × 100 ns and the loop loses lock. -/
  | sampleTimeout (second : Bool)
  /-- STRIPE_ARMED (R241). The EXPOSING stripe becomes ARMED when the loop is locked, the lanes are awake and the boundary of transit 0 lies far enough ahead; allocation of transit 0 begins. -/
  | stripeArmed (hits : List TabHit) (frames : List FrameHit)
  /-- START_LATE (R242). Before the stripe is ARMED the stage has come too close to B(0) and START_LATE is raised. -/
  | startLate
  /-- USE_PRIMARY (R233). TRK_CMD.USE_PRIMARY returns the loop to the primary lane at its next accepted sample. -/
  | usePrimary (a : Acc)
  /-- TRK_SNAP (R246). TRK_CMD.SNAP captures P, V, transit phase and XERR in one cycle. -/
  | trkSnap (a : Acc)
  /-- TRK_SNAP_DONE (R246). The TRK snapshot completes TRK_SNAP_STAT with a new TAG and raises SNAP_DONE. -/
  | trkSnapDone
  /-- TRK_CONFIG_WRITE (R246). A write of TRK_CFG, TRK_LAT, TRK_GAIN or TRK_LOCK acts, or is refused with CFG_REFUSED while EXPOSING or for illegal values. -/
  | trkConfigWrite (a : Acc) (reg : BitVec 2) (v : Word)
  /-- MOVE (R252). MOT_CMD MOVE names a target; it starts at the next tick, becomes pending, or is refused with BAD_TARGET or BAD_VEL. -/
  | move (a : Acc) (axis : Bool)
  /-- STOP (R256). MOT_CMD STOP begins a jerk-limited stop sequence at the next tick, keeping the pending target. -/
  | stop (a : Acc)
  /-- CLEAR_PEND (R256). MOT_CMD CLEAR_PEND discards the pending target, which completes with DISCARDED. -/
  | clearPend (a : Acc)
  /-- SET_POS (R261). MOT_CMD SET_POS sets an axis position at standstill, or is dropped with MOT_IGNORED. -/
  | setPos (a : Acc) (axis : Bool)
  /-- MOT_SNAP (R269). MOT_CMD SNAP captures p, v and a of an axis in one cycle. -/
  | motSnap (a : Acc) (axis : Bool)
  /-- MOT_SNAP_DONE (R269). The MOT snapshot completes MOT_SNAP_STAT with a new TAG and raises SNAP_DONE. -/
  | motSnapDone
  /-- TICK (R250). Once per microsecond the generator applies pending commands, selects the jerk and updates a, v and p, ending moves with MOT_RESULT. -/
  | tick
  /-- MOT_PROFILE_WRITE (R257). A write of MOT_VEL, MOT_ACC, MOT_DEC or MOT_JERK acts at the next tick, or is refused with CFG_REFUSED. -/
  | motProfileWrite (a : Acc) (reg : BitVec 2) (v : Word)
  /-- MOT_CFG_WRITE (R269). A write of MOT_CFG changes the A6 and A7 streams, or is refused with CFG_REFUSED. -/
  | motCfgWrite (a : Acc) (v : Word)
  /-- CAM_WRITE (R265). A write to a cam entry stores it, or is dropped with CAM_IGNORED if the entry lies in the active bank. -/
  | camWrite (a : Acc) (bank : Bool) (k : BitVec 8) (v : Word)
  /-- SWAP (R265). A write of CAM_CTL.SWAP requests a cam bank swap, taken at once or at the next firing. -/
  | swap (a : Acc)
  /-- DEFLECTION_IDLE (R267). When no transit has fired for 1 µs the device sends an IDLE deflection message every 1 µs. -/
  | deflectionIdle
  /-- PLAN_CYCLE (R288). At each 16,384 ns plan cycle a member forms its own segment values and a leaf sends REPORT. -/
  | planCycle (hits : List SramHit) (row : BitVec 16)
  /-- REPORT (R288). A REPORT from a child is received and reduced into this node's REPORT, which is sent up once both children have started. -/
  | report (port : Bool) (rx : Rx)
  /-- REPORT_TIMEOUT (R288). A child has not started its REPORT by the timeout; its previous report is used and CST_STALE counts. -/
  | reportTimeout
  /-- PLAN (R288). A PLAN received by a member updates GOV_STAT and GOV_BASE and is forwarded down. -/
  | plan (rx : Rx)
  /-- JOIN (R287). A JOIN is received from a child and answered with a refusal, forwarded up, or accepted by the root with a GRANT. -/
  | join (port : Bool) (rx : Rx)
  /-- JOIN_SEND (R287). A synchronised but unjoined member sends JOIN, and again every 1 ms until a GRANT arrives. -/
  | joinSend
  /-- GRANT (R287). A GRANT is routed down; the candidate becomes JOINED or raises JOIN_REFUSED. -/
  | grant (rx : Rx)
  /-- TIME_REQ_SEND (R289). Every 2^26 units of τ a member sends TIME_REQ to its parent. -/
  | timeReqSend
  /-- TIME_REQ (R289). A parent receives TIME_REQ and answers with TIME_RSP stamped with t2 and t3. -/
  | timeReq (port : Bool) (rx : Rx) (turn : BitVec 16)
  /-- TIME_RSP (R289). A member receives TIME_RSP, computes θ and steps, holds or slews τ, raising TIME_SLIP if |θ| > 64 while JOINED. -/
  | timeRsp (rx : Rx)
  /-- SETPT (R291). A member receives a SETPT copy of the conductor's setpoint and forwards it. -/
  | setpt (rx : Rx)
  /-- HALT (R292). A HALT is sent or received; each member raises CST_HALT against its EXPOSING context. -/
  | halt (rx : Rx)
  /-- LINK_DEGRADED (R293). One lane of a constellation port loses symbol lock and the port runs on the other lane. -/
  | linkDegraded (lane : BitVec 3)
  /-- CST_LOSS (R293). A child port goes down or misses 4 REPORTs; its subtree leaves the reduction and CST_LOSS is raised. -/
  | cstLoss (port : Bool) (lanes : Bool)
  /-- CST_ORPHAN (R293). The parent port goes down or 4 PLANs are missed; the member leaves JOINED, sends HALT ORPHAN and raises CST_ORPHAN. -/
  | cstOrphan (lanes : Bool)
  /-- GOV_CONFIG_WRITE (R278). A write of GOV_CTL, GOV_MODEL or GOV_CREEP takes effect at the next plan cycle, or is refused with CFG_REFUSED. -/
  | govConfigWrite (a : Acc) (reg : BitVec 2) (v : Word)
  /-- CST_CFG_WRITE (R284). A write of CST_CFG sets role, rate and peaking, leaving the tree on a role change, or is refused with CFG_REFUSED. -/
  | cstCfgWrite (a : Acc) (v : Word)
  /-- REJOIN (R287). CST_CMD.REJOIN allows a new JOIN after a refusal. -/
  | rejoin (a : Acc)
  /-- CST_SNAP (R296). CST_CMD.SNAP captures τ and the latest θ in one cycle. -/
  | cstSnap (a : Acc)
  /-- CST_SNAP_DONE (R296). The CST snapshot completes CST_SNAP_STAT with a new TAG and raises SNAP_DONE. -/
  | cstSnapDone
  /-- GENERATE (R310). LDG_CMD GENERATE takes the OPEN records of the lowest generation of a source and starts building a top-up in a FREE target context. -/
  | generate (a : Acc) (src : BitVec 7) (target : BitVec 7)
  /-- GENERATE_DONE (R310). A top-up build completes LDG_RESULT and moves the target to READY, or returns it to FREE with NOTHING. -/
  | generateDone
  /-- ADOPT (R317). LDG_CMD ADOPT checks a corrected job context and fixes the source records to move to it. -/
  | adopt (a : Acc) (src : BitVec 7) (target : BitVec 7)
  /-- ADOPT_DONE (R317). An adoption rewrites CTX of the records, copies snapshots and placement, opens held source-data records and completes LDG_RESULT. -/
  | adoptDone
  /-- TOPUP_HELD (R316). LDG_CMD TOPUP_HELD makes a held STATUS_LOST record OPEN, or completes with BAD_RECORD. -/
  | topupHeld (a : Acc)
  /-- DISCARD_HELD (R316). LDG_CMD DISCARD_HELD makes a held record DISCARDED, or completes with BAD_RECORD. -/
  | discardHeld (a : Acc)
  /-- LDG_TAIL_WRITE (R320). A write of LDG_TAIL retires records that are all TOPPED or DISCARDED, or is refused with LDG_IGNORED. -/
  | ldgTailWrite (a : Acc) (v : Word)
  /-- LDG_AREA_WRITE (R299). A write of LDG_BASE or LDG_CFG moves or resizes the ledger area when it is empty and idle, or is refused with CFG_REFUSED. -/
  | ldgAreaWrite (a : Acc) (reg : BitVec 2) (v : Word)
  /-- CONFIG_REQUEST (R325). A PCIe Type 0 configuration request reads or writes the configuration space of the function. -/
  | configRequest (write : Bool) (dw : BitVec 10) (v : Word) (be : BitVec 4)
  /-- BAR2_WRITE (R329). A BAR2 write becomes a DRAM write through the window, merged where it covers a line in part. -/
  | bar2Write (off : BitVec 32) (bytes : List (Option Byte))
  /-- BAR2_READ (R329). A BAR2 read returns DRAM content, with poisoned completions and BAR2_POISON for unusable lines. -/
  | bar2Read (off : BitVec 32) (len : Nat)
  /-- MSIX_ACCESS (R327). A BAR4 access reads or writes the MSI-X table or PBA under the base specification. -/
  | msixAccess (write : Bool) (off : BitVec 14) (dws : List Word)
  /-- UNSUPPORTED_REQUEST (R324). An unsupported PCIe request is answered with UR and counted in HOST_UR. -/
  | unsupportedRequest (kind : Unsupported) (hdr : List Word)
  /-- POISON_RX (R324). A received write with EP = 1 is dropped, reported through AER, counted and POISON_RX is raised. -/
  | poisonRx (hdr : List Word)
  /-- FLR (R332). A Function Level Reset resets configuration space, HOST_WIN and the DMA page and abandons requests in flight. -/
  | flr
  /-- LINK_DOWN (R332). A hot reset or DL_Down has the effect of an FLR and raises LINK_DOWN. -/
  | linkDown
  /-- LINK_UP (R349). The PCIe data link comes up and LINK_UP is raised, with LINK_SLOW below 8.0 GT/s. -/
  | linkUp (speed : BitVec 3) (width : BitVec 5)
  /-- D3HOT_ENTRY (R333). On entry to D3hot every active ring stops as for STOP and MSI-X messages pend. -/
  | d3hotEntry
  /-- D0_RETURN (R333). On return to D0 the rings are IDLE with their configuration kept. -/
  | d0Return
  /-- HOST_WIN_WRITE (R328). A write of HOST_WIN places the BAR2 window, or is refused with CFG_REFUSED above 28. -/
  | hostWinWrite (a : Acc) (v : Word)
  /-- RING_CFG_WRITE (R350). A write of RINGi_CFG or RINGi_BASE configures or enables and disables a ring, or is refused with CFG_REFUSED. -/
  | ringCfgWrite (a : Acc) (ring : BitVec 6) (reg : BitVec 2) (v : Word)
  /-- RING_START (R339). RINGi_CMD START sets an IDLE or ERROR ring RUNNING at the given slot and clears RINGi_ERR. -/
  | ringStart (a : Acc) (ring : BitVec 6) (slot : BitVec 16)
  /-- RING_STOP (R339). RINGi_CMD STOP ends the descriptor in progress with STOPPED and puts the ring IDLE. -/
  | ringStop (a : Acc) (ring : BitVec 6)
  /-- DOORBELL (R346). A write of RINGi_DB starts a re-read of the parked slot, or sets DB_PEND while the ring runs or waits. -/
  | doorbell (a : Acc) (ring : BitVec 6)
  /-- DESCRIPTOR_FETCH (R342). A fetched descriptor is checked and begins to execute, or fails with its code and puts the ring in ERROR. -/
  | descriptorFetch (ring : BitVec 6) (late : Bool) (st : Cpl) (words : List Word) (hits : List SramHit)
  /-- PARK_REREAD (R345). A re-read of word 0 of the parked slot completes; HOLD = 0 lets the ring fetch the next slot. -/
  | parkReread (ring : BitVec 6) (late : Bool) (st : Cpl) (w0 : Word)
  /-- DMA_BURST (R337). A channel starts a burst of a COPY for the ring it chooses by priority and fairness. -/
  | dmaBurst (chan : BitVec 4)
  /-- DESCRIPTOR_COMPLETE (R344). A descriptor completes; SIGNAL, status write-back, interrupt and HOLD act in order. -/
  | descriptorComplete (ring : BitVec 6)
  /-- WAIT_TIMEOUT (R343). A WAIT's timeout runs out; the WAIT ends with WAIT_TIMEOUT and the ring enters ERROR. -/
  | waitTimeout (ring : BitVec 6)
  /-- RINGI_EVT_WRITE (R344). A software write of RINGi_EVT sets the counter and re-evaluates WAITs on it. -/
  | ringiEvtWrite (a : Acc) (ring : BitVec 6) (v : Word)
  /-- DMA_ERR_INFO_CLEAR (R350). A W1C write to DMA_ERR_INFO.VALID clears the error capture and re-arms it. -/
  | dmaErrInfoClear (a : Acc) (v : Word)
  /-- HOST_CPL_TMO (R347). A device read completes with a completion timeout; HOST_CPL_TMO counts it and the descriptor fails with HOST_FAULT. -/
  | hostCplTmo (ring : BitVec 6) (late : Bool) (pos : Option Nat)
  /-- SRAM_ZEROED (R357). Zeroing of all SRAM after a memory-island reset completes and MEM_STAT.ZEROED is set. -/
  | sramZeroed
  /-- ZREAD_CLEAR (R366). A W1C write to DRAM_STAT.ZREAD clears it so that the next zero read is captured. -/
  | zreadClear (a : Acc) (v : Word)
  /-- MEM_REMAP_CMD (R358). A write of MEM_REMAP_CMD starts remapping an SRAM row to a spare, or completes with FULL or BAD_ROW. -/
  | memRemapCmd (a : Acc) (v : Word)
  /-- MEM_REMAP_DONE (R358). The row copy ends, the spare replaces the row and REMAP_DONE is raised. -/
  | memRemapDone
  /-- DRAM_RET_CMD (R368). A write of DRAM_RET_CMD starts retiring a DRAM page to a spare page, or completes with FULL. -/
  | dramRetCmd (a : Acc) (v : Word)
  /-- RETIRE_DONE (R368). The page copy ends, accesses go to the spare and RETIRE_DONE is raised. -/
  | retireDone
  /-- ARBITRATION (R371). After a grant ends the port arbiter grants the DRAM port by priority or, every N-th grant, by longest wait. -/
  | arbitration (raised : BitVec 16) (issued : BitVec 9) (dropped : Bool) (found : List Lookup)
  /-- ARB_WRITE (R374). A write of ARB_CTL or ARB_REQi changes fairness, priority or burst at the time R374 gives, or is refused with CFG_REFUSED. -/
  | arbWrite (a : Acc) (reg : BitVec 5) (v : Word)
  /-- DRAM_READY (R399). DRAM initialisation completes and DRAM_STAT.READY is set. -/
  | dramReady
  /-- CLK_FAIL (R386). A monitor trips on the active source; the loops coast, stripes abort, the generator stops and fallback to RC begins. -/
  | clkFail (kind : TripKind) (meas : BitVec 16)
  /-- SRC_FAIL (R390). A monitor trips on a source that is not active; its bit clears and SRC_FAIL is raised. -/
  | srcFail (src : Src) (kind : TripKind) (meas : BitVec 16)
  /-- RC_RESTART (R389). RC activity trips and the device restarts the RC. -/
  | rcRestart
  /-- RC_LOST (R389). RC is not judged stable within 2.0 ms of its start and the device enters service-only dark hold. -/
  | rcLost
  /-- SRC_UP (R384). A source is judged stable after its monitor windows pass and SRC_UP is raised. -/
  | srcUp (src : Src) (coarse : BitVec 12) (fine : BitVec 16)
  /-- SOURCE_MOVE (R385). An automatic or waiting commanded move of the active source starts after its 16 windows have passed. -/
  | sourceMove
  /-- SOURCE_CHANGED (R385). A move of the active source completes with every island back on its loop clock and SOURCE_CHANGED is raised. -/
  | sourceChanged
  /-- LOOP_RELOCK (R386). After fallback the loops relock to RC, the islands switch back and COAST clears. -/
  | loopRelock
  /-- ISLAND_SWITCH_DONE (R391). An island finishes its STOP or RAMP switch between loop clock and safe clock. -/
  | islandSwitchDone (island : BitVec 3)
  /-- SELECT_XTAL (R385). CLK_CMD SELECT_XTAL moves the active source to XTAL, up from RC or down from SYSREF. -/
  | selectXtal (a : Acc)
  /-- SELECT_SYS (R385). CLK_CMD SELECT_SYS moves the active source from XTAL to SYSREF. -/
  | selectSys (a : Acc)
  /-- SELECT_RC (R385). CLK_CMD SELECT_RC moves the active source down to RC and sets AUTO_HELD. -/
  | selectRc (a : Acc)
  /-- SERVICE (R392). CLK_CMD SERVICE moves the mode from RECOVERY to SERVICE when the clocks allow it. -/
  | service (a : Acc)
  /-- HOLD_EXIT (R395). CLK_CMD HOLD_EXIT leaves dark hold when no Device-fatal bit is set, releasing TRIP_N. -/
  | holdExit (a : Acc)
  /-- SVC_COLD (R396). An SPI write of CLK_SVC SVC_COLD resets islands 0 to 7 and loses the DRAM contents. -/
  | svcCold (a : Acc)
  /-- SVC_WARM (R397). An SPI write of CLK_SVC SVC_WARM resets islands 0 to 7 while DRAM keeps its contents in self-refresh. -/
  | svcWarm (a : Acc)
  /-- CLK_PWR_WRITE (R394). A write of CLK_PWR changes the power state RUN, SLEEP or DEEP, or is refused with CFG_REFUSED. -/
  | clkPwrWrite (a : Acc) (v : Word)
  /-- CLK_GATE_WRITE (R393). A write of an enable set gates or ungates blocks, or is refused with CFG_REFUSED while a stripe runs. -/
  | clkGateWrite (a : Acc) (set : BitVec 2) (v : Word)
  /-- CLK_CFG_WRITE (R400). A write of CLK_CTL or CLK_SWITCH changes monitor tolerance, automatic moves or switch methods, or is refused. -/
  | clkCfgWrite (a : Acc) (switchReg : Bool) (v : Word)
  /-- POWER_ON (R436). VIN12 rises through 10.8 V after having been below 10.6 V and starts a POWER_ON reset and the power-up sequence. -/
  | powerOn
  /-- PERST_N (R396). PERST_N low holds islands 0 to 7 in reset; its rise starts the power-up sequence from T1. -/
  | perstN (level : Bool)
  /-- BROWNOUT (R398). VIN12 stays below 10.6 V for 1 µs; lanes go idle, the device enters dark hold and holds islands 0 to 7 in reset. -/
  | brownout
  /-- TEMP_SENSE (R441). Every 100 µs the temperature sensors are read and THERM_N is driven by the 100 °C and 95 °C thresholds. -/
  | tempSense (hottest : BitVec 8)
  /-- XTAL_TIMEOUT (R399). XTAL is not judged within 10 ms of twilight; the loops lock to RC and SRC_FAIL is raised. -/
  | xtalTimeout
  /-- READY (R399). After SRAM zeroing and DRAM initialisation the lanes start, SYNC and kills are sent and CLK_STAT.READY is set with MODE = SERVICE. -/
  | ready
  /-- DARK_N_FALL (R446). DARK_N falls and every marker leaving more than 32 ns later is sent DARK. -/
  | darkNFall
  /-- DARK_N_RISE (R446). DARK_N rises and markers leaving more than 32 ns later are no longer held dark by it. -/
  | darkNRise
  /-- TEST_CTL_WRITE (R402). An SPI write of TEST_CTL sets or clears the test enable; clearing it disarms every perturbation. -/
  | testCtlWrite (a : Acc) (v : Word)
  /-- TEST_XING_CFG_WRITE (R404). A write of TEST_XING_CFG sets delay, credits and back-pressure on the selected crossing. -/
  | testXingCfgWrite (a : Acc) (v : Word)
  /-- TEST_DRAM_DLY_WRITE (R406). A write of TEST_DRAM_DLY adds a response delay to a requester input's DRAM reads. -/
  | testDramDlyWrite (a : Acc) (v : Word)
  /-- TEST_MET_CTL_WRITE (R407). A write of TEST_MET_CTL sets sample drops and jitter on the selected metrology lanes. -/
  | testMetCtlWrite (a : Acc) (v : Word)
  /-- TEST_MET_STEP_WRITE (R408). A write of TEST_MET_STEP adds a position step from the next accepted sample and sets UNSAFE. -/
  | testMetStepWrite (a : Acc) (v : Word)
  /-- TEST_LANE_CNT_WRITE (R411). A write of TEST_LANE_CNT corrupts the next frames or auxiliary messages as TEST_LANE_CFG selects. -/
  | testLaneCntWrite (a : Acc) (v : Word)
  /-- TEST_SIG_WRITE (R415). A write of TEST_SIG arms a forced signature mismatch for a tile of a context. -/
  | testSigWrite (a : Acc) (v : Word)
  /-- TEST_MON_WRITE (R416). A write of TEST_MON makes the named clock monitor trip at its next evaluation. -/
  | testMonWrite (a : Acc) (v : Word)
  /-- FLIP_SRAM (R413). TEST_MEM_CMD FLIP_SRAM XORs 1 or 2 bits into a stored SRAM byte. -/
  | flipSram (a : Acc)
  /-- FLIP_DRAM (R413). TEST_MEM_CMD FLIP_DRAM XORs a value into up to 5 consecutive bytes of a DRAM line. -/
  | flipDram (a : Acc)
  /-- READ_DRAM (R413). TEST_MEM_CMD READ_DRAM reads a DRAM line and reports how it was decided. -/
  | readDram (a : Acc)
  /-- MEM_DONE (R414). A test memory operation completes TEST_MEM_STAT with its outcome and raises MEM_DONE. -/
  | memDone (written : Bool)
  /-- JTAG_TAP_RESET (R418). Five TCK cycles with TMS high, or POWER_ON, reset the TAP to IDCODE. -/
  | jtagTapReset
  /-- JTAG_INSTRUCTION (R418). An instruction is loaded into the TAP instruction register and selects the boundary-scan operation; `scan` is what a data scan then shifts in, the first bit first. -/
  | jtagInstruction (op : Byte) (scan : Option (List Bool))
  /-- ALM_LOAD_CMD (R173). A write of ALM_LOAD_CMD.GO starts or restarts an almanac load from DRAM into the load buffer and clears ALM_LOAD_STAT.READY. -/
  | almLoadCmd (a : Acc) (v : Word)
  /-- ALM_LOAD_DONE (R173). An almanac load completes within 200 µs with LOADED, BAD_ADDR, BAD_VALUE or MEM_FAULT; ALM_LOAD_STAT completes and the staged almanac is replaced on LOADED. -/
  | almLoadDone (hits : List SramHit)
  /-- REGISTER_READ (R35). A PCIe BAR0 read is checked under checks 1 to 3 of R35; a bad width or alignment is logged and counted, a gated block adds to CTRL_GATED_CNT. -/
  | registerRead (a : Acc) (word : BitVec 22) (hits : List TabHit)
  /-- HOST_COMPLETION (R347). A completion for a device-issued host read of a COPY arrives; its data goes to its destination, or UR, CA or EP = 1 ends the descriptor with HOST_FAULT. -/
  | hostCompletion (ring : BitVec 6) (late : Bool) (pos : Nat) (st : Cpl) (data : List Byte)
  /-- VAUX33_LOSS (R438). The 3.3 V auxiliary input is removed; the service island moves to the internal rail or loses power, and the CLK page and TRIP_N lose their auxiliary supply. -/
  | vaux33Loss
  /-- VAUX33_RETURN (R438). The 3.3 V auxiliary input is applied and the service island runs from it whatever VIN12 does. -/
  | vaux33Return
  /-- SYMBOL_LOCK (R293). A lane of a constellation port gains symbol lock, bringing the port up and letting a member sync time and join again. -/
  | symbolLock (lane : BitVec 3)
  /-- CHECKER_LOCK (R218). The lane test checker gains or loses lock on the returned test stream, changing BLN_TEST_ERR.LOCK. -/
  | checkerLock (lock : Bool) (errors : Nat)
  deriving DecidableEq, Repr

end Sys2Proof
end

