-- ==== Sys2Proof/Decode.lean ====
section
/-!
DEFINITION. Sys2Proof/Decode.lean: the commands that a word of table bits spells. The command table gives no row any bits
(every row's field list is empty), so no word spells a command.
-/

namespace Sys2Proof

/-- The command that the table's bits spell: none, since no row has bits. -/
def decodeTableWord (_nbits _w : Nat) : Option Instr := none

end Sys2Proof
end

