-- ==== Sys2Proof/Config.lean ====
section
/-!
DEFINITION. Sys2Proof/Config.lean: what an implementation fixes and the values the spec leaves open. Every constant
here is opaque: nothing in Lean can evaluate it, so a claim holds whatever it is (log entries 5, 7 to 10, 13).
-/

namespace Sys2Proof

/-- A fresh free word for each value of the model's counter (R56: the nonce before it is made non-zero). -/
opaque Config.freeWord : Nat → Word

/-- A fresh free bit for each value of the model's counter (R446: a marker within 32 ns of an edge of DARK_N). -/
opaque Config.freeBit : Nat → Bool

/-- The factory unique identifier (R64). -/
opaque Config.devIdLo : Word
opaque Config.devIdHi : Word

/-- The PCI-SIG vendor ID assigned to the maker (R325). -/
opaque Config.vendorId : BitVec 16

/-- The JEDEC manufacturer identity assigned to the maker (R418). -/
opaque Config.jedecId : BitVec 11

/-- Bits of a configuration double word at reset and which of them are writable, where the spec leaves them to the base
specification and the device (R323). -/
opaque Config.cfgReset : Nat → Word
opaque Config.cfgMask : Nat → Word

/-- Whether an uncorrectable AER error of non-fatal severity is handled as an advisory one, by its bit (R323: a choice of
the base specification). -/
opaque Config.aerAdvisory : Nat → Bool

/-- Whether a BAR2 read is split into completions at a boundary of 128 bytes (R329; the base specification leaves it open). -/
opaque Config.splitsAt : Nat → Bool

/-- The pattern PZ over the check bytes C0 to C7 of a poisoned line: R362 fixes its distance from the code only. -/
opaque Config.pz : Nat → Byte

/-- A line of a block that was never filled though its bit of the never-written bitmap counts as set (R359, R397), as a
function of the line and of the error pattern flipped into it since: 0 a codeword, 1 to 3 that many wrong bytes, 4
poisoned, else uncorrectable; and its bytes, as a function of the pattern and the address. -/
opaque Config.unfilledKind : Nat → Nat → Nat
opaque Config.unfilledByte : Nat → Nat → Byte

/-- Whether an operation that writes an SRAM region writes the byte with a cell key, for each value of the model's counter: the
layout of regions 1 to 7 is internal (R353; log entry 132). -/
opaque Config.overwrites : Nat → Nat → Bool

/-- The initial state of the PRBS23 generator (R408). -/
opaque Config.prbsSeed : Nat

end Sys2Proof
end

