-- ==== Sys2Proof/Machine/Store.lean ====
section
/-!
DEFINITION. Sys2Proof/Machine/Store.lean: reading and writing a sparse store in canonical form, and the bit-field
helpers over words and numbers.
-/

namespace Sys2Proof.Machine

/-- The value at key `k`, or `d` where the store lists none. -/
def sget {β : Type} (d : β) : Store β → Nat → β
  | [], _ => d
  | p :: m, k => if p.1 = k then p.2 else sget d m k

/-- Insert or replace the entry at `k`, keeping the keys rising. -/
def sins {β : Type} (k : Nat) (v : β) : Store β → Store β
  | [] => [(k, v)]
  | p :: m => if k < p.1 then (k, v) :: p :: m else if k = p.1 then (k, v) :: m else p :: sins k v m

/-- Remove every entry at `k`. -/
def sdel {β : Type} (k : Nat) : Store β → Store β
  | [] => []
  | p :: m => if p.1 = k then sdel k m else p :: sdel k m

/-- Write `v` at `k`; `d` is what the key reads as while unlisted, and writing it removes the entry. -/
def sput {β : Type} [DecidableEq β] (d : β) (m : Store β) (k : Nat) (v : β) : Store β :=
  if v = d then sdel k m else sins k v m

/-- Keep the entries whose key satisfies `p`. -/
def skeep {β : Type} (p : Nat → Bool) (m : Store β) : Store β :=
  m.filter fun e => p e.1

/-- Every key of the rest lies above `lo`, and so on. -/
def skeysAbove {β : Type} : Nat → Store β → Bool
  | _, [] => true
  | lo, p :: m => decide (lo < p.1) && skeysAbove p.1 m

/-- The canonical form of a store with default `d`: keys strictly rising, no entry equal to its default. -/
def swf {β : Type} [DecidableEq β] (d : Nat → β) : Store β → Bool
  | [] => true
  | p :: m => skeysAbove p.1 m && decide (p.2 ≠ d p.1) && swf d m

/-- Memory of bytes: an unlisted address reads 0 (R366). -/
def memRead (m : List (Nat × Byte)) (a : Nat) : Byte := sget 0 m a

/-- Write one byte of memory, keeping the canonical form. -/
def memWrite (m : List (Nat × Byte)) (a : Nat) (b : Byte) : List (Nat × Byte) := sput 0 m a b

/-- The canonical form of a memory of bytes. -/
def Memory.wf (m : List (Nat × Byte)) : Bool := swf (fun _ => 0) m

/-- Write a list of bytes from address `a` upwards. -/
def memWriteList (m : List (Nat × Byte)) (a : Nat) : List Byte → List (Nat × Byte)
  | [] => m
  | b :: bs => memWriteList (memWrite m a b) (a + 1) bs

/-- Read `n` bytes from address `a` upwards. -/
def memReadList (m : List (Nat × Byte)) (a n : Nat) : List Byte :=
  (List.range n).map fun i => memRead m (a + i)

/-- The number that bytes spell, the first the least significant. -/
def leNat : List Byte → Nat
  | [] => 0
  | b :: bs => b.toNat + 256 * leNat bs

/-- The `n` bytes of a number, the least significant first. -/
def leBytes : Nat → Nat → List Byte
  | 0, _ => []
  | n + 1, v => BitVec.ofNat 8 v :: leBytes n (v / 256)

/-- A 32-bit word of a number. -/
def w32 (n : Nat) : Word := BitVec.ofNat 32 n

/-- A 32-bit word of an integer, in two's complement. -/
def w32i (n : Int) : Word := BitVec.ofInt 32 n

/-- The field of `n` bits from bit `lo` of a number. -/
def nfld (v lo n : Nat) : Nat := v / 2 ^ lo % 2 ^ n

/-- The field of `n` bits from bit `lo` of a word. -/
def fld (w : Word) (lo n : Nat) : Nat := nfld w.toNat lo n

/-- Bit `i` of a word. -/
def wbit (w : Word) (i : Nat) : Bool := w.getLsbD i

/-- The number of a flag. -/
def b2n (b : Bool) : Nat := if b then 1 else 0

/-- A word of fields given as (lowest bit, value); a value must fit its field. -/
def pack (fs : List (Nat × Nat)) : Word := w32 (fs.foldl (fun a f => a + f.2 * 2 ^ f.1) 0)

/-- Replace the field of `n` bits from bit `lo`. -/
def setFld (w : Word) (lo n v : Nat) : Word :=
  w32 (w.toNat - nfld w.toNat lo n * 2 ^ lo + v % 2 ^ n * 2 ^ lo)

/-- Set or clear one bit of a word. -/
def setBit (w : Word) (i : Nat) (b : Bool) : Word := setFld w i 1 (b2n b)

/-- Read an `n`-bit number as two's complement. -/
def sext (n v : Nat) : Int :=
  let r := v % 2 ^ n
  if r < 2 ^ (n - 1) then (r : Int) else (r : Int) - (2 ^ n : Nat)

/-- The `n`-bit two's complement pattern of an integer. -/
def toBits (n : Nat) (v : Int) : Nat := (v % ((2 ^ n : Nat) : Int)).toNat

/-- A saturating add on `n` bits. -/
def satAdd (n a b : Nat) : Nat := min (a + b) (2 ^ n - 1)

/-- An integer limited to `lo` .. `hi`. -/
def clampInt (lo hi v : Int) : Int := if v < lo then lo else if hi < v then hi else v

/-- Replace element `i` of a list. -/
def lset {β : Type} (l : List β) (i : Nat) (v : β) : List β := l.set i v

/-- Change the elements of a list that satisfy `p`. -/
def lupd {β : Type} (p : β → Bool) (f : β → β) (l : List β) : List β :=
  l.map fun x => if p x then f x else x

end Sys2Proof.Machine
end

