-- ==== Sys2Proof/Machine/LineCode.lean ====
section
/-!
DEFINITION. Sys2Proof/Machine/LineCode.lean: the byte code of the SRAM (R354, R355) and the line code of the DRAM (R362),
decided from the error pattern that a stored byte or line carries.
-/

namespace Sys2Proof.Machine

/-! ### The 13-bit byte code -/

/-- The four Hamming check bits of a data byte (R354). -/
def hammingChecks (d : Nat) : Nat :=
  let b (i : Nat) : Bool := d.testBit i
  b2n (b 0 ^^ b 1 ^^ b 3 ^^ b 4 ^^ b 6) + 2 * b2n (b 0 ^^ b 2 ^^ b 3 ^^ b 5 ^^ b 6) +
    4 * b2n (b 1 ^^ b 2 ^^ b 3 ^^ b 7) + 8 * b2n (b 4 ^^ b 5 ^^ b 6 ^^ b 7)

/-- Parity of the low `n` bits. -/
def parity (n v : Nat) : Bool := (List.range n).foldl (fun a i => a ^^ v.testBit i) false

/-- The 13 stored bits of a data byte (R354). -/
def encodeByte (d : Nat) : Nat :=
  let w := d % 256 + 256 * hammingChecks d
  w + 4096 * b2n (parity 12 w)

/-- What a read of a stored byte decides (R355). -/
inductive ByteRead where
  | good
  | corrected (pos : Nat)
  | bad
  deriving DecidableEq, Repr

/-- The stored bit at Hamming position `p`, 1 to 12 (R354). -/
def hammingBit (p : Nat) : Nat :=
  match p with
  | 1 => 8
  | 2 => 9
  | 3 => 0
  | 4 => 10
  | 5 => 1
  | 6 => 2
  | 7 => 3
  | 8 => 11
  | 9 => 4
  | 10 => 5
  | 11 => 6
  | _ => 7

/-- Decide a stored word of 13 bits, or, the code being linear, an error pattern: the outcome and the data byte (or the
error left in it) that the reader gets. -/
def decodeByte (w : Nat) : ByteRead × Nat :=
  let s := (hammingChecks (w % 256)) ^^^ (w / 256 % 16)
  let q := parity 13 w
  if s = 0 then (if q then .corrected 0 else .good, w % 256)
  else if q && s ≤ 12 then (.corrected s, (w ^^^ 2 ^ hammingBit s) % 256)
  else (.bad, w % 256)

/-! ### The Reed-Solomon line code -/

/-- Multiply by α in GF(2⁸). -/
def gfX (a : Nat) : Nat := if a < 128 then 2 * a else (2 * a) ^^^ 0x11D

/-- Multiply in GF(2⁸), `k` bits of the second factor left. -/
def gfMulAux : Nat → Nat → Nat → Nat
  | 0, _, _ => 0
  | k + 1, a, b => (if b % 2 = 1 then a else 0) ^^^ gfMulAux k (gfX a) (b / 2)

def gfMul (a b : Nat) : Nat := gfMulAux 8 a b

/-- Power by repeated multiplication. -/
def gfPow (a : Nat) : Nat → Nat
  | 0 => 1
  | k + 1 => gfMul a (gfPow a k)

/-- The inverse of a non-zero element. -/
def gfInv (a : Nat) : Nat := gfPow a 254

/-- The locator of byte `j` of the 72: α^(71 − j). -/
def locator (j : Nat) : Nat := gfPow 2 (71 - j)

/-- Syndrome `k` of an error pattern. -/
def syndrome (e : List (Nat × Nat)) (k : Nat) : Nat :=
  e.foldl (fun a p => a ^^^ gfMul p.2 (gfPow (locator p.1) k)) 0

/-- Determinant of a 3 by 3 matrix over GF(2⁸). -/
def det3 (a b c d e f g h i : Nat) : Nat :=
  gfMul a (gfMul e i ^^^ gfMul f h) ^^^ gfMul b (gfMul d i ^^^ gfMul f g) ^^^ gfMul c (gfMul d h ^^^ gfMul e g)

/-- The coefficients (Λ1, Λ2, Λ3) of the error locator for `n` errors, if the system has one solution. -/
def locatorPoly (n : Nat) (s : Nat → Nat) : Option (Nat × Nat × Nat) :=
  match n with
  | 1 => if s 0 = 0 then none else some (gfMul (s 1) (gfInv (s 0)), 0, 0)
  | 2 =>
    let d := gfMul (s 0) (s 2) ^^^ gfMul (s 1) (s 1)
    if d = 0 then none
    else
      some (gfMul (gfMul (s 0) (s 3) ^^^ gfMul (s 1) (s 2)) (gfInv d),
        gfMul (gfMul (s 1) (s 3) ^^^ gfMul (s 2) (s 2)) (gfInv d), 0)
  | _ =>
    let d := det3 (s 0) (s 1) (s 2) (s 1) (s 2) (s 3) (s 2) (s 3) (s 4)
    if d = 0 then none
    else
      some (gfMul (det3 (s 0) (s 1) (s 3) (s 1) (s 2) (s 4) (s 2) (s 3) (s 5)) (gfInv d),
        gfMul (det3 (s 0) (s 3) (s 2) (s 1) (s 4) (s 3) (s 2) (s 5) (s 4)) (gfInv d),
        gfMul (det3 (s 3) (s 1) (s 2) (s 4) (s 2) (s 3) (s 5) (s 3) (s 4)) (gfInv d))

/-- The positions whose locator is a root of the reversed locator polynomial. -/
def locatorRoots (n l1 l2 l3 : Nat) : List Nat :=
  (List.range 72).filter fun j =>
    let x := locator j
    match n with
    | 1 => x ^^^ l1 == 0
    | 2 => gfMul x x ^^^ gfMul l1 x ^^^ l2 == 0
    | _ => gfMul x (gfMul x x) ^^^ gfMul l1 (gfMul x x) ^^^ gfMul l2 x ^^^ l3 == 0

/-- The error values at known positions, from the first syndromes. -/
def errorValues (s : Nat → Nat) : List Nat → List (Nat × Nat)
  | [i] => [(i, s 0)]
  | [i, j] =>
    let x := locator i
    let y := locator j
    let d := gfInv (x ^^^ y)
    [(i, gfMul (gfMul (s 0) y ^^^ s 1) d), (j, gfMul (gfMul (s 0) x ^^^ s 1) d)]
  | [i, j, k] =>
    let x := locator i
    let y := locator j
    let z := locator k
    let d := gfInv (det3 1 1 1 x y z (gfMul x x) (gfMul y y) (gfMul z z))
    [(i, gfMul (det3 (s 0) 1 1 (s 1) y z (s 2) (gfMul y y) (gfMul z z)) d),
      (j, gfMul (det3 1 (s 0) 1 x (s 1) z (gfMul x x) (s 2) (gfMul z z)) d),
      (k, gfMul (det3 1 1 (s 0) x y (s 1) (gfMul x x) (gfMul y y) (s 2)) d)]
  | _ => []

/-- One attempt of the decoder with exactly `n` errors. -/
def rsTry (n : Nat) (s : Nat → Nat) : Option (List (Nat × Nat)) :=
  match locatorPoly n s with
  | none => none
  | some (l1, l2, l3) =>
    let js := locatorRoots n l1 l2 l3
    if js.length ≠ n then none
    else
      let e := errorValues s js
      if (List.range 8).all fun k => syndrome e k == s k then some e else none

/-- The correction of at most 3 wrong bytes that the decoder finds for a pattern, if any (R362). -/
def rsDecode (e : List (Nat × Nat)) : Option (List (Nat × Nat)) :=
  let s := syndrome e
  if (List.range 8).all fun k => s k == 0 then some []
  else
    match rsTry 1 s with
    | some r => some r
    | none =>
      match rsTry 2 s with
      | some r => some r
      | none => rsTry 3 s

/-- What a read of a stored line decides (R363). -/
inductive LineKind where
  | good
  | corrected (bytes : Nat)
  | poisoned
  | bad
  deriving DecidableEq, Repr

/-- A pattern as one number, for the free values. -/
def patternNat (e : List (Nat × Nat)) : Nat := e.foldl (fun a p => a + p.2 * 256 ^ p.1) 0

/-- Two patterns added byte by byte. -/
def addPattern (e c : List (Nat × Nat)) : List (Nat × Nat) :=
  let at' (l : List (Nat × Nat)) (j : Nat) : Nat := (l.find? fun p => p.1 == j).elim 0 Prod.snd
  (List.range 72).filterMap fun j => if at' e j ^^^ at' c j = 0 then none else some (j, at' e j ^^^ at' c j)

/-- The pattern PZ that poison adds to the check bytes (R362); its value is the implementation's (log entry 9). -/
def pzPattern : List (Nat × Nat) := (List.range 8).map fun k => (64 + k, (Config.pz k).toNat)

/-- The line as stored lies within `n` bytes of a codeword, `e` being its difference from one. -/
def withinOf (n : Nat) (e : List (Nat × Nat)) : Option (List (Nat × Nat)) :=
  match rsDecode e with
  | some c => if c.length ≤ n then some c else none
  | none => none

/-- The outcome for a pattern of wrong bytes (position, XOR value) on a clean or poisoned line, and the pattern left in
the data that the requester gets (R362, R363). A clean line with at most 6 wrong bytes is not within 1 byte of a poisoned
one, nor a poisoned one with at most 4 within 3 of a clean one, PZ lying at distance 8 from every codeword. -/
def decideLine (poison : Bool) (e : List (Nat × Nat)) : LineKind × List (Nat × Nat) :=
  let clean (d : List (Nat × Nat)) : Option (LineKind × List (Nat × Nat)) :=
    (withinOf 3 d).map fun c => (if c.isEmpty then .good else .corrected c.length, addPattern d c)
  let pz := addPattern e pzPattern
  if poison then
    if e.length ≤ 1 || (withinOf 1 e).isSome then (.poisoned, e)
    else if e.length ≤ 4 then (.bad, e)
    else (clean pz).getD (.bad, e)
  else if e.isEmpty then (.good, [])
  else if e.length ≤ 3 then (.corrected e.length, [])
  else if e.length ≤ 5 then (.bad, e)
  else (clean e).getD (if 7 ≤ e.length && (withinOf 1 pz).isSome then .poisoned else .bad, e)

end Sys2Proof.Machine
end

