-- ==== Sys2Proof/Machine/Events.lean ====
section
/-!
DEFINITION. Sys2Proof/Machine/Events.lean: every event of every page with its EVT_STAT bit, its default class
and its floor, from the event table of each block chapter (R30, R65, R99, R124, ...) and the floors of R45.
-/

namespace Sys2Proof.Machine

def Ev.CTRL_ACCESS_ERR : EvId := ⟨0, 0⟩
def Ev.CTRL_ACCESS_DENIED : EvId := ⟨0, 1⟩
def Ev.CTRL_DP_DIRECT : EvId := ⟨0, 2⟩
def Ev.CTRL_NV_WEAR : EvId := ⟨0, 3⟩
def Ev.CTRL_NV_WORN : EvId := ⟨0, 4⟩
def Ev.CTRL_TP_PROPOSED : EvId := ⟨0, 5⟩
def Ev.CTRL_TP_DONE : EvId := ⟨0, 6⟩
def Ev.CTRL_TP_IGNORED : EvId := ⟨0, 7⟩
def Ev.CLK_FAIL : EvId := ⟨1, 0⟩
def Ev.CLK_RC_LOST : EvId := ⟨1, 1⟩
def Ev.CLK_BROWNOUT : EvId := ⟨1, 2⟩
def Ev.CLK_SRC_FAIL : EvId := ⟨1, 3⟩
def Ev.CLK_SRC_UP : EvId := ⟨1, 4⟩
def Ev.CLK_SOURCE_CHANGED : EvId := ⟨1, 5⟩
def Ev.CLK_READY : EvId := ⟨1, 6⟩
def Ev.CLK_RC_RESTART : EvId := ⟨1, 7⟩
def Ev.CLK_HOLD_EXIT : EvId := ⟨1, 8⟩
def Ev.CLK_CFG_REFUSED : EvId := ⟨1, 9⟩
def Ev.HOST_LINK_DOWN : EvId := ⟨2, 0⟩
def Ev.HOST_LINK_UP : EvId := ⟨2, 1⟩
def Ev.HOST_LINK_SLOW : EvId := ⟨2, 2⟩
def Ev.HOST_FLR : EvId := ⟨2, 3⟩
def Ev.HOST_BAR2_POISON : EvId := ⟨2, 4⟩
def Ev.HOST_POISON_RX : EvId := ⟨2, 5⟩
def Ev.HOST_CFG_REFUSED : EvId := ⟨2, 6⟩
def Ev.DMA_RING_ERROR : EvId := ⟨3, 0⟩
def Ev.DMA_IGNORED : EvId := ⟨3, 1⟩
def Ev.DMA_CFG_REFUSED : EvId := ⟨3, 2⟩
def Ev.MEM_SRAM_CE_BURST : EvId := ⟨4, 0⟩
def Ev.MEM_SRAM_UE : EvId := ⟨4, 1⟩
def Ev.MEM_TABLE_FAULT : EvId := ⟨4, 2⟩
def Ev.MEM_REMAP_DONE : EvId := ⟨4, 3⟩
def Ev.MEM_CFG_REFUSED : EvId := ⟨4, 4⟩
def Ev.DRAM_CE_BURST : EvId := ⟨5, 0⟩
def Ev.DRAM_UE : EvId := ⟨5, 1⟩
def Ev.DRAM_POISON_MADE : EvId := ⟨5, 2⟩
def Ev.DRAM_POISON_FULL : EvId := ⟨5, 3⟩
def Ev.DRAM_ZERO_READ : EvId := ⟨5, 4⟩
def Ev.DRAM_RETIRE_DONE : EvId := ⟨5, 5⟩
def Ev.DRAM_LEDGER_MEM : EvId := ⟨5, 6⟩
def Ev.DRAM_CFG_REFUSED : EvId := ⟨5, 7⟩
def Ev.TEST_MEM_DONE : EvId := ⟨6, 0⟩
def Ev.TEST_IGNORED : EvId := ⟨6, 1⟩
def Ev.TEST_JTAG_EXTEST : EvId := ⟨6, 2⟩
def Ev.GEOM_PITCH_RANGE : EvId := ⟨8, 0⟩
def Ev.GEOM_PITCH_BUSY : EvId := ⟨8, 1⟩
def Ev.JOB_LOAD_DONE : EvId := ⟨9, 0⟩
def Ev.JOB_IGNORED : EvId := ⟨9, 1⟩
def Ev.JOB_STRIPE_DONE : EvId := ⟨9, 2⟩
def Ev.JOB_STRIPE_ABORTED : EvId := ⟨9, 3⟩
def Ev.JOB_LEVEL : EvId := ⟨9, 4⟩
def Ev.JOB_RECORD_FAULT : EvId := ⟨9, 5⟩
def Ev.JOB_DECODE_FAULT : EvId := ⟨9, 6⟩
def Ev.JOB_GEOM_MEM_FAULT : EvId := ⟨9, 7⟩
def Ev.RAST_XFORM_FLIP : EvId := ⟨10, 0⟩
def Ev.RAST_ACC_SAT : EvId := ⟨10, 1⟩
def Ev.RAST_TILE_LATE : EvId := ⟨10, 2⟩
def Ev.RAST_WORKSPACE_FAULT : EvId := ⟨10, 3⟩
def Ev.RAST_CFG_RANGE : EvId := ⟨10, 4⟩
def Ev.RAST_ENG_NONE : EvId := ⟨10, 5⟩
def Ev.RAST_PROBE_DONE : EvId := ⟨10, 6⟩
def Ev.CORR_DOSE_CLAMP : EvId := ⟨11, 0⟩
def Ev.CORR_IDX_SAT : EvId := ⟨11, 1⟩
def Ev.CORR_DENS_WAIT : EvId := ⟨11, 2⟩
def Ev.CORR_MAP_FAULT : EvId := ⟨11, 3⟩
def Ev.CORR_CFG_RANGE : EvId := ⟨11, 4⟩
def Ev.CORR_PROBE_DONE : EvId := ⟨11, 5⟩
def Ev.SIG_MISMATCH : EvId := ⟨12, 0⟩
def Ev.SIG_DARK : EvId := ⟨12, 1⟩
def Ev.SIG_BURST : EvId := ⟨12, 2⟩
def Ev.SIG_MEM_FAULT : EvId := ⟨12, 3⟩
def Ev.SIG_CAP_DONE : EvId := ⟨12, 4⟩
def Ev.PASS_LINE_LATE : EvId := ⟨13, 0⟩
def Ev.PASS_STORED_CODE : EvId := ⟨13, 1⟩
def Ev.ALM_LOAD_DONE : EvId := ⟨14, 0⟩
def Ev.ALM_KILL_ACKED : EvId := ⟨14, 1⟩
def Ev.ALM_KILL_UNACKED : EvId := ⟨14, 2⟩
def Ev.ALM_KILL_ABORT : EvId := ⟨14, 3⟩
def Ev.ALM_HEAL_SHORT : EvId := ⟨14, 4⟩
def Ev.ALM_SUSPECT_FIRE : EvId := ⟨14, 5⟩
def Ev.BLN_LANE_REJECT : EvId := ⟨15, 0⟩
def Ev.BLN_LANE_BURST : EvId := ⟨15, 1⟩
def Ev.BLN_REMAP_DONE : EvId := ⟨15, 2⟩
def Ev.BLN_REMAP_FAIL : EvId := ⟨15, 3⟩
def Ev.BLN_STATUS_LOST : EvId := ⟨15, 4⟩
def Ev.BLN_STATUS_CONFLICT : EvId := ⟨15, 5⟩
def Ev.BLN_AUX_DOWN : EvId := ⟨15, 6⟩
def Ev.BLN_BLANKER_RESTART : EvId := ⟨15, 7⟩
def Ev.BLN_BLANKER_FAULT : EvId := ⟨15, 8⟩
def Ev.BLN_CAL_DONE : EvId := ⟨15, 9⟩
def Ev.BLN_IGNORED : EvId := ⟨15, 10⟩
def Ev.BLN_CFG_RANGE : EvId := ⟨15, 11⟩
def Ev.TRK_LOCKED : EvId := ⟨16, 0⟩
def Ev.TRK_LOCK_LOST : EvId := ⟨16, 1⟩
def Ev.TRK_TRACK_LOST : EvId := ⟨16, 2⟩
def Ev.TRK_RETREAT_FAULT : EvId := ⟨16, 3⟩
def Ev.TRK_OVERSPEED : EvId := ⟨16, 4⟩
def Ev.TRK_UNSERVED : EvId := ⟨16, 5⟩
def Ev.TRK_DARK_RUN : EvId := ⟨16, 6⟩
def Ev.TRK_FOLLOW_ERR : EvId := ⟨16, 7⟩
def Ev.TRK_X_DEV : EvId := ⟨16, 8⟩
def Ev.TRK_MET_DISAGREE : EvId := ⟨16, 9⟩
def Ev.TRK_MET_SWITCH : EvId := ⟨16, 10⟩
def Ev.TRK_START_LATE : EvId := ⟨16, 11⟩
def Ev.TRK_SNAP_DONE : EvId := ⟨16, 12⟩
def Ev.TRK_CFG_REFUSED : EvId := ⟨16, 13⟩
def Ev.MOT_MOVE_RESULT : EvId := ⟨17, 0⟩
def Ev.MOT_DEC_CLAMP : EvId := ⟨17, 1⟩
def Ev.MOT_TRAVEL : EvId := ⟨17, 2⟩
def Ev.MOT_IGNORED : EvId := ⟨17, 3⟩
def Ev.MOT_CFG_REFUSED : EvId := ⟨17, 4⟩
def Ev.MOT_CAM_SWAP : EvId := ⟨17, 5⟩
def Ev.MOT_CAM_IGNORED : EvId := ⟨17, 6⟩
def Ev.MOT_SNAP_DONE : EvId := ⟨17, 7⟩
def Ev.GOV_START_DONE : EvId := ⟨18, 0⟩
def Ev.GOV_MODEL_SLIP : EvId := ⟨18, 1⟩
def Ev.GOV_CFG_REFUSED : EvId := ⟨18, 2⟩
def Ev.CST_JOINED : EvId := ⟨19, 0⟩
def Ev.CST_JOIN_REFUSED : EvId := ⟨19, 1⟩
def Ev.CST_LINK_DEGRADED : EvId := ⟨19, 2⟩
def Ev.CST_LOSS : EvId := ⟨19, 3⟩
def Ev.CST_ORPHAN : EvId := ⟨19, 4⟩
def Ev.CST_HALT : EvId := ⟨19, 5⟩
def Ev.CST_TIME_SLIP : EvId := ⟨19, 6⟩
def Ev.CST_SNAP_DONE : EvId := ⟨19, 7⟩
def Ev.CST_CFG_REFUSED : EvId := ⟨19, 8⟩
def Ev.LDG_GEN_DONE : EvId := ⟨20, 0⟩
def Ev.LDG_RECORD_HELD : EvId := ⟨20, 1⟩
def Ev.LDG_TOPPED : EvId := ⟨20, 2⟩
def Ev.LDG_LEDGER_LOW : EvId := ⟨20, 3⟩
def Ev.LDG_LEDGER_OVERFLOW : EvId := ⟨20, 4⟩
def Ev.LDG_TOPUP_MISMATCH : EvId := ⟨20, 5⟩
def Ev.LDG_CFG_REFUSED : EvId := ⟨20, 6⟩
def Ev.LDG_IGNORED : EvId := ⟨20, 7⟩

/-- The classes of R40: 0 Notice, 1 Repairable, 2 Stripe-fatal, 3 Device-fatal, 4 Non-maskable. The row of a page
lists (default class, floor) of its events in bit order (R45). -/
def evtTable (page : Nat) : List (Nat × Nat) :=
  match page with
  | 0 => [(0, 0), (0, 0), (0, 0), (0, 0), (1, 0), (0, 0), (0, 0), (0, 0)]
  | 1 => [(4, 4), (4, 4), (4, 4), (0, 0), (0, 0), (0, 0), (0, 0), (0, 0), (0, 0), (0, 0)]
  | 2 => [(0, 0), (0, 0), (0, 0), (0, 0), (0, 0), (0, 0), (0, 0)]
  | 3 => [(0, 0), (0, 0), (0, 0)]
  | 4 => [(0, 0), (0, 0), (2, 2), (0, 0), (0, 0)]
  | 5 => [(0, 0), (0, 0), (0, 0), (0, 0), (0, 0), (0, 0), (3, 3), (0, 0)]
  | 6 => [(0, 0), (0, 0), (3, 3)]
  | 8 => [(0, 0), (0, 0)]
  | 9 => [(0, 0), (0, 0), (0, 0), (0, 0), (0, 0), (2, 2), (2, 1), (2, 2)]
  | 10 => [(0, 0), (0, 0), (1, 1), (1, 1), (0, 0), (0, 0), (0, 0)]
  | 11 => [(0, 0), (0, 0), (0, 0), (2, 2), (0, 0), (0, 0)]
  | 12 => [(0, 0), (1, 1), (2, 0), (2, 1), (0, 0)]
  | 13 => [(1, 1), (1, 1)]
  | 14 => [(0, 0), (0, 0), (1, 0), (2, 2), (2, 0), (0, 0)]
  | 15 => [(1, 1), (0, 0), (0, 0), (1, 0), (2, 1), (0, 0), (0, 0), (2, 2), (2, 2), (0, 0), (0, 0), (0, 0)]
  | 16 => [(0, 0), (0, 0), (2, 2), (2, 2), (0, 0), (1, 1), (2, 2), (2, 0), (2, 0), (2, 0), (2, 0), (2, 2), (0, 0), (0, 0)]
  | 17 => [(0, 0), (0, 0), (2, 2), (0, 0), (0, 0), (0, 0), (0, 0), (0, 0)]
  | 18 => [(0, 0), (0, 0), (0, 0)]
  | 19 => [(0, 0), (0, 0), (0, 0), (0, 0), (2, 2), (2, 2), (2, 0), (0, 0), (0, 0)]
  | 20 => [(0, 0), (0, 0), (0, 0), (2, 2), (3, 3), (2, 2), (0, 0), (0, 0)]
  | _ => []

end Sys2Proof.Machine
end

