-- ==== Sys2Proof/Machine/Geometry.lean ====
section
/-!
DEFINITION. Sys2Proof/Machine/Geometry.lean: the geometry region of a job as the parsers read it: directory, records,
their checks in order, and the bitmap decoder (chapter 03, R78 to R94 and R469). `g o` is the 32-bit word at byte
offset `o` from GEOM_ADDR.
-/

namespace Sys2Proof.Machine

/-- A geometry region: the word at each byte offset from GEOM_ADDR. -/
abbrev Geom := Nat → Nat

/-- A point in geometry units, LSB 1/256 pixel (R16). -/
structure Pt where
  x : Int
  y : Int
  deriving DecidableEq, Repr

/-- A directory entry (R78): OFFSET, LENGTH, COUNT and the reserved word. -/
structure DirEnt where
  off : Nat
  len : Nat
  count : Nat
  zero : Nat
  deriving DecidableEq, Repr

def dirEntry (g : Geom) (b : Nat) : DirEnt := ⟨g (16 * b), g (16 * b + 4), g (16 * b + 8), g (16 * b + 12)⟩

/-- The directory check of R94, code 9. -/
def dirOk (geomSize : Nat) (e : DirEnt) : Bool := e.zero == 0 && 8 * (e.off + e.len) ≤ geomSize

/-- Word `k` of the record at granule `gran`. -/
def recWord (g : Geom) (gran k : Nat) : Nat := g (8 * gran + 4 * k)

/-- A signed word of a record. -/
def recInt (g : Geom) (gran k : Nat) : Int := sext 32 (recWord g gran k)

def recType (g : Geom) (gran : Nat) : Nat := nfld (recWord g gran 0) 28 4
def recDens (g : Geom) (gran : Nat) : Bool := nfld (recWord g gran 0) 27 1 == 1
def recDose (g : Geom) (gran : Nat) : Nat := nfld (recWord g gran 0) 16 8
def recLen (g : Geom) (gran : Nat) : Nat := nfld (recWord g gran 0) 0 16

/-- N of a FAN (R86). -/
def fanN (g : Geom) (gran : Nat) : Nat := nfld (recWord g gran 1) 0 8

/-- The fields of a BITMAP (R87). -/
structure Bitmap where
  deep : Bool
  w : Nat
  h : Nat
  px : Int
  py : Int
  encLen : Nat
  deriving DecidableEq, Repr

def bitmapOf (g : Geom) (gran : Nat) : Bitmap :=
  let w1 := recWord g gran 1
  ⟨nfld w1 24 1 == 1, nfld w1 8 8 + 1, nfld w1 0 8 + 1, recInt g gran 2, recInt g gran 3, recWord g gran 4⟩

/-- A coverage record as the engines see it: layer factor, and its triangles after the transform, or its bitmap with the
granule of its record and the bytes decoded. -/
inductive CovRec where
  | tris (dose : Nat) (verts : List Pt)
  | bits (gran dose : Nat) (b : Bitmap) (raw : List Byte)
  deriving DecidableEq, Repr

/-- Row stride S and raw length R of a bitmap (R88). -/
def Bitmap.stride (b : Bitmap) : Nat := if b.deep then b.w else (b.w + 7) / 8
def Bitmap.raw (b : Bitmap) : Nat := b.h * b.stride

/-- The bound of R91 on ENC_LEN. -/
def Bitmap.bound (b : Bitmap) : Nat := b.raw + (b.raw + 255) / 256

/-- The stored vertices of a RECT, TRAP or FAN in the order of R107. -/
def recVerts (g : Geom) (gran : Nat) : List Pt :=
  let i := recInt g gran
  match recType g gran with
  | 1 => [⟨i 2, i 3⟩, ⟨i 4, i 3⟩, ⟨i 4, i 5⟩, ⟨i 2, i 5⟩]
  | 2 => [⟨i 4, i 2⟩, ⟨i 5, i 2⟩, ⟨i 7, i 3⟩, ⟨i 6, i 3⟩]
  | 3 => (List.range (fanN g gran)).map fun k => ⟨i (2 + 2 * k), i (3 + 2 * k)⟩
  | _ => []

/-- Twice the area of (a, b, c), positive for a positive orientation (R86, R108). -/
def orient (a b c : Pt) : Int := (b.x - a.x) * (c.y - a.y) - (c.x - a.x) * (b.y - a.y)

/-- The triangles (Q0, Qi, Qi+1) of a vertex list (R107). -/
def triangles : List Pt → List (Pt × Pt × Pt)
  | [] => []
  | q :: qs => (qs.zip qs.tail).map fun p => (q, p.1, p.2)

/-- The lowest and highest of a list of integers, 0 for none. -/
def minOf (l : List Int) : Int := l.tail.foldl min (l.headD 0)
def maxOf (l : List Int) : Int := l.tail.foldl max (l.headD 0)

/-- Ymin and the highest Y of a record (R80). -/
def recYmin (g : Geom) (gran : Nat) : Int :=
  if recType g gran = 4 then 256 * (bitmapOf g gran).py else minOf ((recVerts g gran).map Pt.y)

def recYmax (g : Geom) (gran : Nat) : Int :=
  if recType g gran = 4 then 256 * ((bitmapOf g gran).py + (bitmapOf g gran).h) else maxOf ((recVerts g gran).map Pt.y)

/-- The home band of a record (R80). -/
def homeBand (g : Geom) (gran : Nat) : Int := recYmin g gran / 65536

/-- The length that the type, N or ENC_LEN gives (R84 to R87). -/
def lenOfType (g : Geom) (gran : Nat) : Nat :=
  match recType g gran with
  | 1 => 3
  | 2 => 4
  | 3 => 1 + fanN g gran
  | _ => 3 + ((bitmapOf g gran).encLen + 7) / 8

/-- Reserved bits of the words after the header are zero (R469 check 6). -/
def restReservedZero (g : Geom) (gran : Nat) : Bool :=
  let w1 := recWord g gran 1
  match recType g gran with
  | 1 | 2 => w1 == 0
  | 3 => nfld w1 8 24 == 0
  | _ => nfld w1 25 7 == 0 && nfld w1 16 8 == 0 && recWord g gran 5 == 0

/-- Coordinates within R83, bitmaps within R87 (R469 check 7). -/
def inRange (bands : Nat) (g : Geom) (gran : Nat) : Bool :=
  let dens := recDens g gran
  let lines : Int := 256 * bands
  if recType g gran = 4 then
    let b := bitmapOf g gran
    let lo : Int := if dens then -4096 else 0
    let hi : Int := if dens then 12287 else 8191
    decide (lo ≤ b.px) && decide (b.px + b.w - 1 ≤ hi) && decide (0 ≤ b.py) && decide (b.py + b.h ≤ lines)
  else
    let lo : Int := if dens then -1048576 else 0
    let hi : Int := if dens then 3145728 else 2097152
    (recVerts g gran).all fun p =>
      decide (lo ≤ p.x) && decide (p.x ≤ hi) && decide (0 ≤ p.y) && decide (p.y ≤ 256 * lines)

/-- The shape conditions of R84 to R87 (R469 check 8). -/
def shapeOk (g : Geom) (gran : Nat) : Bool :=
  let i := recInt g gran
  match recType g gran with
  | 1 => decide (i 2 < i 4) && decide (i 3 < i 5)
  | 2 =>
    decide (i 2 < i 3) && decide (i 4 ≤ i 5) && decide (i 6 ≤ i 7) && decide (0 < (i 5 - i 4) + (i 7 - i 6))
  | 3 => (triangles (recVerts g gran)).all fun t => decide (0 < orient t.1 t.2.1 t.2.2)
  | _ =>
    let b := bitmapOf g gran
    decide (b.px / 256 = (b.px + b.w - 1) / 256) && decide (b.py / 256 = (b.py + b.h - 1) / 256)

/-- The checks of R469 on the record at `gran` in the list of `band` that ends before granule `fin`: the code of the
first that fails, or 0. -/
def checkRecord (g : Geom) (bands band fin gran : Nat) : Nat :=
  let ty := recType g gran
  let len := recLen g gran
  let least := if ty = 2 ∨ ty = 3 then 4 else 3
  if ty = 0 ∨ 4 < ty then 1
  else if len < least ∨ fin < gran + len then 2
  else if nfld (recWord g gran 0) 24 3 ≠ 0 ∨ recDose g gran = 0 ∨ (ty = 3 ∧ (fanN g gran < 3 ∨ 64 < fanN g gran)) then 3
  else if ty = 4 ∧ (bitmapOf g gran).bound < (bitmapOf g gran).encLen then 10
  else if len ≠ lenOfType g gran then 2
  else if !restReservedZero g gran then 3
  else if !inRange bands g gran then 4
  else if !shapeOk g gran then 5
  else if (homeBand g gran + 4) * 65536 < recYmax g gran then 6
  else if homeBand g gran ≠ band then 7
  else 0

/-- The granules of the records of a list, as their LEN fields lay them out. -/
def listGrans (g : Geom) : Nat → Nat → Nat → List Nat
  | 0, _, _ => []
  | fuel + 1, gran, fin => if fin ≤ gran then [] else gran :: listGrans g fuel (gran + max 1 (recLen g gran)) fin

/-- The granules of the records of band `b`. -/
def bandGrans (g : Geom) (b : Nat) : List Nat :=
  let e := dirEntry g b
  listGrans g e.len e.off (e.off + e.len)

/-! ### The bitmap decoder (R88 to R92) -/

/-- What a decode gives: the raw bytes, or the code of the first fault and the count of bytes put out before it (R92). -/
inductive Decoded where
  | bytes (b : List Byte)
  | fault (code made : Nat)
  deriving DecidableEq, Repr

/-- The bytes that a decode puts out, for which the output buffer needs room (R93). -/
def Decoded.made : Decoded → Nat
  | .bytes b => b.length
  | .fault _ n => n

/-- RUNS pairs filling a segment of which `owed` bytes are left; `last` says that it is the last segment. Answers the
output and the bytes left, or a fault and the count of bytes put out before it. DESIGN CHOICE (log entry 33): where the
data ends after the count byte of a pair whose count overruns, R92 does not say which fault is met first; SHORT is. -/
def decodeRuns (last : Bool) : Nat → Nat → List Byte → List Byte → Except (Nat × Nat) (List Byte × List Byte)
  | 0, _, out, _ => .error (4, out.length)
  | _ + 1, 0, out, rest => .ok (out, rest)
  | fuel + 1, owed, out, n :: v :: rest =>
    let k := n.toNat + 1
    if owed < k then .error (if last then 1 else 2, out.length)
    else decodeRuns last fuel (owed - k) (out ++ List.replicate k v) rest
  | _ + 1, _, out, _ => .error (4, out.length)

/-- Decode tokens until `raw` bytes have been produced (R90, R92). DESIGN CHOICE (log entry 33): a FILL whose data ends
after its count byte is SHORT, also where the count overruns. A literal segment that the data ends in puts out what there
is of it. -/
def decodeTokens (raw : Nat) : Nat → List Byte → List Byte → Decoded
  | 0, out, _ => .fault 4 out.length
  | fuel + 1, out, enc =>
    let done := out.length
    if done = raw then (if enc.isEmpty then .bytes out else .fault 5 done)
    else
      let seg := min 256 (raw - done)
      match enc with
      | [] => .fault 4 done
      | f :: rest =>
        if f = 0 then
          if rest.length < seg then .fault 4 (done + rest.length) else decodeTokens raw fuel (out ++ rest.take seg) (rest.drop seg)
        else if f = 1 then
          match decodeRuns (raw - done ≤ 256) (seg + 1) seg [] rest with
          | .error c => .fault c.1 (done + c.2)
          | .ok r => decodeTokens raw fuel (out ++ r.1) r.2
        else if f = 2 then
          match rest with
          | m :: v :: rest' =>
            let left := (raw - done + 255) / 256
            if left < m.toNat + 1 then .fault 1 done
            else decodeTokens raw fuel (out ++ List.replicate (min (256 * (m.toNat + 1)) (raw - done)) v) rest'
          | _ => .fault 4 done
        else .fault 3 done

/-- The encoded bytes of the bitmap record at `gran`. -/
def encBytes (g : Geom) (gran : Nat) : List Byte :=
  (List.range (bitmapOf g gran).encLen).map fun k =>
    BitVec.ofNat 8 (g (8 * gran + 24 + 4 * (k / 4)) / 256 ^ (k % 4))

/-- Decode a bitmap record. -/
def decodeBitmap (g : Geom) (gran : Nat) : Decoded :=
  let b := bitmapOf g gran
  decodeTokens b.raw (b.raw + 1) [] (encBytes g gran)

/-- Coverage of pixel (`dx`, `dy`) of the bitmap from its raw bytes (R88, R89). -/
def bitmapCoverage (b : Bitmap) (raw : List Byte) (dx dy : Nat) : Nat :=
  if b.deep then
    let v := (raw.getD (dy * b.stride + dx) 0).toNat
    if v = 255 then 256 else v
  else if (raw.getD (dy * b.stride + dx / 8) 0).getLsbD (dx % 8) then 256 else 0

end Sys2Proof.Machine
end

