-- ==== Sys2Proof/Machine/LineGroups.lean ====
section
/-!
DEFINITION. Sys2Proof/Machine/LineGroups.lean: code groups, the 8b/10b code with running disparity, the CRC-32, frames and
messages as runs of code groups, and fill (R192, R194, R196, R199, R203).
-/

namespace Sys2Proof.Machine

/-- What a lane sends in one code group (R192): a data byte, or one of the four control groups. -/
inductive Group where
  | d (b : Byte)
  | com
  | sof
  | tm
  | skp
  deriving DecidableEq, Repr

/-! ### The 8b/10b code of IEEE 802.3 Clause 36 (R192; log entry 38) -/

/-- The sub-block abcdei of D.x at negative running disparity, a in the highest bit. -/
def sixTable : List Nat :=
  [0b100111, 0b011101, 0b101101, 0b110001, 0b110101, 0b101001, 0b011001, 0b111000,
   0b111001, 0b100101, 0b010101, 0b110100, 0b001101, 0b101100, 0b011100, 0b010111,
   0b011011, 0b100011, 0b010011, 0b110010, 0b001011, 0b101010, 0b011010, 0b111010,
   0b110011, 0b100110, 0b010110, 0b110110, 0b001110, 0b101110, 0b011110, 0b101011]

/-- The sub-block fghj of D.x.y at negative running disparity. -/
def fourTable : List Nat := [0b1011, 0b1001, 0b0101, 0b1100, 0b1101, 0b1010, 0b0110, 0b1110]

/-- The number of ones among `n` bits. -/
def ones (n v : Nat) : Nat := ((List.range n).filter fun i => v.testBit i).length

/-- Running disparity (true positive) after a sub-block of `n` bits. -/
def rdAfter (n v : Nat) (rd : Bool) : Bool := if 2 * ones n v = n then rd else decide (n < 2 * ones n v)

/-- A sub-block for the running disparity before it: the complement at positive disparity where it is unbalanced, or where
it is one of the balanced ones that have two forms. -/
def subBlock (n v : Nat) (two : Bool) (rd : Bool) : Nat := if rd && (two || 2 * ones n v ≠ n) then 2 ^ n - 1 - v else v

/-- The code group of a data byte, bit a first, and the running disparity after it. -/
def encodeData (b : Nat) (rd : Bool) : Nat × Bool :=
  let x := b % 32
  let y := b / 32 % 8
  let six := subBlock 6 (sixTable.getD x 0) (x == 7) rd
  let rd1 := rdAfter 6 six rd
  let alt := y == 7 && (if rd1 then x == 11 || x == 13 || x == 14 else x == 17 || x == 18 || x == 20)
  let four := if alt then subBlock 4 0b0111 false rd1 else subBlock 4 (fourTable.getD y 0) (y == 3) rd1
  (16 * six + four, rdAfter 4 four rd1)

/-- The code group of a control group at negative running disparity; at positive disparity it is the complement. -/
def controlCode : Group → Nat
  | .com => 0b0011111010
  | .sof => 0b1101101000
  | .tm => 0b0011110011
  | _ => 0b0011110100

/-- A code group, bit a first, and the running disparity after it. -/
def Group.encode (g : Group) (rd : Bool) : BitVec 10 × Bool :=
  match g with
  | .d b => let r := encodeData b.toNat rd; (BitVec.ofNat 10 r.1, r.2)
  | g =>
    let v := if rd then 1023 - controlCode g else controlCode g
    (BitVec.ofNat 10 v, rdAfter 4 (v % 16) (rdAfter 6 (v / 16) rd))

/-- A run of code groups from a running disparity. -/
def encodeGroups (rd : Bool) : List Group → List (BitVec 10) × Bool
  | [] => ([], rd)
  | g :: gs =>
    let r := g.encode rd
    let rest := encodeGroups r.2 gs
    (r.1 :: rest.1, rest.2)

/-! ### CRC-32, frames, messages, fill -/

/-- One byte step of the CRC-32 of R196. -/
def crc32Byte (crc : BitVec 32) (b : Nat) : BitVec 32 :=
  (List.range 8).foldl (fun c _ => if c.getLsbD 0 then (c >>> 1) ^^^ 0xEDB88320#32 else c >>> 1)
    (crc ^^^ BitVec.ofNat 32 (b % 256))

/-- The CRC-32 of R196. -/
def crc32 (bytes : List Byte) : Nat :=
  ((bytes.foldl (fun c b => crc32Byte c b.toNat) 0xFFFFFFFF#32) ^^^ 0xFFFFFFFF#32).toNat

/-- A received body and the CRC-32 after it agree (R203, R225, R285). -/
def crcGood (body : List Byte) (crc : Word) : Bool := crc32 body == crc.toNat

/-- The unsigned and the signed little-endian field of `n` bytes from byte `o` of a body. -/
def bodyNat (body : List Byte) (o n : Nat) : Nat := leNat ((body.drop o).take n)
def bodyInt (body : List Byte) (o n : Nat) : Int := sext (8 * n) (bodyNat body o n)

/-- A body with its CRC, value bits [7:0] first (R194, R203). -/
def withCrc (body : List Byte) : List Byte := body ++ leBytes 4 (crc32 body)

/-- A frame or message as it is sent (R194, R203): COM, SOF, and its bytes. -/
def framed (bytes : List Byte) : List Group := .com :: .sof :: bytes.map .d

/-! ### Streams of tests and calibrations (R216, R218; log entry 106) -/

/-- What a lane sends in a lane test or a calibration, until something else follows on it: test frames with a counting
payload from the byte `first` on, under a header that the spec leaves open; the raw bits of a PRBS of order `n` with second
tap `m`, from the register contents `seed`; or COM every `every` code groups. -/
inductive Stream where
  | frames (hdr : List Byte) (first : Byte)
  | prbs (n m seed : Nat)
  | coms (every : Nat)
  deriving DecidableEq, Repr

/-- One step of the generator of xⁿ + xᵐ + 1: the feedback bit, which is sent, shifts in. -/
def prbsNext (n m r : Nat) : Bool × Nat :=
  let b := r.testBit (n - 1) != r.testBit (m - 1)
  (b, (2 * r + b2n b) % 2 ^ n)

/-- The first `k` bits of a PRBS. -/
def prbsBits (n m : Nat) : Nat → Nat → List Bool
  | 0, _ => []
  | k + 1, r => (prbsNext n m r).1 :: prbsBits n m k (prbsNext n m r).2

/-- The code groups of a test frame: laid out as a frame, with a payload that counts up by 1 a byte, and its CRC. -/
def testFrame (hdr : List Byte) (first : Byte) : List Group :=
  framed (withCrc (hdr ++ (List.range 384).map fun k => first + BitVec.ofNat 8 k))

/-- The taps of a PRBS pattern code (R218). -/
def prbsTaps (pattern : Nat) : Nat × Nat :=
  match pattern with
  | 1 => (7, 6)
  | 2 => (15, 14)
  | 3 => (23, 18)
  | _ => (31, 28)

/-- Fill of `n` code groups (R199): skip ordered sets, one lone SKP ending a run of odd length. -/
def fillGroups (n : Nat) : List Group :=
  (List.range (n / 2)).flatMap (fun _ => [.com, .skp]) ++ if n % 2 = 1 then [.skp] else []

end Sys2Proof.Machine
end

