-- ==== Sys2Proof/Machine/Regs.lean ====
section
/-!
DEFINITION. Sys2Proof/Machine/Regs.lean: the BAR0 offset of every block register, its reset word and
the mask of its RW bits, as the register table of each block chapter gives them (R29, R64, R98, R123, ...).
-/

namespace Sys2Proof.Machine

def Reg.CTRL_BEHAV : Nat := 0x40
def Reg.CTRL_BEHAV_CAP : Nat := 0x44
def Reg.CTRL_DEVID_LO : Nat := 0x48
def Reg.CTRL_DEVID_HI : Nat := 0x4C
def Reg.CTRL_IDENT0 : Nat := 0x50
def Reg.CTRL_ACC_LAST : Nat := 0x60
def Reg.CTRL_ACC_CNT : Nat := 0x64
def Reg.CTRL_GATED_CNT : Nat := 0x68
def Reg.CTRL_CNT_CLR : Nat := 0x6C
def Reg.CTRL_NV_SEL : Nat := 0x70
def Reg.CTRL_NV_INFO : Nat := 0x74
def Reg.CTRL_NV_COUNT : Nat := 0x78
def Reg.CTRL_LOG_WR : Nat := 0x90
def Reg.CTRL_LOG_SEL : Nat := 0x94
def Reg.CTRL_LOG_E0 : Nat := 0x98
def Reg.CTRL_LOG_E1 : Nat := 0x9C
def Reg.CTRL_LOG_E2 : Nat := 0xA0
def Reg.CTRL_LOG_E3 : Nat := 0xA4
def Reg.TP_CMD : Nat := 0x100
def Reg.TP_COUNT : Nat := 0x104
def Reg.TP_CONF_NONCE : Nat := 0x108
def Reg.TP_CONF_DIGEST : Nat := 0x10C
def Reg.TP_ADDR0 : Nat := 0x110
def Reg.TP_DATA0 : Nat := 0x114
def Reg.TP_SPI_ADDR0 : Nat := 0x190
def Reg.TP_SPI_DATA0 : Nat := 0x194
def Reg.TP_STATUS : Nat := 0x200
def Reg.TP_NONCE : Nat := 0x204
def Reg.TP_TIME_LEFT : Nat := 0x208
def Reg.TP_VIEW_ADDR0 : Nat := 0x210
def Reg.TP_VIEW_DATA0 : Nat := 0x214
def Reg.CTRL_PAM0 : Nat := 0x400
def Reg.CLK_STAT : Nat := 0x1040
def Reg.CLK_CTL : Nat := 0x1044
def Reg.CLK_SWITCH : Nat := 0x1048
def Reg.CLK_CMD : Nat := 0x104C
def Reg.CLK_MON_SYS : Nat := 0x1050
def Reg.CLK_MON_XTAL : Nat := 0x1054
def Reg.CLK_MON_SYSC : Nat := 0x1058
def Reg.CLK_GATE : Nat := 0x105C
def Reg.CLK_RUN_EN : Nat := 0x1060
def Reg.CLK_SLEEP_EN : Nat := 0x1064
def Reg.CLK_DEEP_EN : Nat := 0x1068
def Reg.CLK_PWR : Nat := 0x106C
def Reg.CLK_HOLD : Nat := 0x1070
def Reg.CLK_RESET : Nat := 0x1074
def Reg.CLK_SVC : Nat := 0x1078
def Reg.CLK_TRIPS : Nat := 0x107C
def Reg.CLK_LAST_TRIP : Nat := 0x1080
def Reg.CLK_CNT_CLR : Nat := 0x1084
def Reg.HOST_LINK : Nat := 0x2040
def Reg.HOST_WIN : Nat := 0x2044
def Reg.HOST_ID : Nat := 0x2048
def Reg.HOST_REV : Nat := 0x204C
def Reg.HOST_RESETS : Nat := 0x2050
def Reg.HOST_UR : Nat := 0x2054
def Reg.HOST_POISON_RX : Nat := 0x2058
def Reg.HOST_CPL_TMO : Nat := 0x205C
def Reg.HOST_CNT_CLR : Nat := 0x2060
def Reg.HOST_SUM0 : Nat := 0x2200
def Reg.DMA_FAIR : Nat := 0x3040
def Reg.DMA_STAT : Nat := 0x3044
def Reg.DMA_ERR_INFO : Nat := 0x3048
def Reg.DMA_H2D : Nat := 0x304C
def Reg.DMA_D2H : Nat := 0x3050
def Reg.DMA_D2D : Nat := 0x3054
def Reg.DMA_CNT_CLR : Nat := 0x3058
def Reg.RING_BASE_LO : Nat := 0x3800
def Reg.RING_BASE_HI : Nat := 0x3804
def Reg.RING_CFG : Nat := 0x3808
def Reg.RING_DB : Nat := 0x380C
def Reg.RING_CMD : Nat := 0x3810
def Reg.RING_STAT : Nat := 0x3814
def Reg.RING_EVT : Nat := 0x3818
def Reg.RING_ERR : Nat := 0x381C
def Reg.MEM_STAT : Nat := 0x4040
def Reg.MEM_CE : Nat := 0x4044
def Reg.MEM_UE : Nat := 0x4048
def Reg.MEM_REMAP_CMD : Nat := 0x404C
def Reg.MEM_REMAP_STAT : Nat := 0x4050
def Reg.MEM_REMAP_INFO : Nat := 0x4054
def Reg.MEM_GROUP_SEL : Nat := 0x4058
def Reg.MEM_GROUP_INFO : Nat := 0x405C
def Reg.MEM_LOG_WR : Nat := 0x4060
def Reg.MEM_LOG_SEL : Nat := 0x4064
def Reg.MEM_LOG_E0 : Nat := 0x4068
def Reg.MEM_LOG_E1 : Nat := 0x406C
def Reg.MEM_LOG_E2 : Nat := 0x4070
def Reg.MEM_LB_CFG : Nat := 0x4080
def Reg.DRAM_STAT : Nat := 0x5040
def Reg.DRAM_ZREAD_ADDR : Nat := 0x5044
def Reg.DRAM_CE : Nat := 0x5048
def Reg.DRAM_UE : Nat := 0x504C
def Reg.DRAM_POISONED : Nat := 0x5050
def Reg.DRAM_LB_CFG : Nat := 0x5054
def Reg.DRAM_RET_CMD : Nat := 0x505C
def Reg.DRAM_RET_STAT : Nat := 0x5060
def Reg.DRAM_RET_INFO : Nat := 0x5064
def Reg.DRAM_RET_USED : Nat := 0x5068
def Reg.DRAM_RET_SEL : Nat := 0x506C
def Reg.DRAM_RET_ENTRY : Nat := 0x5070
def Reg.DRAM_CNT_CLR : Nat := 0x5074
def Reg.ARB_CTL : Nat := 0x5078
def Reg.ARB_REQ0 : Nat := 0x5080
def Reg.ARB_REQ1 : Nat := 0x5084
def Reg.ARB_REQ2 : Nat := 0x5088
def Reg.ARB_REQ3 : Nat := 0x508C
def Reg.ARB_REQ4 : Nat := 0x5090
def Reg.ARB_REQ5 : Nat := 0x5094
def Reg.ARB_REQ6 : Nat := 0x5098
def Reg.ARB_REQ7 : Nat := 0x509C
def Reg.ARB_REQ8 : Nat := 0x50A0
def Reg.ARB_REQ9 : Nat := 0x50A4
def Reg.ARB_REQ10 : Nat := 0x50A8
def Reg.ARB_REQ11 : Nat := 0x50AC
def Reg.ARB_REQ12 : Nat := 0x50B0
def Reg.ARB_REQ13 : Nat := 0x50B4
def Reg.ARB_REQ14 : Nat := 0x50B8
def Reg.ARB_REQ15 : Nat := 0x50BC
def Reg.ARB_STAT : Nat := 0x50C0
def Reg.ARB_GRANTS : Nat := 0x5100
def Reg.ARB_FAIR : Nat := 0x5104
def Reg.TEST_CTL : Nat := 0x6040
def Reg.TEST_STAT : Nat := 0x6044
def Reg.TEST_XING_SEL : Nat := 0x6048
def Reg.TEST_XING_CFG : Nat := 0x604C
def Reg.TEST_DRAM_SEL : Nat := 0x6050
def Reg.TEST_DRAM_DLY : Nat := 0x6054
def Reg.TEST_MET_CTL : Nat := 0x6058
def Reg.TEST_MET_STEP : Nat := 0x605C
def Reg.TEST_LANE_CFG : Nat := 0x6060
def Reg.TEST_LANE_CNT : Nat := 0x6064
def Reg.TEST_SIG : Nat := 0x6068
def Reg.TEST_MON : Nat := 0x606C
def Reg.TEST_MEM_CMD : Nat := 0x6070
def Reg.TEST_MEM_ADDR : Nat := 0x6074
def Reg.TEST_MEM_MASK : Nat := 0x6078
def Reg.TEST_MEM_STAT : Nat := 0x607C
def Reg.TEST_INJ : Nat := 0x6080
def Reg.NVU : Nat := 0x7040
def Reg.GEOM_PITCH : Nat := 0x8040
def Reg.GEOM_VMAX : Nat := 0x8044
def Reg.GEOM_CONST : Nat := 0x8048
def Reg.JOB_CMD : Nat := 0x9040
def Reg.JOB_DESC_LO : Nat := 0x9044
def Reg.JOB_DESC_HI : Nat := 0x9048
def Reg.JOB_RESULT : Nat := 0x904C
def Reg.JOB_RESULT_DETAIL : Nat := 0x9050
def Reg.JOB_QUEUE : Nat := 0x9054
def Reg.JOB_STATE0 : Nat := 0x9060
def Reg.JOB_CTX_SEL : Nat := 0x90A0
def Reg.JOB_CTX_TAG : Nat := 0x90A4
def Reg.JOB_CTX_SIZE : Nat := 0x90A8
def Reg.JOB_CTX_DENS : Nat := 0x90AC
def Reg.JOB_CTX_RAST : Nat := 0x90B0
def Reg.JOB_FAULT_INFO : Nat := 0x90B4
def Reg.JOB_FAULT_BAND : Nat := 0x90B8
def Reg.JOB_FAULT_GRAN : Nat := 0x90BC
def Reg.JOB_DEC_SUSPEND : Nat := 0x90C0
def Reg.JOB_DEC_TILES : Nat := 0x90C4
def Reg.JOB_CNT_CLR : Nat := 0x90C8
def Reg.RAST_CTL : Nat := 0xA040
def Reg.RAST_SPLIT : Nat := 0xA044
def Reg.RAST_ENG_EN_LO : Nat := 0xA048
def Reg.RAST_ENG_EN_HI : Nat := 0xA04C
def Reg.RAST_STAT : Nat := 0xA050
def Reg.RAST_BAND : Nat := 0xA054
def Reg.RAST_TILES : Nat := 0xA058
def Reg.RAST_SPLITS : Nat := 0xA05C
def Reg.RAST_LATE : Nat := 0xA060
def Reg.RAST_FLIPS : Nat := 0xA064
def Reg.RAST_SATS : Nat := 0xA068
def Reg.RAST_PEAK_CLK : Nat := 0xA06C
def Reg.RAST_PEAK_TILE : Nat := 0xA070
def Reg.RAST_CNT_CLR : Nat := 0xA074
def Reg.RAST_LATE_TILE : Nat := 0xA078
def Reg.RAST_PROBE_X : Nat := 0xA080
def Reg.RAST_PROBE_Y : Nat := 0xA084
def Reg.RAST_PROBE_CMD : Nat := 0xA088
def Reg.RAST_PROBE_STAT : Nat := 0xA08C
def Reg.RAST_PROBE_XO : Nat := 0xA090
def Reg.RAST_PROBE_YO : Nat := 0xA094
def Reg.RAST_PROBE_D : Nat := 0xA098
def Reg.CORR_CTL : Nat := 0xB040
def Reg.CORR_COST_W : Nat := 0xB044
def Reg.CORR_EXP : Nat := 0xB048
def Reg.CORR_PRI : Nat := 0xB04C
def Reg.CORR_TILES : Nat := 0xB050
def Reg.CORR_CLAMPS : Nat := 0xB054
def Reg.CORR_IDX_SATS : Nat := 0xB058
def Reg.CORR_WAITS : Nat := 0xB05C
def Reg.CORR_CNT_CLR : Nat := 0xB060
def Reg.CORR_PROBE_X : Nat := 0xB064
def Reg.CORR_PROBE_Y : Nat := 0xB068
def Reg.CORR_PROBE_CMD : Nat := 0xB06C
def Reg.CORR_PROBE_STAT : Nat := 0xB070
def Reg.CORR_PROBE_D : Nat := 0xB074
def Reg.CORR_PROBE_G : Nat := 0xB078
def Reg.SIG_CTL : Nat := 0xC040
def Reg.SIG_TILES : Nat := 0xC044
def Reg.SIG_MISMATCH : Nat := 0xC048
def Reg.SIG_REGEN_OK : Nat := 0xC04C
def Reg.SIG_DARK : Nat := 0xC050
def Reg.SIG_CNT_CLR : Nat := 0xC054
def Reg.SIG_LB_CFG : Nat := 0xC058
def Reg.SIG_MIS_INFO : Nat := 0xC060
def Reg.SIG_MIS_CALC_LO : Nat := 0xC064
def Reg.SIG_MIS_CALC_HI : Nat := 0xC068
def Reg.SIG_MIS_EXP_LO : Nat := 0xC06C
def Reg.SIG_MIS_EXP_HI : Nat := 0xC070
def Reg.SIG_CAP_CMD : Nat := 0xC074
def Reg.SIG_CAP_STAT : Nat := 0xC078
def Reg.SIG_CAP_CALC_LO : Nat := 0xC07C
def Reg.SIG_CAP_CALC_HI : Nat := 0xC080
def Reg.SIG_CAP_EXP_LO : Nat := 0xC084
def Reg.SIG_CAP_EXP_HI : Nat := 0xC088
def Reg.PASS_CTL : Nat := 0xD040
def Reg.PASS_WIN : Nat := 0xD044
def Reg.PASS_LATE_LINES : Nat := 0xD048
def Reg.PASS_STORED : Nat := 0xD04C
def Reg.PASS_HEALED : Nat := 0xD050
def Reg.PASS_UNHEALED : Nat := 0xD054
def Reg.PASS_CNT_CLR : Nat := 0xD058
def Reg.PASS_FAULT_INFO : Nat := 0xD05C
def Reg.PASS_FAULT_X : Nat := 0xD060
def Reg.PASS_FAULT_Y : Nat := 0xD064
def Reg.PASS_FLASH : Nat := 0xD068
def Reg.ALM_LOAD_LO : Nat := 0xE040
def Reg.ALM_LOAD_HI : Nat := 0xE044
def Reg.ALM_LOAD_CMD : Nat := 0xE048
def Reg.ALM_LOAD_STAT : Nat := 0xE04C
def Reg.ALM_LOAD_DETAIL : Nat := 0xE050
def Reg.ALM_STAGED_TAG : Nat := 0xE054
def Reg.ALM_ACTIVE_TAG : Nat := 0xE058
def Reg.ALM_DEAD_CNT : Nat := 0xE05C
def Reg.ALM_SUSPECT_CNT : Nat := 0xE060
def Reg.ALM_KILLED_CNT : Nat := 0xE064
def Reg.ALM_HEAL_STAT : Nat := 0xE068
def Reg.ALM_QUERY_SEL : Nat := 0xE06C
def Reg.ALM_QUERY : Nat := 0xE070
def Reg.ALM_KILL_STAT : Nat := 0xE074
def Reg.ALM_SUS_WR : Nat := 0xE078
def Reg.ALM_SUS_SEL : Nat := 0xE07C
def Reg.ALM_SUS_E0 : Nat := 0xE080
def Reg.ALM_SUS_E1 : Nat := 0xE084
def Reg.ALM_SUS_E2 : Nat := 0xE088
def Reg.ALM_KILL0 : Nat := 0xE100
def Reg.BLN_CTL : Nat := 0xF040
def Reg.BLN_AUX : Nat := 0xF044
def Reg.BLN_LANE_SEL : Nat := 0xF048
def Reg.BLN_LANE_STAT : Nat := 0xF04C
def Reg.BLN_LANE_TAP : Nat := 0xF050
def Reg.BLN_LANE_EYE : Nat := 0xF054
def Reg.BLN_LANE_CMD : Nat := 0xF058
def Reg.BLN_LB_CFG : Nat := 0xF05C
def Reg.BLN_REMAP_CMD : Nat := 0xF064
def Reg.BLN_REMAP_STAT : Nat := 0xF068
def Reg.BLN_REMAP_INFO : Nat := 0xF06C
def Reg.BLN_MAP0 : Nat := 0xF070
def Reg.BLN_FAIL0 : Nat := 0xF0C8
def Reg.BLN_CMD_STAT : Nat := 0xF0D4
def Reg.BLN_CAL_CMD : Nat := 0xF0D8
def Reg.BLN_CAL_STAT : Nat := 0xF0DC
def Reg.BLN_CAL_RESID : Nat := 0xF0E0
def Reg.BLN_CAL_EYE : Nat := 0xF0E4
def Reg.BLN_TEST_CTL : Nat := 0xF0E8
def Reg.BLN_TEST_ERR : Nat := 0xF0EC
def Reg.BLN_FRAMES : Nat := 0xF0F0
def Reg.BLN_REJECTS : Nat := 0xF0F4
def Reg.BLN_STAT_LOST : Nat := 0xF0F8
def Reg.BLN_AUX_ERR : Nat := 0xF0FC
def Reg.BLN_CNT_CLR : Nat := 0xF100
def Reg.TRK_CFG : Nat := 0x10040
def Reg.TRK_LAT : Nat := 0x10044
def Reg.TRK_GAIN : Nat := 0x10048
def Reg.TRK_LOCK : Nat := 0x1004C
def Reg.TRK_RETREAT : Nat := 0x10050
def Reg.TRK_FE : Nat := 0x10054
def Reg.TRK_XCHK : Nat := 0x10058
def Reg.TRK_OFS : Nat := 0x1005C
def Reg.TRK_ORIGIN_LO : Nat := 0x10060
def Reg.TRK_ORIGIN_HI : Nat := 0x10064
def Reg.TRK_XREF_LO : Nat := 0x10068
def Reg.TRK_XREF_HI : Nat := 0x1006C
def Reg.TRK_SECOFS_LO : Nat := 0x10070
def Reg.TRK_SECOFS_HI : Nat := 0x10074
def Reg.TRK_CMD : Nat := 0x10078
def Reg.TRK_STAT : Nat := 0x1007C
def Reg.TRK_TRANSIT : Nat := 0x10080
def Reg.TRK_SNAP_STAT : Nat := 0x10084
def Reg.TRK_SNAP_POS_LO : Nat := 0x10088
def Reg.TRK_SNAP_POS_HI : Nat := 0x1008C
def Reg.TRK_SNAP_VEL : Nat := 0x10090
def Reg.TRK_SNAP_PH : Nat := 0x10094
def Reg.TRK_SAMPLES : Nat := 0x10098
def Reg.TRK_MISSING : Nat := 0x1009C
def Reg.TRK_LINK_ERR : Nat := 0x100A0
def Reg.TRK_UNSERVED : Nat := 0x100A4
def Reg.TRK_PEAKS : Nat := 0x100A8
def Reg.TRK_PRED_PEAK : Nat := 0x100AC
def Reg.TRK_WARN : Nat := 0x100B0
def Reg.TRK_CNT_CLR : Nat := 0x100B4
def Reg.MOT_CFG : Nat := 0x11040
def Reg.MOT_CMD : Nat := 0x11044
def Reg.MOT_TGT_LO : Nat := 0x11048
def Reg.MOT_TGT_HI : Nat := 0x1104C
def Reg.MOT_VEL : Nat := 0x11050
def Reg.MOT_ACC : Nat := 0x11054
def Reg.MOT_DEC : Nat := 0x11058
def Reg.MOT_JERK : Nat := 0x1105C
def Reg.MOT_STAT : Nat := 0x11060
def Reg.MOT_PEND_LO : Nat := 0x11064
def Reg.MOT_PEND_HI : Nat := 0x11068
def Reg.MOT_RESULT : Nat := 0x1106C
def Reg.MOT_LAND : Nat := 0x11070
def Reg.MOT_SNAP_STAT : Nat := 0x11074
def Reg.MOT_SNAP_POS_LO : Nat := 0x11078
def Reg.MOT_SNAP_POS_HI : Nat := 0x1107C
def Reg.MOT_SNAP_VEL : Nat := 0x11080
def Reg.MOT_SNAP_ACC : Nat := 0x11084
def Reg.MOT_TRAV_YMIN_LO : Nat := 0x11088
def Reg.MOT_TRAV_YMIN_HI : Nat := 0x1108C
def Reg.MOT_TRAV_YMAX_LO : Nat := 0x11090
def Reg.MOT_TRAV_YMAX_HI : Nat := 0x11094
def Reg.MOT_TRAV_XMIN_LO : Nat := 0x11098
def Reg.MOT_TRAV_XMIN_HI : Nat := 0x1109C
def Reg.MOT_TRAV_XMAX_LO : Nat := 0x110A0
def Reg.MOT_TRAV_XMAX_HI : Nat := 0x110A4
def Reg.MOT_VLIM : Nat := 0x110A8
def Reg.CAM_CTL : Nat := 0x110AC
def Reg.MOT_SP_SENT : Nat := 0x110B0
def Reg.MOT_DF_SENT : Nat := 0x110B4
def Reg.MOT_CNT_CLR : Nat := 0x110B8
def Reg.CAM0_0 : Nat := 0x11400
def Reg.CAM1_0 : Nat := 0x11800
def Reg.GOV_CTL : Nat := 0x12040
def Reg.GOV_MODEL : Nat := 0x12044
def Reg.GOV_CREEP : Nat := 0x12048
def Reg.GOV_STAT : Nat := 0x1204C
def Reg.GOV_BASE : Nat := 0x12050
def Reg.GOV_SEG_SEL : Nat := 0x12054
def Reg.GOV_SEG_OWN : Nat := 0x12058
def Reg.GOV_SEG_MIN : Nat := 0x1205C
def Reg.GOV_BAND_SEL : Nat := 0x12060
def Reg.GOV_BAND_PRED : Nat := 0x12064
def Reg.GOV_BAND_VEL : Nat := 0x12068
def Reg.GOV_FIT : Nat := 0x1206C
def Reg.GOV_SLIPS : Nat := 0x12070
def Reg.GOV_CYCLES : Nat := 0x12074
def Reg.GOV_CNT_CLR : Nat := 0x12078
def Reg.CST_CFG : Nat := 0x13040
def Reg.CST_STAT : Nat := 0x13044
def Reg.CST_MEMBERS : Nat := 0x13048
def Reg.CST_ASYM : Nat := 0x1304C
def Reg.CST_CMD : Nat := 0x13050
def Reg.CST_SNAP_STAT : Nat := 0x13054
def Reg.CST_SNAP_LO : Nat := 0x13058
def Reg.CST_SNAP_HI : Nat := 0x1305C
def Reg.CST_SNAP_OFS : Nat := 0x13060
def Reg.CST_OFS_PEAK : Nat := 0x13064
def Reg.CST_LINK_ERR : Nat := 0x13068
def Reg.CST_STALE : Nat := 0x1306C
def Reg.CST_CNT_CLR : Nat := 0x13070
def Reg.CST_HALT_INFO : Nat := 0x13074
def Reg.CST_LOST_PORT : Nat := 0x13078
def Reg.LDG_BASE_LO : Nat := 0x14040
def Reg.LDG_BASE_HI : Nat := 0x14044
def Reg.LDG_CFG : Nat := 0x14048
def Reg.LDG_HEAD : Nat := 0x1404C
def Reg.LDG_TAIL : Nat := 0x14050
def Reg.LDG_FREE : Nat := 0x14054
def Reg.LDG_CMD : Nat := 0x14058
def Reg.LDG_ARG : Nat := 0x1405C
def Reg.LDG_RESULT : Nat := 0x14060
def Reg.LDG_RESULT_INFO : Nat := 0x14064
def Reg.LDG_RANGE : Nat := 0x14068
def Reg.LDG_CTX_SEL : Nat := 0x1406C
def Reg.LDG_CTX_STAT : Nat := 0x14070
def Reg.LDG_CTX_OPEN : Nat := 0x14074
def Reg.LDG_CTX_HELD : Nat := 0x14078
def Reg.LDG_LOST : Nat := 0x1407C
def Reg.LDG_CNT_CLR : Nat := 0x14080

/-- One row of a register table: offset of its first word, words, bytes from word to word, reset word, RW mask. -/
structure RegRow where
  off : Nat
  count : Nat
  stride : Nat
  reset : Nat
  rw : Nat
  deriving DecidableEq, Repr

/-- The block registers of page 0. -/
def regRows0 : List RegRow :=
  [⟨Reg.CTRL_BEHAV, 1, 4, 0x1, 0x0⟩, ⟨Reg.CTRL_BEHAV_CAP, 1, 4, 0x2, 0x0⟩,
    ⟨Reg.CTRL_DEVID_LO, 1, 4, 0x0, 0x0⟩, ⟨Reg.CTRL_DEVID_HI, 1, 4, 0x0, 0x0⟩,
    ⟨Reg.CTRL_IDENT0, 4, 4, 0x0, 0x0⟩, ⟨Reg.CTRL_ACC_LAST, 1, 4, 0x0, 0x0⟩,
    ⟨Reg.CTRL_ACC_CNT, 1, 4, 0x0, 0x0⟩, ⟨Reg.CTRL_GATED_CNT, 1, 4, 0x0, 0x0⟩,
    ⟨Reg.CTRL_CNT_CLR, 1, 4, 0x0, 0x0⟩, ⟨Reg.CTRL_NV_SEL, 1, 4, 0x0, 0x3FF⟩,
    ⟨Reg.CTRL_NV_INFO, 1, 4, 0x0, 0x0⟩, ⟨Reg.CTRL_NV_COUNT, 1, 4, 0x0, 0x0⟩,
    ⟨Reg.CTRL_LOG_WR, 1, 4, 0x0, 0x0⟩, ⟨Reg.CTRL_LOG_SEL, 1, 4, 0x0, 0xFF⟩,
    ⟨Reg.CTRL_LOG_E0, 1, 4, 0x0, 0x0⟩, ⟨Reg.CTRL_LOG_E1, 1, 4, 0x0, 0x0⟩] ++
  [⟨Reg.CTRL_LOG_E2, 1, 4, 0x0, 0x0⟩, ⟨Reg.CTRL_LOG_E3, 1, 4, 0x0, 0x0⟩,
    ⟨Reg.TP_CMD, 2, 128, 0x0, 0x0⟩, ⟨Reg.TP_COUNT, 2, 128, 0x0, 0xF⟩,
    ⟨Reg.TP_CONF_NONCE, 2, 128, 0x0, 0xFFFFFFFF⟩, ⟨Reg.TP_CONF_DIGEST, 2, 128, 0x0, 0xFFFFFFFF⟩,
    ⟨Reg.TP_ADDR0, 8, 8, 0x0, 0xFFFFFC⟩, ⟨Reg.TP_DATA0, 8, 8, 0x0, 0xFFFFFFFF⟩,
    ⟨Reg.TP_SPI_ADDR0, 8, 8, 0x0, 0xFFFFFC⟩, ⟨Reg.TP_SPI_DATA0, 8, 8, 0x0, 0xFFFFFFFF⟩,
    ⟨Reg.TP_STATUS, 1, 4, 0x0, 0x0⟩, ⟨Reg.TP_NONCE, 1, 4, 0x0, 0x0⟩,
    ⟨Reg.TP_TIME_LEFT, 1, 4, 0x0, 0x0⟩, ⟨Reg.TP_VIEW_ADDR0, 8, 8, 0x0, 0x0⟩,
    ⟨Reg.TP_VIEW_DATA0, 8, 8, 0x0, 0x0⟩, ⟨Reg.CTRL_PAM0, 256, 4, 0xFFFFFFFF, 0x0⟩]

/-- The block registers of page 1. -/
def regRows1 : List RegRow :=
  [⟨Reg.CLK_STAT, 1, 4, 0x100000, 0x0⟩, ⟨Reg.CLK_CTL, 1, 4, 0xC80003, 0xFFFF0003⟩,
    ⟨Reg.CLK_SWITCH, 1, 4, 0xAE3, 0xFFFF⟩, ⟨Reg.CLK_CMD, 1, 4, 0x0, 0x0⟩,
    ⟨Reg.CLK_MON_SYS, 1, 4, 0x0, 0x0⟩, ⟨Reg.CLK_MON_XTAL, 1, 4, 0x0, 0x0⟩,
    ⟨Reg.CLK_MON_SYSC, 1, 4, 0x0, 0x0⟩, ⟨Reg.CLK_GATE, 1, 4, 0x7FFF, 0x7FFF⟩,
    ⟨Reg.CLK_RUN_EN, 1, 4, 0x7FFF, 0x7FFF⟩, ⟨Reg.CLK_SLEEP_EN, 1, 4, 0x2002, 0x7FFF⟩,
    ⟨Reg.CLK_DEEP_EN, 1, 4, 0x0, 0x7FFF⟩, ⟨Reg.CLK_PWR, 1, 4, 0x0, 0x3⟩,
    ⟨Reg.CLK_HOLD, 1, 4, 0x0, 0x0⟩, ⟨Reg.CLK_RESET, 1, 4, 0x0, 0x0⟩,
    ⟨Reg.CLK_SVC, 1, 4, 0x0, 0x0⟩, ⟨Reg.CLK_TRIPS, 1, 4, 0x0, 0x0⟩] ++
  [⟨Reg.CLK_LAST_TRIP, 1, 4, 0x0, 0x0⟩, ⟨Reg.CLK_CNT_CLR, 1, 4, 0x0, 0x0⟩]

/-- The block registers of page 2. -/
def regRows2 : List RegRow :=
  [⟨Reg.HOST_LINK, 1, 4, 0x0, 0x0⟩, ⟨Reg.HOST_WIN, 1, 4, 0x0, 0x1F⟩,
    ⟨Reg.HOST_ID, 1, 4, 0x26200000, 0x0⟩, ⟨Reg.HOST_REV, 1, 4, 0xA1, 0x0⟩,
    ⟨Reg.HOST_RESETS, 1, 4, 0x0, 0x0⟩, ⟨Reg.HOST_UR, 1, 4, 0x0, 0x0⟩,
    ⟨Reg.HOST_POISON_RX, 1, 4, 0x0, 0x0⟩, ⟨Reg.HOST_CPL_TMO, 1, 4, 0x0, 0x0⟩,
    ⟨Reg.HOST_CNT_CLR, 1, 4, 0x0, 0x0⟩, ⟨Reg.HOST_SUM0, 128, 4, 0x0, 0x0⟩]

/-- The block registers of page 3. -/
def regRows3 : List RegRow :=
  [⟨Reg.DMA_FAIR, 1, 4, 0x10, 0x7F⟩, ⟨Reg.DMA_STAT, 1, 4, 0x0, 0x0⟩,
    ⟨Reg.DMA_ERR_INFO, 1, 4, 0x0, 0x0⟩, ⟨Reg.DMA_H2D, 1, 4, 0x0, 0x0⟩,
    ⟨Reg.DMA_D2H, 1, 4, 0x0, 0x0⟩, ⟨Reg.DMA_D2D, 1, 4, 0x0, 0x0⟩,
    ⟨Reg.DMA_CNT_CLR, 1, 4, 0x0, 0x0⟩, ⟨Reg.RING_BASE_LO, 64, 32, 0x0, 0xFFFFF000⟩,
    ⟨Reg.RING_BASE_HI, 64, 32, 0x0, 0xFFFFFFFF⟩, ⟨Reg.RING_CFG, 64, 32, 0x40000, 0x831F070F⟩,
    ⟨Reg.RING_DB, 64, 32, 0x0, 0x0⟩, ⟨Reg.RING_CMD, 64, 32, 0x0, 0x0⟩,
    ⟨Reg.RING_STAT, 64, 32, 0x0, 0x0⟩, ⟨Reg.RING_EVT, 64, 32, 0x0, 0xFFFFFFFF⟩,
    ⟨Reg.RING_ERR, 64, 32, 0x0, 0x0⟩]

/-- The block registers of page 4. -/
def regRows4 : List RegRow :=
  [⟨Reg.MEM_STAT, 1, 4, 0x0, 0x0⟩, ⟨Reg.MEM_CE, 1, 4, 0x0, 0x0⟩,
    ⟨Reg.MEM_UE, 1, 4, 0x0, 0x0⟩, ⟨Reg.MEM_REMAP_CMD, 1, 4, 0x0, 0x0⟩,
    ⟨Reg.MEM_REMAP_STAT, 1, 4, 0x0, 0x0⟩, ⟨Reg.MEM_REMAP_INFO, 1, 4, 0x0, 0x0⟩,
    ⟨Reg.MEM_GROUP_SEL, 1, 4, 0x0, 0x7F⟩, ⟨Reg.MEM_GROUP_INFO, 1, 4, 0x0, 0x0⟩,
    ⟨Reg.MEM_LOG_WR, 1, 4, 0x0, 0x0⟩, ⟨Reg.MEM_LOG_SEL, 1, 4, 0x0, 0xFF⟩,
    ⟨Reg.MEM_LOG_E0, 1, 4, 0x0, 0x0⟩, ⟨Reg.MEM_LOG_E1, 1, 4, 0x0, 0x0⟩,
    ⟨Reg.MEM_LOG_E2, 1, 4, 0x0, 0x0⟩, ⟨Reg.MEM_LB_CFG, 8, 8, 0x1003E8, 0xFFFFFFFF⟩]

/-- The block registers of page 5. -/
def regRows5 : List RegRow :=
  [⟨Reg.DRAM_STAT, 1, 4, 0x0, 0x0⟩, ⟨Reg.DRAM_ZREAD_ADDR, 1, 4, 0x0, 0x0⟩,
    ⟨Reg.DRAM_CE, 1, 4, 0x0, 0x0⟩, ⟨Reg.DRAM_UE, 1, 4, 0x0, 0x0⟩,
    ⟨Reg.DRAM_POISONED, 1, 4, 0x0, 0x0⟩, ⟨Reg.DRAM_LB_CFG, 1, 4, 0x1003E8, 0xFFFFFFFF⟩,
    ⟨Reg.DRAM_RET_CMD, 1, 4, 0x0, 0x0⟩, ⟨Reg.DRAM_RET_STAT, 1, 4, 0x0, 0x0⟩,
    ⟨Reg.DRAM_RET_INFO, 1, 4, 0x0, 0x0⟩, ⟨Reg.DRAM_RET_USED, 1, 4, 0x0, 0x0⟩,
    ⟨Reg.DRAM_RET_SEL, 1, 4, 0x0, 0xFFF⟩, ⟨Reg.DRAM_RET_ENTRY, 1, 4, 0x0, 0x0⟩,
    ⟨Reg.DRAM_CNT_CLR, 1, 4, 0x0, 0x0⟩, ⟨Reg.ARB_CTL, 1, 4, 0x8, 0x7F⟩,
    ⟨Reg.ARB_REQ0, 1, 4, 0x640, 0x7FF⟩, ⟨Reg.ARB_REQ1, 1, 4, 0x740, 0x7FF⟩] ++
  [⟨Reg.ARB_REQ2, 1, 4, 0x640, 0x7FF⟩, ⟨Reg.ARB_REQ3, 1, 4, 0x510, 0x7FF⟩,
    ⟨Reg.ARB_REQ4, 1, 4, 0x440, 0x7FF⟩, ⟨Reg.ARB_REQ5, 1, 4, 0x440, 0x7FF⟩,
    ⟨Reg.ARB_REQ6, 1, 4, 0x510, 0x7FF⟩, ⟨Reg.ARB_REQ7, 1, 4, 0x340, 0x7FF⟩,
    ⟨Reg.ARB_REQ8, 1, 4, 0x240, 0x7FF⟩, ⟨Reg.ARB_REQ9, 1, 4, 0x210, 0x7FF⟩,
    ⟨Reg.ARB_REQ10, 1, 4, 0x510, 0x7FF⟩, ⟨Reg.ARB_REQ11, 1, 4, 0x10, 0x7FF⟩,
    ⟨Reg.ARB_REQ12, 1, 4, 0x0, 0x7FF⟩, ⟨Reg.ARB_REQ13, 1, 4, 0x0, 0x7FF⟩,
    ⟨Reg.ARB_REQ14, 1, 4, 0x0, 0x7FF⟩, ⟨Reg.ARB_REQ15, 1, 4, 0x0, 0x7FF⟩,
    ⟨Reg.ARB_STAT, 16, 4, 0x0, 0x0⟩, ⟨Reg.ARB_GRANTS, 1, 4, 0x0, 0x0⟩] ++
  [⟨Reg.ARB_FAIR, 1, 4, 0x0, 0x0⟩]

/-- The block registers of page 6. -/
def regRows6 : List RegRow :=
  [⟨Reg.TEST_CTL, 1, 4, 0x0, 0x1⟩, ⟨Reg.TEST_STAT, 1, 4, 0x0, 0x0⟩,
    ⟨Reg.TEST_XING_SEL, 1, 4, 0x0, 0x7⟩, ⟨Reg.TEST_XING_CFG, 1, 4, 0x0, 0xFFFFFFFF⟩,
    ⟨Reg.TEST_DRAM_SEL, 1, 4, 0x0, 0xF⟩, ⟨Reg.TEST_DRAM_DLY, 1, 4, 0x0, 0xFFFF⟩,
    ⟨Reg.TEST_MET_CTL, 1, 4, 0x0, 0x7FFFFFF⟩, ⟨Reg.TEST_MET_STEP, 1, 4, 0x0, 0xFFFFFFFF⟩,
    ⟨Reg.TEST_LANE_CFG, 1, 4, 0x201, 0xFFF3FFFF⟩, ⟨Reg.TEST_LANE_CNT, 1, 4, 0x0, 0xFFFF⟩,
    ⟨Reg.TEST_SIG, 1, 4, 0x0, 0x87FFFFFF⟩, ⟨Reg.TEST_MON, 1, 4, 0x0, 0x7⟩,
    ⟨Reg.TEST_MEM_CMD, 1, 4, 0x0, 0x0⟩, ⟨Reg.TEST_MEM_ADDR, 1, 4, 0x0, 0xFFFFFFFF⟩,
    ⟨Reg.TEST_MEM_MASK, 1, 4, 0x0, 0xFFFFFF⟩, ⟨Reg.TEST_MEM_STAT, 1, 4, 0x0, 0x0⟩] ++
  [⟨Reg.TEST_INJ, 1, 4, 0x0, 0x0⟩]

/-- The block registers of page 7. -/
def regRows7 : List RegRow :=
  [⟨Reg.NVU, 690, 4, 0x0, 0x0⟩]

/-- The block registers of page 8. -/
def regRows8 : List RegRow :=
  [⟨Reg.GEOM_PITCH, 1, 4, 0x280, 0x7FF⟩, ⟨Reg.GEOM_VMAX, 1, 4, 0xA00, 0x0⟩,
    ⟨Reg.GEOM_CONST, 1, 4, 0x99200810, 0x0⟩]

/-- The block registers of page 9. -/
def regRows9 : List RegRow :=
  [⟨Reg.JOB_CMD, 1, 4, 0x0, 0x0⟩, ⟨Reg.JOB_DESC_LO, 1, 4, 0x0, 0xFFFFFFC0⟩,
    ⟨Reg.JOB_DESC_HI, 1, 4, 0x0, 0x7⟩, ⟨Reg.JOB_RESULT, 1, 4, 0x0, 0x0⟩,
    ⟨Reg.JOB_RESULT_DETAIL, 1, 4, 0x0, 0x0⟩, ⟨Reg.JOB_QUEUE, 1, 4, 0x0, 0x0⟩,
    ⟨Reg.JOB_STATE0, 16, 4, 0x0, 0x0⟩, ⟨Reg.JOB_CTX_SEL, 1, 4, 0x0, 0x7F⟩,
    ⟨Reg.JOB_CTX_TAG, 1, 4, 0x0, 0x0⟩, ⟨Reg.JOB_CTX_SIZE, 1, 4, 0x0, 0x0⟩,
    ⟨Reg.JOB_CTX_DENS, 1, 4, 0x0, 0x0⟩, ⟨Reg.JOB_CTX_RAST, 1, 4, 0x0, 0x0⟩,
    ⟨Reg.JOB_FAULT_INFO, 1, 4, 0x0, 0x0⟩, ⟨Reg.JOB_FAULT_BAND, 1, 4, 0x0, 0x0⟩,
    ⟨Reg.JOB_FAULT_GRAN, 1, 4, 0x0, 0x0⟩, ⟨Reg.JOB_DEC_SUSPEND, 1, 4, 0x0, 0x0⟩] ++
  [⟨Reg.JOB_DEC_TILES, 1, 4, 0x0, 0x0⟩, ⟨Reg.JOB_CNT_CLR, 1, 4, 0x0, 0x0⟩]

/-- The block registers of page 10. -/
def regRows10 : List RegRow :=
  [⟨Reg.RAST_CTL, 1, 4, 0x1000001, 0x3FF0001⟩, ⟨Reg.RAST_SPLIT, 1, 4, 0x8000, 0xFFFFFF⟩,
    ⟨Reg.RAST_ENG_EN_LO, 1, 4, 0xFFFFFFFF, 0xFFFFFFFF⟩, ⟨Reg.RAST_ENG_EN_HI, 1, 4, 0xFFFF, 0xFFFF⟩,
    ⟨Reg.RAST_STAT, 1, 4, 0x3000, 0x0⟩, ⟨Reg.RAST_BAND, 1, 4, 0x0, 0x0⟩,
    ⟨Reg.RAST_TILES, 1, 4, 0x0, 0x0⟩, ⟨Reg.RAST_SPLITS, 1, 4, 0x0, 0x0⟩,
    ⟨Reg.RAST_LATE, 1, 4, 0x0, 0x0⟩, ⟨Reg.RAST_FLIPS, 1, 4, 0x0, 0x0⟩,
    ⟨Reg.RAST_SATS, 1, 4, 0x0, 0x0⟩, ⟨Reg.RAST_PEAK_CLK, 1, 4, 0x0, 0x0⟩,
    ⟨Reg.RAST_PEAK_TILE, 1, 4, 0x0, 0x0⟩, ⟨Reg.RAST_CNT_CLR, 1, 4, 0x0, 0x0⟩,
    ⟨Reg.RAST_LATE_TILE, 1, 4, 0x0, 0x0⟩, ⟨Reg.RAST_PROBE_X, 1, 4, 0x0, 0xFFFFFFFF⟩] ++
  [⟨Reg.RAST_PROBE_Y, 1, 4, 0x0, 0xFFFFFFFF⟩, ⟨Reg.RAST_PROBE_CMD, 1, 4, 0x0, 0x0⟩,
    ⟨Reg.RAST_PROBE_STAT, 1, 4, 0x0, 0x0⟩, ⟨Reg.RAST_PROBE_XO, 1, 4, 0x0, 0x0⟩,
    ⟨Reg.RAST_PROBE_YO, 1, 4, 0x0, 0x0⟩, ⟨Reg.RAST_PROBE_D, 1, 4, 0x0, 0x0⟩]

/-- The block registers of page 11. -/
def regRows11 : List RegRow :=
  [⟨Reg.CORR_CTL, 1, 4, 0x200, 0x7FF⟩, ⟨Reg.CORR_COST_W, 1, 4, 0x10104, 0xFFFFFF⟩,
    ⟨Reg.CORR_EXP, 1, 4, 0x0, 0x0⟩, ⟨Reg.CORR_PRI, 1, 4, 0x0, 0x0⟩,
    ⟨Reg.CORR_TILES, 1, 4, 0x0, 0x0⟩, ⟨Reg.CORR_CLAMPS, 1, 4, 0x0, 0x0⟩,
    ⟨Reg.CORR_IDX_SATS, 1, 4, 0x0, 0x0⟩, ⟨Reg.CORR_WAITS, 1, 4, 0x0, 0x0⟩,
    ⟨Reg.CORR_CNT_CLR, 1, 4, 0x0, 0x0⟩, ⟨Reg.CORR_PROBE_X, 1, 4, 0x0, 0x1FFF⟩,
    ⟨Reg.CORR_PROBE_Y, 1, 4, 0x0, 0x7FFFFF⟩, ⟨Reg.CORR_PROBE_CMD, 1, 4, 0x0, 0x0⟩,
    ⟨Reg.CORR_PROBE_STAT, 1, 4, 0x0, 0x0⟩, ⟨Reg.CORR_PROBE_D, 1, 4, 0x0, 0x0⟩,
    ⟨Reg.CORR_PROBE_G, 1, 4, 0x0, 0x0⟩]

/-- The block registers of page 12. -/
def regRows12 : List RegRow :=
  [⟨Reg.SIG_CTL, 1, 4, 0x1, 0x1⟩, ⟨Reg.SIG_TILES, 1, 4, 0x0, 0x0⟩,
    ⟨Reg.SIG_MISMATCH, 1, 4, 0x0, 0x0⟩, ⟨Reg.SIG_REGEN_OK, 1, 4, 0x0, 0x0⟩,
    ⟨Reg.SIG_DARK, 1, 4, 0x0, 0x0⟩, ⟨Reg.SIG_CNT_CLR, 1, 4, 0x0, 0x0⟩,
    ⟨Reg.SIG_LB_CFG, 1, 4, 0x100064, 0xFFFFFFFF⟩, ⟨Reg.SIG_MIS_INFO, 1, 4, 0x0, 0x0⟩,
    ⟨Reg.SIG_MIS_CALC_LO, 1, 4, 0x0, 0x0⟩, ⟨Reg.SIG_MIS_CALC_HI, 1, 4, 0x0, 0x0⟩,
    ⟨Reg.SIG_MIS_EXP_LO, 1, 4, 0x0, 0x0⟩, ⟨Reg.SIG_MIS_EXP_HI, 1, 4, 0x0, 0x0⟩,
    ⟨Reg.SIG_CAP_CMD, 1, 4, 0x0, 0x0⟩, ⟨Reg.SIG_CAP_STAT, 1, 4, 0x0, 0x0⟩,
    ⟨Reg.SIG_CAP_CALC_LO, 1, 4, 0x0, 0x0⟩, ⟨Reg.SIG_CAP_CALC_HI, 1, 4, 0x0, 0x0⟩] ++
  [⟨Reg.SIG_CAP_EXP_LO, 1, 4, 0x0, 0x0⟩, ⟨Reg.SIG_CAP_EXP_HI, 1, 4, 0x0, 0x0⟩]

/-- The block registers of page 13. -/
def regRows13 : List RegRow :=
  [⟨Reg.PASS_CTL, 1, 4, 0x8, 0x1F⟩, ⟨Reg.PASS_WIN, 1, 4, 0x0, 0x0⟩,
    ⟨Reg.PASS_LATE_LINES, 1, 4, 0x0, 0x0⟩, ⟨Reg.PASS_STORED, 1, 4, 0x0, 0x0⟩,
    ⟨Reg.PASS_HEALED, 1, 4, 0x0, 0x0⟩, ⟨Reg.PASS_UNHEALED, 1, 4, 0x0, 0x0⟩,
    ⟨Reg.PASS_CNT_CLR, 1, 4, 0x0, 0x0⟩, ⟨Reg.PASS_FAULT_INFO, 1, 4, 0x0, 0x0⟩,
    ⟨Reg.PASS_FAULT_X, 1, 4, 0x0, 0x0⟩, ⟨Reg.PASS_FAULT_Y, 1, 4, 0x0, 0x0⟩,
    ⟨Reg.PASS_FLASH, 1, 4, 0x0, 0x0⟩]

/-- The block registers of page 14. -/
def regRows14 : List RegRow :=
  [⟨Reg.ALM_LOAD_LO, 1, 4, 0x0, 0xFFFFFFC0⟩, ⟨Reg.ALM_LOAD_HI, 1, 4, 0x0, 0x7⟩,
    ⟨Reg.ALM_LOAD_CMD, 1, 4, 0x0, 0x0⟩, ⟨Reg.ALM_LOAD_STAT, 1, 4, 0x0, 0x0⟩,
    ⟨Reg.ALM_LOAD_DETAIL, 1, 4, 0x0, 0x0⟩, ⟨Reg.ALM_STAGED_TAG, 1, 4, 0x0, 0x0⟩,
    ⟨Reg.ALM_ACTIVE_TAG, 1, 4, 0x0, 0x0⟩, ⟨Reg.ALM_DEAD_CNT, 1, 4, 0x0, 0x0⟩,
    ⟨Reg.ALM_SUSPECT_CNT, 1, 4, 0x0, 0x0⟩, ⟨Reg.ALM_KILLED_CNT, 1, 4, 0x0, 0x0⟩,
    ⟨Reg.ALM_HEAL_STAT, 1, 4, 0x0, 0x0⟩, ⟨Reg.ALM_QUERY_SEL, 1, 4, 0x0, 0x3FFFF⟩,
    ⟨Reg.ALM_QUERY, 1, 4, 0x0, 0x0⟩, ⟨Reg.ALM_KILL_STAT, 1, 4, 0x0, 0x0⟩,
    ⟨Reg.ALM_SUS_WR, 1, 4, 0x0, 0x0⟩, ⟨Reg.ALM_SUS_SEL, 1, 4, 0x0, 0x3FF⟩] ++
  [⟨Reg.ALM_SUS_E0, 1, 4, 0x0, 0x0⟩, ⟨Reg.ALM_SUS_E1, 1, 4, 0x0, 0x0⟩,
    ⟨Reg.ALM_SUS_E2, 1, 4, 0x0, 0x0⟩, ⟨Reg.ALM_KILL0, 64, 4, 0x0, 0x0⟩]

/-- The block registers of page 15. -/
def regRows15 : List RegRow :=
  [⟨Reg.BLN_CTL, 1, 4, 0x100101, 0xFF0F03⟩, ⟨Reg.BLN_AUX, 1, 4, 0x86020F, 0xFF070F⟩,
    ⟨Reg.BLN_LANE_SEL, 1, 4, 0x0, 0x7F007F⟩, ⟨Reg.BLN_LANE_STAT, 1, 4, 0x50000000, 0x0⟩,
    ⟨Reg.BLN_LANE_TAP, 1, 4, 0x0, 0x3FF⟩, ⟨Reg.BLN_LANE_EYE, 1, 4, 0x0, 0x0⟩,
    ⟨Reg.BLN_LANE_CMD, 1, 4, 0x0, 0x0⟩, ⟨Reg.BLN_LB_CFG, 1, 4, 0x8000A, 0xFFFFFFFF⟩,
    ⟨Reg.BLN_REMAP_CMD, 1, 4, 0x0, 0x0⟩, ⟨Reg.BLN_REMAP_STAT, 1, 4, 0x0, 0x0⟩,
    ⟨Reg.BLN_REMAP_INFO, 1, 4, 0x0, 0x0⟩, ⟨Reg.BLN_MAP0, 22, 4, 0x0, 0x0⟩,
    ⟨Reg.BLN_FAIL0, 3, 4, 0x0, 0x0⟩, ⟨Reg.BLN_CMD_STAT, 1, 4, 0x0, 0x0⟩,
    ⟨Reg.BLN_CAL_CMD, 1, 4, 0x0, 0x0⟩, ⟨Reg.BLN_CAL_STAT, 1, 4, 0x40000000, 0x0⟩] ++
  [⟨Reg.BLN_CAL_RESID, 1, 4, 0x0, 0x0⟩, ⟨Reg.BLN_CAL_EYE, 1, 4, 0x0, 0x0⟩,
    ⟨Reg.BLN_TEST_CTL, 1, 4, 0x0, 0x7F0703⟩, ⟨Reg.BLN_TEST_ERR, 1, 4, 0x0, 0x0⟩,
    ⟨Reg.BLN_FRAMES, 1, 4, 0x0, 0x0⟩, ⟨Reg.BLN_REJECTS, 1, 4, 0x0, 0x0⟩,
    ⟨Reg.BLN_STAT_LOST, 1, 4, 0x0, 0x0⟩, ⟨Reg.BLN_AUX_ERR, 1, 4, 0x0, 0x0⟩,
    ⟨Reg.BLN_CNT_CLR, 1, 4, 0x0, 0x0⟩]

/-- The block registers of page 16. -/
def regRows16 : List RegRow :=
  [⟨Reg.TRK_CFG, 1, 4, 0x664400, 0xFF7737⟩, ⟨Reg.TRK_LAT, 1, 4, 0xC800C8, 0xFFF0FFF⟩,
    ⟨Reg.TRK_GAIN, 1, 4, 0x4000147B, 0xFFFFFFFF⟩, ⟨Reg.TRK_LOCK, 1, 4, 0x5080010, 0xFFFFFFFF⟩,
    ⟨Reg.TRK_RETREAT, 1, 4, 0x4, 0xFF⟩, ⟨Reg.TRK_FE, 1, 4, 0x19001900, 0xFFFFFFFF⟩,
    ⟨Reg.TRK_XCHK, 1, 4, 0x40, 0xFFFF⟩, ⟨Reg.TRK_OFS, 1, 4, 0x0, 0xFFFF⟩,
    ⟨Reg.TRK_ORIGIN_LO, 1, 4, 0x0, 0xFFFFFFFF⟩, ⟨Reg.TRK_ORIGIN_HI, 1, 4, 0x0, 0xFFFF⟩,
    ⟨Reg.TRK_XREF_LO, 1, 4, 0x0, 0xFFFFFFFF⟩, ⟨Reg.TRK_XREF_HI, 1, 4, 0x0, 0xFFFF⟩,
    ⟨Reg.TRK_SECOFS_LO, 1, 4, 0x0, 0xFFFFFFFF⟩, ⟨Reg.TRK_SECOFS_HI, 1, 4, 0x0, 0xFFFF⟩,
    ⟨Reg.TRK_CMD, 1, 4, 0x0, 0x0⟩, ⟨Reg.TRK_STAT, 1, 4, 0x0, 0x0⟩] ++
  [⟨Reg.TRK_TRANSIT, 1, 4, 0x0, 0x0⟩, ⟨Reg.TRK_SNAP_STAT, 1, 4, 0x0, 0x0⟩,
    ⟨Reg.TRK_SNAP_POS_LO, 1, 4, 0x0, 0x0⟩, ⟨Reg.TRK_SNAP_POS_HI, 1, 4, 0x0, 0x0⟩,
    ⟨Reg.TRK_SNAP_VEL, 1, 4, 0x0, 0x0⟩, ⟨Reg.TRK_SNAP_PH, 1, 4, 0x0, 0x0⟩,
    ⟨Reg.TRK_SAMPLES, 1, 4, 0x0, 0x0⟩, ⟨Reg.TRK_MISSING, 1, 4, 0x0, 0x0⟩,
    ⟨Reg.TRK_LINK_ERR, 1, 4, 0x0, 0x0⟩, ⟨Reg.TRK_UNSERVED, 1, 4, 0x0, 0x0⟩,
    ⟨Reg.TRK_PEAKS, 1, 4, 0x0, 0x0⟩, ⟨Reg.TRK_PRED_PEAK, 1, 4, 0x0, 0x0⟩,
    ⟨Reg.TRK_WARN, 1, 4, 0x0, 0x0⟩, ⟨Reg.TRK_CNT_CLR, 1, 4, 0x0, 0x0⟩]

/-- The block registers of page 17. -/
def regRows17 : List RegRow :=
  [⟨Reg.MOT_CFG, 1, 4, 0x442, 0x3F77⟩, ⟨Reg.MOT_CMD, 1, 4, 0x0, 0x0⟩,
    ⟨Reg.MOT_TGT_LO, 1, 4, 0x0, 0xFFFFFFFF⟩, ⟨Reg.MOT_TGT_HI, 1, 4, 0x0, 0xFFFF⟩,
    ⟨Reg.MOT_VEL, 1, 4, 0x28000, 0x7FFFFF⟩, ⟨Reg.MOT_ACC, 1, 4, 0xA000, 0x3FFFFF⟩,
    ⟨Reg.MOT_DEC, 1, 4, 0xA000, 0x3FFFFF⟩, ⟨Reg.MOT_JERK, 1, 4, 0x200000, 0xFFFFFFFF⟩,
    ⟨Reg.MOT_STAT, 1, 4, 0x0, 0x0⟩, ⟨Reg.MOT_PEND_LO, 1, 4, 0x0, 0x0⟩,
    ⟨Reg.MOT_PEND_HI, 1, 4, 0x0, 0x0⟩, ⟨Reg.MOT_RESULT, 1, 4, 0x0, 0x0⟩,
    ⟨Reg.MOT_LAND, 1, 4, 0x0, 0x0⟩, ⟨Reg.MOT_SNAP_STAT, 1, 4, 0x0, 0x0⟩,
    ⟨Reg.MOT_SNAP_POS_LO, 1, 4, 0x0, 0x0⟩, ⟨Reg.MOT_SNAP_POS_HI, 1, 4, 0x0, 0x0⟩] ++
  [⟨Reg.MOT_SNAP_VEL, 1, 4, 0x0, 0x0⟩, ⟨Reg.MOT_SNAP_ACC, 1, 4, 0x0, 0x0⟩,
    ⟨Reg.MOT_TRAV_YMIN_LO, 1, 4, 0x0, 0x0⟩, ⟨Reg.MOT_TRAV_YMIN_HI, 1, 4, 0x8000, 0x0⟩,
    ⟨Reg.MOT_TRAV_YMAX_LO, 1, 4, 0xFFFFFFFF, 0x0⟩, ⟨Reg.MOT_TRAV_YMAX_HI, 1, 4, 0x7FFF, 0x0⟩,
    ⟨Reg.MOT_TRAV_XMIN_LO, 1, 4, 0x0, 0x0⟩, ⟨Reg.MOT_TRAV_XMIN_HI, 1, 4, 0x8000, 0x0⟩,
    ⟨Reg.MOT_TRAV_XMAX_LO, 1, 4, 0xFFFFFFFF, 0x0⟩, ⟨Reg.MOT_TRAV_XMAX_HI, 1, 4, 0x7FFF, 0x0⟩,
    ⟨Reg.MOT_VLIM, 1, 4, 0x14001400, 0x0⟩, ⟨Reg.CAM_CTL, 1, 4, 0x0, 0x0⟩,
    ⟨Reg.MOT_SP_SENT, 1, 4, 0x0, 0x0⟩, ⟨Reg.MOT_DF_SENT, 1, 4, 0x0, 0x0⟩,
    ⟨Reg.MOT_CNT_CLR, 1, 4, 0x0, 0x0⟩, ⟨Reg.CAM0_0, 256, 4, 0x0, 0xFFFFFFFF⟩] ++
  [⟨Reg.CAM1_0, 256, 4, 0x0, 0xFFFFFFFF⟩]

/-- The block registers of page 18. -/
def regRows18 : List RegRow :=
  [⟨Reg.GOV_CTL, 1, 4, 0x130000, 0x1F0001⟩, ⟨Reg.GOV_MODEL, 1, 4, 0x8040140, 0xFFFFFFFF⟩,
    ⟨Reg.GOV_CREEP, 1, 4, 0x4000, 0x7FFFFF⟩, ⟨Reg.GOV_STAT, 1, 4, 0x7FFFFF, 0x0⟩,
    ⟨Reg.GOV_BASE, 1, 4, 0x0, 0x0⟩, ⟨Reg.GOV_SEG_SEL, 1, 4, 0x0, 0x7F⟩,
    ⟨Reg.GOV_SEG_OWN, 1, 4, 0x7FFFFF, 0x0⟩, ⟨Reg.GOV_SEG_MIN, 1, 4, 0x7FFFFF, 0x0⟩,
    ⟨Reg.GOV_BAND_SEL, 1, 4, 0x0, 0x7FFF⟩, ⟨Reg.GOV_BAND_PRED, 1, 4, 0x0, 0x0⟩,
    ⟨Reg.GOV_BAND_VEL, 1, 4, 0x0, 0x0⟩, ⟨Reg.GOV_FIT, 1, 4, 0x0, 0x0⟩,
    ⟨Reg.GOV_SLIPS, 1, 4, 0x0, 0x0⟩, ⟨Reg.GOV_CYCLES, 1, 4, 0x0, 0x0⟩,
    ⟨Reg.GOV_CNT_CLR, 1, 4, 0x0, 0x0⟩]

/-- The block registers of page 19. -/
def regRows19 : List RegRow :=
  [⟨Reg.CST_CFG, 1, 4, 0x640, 0xF73⟩, ⟨Reg.CST_STAT, 1, 4, 0x0, 0x0⟩,
    ⟨Reg.CST_MEMBERS, 1, 4, 0x1, 0x0⟩, ⟨Reg.CST_ASYM, 1, 4, 0x0, 0xFFFF⟩,
    ⟨Reg.CST_CMD, 1, 4, 0x0, 0x0⟩, ⟨Reg.CST_SNAP_STAT, 1, 4, 0x0, 0x0⟩,
    ⟨Reg.CST_SNAP_LO, 1, 4, 0x0, 0x0⟩, ⟨Reg.CST_SNAP_HI, 1, 4, 0x0, 0x0⟩,
    ⟨Reg.CST_SNAP_OFS, 1, 4, 0x0, 0x0⟩, ⟨Reg.CST_OFS_PEAK, 1, 4, 0x0, 0x0⟩,
    ⟨Reg.CST_LINK_ERR, 1, 4, 0x0, 0x0⟩, ⟨Reg.CST_STALE, 1, 4, 0x0, 0x0⟩,
    ⟨Reg.CST_CNT_CLR, 1, 4, 0x0, 0x0⟩, ⟨Reg.CST_HALT_INFO, 1, 4, 0x0, 0x0⟩,
    ⟨Reg.CST_LOST_PORT, 1, 4, 0x0, 0x0⟩]

/-- The block registers of page 20. -/
def regRows20 : List RegRow :=
  [⟨Reg.LDG_BASE_LO, 1, 4, 0xC0000000, 0xF8000000⟩, ⟨Reg.LDG_BASE_HI, 1, 4, 0x7, 0x7⟩,
    ⟨Reg.LDG_CFG, 1, 4, 0x141000, 0x1FFFFF⟩, ⟨Reg.LDG_HEAD, 1, 4, 0x0, 0x0⟩,
    ⟨Reg.LDG_TAIL, 1, 4, 0x0, 0xFFFFFFFF⟩, ⟨Reg.LDG_FREE, 1, 4, 0x100000, 0x0⟩,
    ⟨Reg.LDG_CMD, 1, 4, 0x0, 0x0⟩, ⟨Reg.LDG_ARG, 1, 4, 0x0, 0xFFFFFFFF⟩,
    ⟨Reg.LDG_RESULT, 1, 4, 0x0, 0x0⟩, ⟨Reg.LDG_RESULT_INFO, 1, 4, 0x0, 0x0⟩,
    ⟨Reg.LDG_RANGE, 1, 4, 0x0, 0x0⟩, ⟨Reg.LDG_CTX_SEL, 1, 4, 0x0, 0x7F⟩,
    ⟨Reg.LDG_CTX_STAT, 1, 4, 0x0, 0x0⟩, ⟨Reg.LDG_CTX_OPEN, 1, 4, 0x0, 0x0⟩,
    ⟨Reg.LDG_CTX_HELD, 1, 4, 0x0, 0x0⟩, ⟨Reg.LDG_LOST, 1, 4, 0x0, 0x0⟩] ++
  [⟨Reg.LDG_CNT_CLR, 1, 4, 0x0, 0x0⟩]

/-- The rows of a page (R423). -/
def regRows (page : Nat) : List RegRow :=
  match page with
  | 0 => regRows0
  | 1 => regRows1
  | 2 => regRows2
  | 3 => regRows3
  | 4 => regRows4
  | 5 => regRows5
  | 6 => regRows6
  | 7 => regRows7
  | 8 => regRows8
  | 9 => regRows9
  | 10 => regRows10
  | 11 => regRows11
  | 12 => regRows12
  | 13 => regRows13
  | 14 => regRows14
  | 15 => regRows15
  | 16 => regRows16
  | 17 => regRows17
  | 18 => regRows18
  | 19 => regRows19
  | 20 => regRows20
  | _ => []

/-- Whether the row holds the word at offset `o`. -/
def RegRow.holds (r : RegRow) (o : Nat) : Bool :=
  r.off ≤ o && (o - r.off) % r.stride == 0 && (o - r.off) / r.stride < r.count

/-- The row of the word at BAR0 offset `o`, if a table lists it. -/
def regRow (o : Nat) : Option RegRow := (regRows (o / 0x1000)).find? fun r => r.holds o

/-- The reset word of the register at `o`: 0 where no table lists one (R8). -/
def regReset (o : Nat) : Word := BitVec.ofNat 32 ((regRow o).elim 0 RegRow.reset)

/-- The bits of the register at `o` that a plain write stores. -/
def regMask (o : Nat) : Word := BitVec.ofNat 32 ((regRow o).elim 0 RegRow.rw)

end Sys2Proof.Machine
end

