-- ==== Sys2Proof/Machine/State.lean ====
section
/-!
DEFINITION. Sys2Proof/Machine/State.lean: the state of the block as plain data, the reasons a step can stop, and the
state after reset. Registers that software writes, counters and captures live in `regs` under their BAR0 offset;
a register that is a function of other state is computed where it is read (Machine/ReadReg.lean).
-/

namespace Sys2Proof.Machine

/-- The header registers of a page that hold state (R33). `cls` lists the classes that differ from their default (R45). -/
structure Hdr where
  irqEn : Bool
  alertEn : Bool
  stat : Word
  en : Word
  sel : Nat
  cls : Store Nat
  lock : Bool
  deriving DecidableEq, Repr

/-- A header after a reset of its page (R426, the page header values of chapter 17). -/
def Hdr.reset : Hdr := ⟨false, false, 0, 0, 0, [], false⟩

/-- An entry of the event log (R47, R64): time in ns, event, class at occurrence, forced, detail, context. -/
structure LogEnt where
  time : Nat
  ev : EvId
  cls : Nat
  forced : Bool
  detail : Nat
  ctx : Option Nat
  deriving DecidableEq, Repr

/-- An occurrence of the present command (R43, R44; log entry 17): its event, its class, the context it names, whether it
was forced, and whether its bit was set already. -/
structure Occ where
  ev : EvId
  cls : Nat
  ctx : Option Nat
  forced : Bool
  was : Bool
  deriving DecidableEq, Repr

/-- By what the model sees that region 5 of SRAM has been written (R352; log entry 132): how far the event, suspect and memory
logs have come, the never-written bitmap and the poison table. -/
structure Seen where
  events : Nat
  suspects : Nat
  memory : Nat
  bitmap : Store Nat
  poison : Store Nat
  deriving DecidableEq, Repr

/-- What the latest commands shared (log entry 1), the model's own: `same` says that the present command falls in the cycle of
the one before it; `incs` lists the rings whose RINGi_EVT that cycle has incremented, `incsNow` those of the present
command (R344); `seen` is what region 5 held when the latest command ended (R354). -/
structure Cycle where
  same : Bool
  incs : List Nat
  incsNow : List Nat
  seen : Seen
  deriving DecidableEq, Repr

/-- A leaky bucket (R47, R48). -/
structure Bucket where
  count : Nat
  peak : Nat
  armed : Bool
  deriving DecidableEq, Repr

/-- The phase of a proposal (R56, R61). -/
inductive TpPhase where
  | none
  | validating
  | pending
  | confirmed
  deriving DecidableEq, Repr

/-- The two-party protocol beside its registers (R56 to R62): phase, proposer, pairs copied, start of the timer on the
control clock, and what the timer showed when it stopped. -/
structure Tp where
  phase : TpPhase
  proposer : Party
  pairs : List (Nat × Word)
  start : Nat
  left : Nat
  deriving DecidableEq, Repr

/-- A BAR2 request that waits for DRAM to leave DEEP (R394): BAR2 offset, DRAM address, and length or bytes. -/
inductive Bar2Req where
  | read (off addr len : Nat)
  | write (addr : Nat) (bytes : List (Option Byte))
  deriving DecidableEq, Repr

/-- What the PCIe function sends (R323 to R347): an MSI-X message, a read or a write of host memory for a ring with its
Relaxed Ordering and No Snoop attributes (R338), a completion with Unsupported Request, and an error message: 0 correctable,
1 non-fatal, 2 fatal. -/
inductive Tlp where
  | msix (vector : Nat) (addr : Nat) (data : Word)
  | hostRead (ring addr len : Nat) (ro ns : Bool)
  | hostWrite (ring addr : Nat) (data : List Byte) (ro ns : Bool)
  | ur
  | err (kind : Nat)
  deriving DecidableEq, Repr

/-- What leaves the ports (log entry 20). `tlp` says whether the packet carries an ECRC (R323). `line` is a run
of code groups on a lane and its 8b/10b code (R192), lane 96 + i being Ai, with the instant of its first group on the lane
grid of F where the spec gives one; `skips` says that the lane sends skip ordered sets only from here on (R199), `wake` that
it leaves DEEP (R220), `stream` that it sends a stream of a test or a calibration from here on (R216, R218), `invert` that
one bit of its next word is inverted (R218). -/
inductive OutMsg where
  | tlp (ecrc : Bool) (t : Tlp)
  | line (lane : Nat) (start : Option Int) (groups : List Group) (code : List (BitVec 10))
  | skips (lane : Nat)
  | wake (lane : Nat)
  | stream (lane : Nat) (what : Stream)
  | invert (lane bit : Nat)
  deriving DecidableEq, Repr

/-- The clocks, modes and resets of chapter 15, beside the stored registers of the CLK page. `safe` and `switching` are
masks of islands: on the safe clock, and in the middle of a switch; `goal` says which of the latter switch to the safe
clock, `stops` which finish as a STOP, `again` which have to turn round after their STOP (R391). `fallback` and `move` are
the steps of a fallback and of a move, `ungated` the blocks kept ungated under R393, `upSrc` the source that step 5 of R399
locks to. -/
structure Clk where
  active : Nat
  rcOk : Bool
  xtalOk : Bool
  sysOk : Bool
  rcStarting : Bool
  coast : Bool
  hold : Bool
  svcOnly : Bool
  ready : Bool
  autoHeld : Bool
  mode : Nat
  held : Nat
  inReset : Bool
  seq : Nat
  step5 : Nat
  safe : Nat
  switching : Nat
  fallback : Nat
  tripSrc : Nat
  tripKind : Nat
  move : Nat
  moveTo : Nat
  ungated : Nat
  goal : Nat
  stops : Nat
  again : Nat
  upSrc : Nat
  deriving DecidableEq, Repr

/-- Supplies, resets and interlock pins (chapter 18). `armed` is the power-on detector of R436, `darkWait` the ns for
which a marker may still show either level after the last edge of DARK_N (R446). -/
structure Pins where
  vin12 : Bool
  armed : Bool
  aux33 : Bool
  perstN : Bool
  darkN : Bool
  darkWait : Nat
  thermHot : Bool
  shutdown : Bool
  deriving DecidableEq, Repr

/-- The PCIe function beside the HOST page (R323 to R333): link, power state, MSI-X state and configuration space; `held` are
requests not issued yet, which wait for Bus Master Enable, for ZEROED (R357) or for the limit of 512 reads (R323). -/
structure Link where
  up : Bool
  speed : Nat
  width : Nat
  d3 : Bool
  msixEn : Bool
  fnMask : Bool
  cfg : Store Word
  msixTab : Store Word
  pba : Store Bool
  held : List Tlp
  deriving DecidableEq, Repr

/-- A read request of a burst: position in the stream, length, bytes received (R337). -/
structure Req where
  pos : Nat
  len : Nat
  got : List Byte
  deriving DecidableEq, Repr

/-- A burst with a host source that is under way: its read requests, and whether one of them has failed (R337, R347). -/
structure Burst where
  pos : Nat
  reqs : List Req
  bad : Bool
  deriving DecidableEq, Repr

/-- A descriptor ring (R334 to R347). `st` is RINGi_STAT.STATE; `fetch` says that a descriptor fetch is outstanding, `reread`
how many re-reads of word 0 are, `late` how many reads that were given up; `moved` counts the bytes of the COPY whose burst
has started. -/
structure Ring where
  st : Nat
  dbPend : Bool
  slot : Nat
  errCode : Nat
  errSlot : Nat
  evt : Nat
  fetch : Bool
  reread : Nat
  late : Nat
  desc : List Nat
  moved : Nat
  bursts : List Burst
  stopReq : Bool
  lastBurst : Nat
  deriving DecidableEq, Repr

/-- A channel: bursts started, and the ring last served at each priority plus 1 (R337). -/
structure Chan where
  count : Nat
  last : Store Nat
  deriving DecidableEq, Repr

/-- An entry of the memory log (R356, R375). -/
structure MemLogEnt where
  time : Nat
  dram : Bool
  kind : Nat
  source : Nat
  detail : Nat
  loc : Nat
  deriving DecidableEq, Repr

/-- The SRAM beside what its words mean to the blocks (R352 to R358): the error pattern of each stored byte, the rows
remapped to spares, the memory log. -/
structure Sram where
  zeroed : Bool
  err : Store Nat
  used : Store Nat
  rowMap : Store Nat
  remap : Option (Nat × Nat)
  log : List MemLogEnt
  logWr : Nat
  deriving DecidableEq, Repr

/-- The in-package DRAM (R360 to R368): bytes as last written, the error pattern over the 72 stored bytes of each line,
poison (0 none, 1 without a table entry, 2 × mask with an entry), the never-written bitmap (0 never written, 1 filled, 2
counted as written; with `allWritten` after SVC_WARM; where a block was never filled only `touched` lines have known
contents, R359, R397), retirement. -/
structure Dram where
  data : List Host.Cell
  err : Store Nat
  pois : Store Nat
  written : Store Nat
  allWritten : Bool
  touched : Store Bool
  ready : Bool
  zread : Bool
  retMap : Store Nat
  retSpare : Store Nat
  retUsed : Nat
  retire : Option Nat
  deriving DecidableEq, Repr

/-- One requester input of the port arbiter (R370 to R374): requesting, the cycle of the control clock in which the request
was raised, grants received, turn estimate, and the priority and burst in force. -/
structure ArbIn where
  req : Bool
  since : Nat
  grants : Nat
  turn : Nat
  prio : Nat
  burst : Nat
  deriving DecidableEq, Repr

/-- The port arbiter: inputs, owner plus 1, grants made, last granted at each priority plus 1. -/
structure Arb where
  ins : Store ArbIn
  owner : Nat
  number : Nat
  last : Store Nat
  clock : Nat
  deriving DecidableEq, Repr

/-- The test block beside its registers (R402 to R417): settings per crossing and input, the steps the PRBS23
generator has made (its values come from Config.prbsSeed), the armed signature force, the memory
operation in progress with the address and mask it took. `sigUsed` says that the armed force has been applied (R415). -/
structure Test where
  xing : Store Word
  dly : Store Nat
  prbs : Nat
  sigArmed : Bool
  sigUsed : Bool
  memOp : Nat
  memAddr : Word
  memMask : Word
  deriving DecidableEq, Repr

/-- The fields of a job descriptor (R68), as copied into the context registers at LOAD. -/
structure Desc where
  level : Nat
  sigEn : Bool
  bands : Nat
  y0 : Nat
  heal : Nat
  onTime : Nat
  jobTag : Nat
  geomAddr : Nat
  geomSize : Nat
  sigAddr : Nat
  deriving DecidableEq, Repr

/-- What a context samples when it enters PRIMING (R73, R121, R140, R159, R185, R222). -/
structure Samp where
  level : Nat
  pitch : Nat
  guard : Nat
  splitEn : Bool
  thresh : Nat
  horizon : Nat
  wPrim : Nat
  wEdge : Nat
  wByte : Nat
  regenEn : Bool
  stagger : Nat
  statTmo : Nat
  deriving DecidableEq, Repr

/-- The density pass and the raster parser of a context: band lists parsed, sums S and cost cells, bands of which IDX_SAT
and DENS_WAIT were raised; the band list, granule and record count of the raster parser, `inside` while it is inside a
list; the bucket of each tile, and the tiles for a regeneration of which the parser takes a band list again, with the next
one (R102, R127, R129, R130, R152). -/
structure Prep where
  parsed : Nat
  dens : Store Nat
  cost : Store Nat
  idxSat : List Nat
  densWait : List Nat
  band : Nat
  inside : Bool
  gran : Nat
  count : Nat
  buckets : Store (List CovRec)
  again : List (Nat × Nat)
  deriving DecidableEq, Repr

/-- What the ledger knows of a context (R306 to R321): OVERFLOW, highest generation, the top-up fields of a top-up, LINK,
placement, start offset, pitch and stagger of the source. Of a top-up: the words of the snapshots of its chain of
generations as the build read them (key 8,192 × g + column), the groups of 16 columns whose line was unusable, and whether
the line of a record was (R310, R367; log entry 129). -/
structure LdgSide where
  overflow : Bool
  genMax : Nat
  topup : Bool
  linkV : Bool
  link : Nat
  gen : Nat
  inGen : Nat
  bLo : Nat
  bHi : Nat
  adopting : Bool
  placed : Bool
  origin : Int
  xref : Int
  y0s : Nat
  pitch : Nat
  stagger : Nat
  snaps : Store (BitVec 32)
  snapBad : List Nat
  blind : Bool
  deriving DecidableEq, Repr

/-- A job context (R66, R70): state, descriptor address, descriptor, the three tables of the table store, samples,
parsers and ledger side. -/
structure Ctx where
  st : Nat
  descAddr : Nat
  d : Desc
  xf : List Byte
  dose : List Byte
  pass : List Byte
  samp : Samp
  prep : Prep
  side : LdgSide
  deriving DecidableEq, Repr

def Prep.reset : Prep := ⟨0, [], [], [], [], 0, false, 0, 0, [], []⟩

def LdgSide.reset : LdgSide := ⟨false, 0, false, false, 0, 0, 0, 0, 0, false, false, 0, 0, 0, 0, 0, [], [], false⟩

/-- A FREE context (R70). -/
def Ctx.reset : Ctx :=
  ⟨0, 0, ⟨0, false, 0, 0, 0, 0, 0, 0, 0, 0⟩, [], [], [], ⟨0, 0, 0, false, 0, 0, 0, 0, 0, false, 0, 0⟩, Prep.reset,
    LdgSide.reset⟩

/-- A piece: a whole tile or a quarter of one (R115). -/
structure Piece where
  tile : Nat
  quarter : Option Nat
  deriving DecidableEq, Repr

/-- An engine: its piece, the cycle of its start (R283), whether the piece is complete and its buffer still held (R117), and
its bitmap decoder: the bytes of the bitmaps decoded, bytes of the next one it had room for so far, stopped on a full
buffer (R92, R93). -/
structure Engine where
  piece : Option Piece
  start : Nat
  held : Bool
  raws : List (List Byte)
  made : Nat
  stopped : Bool
  deriving DecidableEq, Repr

def Engine.reset : Engine := ⟨none, 0, false, [], 0, false⟩

/-- A tile attempt (R108): regeneration, split, pieces not complete, stage (0 rasterizing, 1 coverage complete, 2 dose
formation, 3 comparing), order of completion, DOSE_CLAMP raised for the tile (R137), coverage sums (R112), signature
computed, list entry read at the hand-off (R147), and whether a capture took that hand-off (R158). -/
structure Tile where
  regen : Bool
  split : Bool
  left : Nat
  stage : Nat
  order : Nat
  clamped : Bool
  cov : Store Nat
  sig : Nat
  expect : Nat
  cap : Bool
  deriving DecidableEq, Repr

/-- Rasterizer, dose formation and signature unit (chapters 04 to 06): tile queue, engines, engine enables in force,
attempts, completion counter, armed capture, unusable lines of the signature list (R148). -/
structure Form where
  queue : List Piece
  engines : Store Engine
  engOn : Nat
  tiles : Store Tile
  order : Nat
  cap : Option (Nat × Nat)
  sigDark : List Nat
  deriving DecidableEq, Repr

def Form.reset : Form := ⟨[], [], 2 ^ 48 - 1, [], 0, none, []⟩

/-- The dose window (R162, R164): codes of 256 pixels keyed 32 × line slot + tile column, and the FINAL bits of each band
slot. -/
structure Window where
  codes : Store (Store Nat)
  fin : Store Nat
  deriving DecidableEq, Repr

/-- An entry of the suspect log (R176, R188). -/
structure SusEnt where
  aborted : Bool
  ctx : Nat
  beam : Nat
  fires : Nat
  first : Nat
  deriving DecidableEq, Repr

/-- The almanac (R172 to R176): address of the load in progress, staged and active states (2 bits a beam), bytes of the
staged copy that are uncorrectable with their place in region 4 (group × 2²⁰ + row × 256 + byte), suspect log. -/
structure Alm where
  loading : Option Nat
  staged : Store Nat
  active : Store Nat
  bad : Store Nat
  log : List SusEnt
  logWr : Nat
  deriving DecidableEq, Repr

/-- The EXPOSING stripe: its context, what R241 samples, Ymax (R243), last transit fired, lowest band not retired, bands
admitted and bands enqueued (R163, R116), LATE lines (R165), bands whose HEAL_SHORT records are made, dark-lost count
(R240), the runs of R303 in progress, bands of LINE_LATE and UNSERVED, firings of SUSPECT beams, start hold (R279), whether
a transit has fired in the present motion cycle (R234), the bits prepared for the next frame as (beam, healed), engine clocks
by band (R283), the active almanac at entry (R178). -/
structure Expo where
  ctx : Nat
  armed : Bool
  origin : Int
  xref : Int
  secOfs : Int
  retWin : Nat
  feY : Nat
  feX : Nat
  xchk : Nat
  ofs : Int
  ymax : Int
  fired : Option Nat
  low : Nat
  admitted : Nat
  enqueued : Nat
  late : List Nat
  healed : Nat
  darkRun : Nat
  lateRun : Option (Nat × Nat)
  holdRun : Option (Nat × Nat × Nat)
  lateBands : List Nat
  unservedBands : List Nat
  suspects : Store (Nat × Nat)
  susRaised : Bool
  startHold : Bool
  firedNow : Bool
  bits : List (Nat × Bool)
  wAct : Store Nat
  entryAlm : Store Nat
  deriving DecidableEq, Repr

/-- A fired transit whose marker has not been sent: number, F in 1/64 code group, start of the marker in
code groups, served, frame bits, and whether its stripe is aborting (R193, R200, R237). -/
structure Marker where
  n : Nat
  ctx : Nat
  f : Int
  start : Int
  served : Bool
  abort : Bool
  bits : List (Nat × Bool)
  deriving DecidableEq, Repr

/-- What a record takes from the stripe that makes it (R301): the source whose ledger holds it, GEN, IN_GEN, Y0 and B_LO. -/
structure Maker where
  src : Nat
  gen : Nat
  inGen : Nat
  y0 : Nat
  bLo : Nat
  deriving DecidableEq, Repr

/-- A transit that awaits its status (R209, R210): under a marker with DARK = 0, the lanes whose frame carried a 1 and those
whose frame could not be read (R359); the stripe; and what each auxiliary lane has reported. -/
structure Await where
  n : Nat
  ctx : Nat
  lanes : Nat
  lost : Nat
  maker : Maker
  got : Store Nat
  deriving DecidableEq, Repr

/-- A physical lane (R215, R220, R223): power state 0 ACTIVE, 1 SHALLOW, 2 DEEP, 3 WAKING. -/
structure PLane where
  pwr : Nat
  failed : Bool
  range : Bool
  tap : Nat
  eye : Nat
  resid : Nat
  deriving DecidableEq, Repr

/-- A blanker command that is not acknowledged (R204, R205): sends so far, kill word, and whether it has been sent under
this SEQ. -/
structure BCmd where
  seq : Nat
  op : Nat
  arg : Nat
  sends : Nat
  word : Nat
  deriving DecidableEq, Repr

/-- A failover in progress (R213): logical lane, old and new physical lane, the SEQ of its REMAP once sent, and whether
REMAP_FAIL has been raised for it. -/
structure Failover where
  lane : Nat
  old : Nat
  new : Nat
  seq : Option Nat
  failed : Bool
  deriving DecidableEq, Repr

/-- Beam lanes and the blanker path (chapter 08), beside their registers. `unsent` lists the kills and revives of an
applied proposal that have not been sent: operation, beam, kill word (R180 step 2, R181). `leaving` lists the physical lanes, each with its logical one,
that sends one more marker after its failover (R213), `sent` the end of what the ACTIVE lanes have sent in a stripe (R193),
`rd` the lanes whose running disparity is positive (R192). `calTodo` lists the lanes that a calibration has still to
measure, `calSeq` is the SEQ of the FAR_LOOP that it waits for (R216). `inj` says that a bit of the next word of the test
stream is to be inverted (R218). Of the frame last sent, `unread` is the mask of the lanes that could not be read (R359),
and `blank` says that it carried DARK on every lane (R195). -/
structure Bln where
  phys : Store PLane
  map : Store Nat
  down : Nat
  cmds : List BCmd
  nextSeq : Nat
  ack : Nat
  fo : Option Failover
  foWait : Store (Option Nat)
  cal : Bool
  calTodo : List Nat
  calSeq : Option Nat
  lock : Bool
  inj : Bool
  unsent : List (Nat × Nat × Nat)
  leaving : List (Nat × Nat)
  sent : Option Int
  rd : Store Bool
  unread : Nat
  blank : Bool
  deriving DecidableEq, Repr

/-- A ledger record (R301); `takerGen` is the generation of the top-up that took it, `old` that its context has been released
since. -/
structure Rec where
  id : Nat
  st : Nat
  kind : Nat
  cause : Nat
  ctx : Nat
  gen : Nat
  inGen : Nat
  jobTag : Nat
  time : Nat
  a : Nat
  b : Nat
  y0 : Nat
  lanes : Nat
  srcPage : Nat
  srcEvt : Nat
  srcCmd : Bool
  taker : Option Nat
  takerGen : Nat
  bLo : Nat
  old : Bool
  deriving DecidableEq, Repr

/-- An LDG_CMD in progress (R310, R317): 1 GENERATE, 2 ADOPT, 3 ADOPT whose records have moved; source, target, records fixed,
and the values it will report. -/
structure LdgJob where
  op : Nat
  src : Nat
  target : Nat
  ids : List Nat
  count : Nat
  deriving DecidableEq, Repr

/-- The ledger (chapter 12): records TAIL to HEAD − 1, those that the command under way has made and not yet written (R303),
the top-ups that have left EXPOSING in it and whose records become TOPPED once those are written (R305), HEAD, the command in
progress. -/
structure Ledger where
  recs : List Rec
  fresh : List Rec
  topping : List Nat
  head : Nat
  job : Option LdgJob
  deriving DecidableEq, Repr

/-- One metrology lane (R227, R229, R231): last accepted SEQ, COM of the reference message in 1/64 ns, run of missing
numbers up to that SEQ, messages discarded since, time of the last accepted sample. -/
structure MetLane where
  seq : Option Nat
  ref : Option Nat
  miss : Nat
  disc : Nat
  last : Option Nat
  deriving DecidableEq, Repr

def MetLane.reset : MetLane := ⟨none, none, 0, 0, none⟩

/-- The tracking loop (R230 to R233): state 0 idle, 1 seed, 2 track; `sec` while the loop runs on A5, `secOk` while the
latest secondary sample passed R232, `usePrim` after TRK_CMD.USE_PRIMARY, `out` while the position was outside the travel
limits at the latest check (R261). -/
structure Loop where
  st : Nat
  p : Int
  v : Int
  y1 : Int
  t1 : Int
  cnt : Nat
  locked : Bool
  sec : Bool
  secOk : Bool
  usePrim : Bool
  overspeed : Bool
  out : Bool
  xerr : Int
  a4 : MetLane
  a5 : MetLane
  deriving DecidableEq, Repr

def Loop.reset : Loop := ⟨0, 0, 0, 0, 0, 0, false, false, false, false, false, false, 0, MetLane.reset, MetLane.reset⟩

/-- A motion command that acts at the next tick (R253): MOT_CMD MOVE, STOP with the CAUSE of R292, CLEAR_PEND, SET_POS,
and the profile writes (0 VEL, 1 ACC, 2 DEC, 3 JERK). -/
inductive MotCmd where
  | move (axis : Bool) (tgt : Int)
  | stop (cause : Nat)
  | clearPend
  | setPos (axis : Bool) (tgt : Int)
  | prof (which : Nat) (v : Nat)
  deriving DecidableEq, Repr

/-- The trajectory generator (R250 to R259): state 0 STANDSTILL, 1 ACCEL, 2 CRUISE, 3 STOPPING; axis in motion (true X);
positions and target in 2⁻³² MU; velocity and acceleration, the move's direction; velocity target, whether it is
approached from below, the effective VEL it was taken from; VEL, ACC, DEC, JERK in force; JERK of the move; stop with a
target, hold deceleration; flags; pending target; commands for the next tick; results of the present tick, axis and outcome;
the transit last fired with its F(n) in 1/64 ns and DARK (R267). A6 repeats its last message while `stale`, A7 while
`dfHeld` (R268). -/
structure Gen where
  st : Nat
  axis : Bool
  y : Int
  x : Int
  v : Int
  a : Int
  neg : Bool
  tgt : Int
  vt : Int
  up : Bool
  veff : Int
  vel : Nat
  acc : Nat
  dec : Nat
  jerk : Nat
  mj : Nat
  toTgt : Bool
  h : Int
  held : Bool
  clamped : Bool
  gov : Bool
  pend : Option (Bool × Int)
  cmds : List MotCmd
  done : List (Bool × Nat)
  seq : Nat
  stale : Bool
  dfHeld : Bool
  shot : Option (Nat × Nat × Bool)
  deriving DecidableEq, Repr

/-- A child port (R287, R288): joined, members of its latest report, grants not yet reflected, the oldest first, each with its
node ID and the first plan cycle whose report shows what became of it (log entry 131), latest report, with its
CYCLE in `rep`; whether it has started the report of the present cycle, and the cycles in which it started none. -/
structure Child where
  joined : Bool
  members : Nat
  granted : List (Nat × Nat)
  base : Int
  vals : List Nat
  exp : Bool
  lost : Bool
  rep : Option Nat
  got : Bool
  missed : Nat
  deriving DecidableEq, Repr

def Child.reset : Child := ⟨false, 0, [], 0, [], false, false, none, false, 0⟩

/-- Constellation (R284 to R293), beside its registers. `rx` holds for each port the newest SEQ taken and a mask of those
taken up to it, bit k for the SEQ k below (R285). `locks` is LANE_LOCK; `hold` and `short` are the cycles for which
τ is held and what the next one falls short by, `slew` the pending unit of slew (R289); `asked` says that a JOIN has been
sent and not been answered (R287). -/
structure Cst where
  joined : Bool
  id : Nat
  depth : Nat
  locks : Nat
  refused : Bool
  asked : Bool
  good : Nat
  kids : Store Child
  planMiss : Nat
  gotPlan : Bool
  hold : Nat
  short : Nat
  slew : Int
  t1 : Option Nat
  theta : Int
  setpts : List (Nat × Int × Int)
  rx : Store (Nat × Nat)
  tx : Store Nat
  cycle : Nat
  expAll : Bool
  deriving DecidableEq, Repr

/-- The rate governor (R274 to R283), beside its registers: ceiling, the ceiling that the next tick applies (R281), base of
the latest plan, SEG_LOG2 in force (the one last broadcast, R276), own and reduced values with their bases; of the latest cycle R′ and VB of the costed
bands, and GOV_CREEP.V and GOV_MODEL as that cycle took them (R278); position p >> 32 at the plan step, plan step 3 outstanding. -/
structure Gov where
  ceil : Nat
  next : Option Nat
  base : Int
  segLog2 : Nat
  ownBase : Int
  own : List Nat
  redBase : Int
  red : List Nat
  pred : Store Nat
  vels : Store Nat
  vel0 : Nat
  model : Word
  pos : Int
  waiting : Bool
  deriving DecidableEq, Repr

/-- A result that waits for its completion (snapshots, probes): registers to write, fields of the result register, and the
context that its event names. -/
structure Waiting where
  regs : List (Nat × Word)
  stat : List (Nat × Nat)
  ctx : Option Nat
  deriving DecidableEq, Repr

/-- The whole block. -/
structure State where
  /-- The commands that wait, first in first out (the model's queue). -/
  pending : List Instr
  /-- Occurrences of the present command whose class action is still due (log entry 17). -/
  due : List Occ
  /-- The occurrences of the cycle of the latest command, for an access that falls in it (R43, R46, R61; log entry 1). -/
  recent : List Occ
  /-- What else an access in the cycle of the latest command meets (R344; log entry 1). -/
  cyc : Cycle
  /-- Nominal ns of the active control clock since the control island left reset (R56; log entry 2). -/
  ctl : Nat
  /-- What left the ports, newest first (log entry 20). -/
  out : List OutMsg
  /-- The model's own counter for free values (log entry 7). -/
  draws : Nat
  /-- Device time, 64 bits, LSB 1/64 ns (R272). -/
  tau : Nat
  regs : Store Word
  hdrs : Store Hdr
  evlog : List LogEnt
  logWr : Nat
  buckets : Store Bucket
  nv : Store Word
  nvCount : Store Nat
  nvSlot : Store Bool
  tp : Tp
  /-- What the last read returned to each reader (log entry 5). -/
  cplData : Word
  spiData : Word
  cfgData : Word
  bar2Data : List (Option Byte)
  /-- BAR2 requests that arrived in DEEP, oldest first (R394). -/
  bar2Wait : List Bar2Req
  bar4Data : List Word
  clk : Clk
  pins : Pins
  link : Link
  rings : Store Ring
  chans : Store Chan
  burstNo : Nat
  sram : Sram
  dram : Dram
  arb : Arb
  test : Test
  /-- The TAP (R418, R419): instruction register, boundary register, and what the last data scan shifted out at TDO. -/
  tap : Byte
  bsr : List Bool
  tdo : List Bool
  ctxs : Store Ctx
  /-- The start queue, head first (R71). -/
  startQ : List Nat
  /-- JOB_QUEUE.HELD (R76). -/
  heldQ : Bool
  form : Form
  win : Window
  alm : Alm
  expo : Option Expo
  markers : List Marker
  awaits : List Await
  /-- Start of the previous marker on the lane grid in code groups, and F of the last served transit (R237). -/
  lastS : Option Int
  lastF : Option Int
  /-- Predicted crossings that TRK_PRED_PEAK waits for: instant in τ, boundary. -/
  crossings : List (Nat × Int)
  bln : Bln
  ledger : Ledger
  loop : Loop
  gen : Gen
  /-- The last messages of A6 and A7, repeated during a calibration (R268). -/
  lastSp : List Byte
  lastDf : List Byte
  gov : Gov
  cst : Cst
  /-- Results that wait for completion, by the offset of their result register (R41). -/
  results : Store Waiting
  deriving DecidableEq, Repr

/-- Why the block stops: never. `illFormed` is raised by no command (a command whose operands nothing can deliver does
nothing, log entry 100); safe. -/
inductive Fault where
  | illFormed
  deriving DecidableEq, Repr

/-- Why a command has no meaning. `notModelled`: would be raised by an arm of exec that has no meaning yet; none is left.
Safe. -/
inductive Refusal where
  | notModelled (mnemonic : String)
  deriving DecidableEq, Repr


/-- SRAM after zeroing, or a reset of the memory island: no error, no remap (R357). -/
def Sram.reset : Sram := ⟨false, [], [], [], none, [], 0⟩

/-- DRAM after a reset that loses its contents (R366, R399). -/
def Dram.reset : Dram := ⟨[], [], [], [], false, [], false, false, [], [], 0, none⟩

def Arb.reset : Arb := ⟨[], 0, 0, [], 0⟩

/-- The clocks right after POWER_ON: the service island runs, islands 0 to 7 are in reset, RC is being started (R399). -/
def Clk.reset : Clk :=
  ⟨0, false, false, false, true, false, false, false, false, false, 1, 1, true, 0, 0, 255, 0, 0, 0, 0, 0, 0, 0, 0, 0, 0, 0⟩

/-- The pins right after POWER_ON: 12 V present, no auxiliary supply, PERST_N high, DARK_N low (log entries 4, 5). -/
def Pins.reset : Pins := ⟨true, false, false, true, false, 0, false, false⟩

def Tp.reset : Tp := ⟨.none, .pcie, [], 0, 0⟩

def Link.reset : Link := ⟨false, 0, 0, false, false, false, [], [], [], []⟩

/-- Beam lanes after a reset (R190, R205): identity mapping, nothing awaiting acknowledgement. -/
def Bln.reset : Bln := ⟨[], [], 0, [], 0, 0, none, [], false, [], none, false, false, [], [], none, [], 0, false⟩

/-- The almanac after a reset: every beam LIVE, tag 0 (R173). -/
def Alm.reset : Alm := ⟨none, [], [], [], [], 0⟩

/-- The generator at standstill at position 0, with the reset profile (R250, R270). -/
def Gen.reset : Gen :=
  ⟨0, false, 0, 0, 0, 0, false, 0, 0, true, 0, 163840, 40960, 40960, 2097152, 0, false, 0, false, false, false, none, [],
    [], 0, false, false, none⟩

def Gov.reset : Gov := ⟨0x7FFFFF, none, 0, 19, 0, [], 0, [], [], [], 16384, 0x8040140, 0, false⟩

/-- Constellation of a device that is ALONE: JOINED (R296). -/
def Cst.reset : Cst :=
  ⟨true, 0, 0, 0, false, false, 0, [], 0, false, 0, 0, 0, none, 0, [], [], [], 0, false⟩

/-- The block right after POWER_ON (log entry 4): islands 0 to 7 in reset, the persistent words at their manufacture
values, memory with nothing listed. -/
def State.reset : State where
  pending := []
  due := []
  recent := []
  cyc := ⟨false, [], [], ⟨0, 0, 0, [], []⟩⟩
  ctl := 0
  out := []
  draws := 0
  tau := 0
  regs := []
  hdrs := []
  evlog := []
  logWr := 0
  buckets := []
  nv := []
  nvCount := []
  nvSlot := []
  tp := Tp.reset
  cplData := 0
  spiData := 0
  cfgData := 0
  bar2Data := []
  bar2Wait := []
  bar4Data := []
  clk := Clk.reset
  pins := Pins.reset
  link := Link.reset
  rings := []
  chans := []
  burstNo := 0
  sram := Sram.reset
  dram := Dram.reset
  arb := Arb.reset
  test := ⟨[], [], 0, false, false, 0, 0, 0⟩
  tap := 1
  bsr := List.replicate 171 false
  tdo := []
  ctxs := []
  startQ := []
  heldQ := false
  form := Form.reset
  win := ⟨[], []⟩
  alm := Alm.reset
  expo := none
  markers := []
  awaits := []
  lastS := none
  lastF := none
  crossings := []
  bln := Bln.reset
  ledger := ⟨[], [], [], 0, none⟩
  loop := Loop.reset
  gen := Gen.reset
  lastSp := []
  lastDf := []
  gov := Gov.reset
  cst := Cst.reset
  results := []

end Sys2Proof.Machine
end

