-- ==== Sys2Proof/Machine/ConfigSpace.lean ====
section
/-!
DEFINITION. Sys2Proof/Machine/ConfigSpace.lean: the configuration space of the PCIe function: the Type 0 header, the capabilities
that R323 lists, and error reporting through AER (R323 to R326). PRESUMED (log entry 13): R323 leaves the layout to the PCI
Express Base Specification, and where the capabilities stand to the device; the model takes the base specification's
registers with its usual places.
-/

namespace Sys2Proof.Machine

/-! ### Double words with a name -/

/-- Command and status. -/
def Cfg.command : Nat := 1
/-- Power management control and status. -/
def Cfg.pmcsr : Nat := 17
/-- MSI-X capability with the message control. -/
def Cfg.msix : Nat := 20
/-- Device control 2 and status 2. -/
def Cfg.devCtl2 : Nat := 38
/-- Device control and status. -/
def Cfg.devCtl : Nat := 30
/-- Link control and status. -/
def Cfg.linkCtl : Nat := 32
/-- AER uncorrectable status, mask and severity; correctable status and mask; capabilities and control; header log. -/
def Cfg.aerStatus : Nat := 65
def Cfg.aerMask : Nat := 66
def Cfg.aerSeverity : Nat := 67
def Cfg.aerCorStatus : Nat := 68
def Cfg.aerCorMask : Nat := 69
def Cfg.aerControl : Nat := 70
def Cfg.aerLog : Nat := 71
/-- Device Serial Number, lower DW. -/
def Cfg.serial : Nat := 83

/-- The header of an extended capability: identity, version, offset of the next one. -/
def extCap (id version next : Nat) : Word := pack [(20, next), (16, version), (0, id)]

/-- The bits of a double word that the spec leaves to the base specification and the device: latencies, port number, and
the contents of the equalization, feature and margining capabilities. -/
def cfgOpen (dw : Nat) : Word :=
  match dw with
  | 13 => 0
  | 29 => 0x00000FC0
  | 30 => 0x00000100
  | 31 => 0xFF3F7000
  | 39 => 0xFFFFFF01
  | 40 => 0xFFFFFFF0
  | _ => if (86 < dw ∧ dw < 98) ∨ (98 < dw ∧ dw < 102) ∨ (102 < dw ∧ dw < 114) ∨ (114 < dw ∧ dw < 132) ∨ (132 < dw ∧ dw < 144)
      then 0xFFFFFFFF else 0

/-- What R323 to R326 and the base specification fix of a double word at reset. -/
def cfgFixed (dw : Nat) : Word :=
  match dw with
  | 0 => pack [(16, 0x2620), (0, Config.vendorId.toNat)]
  | 1 => 0x00100000
  | 2 => 0x120000A1
  | 4 => 0x00000004
  | 6 => 0x0000000C
  | 8 => 0x00000004
  | 11 => pack [(16, 1), (0, Config.vendorId.toNat)]
  | 13 => 0x00000040
  | 16 => 0x00035001
  | 17 => 0x00000008
  | 20 => 0x007F7011
  | 21 => 0x00000004
  | 22 => 0x00002004
  | 28 => 0x00020010
  | 29 => 0x10008022
  | 30 => 0x00002810
  | 31 => 0x00000905
  | 37 => 0x0003001F
  | 39 => 0x0000003E
  | 40 => 0x00000005
  | 64 => extCap 0x0001 2 0x148
  | 66 => 0x00400000
  | 67 => 0x00462030
  | 69 => 0x0000E000
  | 70 => 0x000000A0
  | 82 => extCap 0x0003 1 0x158
  | 83 => Config.devIdLo
  | 84 => Config.devIdHi
  | 86 => extCap 0x0019 1 0x188
  | 98 => extCap 0x0025 1 0x198
  | 102 => extCap 0x0026 1 0x1C8
  | 114 => extCap 0x0027 1 0x210
  | 132 => extCap 0x002A 1 0
  | _ => 0

/-- A double word of configuration space at reset. -/
def cfgReset (dw : Nat) : Word := cfgFixed dw ||| (Config.cfgReset dw &&& cfgOpen dw)

/-- The bits of a double word that a write changes. -/
def cfgMask (dw : Nat) : Word :=
  match dw with
  | 1 => 0x00000146
  | 3 => 0x000000FF
  | 4 => 0xFF000000
  | 5 => 0xFFFFFFFF
  | 7 => 0xFFFFFFFF
  | 8 => 0xFFFFC000
  | 9 => 0xFFFFFFFF
  | 15 => 0x000000FF
  | 20 => 0xC0000000
  | 30 => 0x000079FF
  | 32 => 0x000000CB
  | 38 => 0x0000101F
  | 40 => 0x0000000F ||| (Config.cfgMask dw &&& 0x0000FFF0)
  | 66 => 0x007FF030
  | 67 => 0x007FF030
  | 69 => 0x0000F1C1
  | 70 => 0x00000140
  | _ => Config.cfgMask dw &&& (if 86 ≤ dw then cfgOpen dw else 0)

/-- The bits of a double word that a write of 1 clears. -/
def cfgW1c (dw : Nat) : Word :=
  match dw with
  | 1 => 0xF9000000
  | 30 => 0x000F0000
  | 65 => 0x007FF030
  | 68 => 0x0000F1C1
  | _ => 0

/-- A stored double word of configuration space. -/
def State.cfg (s : State) (dw : Nat) : Word := sget (cfgReset dw) s.link.cfg dw

/-- Store a double word. -/
def State.setCfg (s : State) (dw : Nat) (v : Word) : State :=
  { s with link := { s.link with cfg := sput (cfgReset dw) s.link.cfg dw v } }

/-- The function takes memory requests: Memory Space Enable is 1 and it is in D0 (R323, R324). -/
def State.memOn (s : State) : Bool := wbit (s.cfg Cfg.command) 1 && !s.link.d3

/-- Bus Master Enable: the function may issue memory requests. -/
def State.busMaster (s : State) : Bool := wbit (s.cfg Cfg.command) 2

/-- The instructions under which the pins follow the boundary register (R420). -/
def jtagDrives (op : Byte) : Bool := op == 0 || op == 3 || op == 4 || op == 5 || op == 6

/-- Leave at the pins, which follow the boundary register instead while a driving instruction is loaded (R420). -/
def State.leaves (s : State) (o : OutMsg) : State := if jtagDrives s.tap then s else { s with out := o :: s.out }

/-- The completion of a read of the host reaches it, which it does not while the PCIe lanes follow the boundary register
(R420). -/
def State.completes (s : State) (f : State → State) : State := if jtagDrives s.tap then s else f s

/-- The place of SDO in the boundary register (log entry 53). -/
def sdoCell : Nat := 3

/-- The word that an SPI read brings: `w`, or the level of the cell of SDO while that follows the boundary register, and a free
word while nothing drives it (R420; log entry 136). -/
def State.sdoBrings (s : State) (w : Word) : State :=
  if s.tap = 6 then { s with spiData := Config.freeWord s.draws, draws := s.draws + 1 }
  else if jtagDrives s.tap then { s with spiData := if s.bsr.getD sdoCell false then 0xFFFFFFFF else 0 }
  else { s with spiData := w }

/-- A capability register bit. -/
def State.cfgBit (s : State) (dw b : Nat) : Bool := wbit (s.cfg dw) b

/-- A packet leaves, with an ECRC where its generation is enabled (R323). -/
def State.sendTlp (s : State) (t : Tlp) : State := s.leaves (.tlp (s.cfgBit Cfg.aerControl 6) t)

/-- The reads of a ring that are outstanding for its descriptor. -/
def Ring.open (r : Ring) : Nat :=
  b2n r.fetch + r.reread + (r.bursts.map fun b => (b.reqs.filter fun q => decide (q.got.length < q.len)).length).sum

/-- The reads of all rings that are outstanding. -/
def State.readsOpen (s : State) : Nat := (s.rings.map fun p => p.2.late + p.2.open).sum

/-- A read of host memory. -/
def Tlp.isRead : Tlp → Bool
  | .hostRead _ _ _ _ _ => true
  | _ => false

/-- A write of host memory for ring `i`. -/
def Tlp.writesFor (i : Nat) : Tlp → Bool
  | .hostWrite j _ _ _ _ => j == i
  | _ => false

/-- How many reads may be outstanding: 512 with 10-bit tags, 256 with 8-bit and 32 with 5-bit tags, as 10-Bit Tag Requester
Enable and Extended Tag Field Enable give them (R323; base specification, log entry 13). -/
def State.maxReads (s : State) : Nat :=
  if s.cfgBit Cfg.devCtl2 12 then 512 else if s.cfgBit Cfg.devCtl 8 then 256 else 32

/-- A memory request that stands in no queue may be issued: Bus Master Enable is 1, and for a read SRAM is zeroed (R357) and
its tag is one of those that may be outstanding (R323). -/
def State.mayIssue (s : State) (t : Tlp) : Bool :=
  s.busMaster && (!t.isRead || s.sram.zeroed && decide (s.readsOpen ≤ s.maxReads + (s.link.held.filter Tlp.isRead).length))

/-- Issue a memory request, or let it wait behind those that wait (log entry 50). -/
def State.emit (s : State) (t : Tlp) : State :=
  if s.link.held.isEmpty && s.mayIssue t then s.sendTlp t
  else { s with link := { s.link with held := s.link.held ++ [t] } }

/-- Max_Payload_Size and Max_Read_Request_Size in force, in bytes (R323, R337). -/
def State.maxPayload (s : State) : Nat := 128 * 2 ^ min 2 (fld (s.cfg Cfg.devCtl) 5 3)
def State.maxRead (s : State) : Nat := 128 * 2 ^ min 5 (fld (s.cfg Cfg.devCtl) 12 3)

/-- Cut `len` bytes into pieces of at most `most`: offset and length of each (R337). -/
def pieces (most len : Nat) : List (Nat × Nat) :=
  (List.range ((len + most - 1) / most)).map fun k => (k * most, min most (len - k * most))

/-! ### AER (R323, R324) -/

/-- ECRC Check Enable: the digest of a received packet is checked (R323). -/
def State.checksEcrc (s : State) : Bool := s.cfgBit Cfg.aerControl 8

/-- The first error pointer names an error that is still logged. -/
def State.aerBusy (s : State) : Bool := s.cfgBit Cfg.aerStatus (fld (s.cfg Cfg.aerControl) 0 5)

/-- Send an error message, if its reporting is enabled: 0 correctable, 1 non-fatal, 2 fatal. -/
def State.errMsg (s : State) (kind : Nat) : State :=
  if s.cfgBit Cfg.devCtl kind || (kind ≠ 0 && s.cfgBit Cfg.command 8) then s.sendTlp (.err kind) else s

/-- Report the uncorrectable error `b` through AER with the header of the request: status, and unless it is masked the header
log of the first error and a message. Whether a non-fatal error is reported as an advisory one is the device's choice. -/
def State.aerReport (s : State) (b : Nat) (hdr : List Word) : State :=
  let fatal := s.cfgBit Cfg.aerSeverity b
  let advisory := !fatal && Config.aerAdvisory b
  let kind := if fatal then 2 else if advisory then 0 else 1
  let first := !s.aerBusy
  let masked := s.cfgBit Cfg.aerMask b || (advisory && s.cfgBit Cfg.aerCorMask 13)
  let s1 := s.setCfg Cfg.aerStatus (setBit (s.cfg Cfg.aerStatus) b true)
  let s2 := if advisory then s1.setCfg Cfg.aerCorStatus (setBit (s1.cfg Cfg.aerCorStatus) 13 true) else s1
  let s3 := s2.setCfg Cfg.devCtl (setBit (s2.cfg Cfg.devCtl) (16 + kind) true)
  if masked then s3
  else
    let s4 := if first then
        (List.range 4).foldl (fun (a : State) i => a.setCfg (Cfg.aerLog + i) (hdr.getD i 0))
          (s3.setCfg Cfg.aerControl (setFld (s3.cfg Cfg.aerControl) 0 5 b))
      else s3
    s4.errMsg kind

end Sys2Proof.Machine
end

