-- ==== Sys2Proof/Machine/Ops.lean ====
section
/-!
DEFINITION. Sys2Proof/Machine/Ops.lean: the named operations over registers, headers, events, persistent words, leaky
buckets and result registers that every block shares (chapters 02 and 17).
-/

namespace Sys2Proof.Machine

/-! ### Stored registers -/

/-- The stored register at a BAR0 offset. -/
def State.reg (s : State) (off : Nat) : Word := sget (regReset off) s.regs off

/-- Store a register. -/
def State.setReg (s : State) (off : Nat) (v : Word) : State :=
  { s with regs := sput (regReset off) s.regs off v }

/-- A field of a stored register. -/
def State.rf (s : State) (off lo n : Nat) : Nat := fld (s.reg off) lo n

/-- Replace a field of a stored register. -/
def State.setRf (s : State) (off lo n v : Nat) : State := s.setReg off (setFld (s.reg off) lo n v)

/-- Add to a saturating 32-bit counter. -/
def State.addCnt (s : State) (off n : Nat) : State := s.setReg off (w32 (satAdd 32 (s.reg off).toNat n))

/-- Add 1 to a saturating 32-bit counter. -/
def State.bump (s : State) (off : Nat) : State := s.addCnt off 1

/-- A request is answered with Unsupported Request, `posted` ones without a completion: counted and reported (R324). -/
def State.hostUr (s : State) (posted : Bool) (hdr : List Word) : State :=
  let s1 := (s.bump Reg.HOST_UR).aerReport 20 hdr
  let s2 := s1.setCfg Cfg.devCtl (setBit (s1.cfg Cfg.devCtl) 19 true)
  if posted then s2 else s2.sendTlp .ur

/-- A packet header that no command carries: what the header log shows of it is free. -/
def State.freeHdr (s : State) : List Word := (List.range 4).map fun i => Config.freeWord (s.draws + i)

/-- The four values of a free header are spent. -/
def State.drawHdr (s : State) : State := { s with draws := s.draws + 4 }

/-- The same for a request of which the command does not carry the header. -/
def State.hostMiss (s : State) (posted : Bool) : State := s.drawHdr.hostUr posted s.freeHdr

/-- A plain write of a register: its RW bits take the value written. -/
def State.writeRw (s : State) (off : Nat) (v : Word) : State :=
  s.setReg off ((v &&& regMask off) ||| (s.reg off &&& ~~~ regMask off))

/-- Keep the larger of a stored field and a value. -/
def State.peak (s : State) (off lo n v : Nat) : State :=
  if s.rf off lo n < v then s.setRf off lo n (min v (2 ^ n - 1)) else s

/-- Clear the registers named by the set bits of a counter-clear write (R64 and each page's CNT_CLR). -/
def clearBits (s : State) (v : Word) : List (Nat × Nat) → State
  | [] => s
  | (bit, off) :: rest =>
    if wbit v bit then clearBits (s.setReg off 0) v rest else clearBits s v rest

/-! ### Result registers (R41) -/

/-- A block starts to form a new result: READY clears, TAG stays. -/
def State.resStart (s : State) (off : Nat) : State := s.setRf off 31 1 0

/-- The tag after `t` (R41). -/
def nextTag (t : Nat) : Nat := if t % 65536 = 65535 then 1 else t % 65536 + 1

/-- A result completes: its fields, READY, and the next TAG in one cycle (R41). -/
def State.resDone (s : State) (off : Nat) (fields : List (Nat × Nat)) : State :=
  s.setReg off (pack ((31, 1) :: (0, nextTag (s.rf off 0 16)) :: fields))

/-! ### Pages, islands and gating (R31, R381, R393, R423, R426, R427) -/

/-- The number of assigned pages (R423). -/
def pageCount : Nat := 21

/-- PAGE_ID.TYPE of a page (R423). -/
def pageType (p : Nat) : Nat := if p < 8 then p + 1 else p + 8

/-- The island that serves a page's block registers (R381). 8 is the service island. -/
def pageIsland (p : Nat) : Nat :=
  match p with
  | 1 => 8
  | 2 | 3 | 6 => 7
  | 4 | 5 => 6
  | 10 => 2
  | 11 | 12 => 3
  | 13 | 14 => 4
  | 15 => 5
  | 16 | 17 | 18 | 19 => 1
  | _ => 0

/-- The enable bit of a page's block (R393), for the gatable blocks. -/
def gateBit (p : Nat) : Option Nat :=
  if 8 ≤ p ∧ p ≤ 20 then some (p - 8) else if p = 3 then some 13 else if p = 6 then some 14 else none

/-- The enable set in force (R393). -/
def State.gateSet (s : State) : Word :=
  if s.clk.mode = 0 then s.reg Reg.CLK_GATE
  else
    match s.rf Reg.CLK_PWR 0 2 with
    | 0 => s.reg Reg.CLK_RUN_EN
    | 1 => s.reg Reg.CLK_SLEEP_EN
    | _ => s.reg Reg.CLK_DEEP_EN

/-- An island in the middle of a clock switch (R391). -/
def State.islandSwitching (s : State) (i : Nat) : Bool := s.clk.switching.testBit i

/-- The block of a page is gated under R393. -/
def State.blockGated (s : State) (p : Nat) : Bool :=
  (gateBit p).any (fun b => !wbit s.gateSet b && !s.clk.ungated.testBit b) ||
    (!s.clk.ready && p != 1 && !s.clk.step5.testBit (pageIsland p))

/-- An island stopped by the power state (R394): in DEEP, or in SLEEP with every block of it gated. -/
def State.islandStopped (s : State) (i : Nat) : Bool :=
  1 ≤ i && i ≤ 5 &&
    (s.rf Reg.CLK_PWR 0 2 == 2 ||
      (s.rf Reg.CLK_PWR 0 2 == 1 && (List.range pageCount).all fun p => pageIsland p != i || s.blockGated p))

/-- Block registers of the page fail check 3 of R35 (R393, R426). -/
def State.gated (s : State) (p : Nat) : Bool :=
  s.blockGated p || s.islandStopped (pageIsland p) || s.islandSwitching (pageIsland p)

/-- Islands 0 to 7 run (R389, R396, R398, R442). -/
def State.mainUp (s : State) : Bool :=
  s.pins.vin12 && !s.pins.shutdown && !s.clk.inReset && !s.clk.svcOnly

/-- The block of a page runs: its island is up and neither stopped nor gated (R393, R394). -/
def State.live (s : State) (p : Nat) : Bool := s.mainUp && !s.blockGated p && !s.islandStopped (pageIsland p)

/-- Islands 0 to 6 run from SYSREF-derived clocks, and none of their blocks is gated (R381). -/
def State.writeOk (s : State) : Bool :=
  s.mainUp && s.clk.active == 2 && !s.clk.coast && s.clk.safe % 128 == 0 && s.clk.switching % 128 == 0 &&
    (List.range 7).all (fun i => !s.islandStopped i) &&
    (List.range pageCount).all fun p => 7 ≤ pageIsland p || !s.blockGated p

/-- Every beam and auxiliary lane is electrically idle (R381, R394, R398). -/
def State.lanesIdle (s : State) : Bool := !s.mainUp || s.clk.safe.testBit 5 || s.islandStopped 5

/-- Send on a lane. -/
def State.laneOut (s : State) (o : OutMsg) : State := if s.lanesIdle then s else s.leaves o

/-- Send code groups on a lane: encoded from the running disparity that the lane has (R192). -/
def State.sendLine (s : State) (lane : Nat) (start : Option Int) (gs : List Group) : State :=
  if s.lanesIdle then s
  else
    let r := encodeGroups (sget false s.bln.rd lane) gs
    ({ s with bln := { s.bln with rd := sput false s.bln.rd lane r.2 } } : State).leaves (.line lane start gs r.1)

/-- A lane sends skip ordered sets only from here on (R199). How many it sends is timing, and each COM turns the running
disparity: what it is at the end of the run is free (log entry 38). -/
def State.sendSkips (s : State) (lane : Nat) : State :=
  if s.lanesIdle then s
  else
    ({ s with
      bln := { s.bln with rd := sput false s.bln.rd lane (Config.freeBit s.draws) }, draws := s.draws + 1 } : State).leaves
      (.skips lane)

/-- Lanes send skip ordered sets (R199, R203, R225). -/
def State.fill (s : State) (lanes : List Nat) : State := lanes.foldl State.sendSkips s

/-- A message on auxiliary lanes: COM, SOF, body and CRC-32, then skip ordered sets (R199, R203). -/
def State.sendMsg (s : State) (lanes : List Nat) (body : List Byte) : State :=
  lanes.foldl (fun (a : State) i => (a.sendLine (96 + i) none (framed (withCrc body))).sendSkips (96 + i)) s

/-- A6 and A7 send nothing: also from a trip until the lane island runs from its loop clock again, which it does not while
it is switching (R388). -/
def State.streamsOff (s : State) : Bool :=
  s.lanesIdle || s.clk.fallback == 1 || s.clk.fallback == 2 || (s.clk.fallback == 3 && s.clk.switching.testBit 5)

/-- The service island has a supply (R381, R438). -/
def State.svcUp (s : State) : Bool := s.pins.aux33 || (s.pins.vin12 && !s.pins.shutdown)

/-- An access of a party reaches the page (R427): of PCIe while the function takes memory requests (R324). -/
def State.reaches (s : State) (p : Party) (page : Nat) : Bool :=
  match p with
  | .pcie => s.mainUp && s.memOn
  | .spi => s.mainUp || (page == 1 && s.svcUp)

/-- TEST_CTL.EN, the test enable (R402); every perturbation acts only while it is set (R403). -/
def State.testEn (s : State) : Bool := wbit (s.reg Reg.TEST_CTL) 0

/-! ### Persistent words (R49, R50, R429) -/

/-- The index of the persistent word at a BAR0 offset (R429). -/
def nvIdx (off : Nat) : Option Nat :=
  if off % 4 ≠ 0 then none
  else if off = 0x40 then some 0
  else if 0x50 ≤ off ∧ off ≤ 0x5C then some (1 + (off - 0x50) / 4)
  else if 0x400 ≤ off ∧ off ≤ 0x7FC then some (5 + (off - 0x400) / 4)
  else if 0xE100 ≤ off ∧ off ≤ 0xE1FC then some (261 + (off - 0xE100) / 4)
  else if 0x11088 ≤ off ∧ off ≤ 0x110A8 then some (325 + (off - 0x11088) / 4)
  else if 0x7040 ≤ off ∧ off ≤ 0x7B04 then some (334 + (off - 0x7040) / 4)
  else none

/-- The BAR0 offset of a persistent word (R429). -/
def nvOff (i : Nat) : Nat :=
  if i = 0 then 0x40
  else if i ≤ 4 then 0x50 + 4 * (i - 1)
  else if i ≤ 260 then 0x400 + 4 * (i - 5)
  else if i ≤ 324 then 0xE100 + 4 * (i - 261)
  else if i ≤ 333 then 0x11088 + 4 * (i - 325)
  else 0x7040 + 4 * (i - 334)

/-- The manufacture value of a persistent word (R429). -/
def nvMfg (i : Nat) : Word :=
  if i = 0 then 1
  else if 5 ≤ i ∧ i ≤ 260 then 0xFFFFFFFF
  else if 325 ≤ i ∧ i ≤ 333 then BitVec.ofNat 32 ((regRow (nvOff i)).elim 0 RegRow.reset)
  else 0

/-- A persistent word. -/
def State.nvw (s : State) (i : Nat) : Word := sget (nvMfg i) s.nv i

/-- The write counter of a persistent word (R50). -/
def State.nvc (s : State) (i : Nat) : Nat := sget 0 s.nvCount i

/-- The slot of a persistent word is pending (R49). -/
def State.nvPending (s : State) (i : Nat) : Bool := sget false s.nvSlot i

/-- The word is worn out (R50). -/
def State.nvWorn (s : State) (i : Nat) : Bool := 100000 ≤ s.nvc i

/-- An accepted write of a persistent word (R49, R50): an equal write with no slot pending does not program. -/
def State.nvWrite (s : State) (i : Nat) (v : Word) : State :=
  if s.nvw i = v ∧ s.nvPending i = false then s
  else { s with nv := sput (nvMfg i) s.nv i v, nvSlot := sput false s.nvSlot i true }

/-- The word at `off` is a DP word (R430). -/
def isDp (off : Nat) : Bool :=
  match nvIdx off with
  | some i => i ≤ 333
  | none => false

/-! ### MSI-X (R330, R331; log entry 14) -/

/-- A double word of the MSI-X table at reset: every vector masked. -/
def msixTabReset (i : Nat) : Word := if i % 4 = 3 then 1 else 0

/-- A double word of the MSI-X table. -/
def State.msixDw (s : State) (i : Nat) : Word := sget (msixTabReset i) s.link.msixTab i

/-- The message of a vector cannot leave: a mask, D3hot or Bus Master Enable holds it (R331, R333; log entry 50). -/
def State.msixHeld (s : State) (v : Nat) : Bool :=
  s.link.fnMask || s.link.d3 || !s.busMaster || wbit (s.msixDw (4 * v + 3)) 0

/-- The message of a vector, as its table entry gives it. -/
def State.msixTlp (s : State) (v : Nat) : Tlp :=
  .msix v ((s.msixDw (4 * v)).toNat + 2 ^ 32 * (s.msixDw (4 * v + 1)).toNat) (s.msixDw (4 * v + 2))

/-- Send or pend the message of a vector; without Bus Master Enable it pends (log entry 50). PCIe is idle while islands 0
to 7 do not run (R389). -/
def State.sendVector (s : State) (v : Nat) : State :=
  if !s.link.msixEn || !s.mainUp then s
  else if s.msixHeld v then { s with link := { s.link with pba := sput false s.link.pba v true } }
  else s.emit (s.msixTlp v)

/-- Send a packet that has waited. A message obeys MSI-X Enable, the masks and its table entry as they are now (R331; log
entry 50). -/
def State.sendHeld (s : State) : Tlp → State
  | .msix v _ _ =>
    if !s.link.msixEn || !s.mainUp then s
    else if s.msixHeld v then { s with link := { s.link with pba := sput false s.link.pba v true } }
    else s.sendTlp (s.msixTlp v)
  | t => s.sendTlp t

/-- A message. -/
def Tlp.isMsix : Tlp → Bool
  | .msix _ _ _ => true
  | _ => false

/-- Issue what waits, in order, as far as it may go; a message that a mask holds goes to the pending bits (log entry 50). -/
def State.flushHeld (s : State) : Nat → State
  | 0 => s
  | n + 1 =>
    match s.link.held with
    | [] => s
    | t :: ts =>
      let u : State := { s with link := { s.link with held := ts } }
      if t.isMsix || u.mayIssue t then (u.sendHeld t).flushHeld n else s

/-- Issue everything that may go. -/
def State.issueHeld (s : State) : State := s.flushHeld s.link.held.length

/-! ### Headers and events (R33, R43 to R47, R331) -/

/-- The header of a page. -/
def State.hdr (s : State) (p : Nat) : Hdr := sget Hdr.reset s.hdrs p

/-- Store the header of a page. -/
def State.setHdr (s : State) (p : Nat) (h : Hdr) : State := { s with hdrs := sput Hdr.reset s.hdrs p h }

/-- The default class and floor of an event, where the page defines it (R45). -/
def evtInfo (p b : Nat) : Option (Nat × Nat) := (evtTable p)[b]?

/-- The default class of an event: 0 for a reserved bit. -/
def evtDefault (p b : Nat) : Nat := (evtInfo p b).elim 0 Prod.fst

/-- The class in force for an event. -/
def Hdr.classOf (h : Hdr) (p b : Nat) : Nat := sget (evtDefault p b) h.cls b

/-- A bit of EVT_STAT counts for signalling (R331). -/
def Hdr.counts (h : Hdr) (p b : Nat) : Bool :=
  wbit h.stat b && ((wbit h.en b && h.irqEn) || 3 ≤ h.classOf p b)

/-- Some bit of EVT_STAT has a class that satisfies `f`. -/
def Hdr.anyClass (h : Hdr) (p : Nat) (f : Nat → Bool) : Bool :=
  (List.range 32).any fun b => wbit h.stat b && f (h.classOf p b)

/-- The summary of a page (R44). -/
def State.summary (s : State) (p : Nat) : Bool :=
  let h := s.hdr p
  (h.stat &&& h.en) != 0 || h.anyClass p (fun c => c == 4)

/-- Append an entry to the event log (R47). -/
def State.logEvent (s : State) (e : LogEnt) : State :=
  { s with evlog := (e :: s.evlog).take 256, logWr := (s.logWr + 1) % 65536 }

/-- An occurrence of an event (R43, R46): the bit, the log entry, the signal, and the class action that falls due. -/
def State.raiseAs (s : State) (forced : Bool) (ev : EvId) (detail : Nat) (ctx : Option Nat) : State :=
  let h := s.hdr ev.page
  let c := h.classOf ev.page ev.bit
  let h' : Hdr := { h with stat := setBit h.stat ev.bit true }
  let s1 := s.setHdr ev.page h'
  let s2 := if s.mainUp then s1.logEvent ⟨s.tau / 64, ev, c, forced, detail % 65536, ctx⟩ else s1
  let s3 : State := { s2 with due := s2.due ++ [⟨ev, c, ctx, forced, wbit h.stat ev.bit⟩] }
  if !wbit h.stat ev.bit && h'.counts ev.page ev.bit then s3.sendVector (64 + ev.page % 64) else s3

/-- A real occurrence that names no context. -/
def State.raise (s : State) (ev : EvId) (detail : Nat) : State := s.raiseAs false ev detail none

/-- A real occurrence that names a context. -/
def State.raiseCtx (s : State) (ev : EvId) (detail ctx : Nat) : State := s.raiseAs false ev detail (some ctx)

/-- A page sends its vector when a set bit starts to count through a header write (R331). -/
def State.signalNew (s : State) (p : Nat) (old new : Hdr) : State :=
  if (List.range 32).any fun b => new.counts p b && !old.counts p b then s.sendVector (64 + p % 64) else s

/-- Change the header of a page, signalling bits that start to count. -/
def State.changeHdr (s : State) (p : Nat) (f : Hdr → Hdr) : State :=
  let h := s.hdr p
  (s.setHdr p (f h)).signalNew p h (f h)

/-! ### The access log (R36) -/

/-- Bits [17:2] of an offset, the detail of access events (R65). -/
def offDetail16 (off : Nat) : Nat := nfld off 2 16

/-- Bits [11:2] of an offset, the detail of refused writes. -/
def offDetail (off : Nat) : Nat := nfld off 2 10

/-- Log an access with its kind (R36, R65). DEDUCED (log entry 102): while islands 0 to 7 do not run, an access to CLK that
R35 drops is neither logged nor counted, since CTRL is then held at its reset values (R427, R432). -/
def State.logAcc (s : State) (p : Party) (kind off : Nat) : State :=
  if !s.mainUp then s
  else
    let s1 := s.setReg Reg.CTRL_ACC_LAST (pack [(31, b2n (p == Party.spi)), (27, kind), (0, off % 2 ^ 24)])
    let s2 := s1.setReg Reg.CTRL_ACC_CNT (w32 (satAdd 16 (s1.reg Reg.CTRL_ACC_CNT).toNat 1))
    match kind with
    | 3 | 4 => s2.raise Ev.CTRL_ACCESS_DENIED (offDetail16 off)
    | 5 => s2.raise Ev.CTRL_DP_DIRECT (offDetail16 off)
    | 7 => s2.raise Ev.CTRL_NV_WORN ((nvIdx off).getD 0)
    | _ => s2.raise Ev.CTRL_ACCESS_ERR (offDetail16 off)

/-! ### Checks of R35 -/

/-- The page-access map allows writes of a party to a page (R37). -/
def State.mapAllows (s : State) (p : Party) (page : Nat) : Bool :=
  wbit (s.nvw (5 + page / 16)) (2 * (page % 16) + b2n (p == Party.spi))

/-- The offset lies in a party's two-party bank (R57). -/
def inBank (p : Party) (off : Nat) : Bool :=
  match p with
  | .pcie => 0x100 ≤ off && off < 0x150
  | .spi => 0x180 ≤ off && off < 0x1D0

/-- The other party. -/
def otherParty : Party → Party
  | .pcie => .spi
  | .spi => .pcie

/-- The offset is EVT_STAT of its page. -/
def isEvtStat (off : Nat) : Bool := off % 0x1000 == 0x10

/-- PAGE_LOCK guards the offset (R38). -/
def lockGuards (p : Party) (off : Nat) : Bool :=
  (0x40 ≤ off % 0x1000 && !inBank p off) || off % 0x1000 == 0x08 || off % 0x1000 == 0x14 ||
    off % 0x1000 == 0x18 || off % 0x1000 == 0x1C

/-- How a write of R35 is decided: reaching no register (R324, R427), counted at a gated block, logged with a kind, or accepted. -/
inductive WriteOutcome where
  | unreached
  | gatedCount
  | logged (kind : Nat)
  | accepted
  deriving DecidableEq, Repr

/-- The checks of R35 in their order, for a write of `a` at the word offset `off`. -/
def State.judge (s : State) (a : Acc) (off : Nat) : WriteOutcome :=
  let page := off / 0x1000
  if !s.reaches a.party page then .unreached
  else if !a.single then .logged 0
  else if a.low ≠ 0 then .logged 1
  else if pageCount ≤ page then .logged 2
  else if 0x40 ≤ off % 0x1000 && s.gated page then .gatedCount
  else if !s.mapAllows a.party page && !inBank a.party off && !isEvtStat off then .logged 3
  else if inBank (otherParty a.party) off then .logged 3
  else if (s.hdr page).lock && lockGuards a.party off then .logged 4
  else if isDp off then .logged 5
  else if (nvIdx off).any fun i => s.nvWorn i then .logged 7
  else .accepted

/-- A write of `a` at `off` that R35 has decided on: an accepted one acts. -/
def State.decided (s : State) (o : WriteOutcome) (a : Acc) (off : Nat) (act : State → State) : State :=
  match o with
  | .unreached => if a.party = .pcie ∧ s.mainUp = true then s.hostMiss true else s
  | .gatedCount => s.bump Reg.CTRL_GATED_CNT
  | .logged k => s.logAcc a.party k (off + a.low.toNat)
  | .accepted => act s

/-- The access of the present command falls in the cycle of the one before it (log entry 1). -/
def State.sameCycle (s : State) (t : Tie) : State := if t.inDevice then { s with cyc := { s.cyc with same := true } } else s

/-- The occurrences of the cycle of an access, so far: those of the commands before it that fall in its cycle, and those that
the access of the other party has raised (log entry 1). -/
def State.cycleOccs (s : State) : Tie → List Occ
  | .alone => []
  | .both _ => s.due
  | .device => s.recent
  | .bothDevice _ => s.recent ++ s.due

/-- The first occurrence of an event, real or forced, in the cycle of an access (R46, R331). -/
def State.tied (s : State) (t : Tie) (ev : EvId) : Option Occ := (s.cycleOccs t).find? fun o => o.ev = ev

/-- A real occurrence of an event falls in the cycle of an access (R43). -/
def State.tiedReal (s : State) (t : Tie) (ev : EvId) : Bool := (s.cycleOccs t).any fun o => o.ev = ev && !o.forced

/-! ### Leaky buckets (R47, R48) -/

/-- A bucket after a write of LB_CFG and at reset. -/
def Bucket.reset : Bucket := ⟨0, 0, true⟩

/-- The store key of a bucket: 0 SIG, 1 + l the lane bucket l, 128 + r the region r, 136 DRAM. -/
def bucketKey : BucketSel → Nat
  | .sig => 0
  | .lane l => 1 + l.toNat
  | .region r => 128 + r.toNat
  | .dram => 136

/-- The LB_CFG register of a bucket. -/
def bucketCfg : BucketSel → Nat
  | .sig => Reg.SIG_LB_CFG
  | .lane _ => Reg.BLN_LB_CFG
  | .region r => Reg.MEM_LB_CFG + 8 * r.toNat
  | .dram => Reg.DRAM_LB_CFG

def State.bucket (s : State) (b : BucketSel) : Bucket := sget Bucket.reset s.buckets (bucketKey b)

def State.setBucket (s : State) (b : BucketSel) (v : Bucket) : State :=
  { s with buckets := sput Bucket.reset s.buckets (bucketKey b) v }

/-- An increment reaches the threshold and raises the bucket's event (R48). -/
def Bucket.fires (b : Bucket) (thresh : Nat) : Bool := b.armed && thresh ≠ 0 && satAdd 16 b.count 1 == thresh

/-- One counted error. -/
def Bucket.add (b : Bucket) (thresh : Nat) : Bucket :=
  let c := satAdd 16 b.count 1
  ⟨c, max b.peak (min c 32767), b.armed && !b.fires thresh⟩

/-- One leak: COUNT falls by 1 and the bucket is armed again at THRESH >> 1 or below. -/
def Bucket.leak (b : Bucket) (thresh : Nat) : Bucket :=
  let c := b.count - 1
  ⟨c, b.peak, b.armed || c ≤ thresh / 2⟩

/-- Count an error in a bucket and raise its event at the threshold. -/
def State.bucketAdd (s : State) (b : BucketSel) (ev : EvId) (detail : Nat) (ctx : Option Nat) : State :=
  let th := s.rf (bucketCfg b) 16 16
  let s' := s.setBucket b ((s.bucket b).add th)
  if (s.bucket b).fires th then s'.raiseAs false ev detail ctx else s'

/-- The word of LB_STAT. -/
def Bucket.stat (b : Bucket) : Word := pack [(31, b2n b.armed), (16, b.peak), (0, b.count)]

end Sys2Proof.Machine
end

