-- ==== Sys2Proof/Machine/MemOps.lean ====
section
/-!
DEFINITION. Sys2Proof/Machine/MemOps.lean: reading and writing SRAM bytes and DRAM lines with their codes, poison and
the never-written bitmap, remaps, retirement and the port arbiter (chapter 14).
-/

namespace Sys2Proof.Machine

/-! ### The memory log (R356) -/

/-- Append an entry to the memory log. -/
def State.memLog (s : State) (dram : Bool) (kind source detail loc : Nat) : State :=
  let e : MemLogEnt := ⟨s.tau / 64 % 2 ^ 32, dram, kind, source, detail, loc⟩
  { s with sram := { s.sram with log := (e :: s.sram.log).take 256, logWr := (s.sram.logWr + 1) % 65536 } }

/-! ### SRAM (R352 to R358) -/

/-- The region of a macro group (R352). -/
def groupRegion (g : Nat) : Nat :=
  if g < 60 then 0 else if g < 68 then 1 else if g < 72 then 2 else if g < 88 then 3
  else if g < 90 then 4 else if g < 92 then 5 else if g < 94 then 6 else 7

/-- The physical row of a row of a group: a spare once it is remapped (R358). -/
def Sram.physRow (m : Sram) (group row : Nat) : Nat :=
  let k := sget 0 m.rowMap (group * 4096 + row)
  if k = 0 then row else 4096 + (k - 1)

/-- The key of a stored byte: 4,096 rows and 64 spares of 256 bytes a group. -/
def cellKey (group prow byte : Nat) : Nat := (group * 4160 + prow) * 256 + byte

/-- The key of the stored byte that serves a byte of a row. -/
def Sram.key (m : Sram) (group row byte : Nat) : Nat := cellKey group (m.physRow group row) byte

/-- The place of a byte as the memory log writes it (MEM_LOG_E2). -/
def sramLoc (group row byte : Nat) : Nat := group * 2 ^ 24 + row * 2 ^ 12 + byte

/-- The consequences of what a read of an SRAM byte found (R355, R356): counts, bucket, log, SRAM_UE. -/
def State.sramFound (s : State) (group row byte : Nat) (r : ByteRead) : State :=
  let region := groupRegion group
  match r with
  | .good => s
  | .corrected p =>
    ((s.bump Reg.MEM_CE).memLog false 0 region p (sramLoc group row byte)).bucketAdd
      (.region (BitVec.ofNat 3 region)) Ev.MEM_SRAM_CE_BURST region none
  | .bad =>
    ((s.bump Reg.MEM_UE).memLog false 1 region 0 (sramLoc group row byte)).raise Ev.MEM_SRAM_UE region

/-- Read one SRAM byte: what the code decides, and the XOR between the byte written and the byte returned. A corrected
byte is written back with a fresh code (R355). -/
def State.sramRead (s : State) (group row byte : Nat) : ByteRead × Nat × State :=
  let k := s.sram.key group row byte
  let e := sget 0 s.sram.err k
  if e = 0 then (.good, 0, s)
  else
    let r := decodeByte e
    let back := if r.1 = .bad then e else encodeByte r.2
    let s1 : State := { s with sram := { s.sram with err := sput 0 s.sram.err k back } }
    (r.1, r.2, s1.sramFound group row byte r.1)

/-- Write one SRAM byte: every error in it vanishes (R354). -/
def State.sramWrote (s : State) (group row byte : Nat) : State :=
  let k := s.sram.key group row byte
  { s with sram := { s.sram with err := sput 0 s.sram.err k 0 } }

/-- The region of a stored byte. -/
def keyRegion (key : Nat) : Nat := groupRegion (key / 256 / 4160)

/-- The stored byte is known to hold an uncorrectable byte of the staged almanac (R175). -/
def State.heldBad (s : State) (key : Nat) : Bool :=
  s.alm.bad.any fun p => s.sram.key (p.2 / 2 ^ 20) (p.2 / 256 % 4096) (p.2 % 256) == key

/-- An operation writes bytes of region `r`, 1 to 6, and the errors in those bytes vanish (R354). DESIGN CHOICE (log entry
132): R353 calls the layout internal, so which of the bytes that hold an error it writes is free. -/
def State.rewrites (s : State) (r : Nat) : State :=
  if s.sram.err.any fun p => keyRegion p.1 == r then
    { s with
      sram := { s.sram with
        err := skeep (fun k => keyRegion k != r || s.heldBad k || !Config.overwrites s.draws k) s.sram.err },
      draws := s.draws + 1 }
  else s

/-- What region 5 holds, as far as the model sees it. -/
def State.seenNow (s : State) : Seen := ⟨s.logWr, s.alm.logWr, s.sram.logWr, s.dram.written, s.dram.pois⟩

/-- XOR a pattern into a stored byte (R413). -/
def State.sramFlip (s : State) (group row byte pattern : Nat) : State :=
  let k := s.sram.key group row byte
  { s with sram := { s.sram with err := sput 0 s.sram.err k (sget 0 s.sram.err k ^^^ pattern) } }

/-- MEM_REMAP_CMD (R358 step 1). -/
def remapCmdAct (v : Word) (s : State) : State :=
  let g := fld v 12 7
  let row := fld v 0 12
  if s.sram.remap.isSome then s.raise Ev.MEM_CFG_REFUSED (offDetail Reg.MEM_REMAP_CMD)
  else
    let s1 := s.resStart Reg.MEM_REMAP_STAT
    let finish (code : Nat) : State :=
      ((s1.setReg Reg.MEM_REMAP_INFO (pack [(12, g), (0, row)])).resDone Reg.MEM_REMAP_STAT [(28, code)]).raise
        Ev.MEM_REMAP_DONE code
    if 95 < g then finish 2
    else if 64 ≤ sget 0 s.sram.used g then finish 1
    else { s1 with sram := { s1.sram with remap := some (g, row) } }

/-- What a byte of the row becomes on the spare: corrected, or its stored 13 bits (R358 step 2). -/
def State.copyByte (s : State) (g row spare byte : Nat) : State :=
  let e := sget 0 s.sram.err (s.sram.key g row byte)
  if e = 0 then { s with sram := { s.sram with err := sput 0 s.sram.err (cellKey g spare byte) 0 } }
  else
    let r := s.sramRead g row byte
    let s1 := r.2.2
    let e1 := sget 0 s1.sram.err (s1.sram.key g row byte)
    { s1 with sram := { s1.sram with err := sput 0 s1.sram.err (cellKey g spare byte) e1 } }

/-- The row copy ends and the spare replaces the row (R358 step 3); no row is copied before ZEROED (R357). -/
def remapDoneAct (s : State) : State :=
  match s.sram.remap, s.sram.zeroed with
  | some (g, row), true =>
    let n := sget 0 s.sram.used g
    let s1 := (List.range 256).foldl (fun a b => a.copyByte g row (4096 + n) b) s
    let m := s1.sram
    let s2 : State :=
      { s1 with
        sram := { m with
          used := sput 0 m.used g (n + 1), rowMap := sput 0 m.rowMap (g * 4096 + row) (n + 1), remap := none } }
    ((s2.setReg Reg.MEM_REMAP_INFO (pack [(12, g), (0, row)])).resDone Reg.MEM_REMAP_STAT [(28, 0)]).raise
      Ev.MEM_REMAP_DONE 0
  | _, _ => s

/-- Zeroing of all SRAM completes (R357). -/
def sramZeroedAct (s : State) : State :=
  { s with sram := { s.sram with zeroed := true, err := [], used := [], rowMap := [] } }

/-! ### DRAM lines (R362 to R366) -/

/-- The wrong bytes of a line: position and XOR value. -/
def Dram.lineErr (m : Dram) (line : Nat) : List (Nat × Nat) :=
  (m.err.filter fun p => p.1 / 72 == line).map fun p => (p.1 % 72, p.2)

/-- Clear the error pattern of a line. -/
def Dram.clearErr (m : Dram) (line : Nat) : Dram := { m with err := skeep (fun k => k / 72 != line) m.err }

/-- The poison mark of a line: 0 clean, 1 poisoned without a table entry, 2 × mask with one. -/
def Dram.poison (m : Dram) (line : Nat) : Nat := sget 0 m.pois line

def Dram.setPoison (m : Dram) (line v : Nat) : Dram := { m with pois := sput 0 m.pois line v }

/-- Poison table entries in use (R365). -/
def Dram.poisonCount (m : Dram) : Nat := (m.pois.filter fun p => 2 ≤ p.2).length

/-- A block of the never-written bitmap: 0 never written, 1 filled, 2 never filled but counted as written (R359, R366). -/
def Dram.block (m : Dram) (line : Nat) : Nat := sget 0 m.written (line / 1024)

/-- The line's block has never been written (R366). -/
def Dram.never (m : Dram) (line : Nat) : Bool := !m.allWritten && m.block line == 0

/-- A line of a block that was never filled but counts as written, which nothing has written since: its content is free
(R359, R397; log entry 10). -/
def Dram.unknown (m : Dram) (line : Nat) : Bool :=
  (m.block line == 2 || m.allWritten && m.block line == 0) && !sget false m.touched line

/-- The place of a line (R360): pseudo-channel, bank and index; the pseudo-channel lies in stack pc >> 4. -/
def place (l : Nat) : Nat × Nat × Nat :=
  let m := l / 32
  ((List.range 6).foldl (fun a i => a ^^^ nfld l (5 * i) 5) 0, (List.range 6).foldl (fun a i => a ^^^ nfld m (4 * i) 4) 0, m)

/-- Stack of a line. -/
def stackOf (l : Nat) : Nat := (place l).1 / 16

/-- What a requester gets: whether it can use the line, the 64 bytes, and the result code of R414. -/
structure LineRead where
  usable : Bool
  bytes : List Byte
  result : Nat
  deriving DecidableEq, Repr

/-- The bytes of a line with an error pattern applied. -/
def Dram.lineBytes (m : Dram) (line : Nat) (e : List (Nat × Nat)) : List Byte :=
  (List.range 64).map fun j =>
    memRead m.data (64 * line + j) ^^^ BitVec.ofNat 8 ((e.find? fun p => p.1 == j).elim 0 Prod.snd)

/-- How a line as stored is decided, and the data that goes with it (R363). -/
def Dram.decide (m : Dram) (line : Nat) : LineKind × List Byte :=
  let e := m.lineErr line
  if m.unknown line then
    let k := Config.unfilledKind line (patternNat e)
    (if k = 0 then .good else if k ≤ 3 then .corrected k else if k = 4 then .poisoned else .bad,
      (List.range 64).map fun j => Config.unfilledByte (patternNat e) (64 * line + j))
  else
    let d := decideLine (m.poison line ≠ 0) e
    (d.1, m.lineBytes line d.2)

/-- Record a corrected line (R363). -/
def State.dramCorrected (s : State) (input line n : Nat) : State :=
  ((s.bump Reg.DRAM_CE).memLog true 0 input n line).bucketAdd .dram Ev.DRAM_CE_BURST 0 none

/-- Record an uncorrectable line (R363). -/
def State.dramBad (s : State) (input line : Nat) : State :=
  ((s.bump Reg.DRAM_UE).memLog true 1 input 0 line).raise Ev.DRAM_UE input

/-- A line is stored: its block counts as written, and its other lines read zero from then on (R366). -/
def Dram.fill (m : Dram) (line : Nat) : Dram :=
  if m.unknown line then { m with touched := sput false m.touched line true }
  else if m.never line then { m with written := sput 0 m.written (line / 1024) 1 }
  else m

/-- Store the 64 bytes of a line with a fresh code, under a poison mark. -/
def State.dramStore (s : State) (line mark : Nat) (bytes : List Byte) : State :=
  let m := ((s.dram.fill line).clearErr line).setPoison line mark
  { s with dram := { m with data := memWriteList m.data (64 * line) bytes } }

/-- BURST of a register word: 0 encodes 256. -/
def arbBurst (w : Word) : Nat := if fld w 0 8 = 0 then 256 else fld w 0 8

/-- An input at reset: priority and burst of R370. -/
def ArbIn.reset (i : Nat) : ArbIn :=
  let w := regReset (Reg.ARB_REQ0 + 4 * i)
  ⟨false, 0, 0, 0, fld w 8 3, arbBurst w⟩

def Arb.input (m : Arb) (i : Nat) : ArbIn := sget (ArbIn.reset i) m.ins i

def Arb.setInput (m : Arb) (i : Nat) (v : ArbIn) : Arb := { m with ins := sput (ArbIn.reset i) m.ins i v }

/-- The cycle of the port as the ages of requests count it: idle steps and arbitrations advance it (R371, log entry 31). -/
def State.portTime (s : State) : Nat := s.ctl + s.arb.clock

/-- The next cycle of the port. -/
def State.portTick (s : State) : State := { s with arb := { s.arb with clock := s.arb.clock + 1 } }

/-- The request of an access at its input of the port (R370): it waits for a grant from the cycle in which it is raised
(log entry 31). -/
def State.portRaise (s : State) (i : Nat) : State :=
  if (s.arb.input i).req then s
  else { s with arb := s.arb.setInput i { s.arb.input i with req := true, since := s.portTime } }

/-- Read a line for a requester input (R363); the write-back of a corrected line is a request of input 10 (R370). -/
def State.dramReadLine (s0 : State) (input line : Nat) : LineRead × State :=
  let s := s0.portRaise input
  if s.dram.never line then
    let zero : LineRead := ⟨true, List.replicate 64 0, 4⟩
    if s.dram.zread then (zero, s)
    else
      (zero, (({ s with dram := { s.dram with zread := true } } : State).setReg Reg.DRAM_ZREAD_ADDR (w32 line)).raise
        Ev.DRAM_ZERO_READ input)
  else
    let d := s.dram.decide line
    match d.1 with
    | .good => (⟨true, d.2, 0⟩, s)
    | .corrected n => (⟨true, d.2, 1⟩, ((s.portRaise 10).dramStore line 0 d.2).dramCorrected input line n)
    | .poisoned => (⟨false, d.2, 2⟩, s.memLog true 2 input 0 line)
    | .bad => (⟨false, d.2, 3⟩, s.dramBad input line)

/-- Merge new bytes into old ones. -/
def mergeBytes (old : List Byte) (new : List (Option Byte)) : List Byte :=
  (old.zip new).map fun p => p.2.getD p.1

/-- The mask of the bytes a partial write leaves alone. -/
def untouchedMask (new : List (Option Byte)) : Nat :=
  (new.zipIdx.map fun p => if p.1.isNone then 2 ^ p.2 else 0).sum

/-- A line becomes poisoned with a table entry whose mask is `mask` (R364, R365). -/
def State.makePoison (s : State) (input line mask : Nat) : State :=
  let full := 1024 ≤ s.dram.poisonCount && s.dram.poison line < 2
  let s1 : State := { s with dram := s.dram.setPoison line (if full then 1 else 2 * mask) }
  let s2 := ((s1.bump Reg.DRAM_POISONED).memLog true 3 input 0 line).raise Ev.DRAM_POISON_MADE input
  if full then s2.raise Ev.DRAM_POISON_FULL 0 else s2

/-- Write a line, in whole or in part (R364, R366). `new` lists 64 bytes, `none` where the write leaves the byte alone. A
line that stays poisoned gets its poison code over the bytes as stored (log entry 32). The fill of a block is a request of
input 10 (R370). -/
def State.dramWriteLine (s0 : State) (input line : Nat) (new : List (Option Byte)) : State :=
  let s1 := s0.portRaise input
  let s := if s1.dram.never line then s1.portRaise 10 else s1
  if new.all Option.isNone then s0
  else if new.all Option.isSome then s.dramStore line 0 (new.map fun b => b.getD 0)
  else if s.dram.never line then s.dramStore line 0 (mergeBytes (List.replicate 64 0) new)
  else
    let p := s.dram.poison line
    let d := s.dram.decide line
    let bytes := mergeBytes d.2 new
    match d.1 with
    | .good => s.dramStore line 0 bytes
    | .corrected n => (s.dramStore line 0 bytes).dramCorrected input line n
    | .bad => (s.dramStore line p bytes).makePoison input line (untouchedMask new)
    | .poisoned => s.dramStore line (if p < 2 then 1 else 2 * (p / 2 &&& untouchedMask new)) bytes

/-- The part of a byte string that falls into one line. -/
def linePart (addr : Nat) (bytes : List (Option Byte)) (line : Nat) : List (Option Byte) :=
  (List.range 64).map fun j =>
    let a := 64 * line + j
    if a < addr then none else (bytes[a - addr]?).getD none

/-- Write bytes from an address, line by line, in ascending order. -/
def State.dramWrite (s : State) (input addr : Nat) (bytes : List (Option Byte)) : State :=
  let first := addr / 64
  let n := (addr + bytes.length + 63) / 64 - first
  (List.range n).foldl (fun a i => a.dramWriteLine input (first + i) (linePart addr bytes (first + i))) s

/-- Write every byte of a list. -/
def State.dramPut (s : State) (input addr : Nat) (bytes : List Byte) : State := s.dramWrite input addr (bytes.map some)

/-- Read `n` lines from `line`, threading what each read does. -/
def State.dramReadLines (s : State) (input line : Nat) : Nat → List LineRead × State
  | 0 => ([], s)
  | n + 1 =>
    let r := s.dramReadLine input line
    let rest := r.2.dramReadLines input (line + 1) n
    (r.1 :: rest.1, rest.2)

/-- Read `len` bytes from `addr`: the bytes, or none if a line of them is unusable. -/
def State.dramRead (s : State) (input addr len : Nat) : Option (List Byte) × State :=
  let first := addr / 64
  let r := s.dramReadLines input first ((addr + len + 63) / 64 - first)
  let bytes := (r.1.flatMap LineRead.bytes).drop (addr - 64 * first)
  (if r.1.all LineRead.usable then some (bytes.take len) else none, r.2)

/-- A byte of DRAM as a read of its line gives it. -/
def Dram.byteAt (m : Dram) (a : Nat) : Byte :=
  if !m.never (a / 64) && (m.unknown (a / 64) || !(m.lineErr (a / 64)).isEmpty) then (m.decide (a / 64)).2.getD (a % 64) 0
  else memRead m.data a

/-- Bytes of DRAM, with no read of any requester: what a unit uses that has already read them. -/
def State.dramPeek (s : State) (addr len : Nat) : List Byte := (List.range len).map fun i => s.dram.byteAt (addr + i)

/-- A little-endian number of DRAM. -/
def State.dramNat (s : State) (addr len : Nat) : Nat := leNat (s.dramPeek addr len)

/-! ### DRAM page (R368) -/

/-- DRAM after SVC_WARM (R396, R397): contents and retirement map kept, the bitmap all set, the poison table cleared. -/
def Dram.warm (m : Dram) : Dram :=
  { m with
    allWritten := true, pois := m.pois.map fun p => (p.1, 1), ready := false, zread := false, retire := none }

/-- ZREAD, W1C (R366). -/
def zreadClearAct (v : Word) (s : State) : State :=
  if wbit v 31 then { s with dram := { s.dram with zread := false } } else s

/-- DRAM_RET_CMD (R368 step 1). -/
def retireCmdAct (v : Word) (s : State) : State :=
  let page := fld v 0 23
  if s.dram.retire.isSome then s.raise Ev.DRAM_CFG_REFUSED (offDetail Reg.DRAM_RET_CMD)
  else
    let s1 := s.resStart Reg.DRAM_RET_STAT
    if 4096 ≤ s.dram.retUsed then
      ((s1.setReg Reg.DRAM_RET_INFO (w32 page)).resDone Reg.DRAM_RET_STAT [(28, 1)]).raise Ev.DRAM_RETIRE_DONE 1
    else { s1 with dram := { s1.dram with retire := some page } }

/-- Copy one line of a page that retires (R367, R368 step 2): an unusable line as a poisoned one with the bytes as stored,
its table entry, if any, moving with it. -/
def State.retireLine (s : State) (line : Nat) : State :=
  let p := s.dram.poison line
  let r := s.dramReadLine 10 line
  if r.1.usable then r.2 else r.2.dramStore line (max p 1) r.1.bytes

/-- The page copy ends and the spare takes over (R368 step 3). It does not while SRAM, which holds what the copy looks up and
logs, is not zeroed (R357). -/
def retireDoneAct (s : State) : State :=
  match s.dram.retire with
  | none => s
  | some page =>
    if !s.sram.zeroed then s else
    let s1 := (List.range 64).foldl (fun a i => a.retireLine (64 * page + i)) s
    let m := s1.dram
    let old := sget 0 m.retMap page
    let spares := if old = 0 then m.retSpare else sput 0 m.retSpare (old - 1) 0
    let s2 : State :=
      { s1 with
        dram := { m with
          retMap := sput 0 m.retMap page (m.retUsed + 1),
          retSpare := sput 0 spares m.retUsed (page + 1),
          retUsed := m.retUsed + 1, retire := none } }
    ((s2.setReg Reg.DRAM_RET_INFO (w32 page)).resDone Reg.DRAM_RET_STAT [(28, 0)]).raise Ev.DRAM_RETIRE_DONE 0

/-- DRAM initialisation completes (R399 step 7). -/
def dramReadyAct (s : State) : State := { s with dram := { s.dram with ready := true } }

/-! ### The port arbiter (R370 to R374) -/

/-- The register word of a requester. -/
def State.arbReg (s : State) (i : Nat) : Word := s.reg (Reg.ARB_REQ0 + 4 * i)

/-- Put the register's PRIO and BURST in force for an input. -/
def State.arbAdopt (s : State) (i : Nat) : State :=
  let w := s.arbReg i
  { s with arb := s.arb.setInput i { s.arb.input i with prio := fld w 8 3, burst := arbBurst w } }

/-- A write of ARB_REQi (R374): in force at once unless the input waits or holds the grant. -/
def arbReqAct (i : Nat) (v : Word) (s : State) : State :=
  if 12 ≤ i then s.raise Ev.DRAM_CFG_REFUSED (offDetail (Reg.ARB_REQ0 + 4 * i))
  else
    let s1 := s.writeRw (Reg.ARB_REQ0 + 4 * i) v
    if (s.arb.input i).req then s1 else s1.arbAdopt i

/-- A write of ARB_CTL (R377). -/
def arbCtlAct (v : Word) (s : State) : State :=
  let n := fld v 0 7
  if n < 2 ∨ 64 < n then s.raise Ev.DRAM_CFG_REFUSED (offDetail Reg.ARB_CTL) else s.writeRw Reg.ARB_CTL v

/-- The inputs in ascending order after `i`, with wrap. -/
def inputsAfter (i : Nat) : List Nat := (List.range 16).map fun k => (i + k) % 16

/-- The one with the least key among the candidates, the lower input on equal keys. -/
def leastBy (key : Nat → Nat) : List Nat → Option Nat
  | [] => none
  | i :: is =>
    match leastBy key is with
    | none => some i
    | some j => if key j < key i then some j else some i

/-- The choice of the priority rule among waiting inputs (R371). -/
def Arb.byPrio (m : Arb) (waiting : List Nat) : Option Nat :=
  let top := waiting.foldl (fun a i => max a (m.input i).prio) 0
  (inputsAfter (sget 0 m.last top)).find? fun i => waiting.contains i && (m.input i).prio == top

/-- The choice of a fairness grant: the longest wait, the lower input on equal waits (R371). -/
def Arb.byAge (m : Arb) (waiting : List Nat) : Option Nat := leastBy (fun i => (m.input i).since) waiting

/-- The winner of grant number `number`. -/
def Arb.winner (m : Arb) (n number : Nat) (waiting : List Nat) : Option Nat :=
  if number % n = 0 then m.byAge waiting else m.byPrio waiting

/-- Record a grant at its priority. -/
def Arb.granted (m : Arb) (i : Nat) : Arb := { m with last := sput 0 m.last (m.input i).prio (i + 1) }

/-- The order in which the waiting inputs would be served if each owner dropped after one grant (R373). -/
def Arb.order (m : Arb) (n : Nat) : Nat → Nat → List Nat → List Nat
  | 0, _, _ => []
  | fuel + 1, number, waiting =>
    match m.winner n number waiting with
    | none => []
    | some i => i :: (m.granted i).order n fuel (number + 1) (waiting.filter fun j => j != i)

/-- The requests raised in this cycle (R371); inputs 12 to 15 never request (R370). -/
def State.raiseMask (s : State) (raised : Nat) : State :=
  (List.range 12).foldl (fun (a : State) i => if raised.testBit i then a.portRaise i else a) s

/-- What the controller meets when it looks up the bitmap and the poison table for the requests of the port, where the byte
is uncorrectable: the 8 blocks of a bitmap byte count as written, the entry of a line is dropped (R359; log entry 11). -/
def State.lookup (s : State) (l : Lookup) : State :=
  let r := s.sramRead l.hit.group.toNat l.hit.row.toNat l.hit.byte.toNat
  let m := r.2.2.dram
  if r.1 ≠ .bad then r.2.2
  else if l.table then
    if 2 ≤ m.poison l.which then { r.2.2 with dram := m.setPoison l.which 1 } else r.2.2
  else
    let blocks := ((List.range 8).map fun i => 8 * (l.which % 65536) + i).filter fun b => m.never (1024 * b)
    { r.2.2 with dram := { m with written := blocks.foldl (fun w b => sput 0 w b 2) m.written } }

/-- The owner gives the port up: by a drop its request ends, after BURST requests a further one waits from now (R371). -/
def State.endGrant (s : State) (dropped : Bool) : State :=
  if s.arb.owner = 0 then s
  else
    let o := s.arb.owner - 1
    { s with arb := { s.arb.setInput o { s.arb.input o with req := !dropped, since := s.portTime } with owner := 0 } }

/-- One arbitration (R371 to R374): pending register writes take effect, turn estimates are formed, one input is granted. -/
def State.grantNext (s : State) : State :=
  let s1 := (List.range 12).foldl (fun (a : State) i => a.arbAdopt i) s
  let m := s1.arb
  let waiting := (List.range 12).filter fun i => (m.input i).req
  let n := s1.rf Reg.ARB_CTL 0 7
  let ord := m.order n 16 (m.number + 1) waiting
  let m1 := ord.zipIdx.foldl (fun (m : Arb) p => m.setInput p.1 { m.input p.1 with turn := min p.2 255 }) m
  match ord.head? with
  | none => { s1 with arb := m1 }
  | some i =>
    let fair := (m.number + 1) % n = 0 && m.byPrio waiting != some i
    let m2 : Arb := m1.setInput i { m1.input i with grants := (m1.input i).grants + 1, turn := 0 }
    let s2 : State := { s1 with arb := { m2.granted i with owner := i + 1, number := m2.number + 1 } }
    if fair then s2.bump Reg.ARB_FAIR else s2

/-- A grant ends once its owner drops its request or has issued BURST requests, and a new arbitration takes place in which
every request raised so far takes part (R371); until then the grant goes on. A command is a cycle of its own: what is
raised before it waits longer than what is raised in it, and that longer than what is raised after it. -/
def arbitrate (raised issued : Nat) (dropped : Bool) (found : List Lookup) (s : State) : State :=
  let s1 := (found.foldl State.lookup s).portTick
  let ended := s1.arb.owner = 0 ∨ dropped ∨ (s1.arb.input (s1.arb.owner - 1)).burst ≤ issued
  (if ended then ((s1.endGrant dropped).raiseMask raised).grantNext else s1.raiseMask raised).portTick

end Sys2Proof.Machine
end

