-- ==== Sys2Proof/Machine/HostOps.lean ====
section
/-!
DEFINITION. Sys2Proof/Machine/HostOps.lean: the PCIe function, BAR2, MSI-X, the descriptor rings and the channels
(chapter 13).
-/

namespace Sys2Proof.Machine

/-! ### MSI-X (R327, R331) -/

/-- The bits that four byte enables cover. -/
def beMask (be : BitVec 4) : Word :=
  pack ((List.range 4).map fun i => (8 * i, if be.getLsbD i then 255 else 0))

/-- Send what pends once nothing masks it any more (base specification, R331). -/
def State.msixFlush (s : State) : State :=
  s.link.pba.foldl
    (fun (a : State) p =>
      if !a.link.msixEn || a.link.fnMask || a.link.d3 || !a.busMaster || wbit (a.msixDw (4 * p.1 + 3)) 0 then a
      else ({ a with link := { a.link with pba := sput false a.link.pba p.1 false } } : State).sendVector p.1) s

/-- A BAR4 double word (R326): the table from 0x0000, the PBA from 0x2000, zero elsewhere. -/
def State.bar4Dw (s : State) (off : Nat) : Word :=
  if off < 0x800 then s.msixDw (off / 4)
  else if 0x2000 ≤ off ∧ off < 0x2010 then
    pack ((List.range 32).map fun j => (j, b2n (sget false s.link.pba (32 * ((off - 0x2000) / 4) + j))))
  else 0

/-- Write one double word of the MSI-X table. -/
def State.bar4Put (s : State) (off : Nat) (v : Word) : State :=
  if off < 0x800 then
    let i := off / 4
    let m : Word := if i % 4 = 0 then 0xFFFFFFFC else if i % 4 = 3 then 1 else 0xFFFFFFFF
    { s with link := { s.link with msixTab := sput (msixTabReset i) s.link.msixTab i (v &&& m) } }
  else s

/-- A BAR4 access of one or two aligned double words (R327). -/
def msixAct (write : Bool) (off : Nat) (dws : List Word) (s : State) : State :=
  if !s.memOn then s.hostMiss write
  else if write then (dws.zipIdx.foldl (fun (a : State) p => a.bar4Put (off + 4 * p.2) p.1) s).msixFlush
  else s.completes fun s => { s with bar4Data := (List.range dws.length).map fun i => s.bar4Dw (off + 4 * i) }

/-! ### BAR2 (R328, R329) -/

/-- The DRAM address of a BAR2 offset. -/
def State.bar2Addr (s : State) (off : Nat) : Nat := s.rf Reg.HOST_WIN 0 5 * 2 ^ 30 + off

/-- A request of BAR2 or DMA can be served: not in DEEP (R394), and once SRAM, which holds the never-written bitmap, the
poison table and the memory log, is zeroed (R357). -/
def State.dramOpen (s : State) : Bool := s.mainUp && s.rf Reg.CLK_PWR 0 2 != 2 && s.sram.zeroed

/-- Where the completion that starts at offset `o` of a read that ends before `fin` ends itself: at a boundary of 128 bytes
where the device splits, at the latest where Max_Payload_Size is reached (R329; base specification). -/
def cplEnd (mps o fin : Nat) : Nat :=
  let cuts := ((List.range (mps / 128)).map fun k => (o / 128 + k + 1) * 128).filter fun b => b ≤ o + mps
  min fin (((cuts.find? fun b => Config.splitsAt b).or cuts.getLast?).getD fin)

/-- The completions of a read from offset `o`, as first and last offset. -/
def completions (mps fin : Nat) : Nat → Nat → List (Nat × Nat)
  | 0, _ => []
  | fuel + 1, o => if fin ≤ o then [] else (o, cplEnd mps o fin) :: completions mps fin fuel (max (o + 1) (cplEnd mps o fin))

/-- A BAR2 read: the bytes, `none` for those of a completion with EP = 1, and BAR2_POISON (R329). -/
def State.bar2Read (s : State) (off addr len : Nat) : State :=
  let first := addr / 64
  let r := s.dramReadLines 9 first ((addr + len + 63) / 64 - first)
  let bytes := ((r.1.flatMap LineRead.bytes).drop (addr - 64 * first)).take len
  let bad := (r.1.zipIdx.filter fun p => !p.1.usable).map fun p => first + p.2
  let data := (completions s.maxPayload (off + len) len off).flatMap fun c =>
    let part := (bytes.drop (c.1 - off)).take (c.2 - c.1)
    if bad.any fun l => decide ((addr + (c.1 - off)) / 64 ≤ l) && decide (64 * l < addr + (c.2 - off)) then
      part.map fun _ => none
    else part.map some
  let s1 := r.2.completes fun s => { s with bar2Data := data }
  if bad.isEmpty then s1 else s1.raise Ev.HOST_BAR2_POISON (nfld off 16 16)

/-- Serve a BAR2 request. -/
def State.bar2Serve (s : State) : Bar2Req → State
  | .read off addr len => s.bar2Read off addr len
  | .write addr bytes => s.dramWrite 9 addr bytes

/-- A BAR2 request arrives; in DEEP and before ZEROED it waits behind those before it (R357, R394). -/
def bar2Act (q : Bar2Req) (s : State) : State :=
  if !s.mainUp then s
  else if !s.memOn then s.hostMiss (match q with
    | .read _ _ _ => false
    | .write _ _ => true)
  else if s.dramOpen && s.bar2Wait.isEmpty then s.bar2Serve q
  else { s with bar2Wait := s.bar2Wait ++ [q] }

/-- Serve the requests that waited, once they can be served (R357, R394). -/
def State.bar2Flush (s : State) : State :=
  if s.dramOpen then s.bar2Wait.foldl (fun (a : State) q => a.bar2Serve q) { s with bar2Wait := [] } else s

/-- A BAR2 read of `len` bytes (R329). -/
def bar2ReadAct (off len : Nat) (s : State) : State := bar2Act (.read off (s.bar2Addr off) len) s

/-- A BAR2 write; `none` marks a byte that is not enabled (R329). -/
def bar2WriteAct (off : Nat) (bytes : List (Option Byte)) (s : State) : State :=
  bar2Act (.write (s.bar2Addr off) bytes) s

/-- HOST_WIN (R328). -/
def hostWinAct (v : Word) (s : State) : State :=
  if 28 < fld v 0 5 then s.raise Ev.HOST_CFG_REFUSED (offDetail Reg.HOST_WIN) else s.writeRw Reg.HOST_WIN v

/-! ### Rings (R334 to R347) -/

def Ring.reset : Ring := ⟨0, false, 0, 0, 0, 0, false, 0, 0, [], 0, [], false, 0⟩

def State.ring (s : State) (i : Nat) : Ring := sget Ring.reset s.rings i

def State.setRing (s : State) (i : Nat) (r : Ring) : State := { s with rings := sput Ring.reset s.rings i r }

def Chan.reset : Chan := ⟨0, []⟩

def State.chan (s : State) (i : Nat) : Chan := sget Chan.reset s.chans i

def State.setChan (s : State) (i : Nat) (c : Chan) : State := { s with chans := sput Chan.reset s.chans i c }

/-- RINGi_CFG. -/
def State.ringCfg (s : State) (i : Nat) : Word := s.reg (Reg.RING_CFG + 32 * i)

/-- RINGi_BASE. -/
def State.ringBase (s : State) (i : Nat) : Nat :=
  (s.reg (Reg.RING_BASE_LO + 32 * i)).toNat + 2 ^ 32 * (s.reg (Reg.RING_BASE_HI + 32 * i)).toNat

/-- The ring is between descriptors and may be configured or started (R350, R339). -/
def Ring.free (r : Ring) : Bool := r.st == 0 || r.st == 1 || r.st == 5

/-- The slot after `s` (R334). -/
def nextSlot (sizeLog2 slot : Nat) : Nat := (slot + 1) % 2 ^ sizeLog2

/-- The ring array would end at or above 2⁶⁴ (R350). -/
def arrayTooHigh (base sizeLog2 : Nat) : Bool := 2 ^ 64 ≤ base + 64 * 2 ^ sizeLog2

/-- A write of RINGi_BASE_LO (0), RINGi_BASE_HI (1) or RINGi_CFG (2) (R335, R350). -/
def ringCfgAct (i reg : Nat) (v : Word) (s : State) : State :=
  let off := (if reg = 0 then Reg.RING_BASE_LO else if reg = 1 then Reg.RING_BASE_HI else Reg.RING_CFG) + 32 * i
  let r := s.ring i
  let s1 := s.writeRw off v
  let size := fld (s1.ringCfg i) 16 5
  if !r.free || size < 4 || 16 < size || arrayTooHigh (s1.ringBase i) size then
    s.raise Ev.DMA_CFG_REFUSED (offDetail off)
  else if reg = 2 then
    let st := if wbit v 31 then (if r.st = 0 then 1 else r.st) else 0
    s1.setRing i { r with st := st }
  else s1

/-- DMA_FAIR (R350). -/
def dmaFairAct (v : Word) (s : State) : State :=
  let n := fld v 0 7
  if n = 1 ∨ 64 < n then s.raise Ev.DMA_CFG_REFUSED (offDetail Reg.DMA_FAIR) else s.writeRw Reg.DMA_FAIR v

/-- A field of a descriptor word. -/
def dw (d : List Nat) (i lo n : Nat) : Nat := nfld (d.getD i 0) lo n

/-- The reserved bits of a descriptor are zero (R340 to R343). `used i` gives the used bits of word `i` for its TYPE;
word 14 is not checked. -/
def descReservedZero (d : List Nat) : Bool :=
  let used (i : Nat) : Nat :=
    match dw d 0 24 4, i with
    | 1, 0 => 0xFF03FFFF
    | _, 0 => 0xFF00FFFF
    | 1, 2 | 1, 3 | 1, 5 | 1, 8 | 1, 9 | 1, 11 => 0xFFFFFFFF
    | 1, 4 | 1, 6 | 1, 10 | 1, 12 => 0x00FFFFFF
    | 2, 1 => 0x3F
    | 2, 2 => 0xFFFFFFFF
    | 2, 3 => 0x00FFFFFF
    | _, _ => 0
  (List.range 16).all fun i => i == 14 || (d.getD i 0 &&& used i) == d.getD i 0 % 2 ^ 32

/-- One side of a COPY (R341). -/
structure Side where
  dev : Bool
  addr : Nat
  len : Nat
  stride : Nat
  count : Nat
  deriving DecidableEq, Repr

def srcSide (d : List Nat) : Side :=
  ⟨dw d 0 16 1 == 1, d.getD 2 0 + 2 ^ 32 * d.getD 3 0, dw d 4 0 24, d.getD 5 0, dw d 6 0 24⟩

def dstSide (d : List Nat) : Side :=
  ⟨dw d 0 17 1 == 1, d.getD 8 0 + 2 ^ 32 * d.getD 9 0, dw d 10 0 24, d.getD 11 0, dw d 12 0 24⟩

/-- The end of a side (R342 check 5). -/
def sideEnd (x : Side) : Nat := x.addr + (x.count - 1) * x.stride + x.len

/-- The checks of R342 and R343 on a fetched descriptor of ring `i`: the code of the first that fails, or 0. -/
def descCheck (i : Nat) (d : List Nat) : Nat :=
  let ty := dw d 0 24 4
  let a := srcSide d
  let b := dstSide d
  let al (x : Side) : Bool := x.addr % 64 == 0 && x.len % 64 == 0 && x.stride % 64 == 0
  let fits (x : Side) : Bool := if x.dev then sideEnd x < 2 ^ 35 else sideEnd x < 2 ^ 64
  if 2 < ty then 1
  else if !descReservedZero d then 2
  else if ty = 1 && !a.dev && !b.dev then 2
  else if ty = 2 && (dw d 1 0 6 == i || dw d 3 0 24 == 0) then 2
  else if ty ≠ 1 then 0
  else if !al a || !al b then 3
  else if a.len = 0 || b.len = 0 || a.count = 0 || b.count = 0 || a.len * a.count ≠ b.len * b.count then 4
  else if !fits a || !fits b then 5
  else 0

/-- The condition of a WAIT on counter value `evt` (R343). -/
def waitHolds (evt value : Nat) : Bool := (evt + 2 ^ 32 - value % 2 ^ 32) % 2 ^ 32 < 2 ^ 31

/-- The ring gives up its descriptor: what arrives later for the reads outstanding is discarded (R332, R347). -/
def Ring.giveUp (r : Ring) : Ring :=
  { r with late := r.late + r.open, fetch := false, reread := 0, desc := [], moved := 0, bursts := [], stopReq := false }

/-- The address of slot `slot` of ring `i` (R334). -/
def State.slotAddr (s : State) (i slot : Nat) : Nat := s.ringBase i + 64 * slot

/-- Fetch a descriptor: ring `i` is RUNNING at `slot`, and the read goes out with Relaxed Ordering 0 and No Snoop 0
(R334, R335, R338). -/
def State.fetchSlot (s : State) (i slot : Nat) : State :=
  (s.setRing i { s.ring i with st := 2, slot := slot, fetch := true }).emit
    (.hostRead i (s.slotAddr i slot) 64 false false)

/-- Re-read word 0 of the slot of a parked ring, with both attributes 0 (R338, R345, R346). -/
def State.rereadSlot (s : State) (i : Nat) : State :=
  let r := s.ring i
  (s.setRing i { r with reread := r.reread + 1 }).emit (.hostRead i (s.slotAddr i r.slot) 4 false false)

/-- Write STATUS back if WB = 1 (R340, R344): one DW write to word 14, with No Snoop and Relaxed Ordering 0. -/
def State.writeBack (s : State) (i code : Nat) : State :=
  let r := s.ring i
  if dw r.desc 0 29 1 = 1 then
    let v := 2 ^ 31 + code * 2 ^ 24 + dw r.desc 0 0 16
    s.emit (.hostWrite i (s.slotAddr i r.slot + 56) (leBytes 4 v) false false)
  else s

/-- A ring enters ERROR with a code (R347). `wb` says whether STATUS may be written. -/
def State.ringError (s : State) (i code : Nat) (wb : Bool) : State :=
  let r := s.ring i
  let s1 := if wb then s.writeBack i code else s
  let s2 := s1.setRing i { r.giveUp with st := 5, errCode := code, errSlot := r.slot }
  let s3 := s2.sendVector i
  let s4 := if wbit (s3.reg Reg.DMA_ERR_INFO) 31 then s3
    else s3.setReg Reg.DMA_ERR_INFO (pack [(31, 1), (24, i), (20, code), (0, r.slot)])
  s4.raise Ev.DMA_RING_ERROR (i * 256 + code)

/-- After a completion the ring parks or fetches the next slot; a parked ring with a pending doorbell re-reads at once
(R344 step 4, R346). -/
def State.ringAdvance (s : State) (i : Nat) : State :=
  let r := s.ring i
  let base := r.giveUp
  if r.stopReq then s.setRing i { base with st := 1 }
  else if dw r.desc 0 31 1 = 1 then
    let s1 := s.setRing i { base with st := 3, dbPend := false }
    if r.dbPend then s1.rereadSlot i else s1
  else (s.setRing i base).fetchSlot i (nextSlot (fld (s.ringCfg i) 16 5) r.slot)

/-- Add 1 to RINGi_EVT, without its effect on WAITs (R344 step 1). -/
def State.addEvt (s : State) (i : Nat) : State :=
  let r := s.ring i
  { s.setRing i { r with evt := (r.evt + 1) % 2 ^ 32 } with cyc := { s.cyc with incsNow := i :: s.cyc.incsNow } }

/-- A descriptor completes with OK (R344). -/
def State.descDone (s : State) (i : Nat) : State :=
  let r := s.ring i
  let s1 := if dw r.desc 0 28 1 = 1 then s.addEvt i else s
  let s2 := s1.writeBack i 0
  let s3 := if dw r.desc 0 30 1 = 1 then s2.sendVector i else s2
  s3.ringAdvance i

/-- The first waiting ring whose condition holds. -/
def State.satisfied (s : State) : Option Nat :=
  (List.range 64).find? fun k =>
    let r := s.ring k
    r.st == 4 && waitHolds (s.ring (dw r.desc 1 0 6)).evt (r.desc.getD 2 0)

/-- Complete every WAIT whose condition holds, until none is left (R343): at most one per ring. -/
def State.wakeWaits (s : State) : Nat → State
  | 0 => s
  | n + 1 =>
    match s.satisfied with
    | none => s
    | some k => (s.descDone k).wakeWaits n

/-- RINGi_CMD START (R339). -/
def ringStartAct (i slot : Nat) (s : State) : State :=
  let r := s.ring i
  if (r.st ≠ 1 ∧ r.st ≠ 5) ∨ 2 ^ fld (s.ringCfg i) 16 5 ≤ slot then s.raise Ev.DMA_IGNORED i
  else
    (s.setRing i { r.giveUp with errCode := 0, errSlot := 0 }).fetchSlot i slot

/-- End the descriptor in progress with STOPPED, honouring WB and IRQ (R339). -/
def State.endStopped (s : State) (i : Nat) : State :=
  let r := s.ring i
  let s1 := if r.desc.isEmpty then s else s.writeBack i 9
  let s2 := if dw r.desc 0 30 1 = 1 then s1.sendVector i else s1
  s2.setRing i { r.giveUp with st := 1 }

/-- The effect of a STOP on ring `i` in a state that allows it: at once, or after the bursts under way (R339). -/
def State.stopRing (s : State) (i : Nat) : State :=
  let r := s.ring i
  if r.st = 3 then s.setRing i { r.giveUp with st := 1 }
  else if r.st = 2 && !r.bursts.isEmpty then s.setRing i { r with stopReq := true }
  else s.endStopped i

/-- RINGi_CMD STOP (R339). -/
def ringStopAct (i : Nat) (s : State) : State :=
  let r := s.ring i
  if r.st = 2 ∨ r.st = 3 ∨ r.st = 4 then s.stopRing i else s.raise Ev.DMA_IGNORED i

/-- A write of RINGi_CMD by its OP (R350). -/
def ringCmdAct (i : Nat) (v : Word) (s : State) : State :=
  match fld v 30 2 with
  | 1 => ringStartAct i (fld v 0 16) s
  | 2 => ringStopAct i s
  | _ => s.raise Ev.DMA_IGNORED i

/-- A doorbell (R346). -/
def doorbellAct (i : Nat) (s : State) : State :=
  let r := s.ring i
  if r.st = 3 then s.rereadSlot i
  else if r.st = 2 ∨ r.st = 4 then s.setRing i { r with dbPend := true }
  else s

/-- A write of RINGi_EVT: the value, the increments of its cycle, which follow it, then every WAIT on it (R343, R344). -/
def ringEvtAct (t : Tie) (i : Nat) (v : Word) (s : State) : State :=
  let n := if t.inDevice then s.cyc.incs.count i else 0
  (s.setRing i { s.ring i with evt := (v.toNat + n) % 2 ^ 32 }).wakeWaits 64

/-- Whether a completion ends a read with HOST_FAULT (R347). -/
def cplFails (c : Cpl) : Bool := c != .ok

/-- A poisoned packet is received: AER, and Detected Parity Error (R323, R324). -/
def State.poisonSeen (s : State) (hdr : List Word) : State :=
  let s1 := s.aerReport 12 hdr
  s1.setCfg Cfg.command (setBit (s1.cfg Cfg.command) 31 true)

/-- What the configuration space shows of the completion of a device read: Received Master Abort, Received Target Abort, or a
Poisoned TLP, with Master Data Parity Error where Parity Error Response is 1 (R323, R347; base specification, log entry 13). -/
def State.cplNoted (s : State) : Cpl → State
  | .ok | .ecrc => s
  | .ur => s.setCfg Cfg.command (setBit (s.cfg Cfg.command) 29 true)
  | .ca => s.setCfg Cfg.command (setBit (s.cfg Cfg.command) 28 true)
  | .ep =>
    let s1 := s.drawHdr.poisonSeen s.freeHdr
    if s1.cfgBit Cfg.command 6 then s1.setCfg Cfg.command (setBit (s1.cfg Cfg.command) 24 true) else s1

/-- A packet with a wrong digest is discarded and reported through AER as an ECRC Error (R323; base specification, log entry
13). -/
def State.ecrcSeen (s : State) (hdr : List Word) : State := s.aerReport 19 hdr

/-- A completion arrives: one with a wrong digest is discarded while ECRC checking is enabled, and its read stays outstanding;
without checking it is like any other (R323). -/
def cplTaken (f : Cpl → State → State) (st : Cpl) (s : State) : State :=
  if st ≠ .ecrc then f st s
  else if s.checksEcrc then s.drawHdr.ecrcSeen s.freeHdr
  else f .ok s

/-- A read that was given up ends: what it brings is discarded (R332, R347). -/
def State.lateEnds (s : State) (i : Nat) (st : Cpl) : State :=
  let r := s.ring i
  if r.late = 0 then s else (s.setRing i { r with late := r.late - 1 }).cplNoted st

/-- The SRAM bytes with errors that an operation of the host interface meets: whether one is uncorrectable. -/
def State.hostHits (s : State) : List SramHit → Bool × State
  | [] => (false, s)
  | h :: hs =>
    let r := s.sramRead h.group.toNat h.row.toNat h.byte.toNat
    let rest := r.2.2.hostHits hs
    (r.1 == .bad || rest.1, rest.2)

/-- A descriptor fetch ends (R342, R343, R347); none is under way before ZEROED (R357). A copy with an uncorrectable byte is
discarded and fetched again (R359). -/
def descriptorFetchAct (i : Nat) (late : Bool) (st : Cpl) (words : List Word) (hits : List SramHit) (s00 : State) : State :=
  let h := s00.hostHits hits
  let s := h.2
  let r := s.ring i
  if !s00.sram.zeroed then s00
  else if late then s.lateEnds i st
  else if !(r.st == 2 && r.fetch) then s
  else if cplFails st then ((s.setRing i { r with fetch := false }).cplNoted st).ringError i 7 false
  else if h.1 then s.fetchSlot i r.slot
  else
    let d := words.map BitVec.toNat
    let code := descCheck i d
    let s1 := (s.setRing i { r with fetch := false, desc := d, moved := 0, bursts := [] }).rewrites 5
    if code ≠ 0 then s1.ringError i code true
    else if dw d 0 24 4 = 1 then s1
    else if dw d 0 24 4 = 2 && !waitHolds (s1.ring (dw d 1 0 6)).evt (d.getD 2 0) then
      s1.setRing i { s1.ring i with st := 4 }
    else (s1.descDone i).wakeWaits 64

/-- A re-read of word 0 of the parked slot ends (R345, R347). -/
def parkRereadAct (i : Nat) (late : Bool) (st : Cpl) (w0 : Word) (s : State) : State :=
  let r := s.ring i
  let r1 : Ring := { r with reread := r.reread - 1 }
  if late then s.lateEnds i st
  else if r.st ≠ 3 || r.reread = 0 then s
  else if cplFails st then ((s.setRing i r1).cplNoted st).ringError i 7 false
  else if wbit w0 31 then s.setRing i r1
  else (s.setRing i r1.giveUp).fetchSlot i (nextSlot (fld (s.ringCfg i) 16 5) r.slot)

/-- The address of byte `p` of the stream on a side (R341). -/
def sideAddr (x : Side) (p : Nat) : Nat := x.addr + p / x.len * x.stride + p % x.len

/-- Bytes from an address to the next 4 KiB boundary of the host. -/
def toPage (addr : Nat) : Nat := 4096 - addr % 4096

/-- The length of the burst that starts at stream position `p` (R337). -/
def burstLen (a b : Side) (p : Nat) : Nat :=
  let n := min 4096 (min (a.len - p % a.len) (b.len - p % b.len))
  let n := if a.dev then n else min n (toPage (sideAddr a p))
  if b.dev then n else min n (toPage (sideAddr b p))

/-- The bytes that a COPY moves. -/
def copyTotal (d : List Nat) : Nat := (srcSide d).len * (srcSide d).count

/-- Ring `i` is RUNNING with a COPY in progress that has bytes left. -/
def State.hasBurst (s : State) (i : Nat) : Bool :=
  let r := s.ring i
  r.st == 2 && !r.fetch && !r.stopReq && dw r.desc 0 24 4 == 1 && r.moved < copyTotal r.desc

/-- Rings in ascending order after ring `i − 1`, with wrap. -/
def ringsAfter (i : Nat) : List Nat := (List.range 64).map fun k => (i + k) % 64

/-- The ring a channel serves next (R337): by priority and turn, or every N-th burst the longest wait. -/
def State.chooseRing (s : State) (chan : Nat) : Option Nat :=
  let cand := (List.range 64).filter fun i => fld (s.ringCfg i) 0 4 == chan && s.hasBurst i
  let n := s.rf Reg.DMA_FAIR 0 7
  if n ≠ 0 ∧ ((s.chan chan).count + 1) % n = 0 then leastBy (fun i => (s.ring i).lastBurst) cand
  else
    let top := cand.foldl (fun a i => max a (fld (s.ringCfg i) 8 3)) 0
    (ringsAfter (sget 0 (s.chan chan).last top)).find? fun i => cand.contains i && fld (s.ringCfg i) 8 3 == top

/-- Deliver the bytes of a burst to the destination (R337, R338, R341), and count them. -/
def State.deliver (s : State) (i pos : Nat) (bytes : List Byte) : State :=
  let d := (s.ring i).desc
  let a := srcSide d
  let b := dstSide d
  let dst := sideAddr b pos
  let s1 := if b.dev then s.dramPut 8 dst bytes
    else
      (pieces s.maxPayload bytes.length).foldl
        (fun (t : State) p =>
          t.emit (.hostWrite i (dst + p.1) ((bytes.drop p.1).take p.2) (wbit (s.ringCfg i) 25) (wbit (s.ringCfg i) 24))) s
  let cnt := if a.dev && b.dev then Reg.DMA_D2D else if b.dev then Reg.DMA_H2D else Reg.DMA_D2H
  s1.addCnt cnt (bytes.length / 64)

/-- The read requests of a burst (R337). -/
def State.burstReqs (s : State) (pos n : Nat) : List Req := (pieces s.maxRead n).map fun p => ⟨pos + p.1, p.2, []⟩

/-- A channel starts a burst (R337). A DRAM source is read at once; a host source leaves its reads outstanding. It does not
start while DRAM is closed in DEEP (R394), nor while reads are outstanding and its own would leave fewer than 64 tags for the
rings' fetches and re-reads (R323; log entry 51). -/
def dmaBurstAct (chan : Nat) (s : State) : State :=
  match s.chooseRing chan with
  | none => s
  | some i =>
    let r := s.ring i
    let a := srcSide r.desc
    let b := dstSide r.desc
    let n := burstLen a b r.moved
    let reqs := s.burstReqs r.moved n
    if !s.dramOpen || (!a.dev && decide (0 < s.readsOpen ∧ s.maxReads < s.readsOpen + reqs.length + 64)) then s
    else
      let c := s.chan chan
      let s1 : State := { s with burstNo := s.burstNo + 1 }
      let s2 := s1.setChan chan ⟨c.count + 1, sput 0 c.last (fld (s.ringCfg i) 8 3) (i + 1)⟩
      let r1 : Ring := { r with moved := r.moved + n, lastBurst := s1.burstNo }
      if a.dev then
        let got := (s2.setRing i r1).dramRead 8 (sideAddr a r.moved) n
        match got.1 with
        | none => got.2.ringError i 8 true
        | some bytes => got.2.deliver i r.moved bytes
      else
        reqs.foldl
          (fun (t : State) q => t.emit (.hostRead i (sideAddr a r.moved + (q.pos - r.moved)) q.len false (wbit (s.ringCfg i) 24)))
          (s2.setRing i { r1 with bursts := r1.bursts ++ [⟨r.moved, reqs, false⟩] })

/-- All bytes of a burst have arrived. -/
def Burst.full (b : Burst) : Bool := b.reqs.all fun q => q.len ≤ q.got.length

/-- The bursts at the front that are complete go to the destination, in the order of the stream (R341); at one that has met
a fault the descriptor fails, and earlier bursts stay written (R347; log entry 49). In DEEP data for DRAM wait (R394). -/
def State.drain (s : State) (i : Nat) : Nat → State
  | 0 => s
  | n + 1 =>
    let r := s.ring i
    match r.bursts with
    | [] => if r.stopReq then s.endStopped i else s
    | b :: bs =>
      if b.bad then s.ringError i 7 true
      else if !b.full || ((dstSide r.desc).dev && !s.dramOpen) then s
      else ((s.deliver i b.pos (b.reqs.flatMap Req.got)).setRing i { r with bursts := bs }).drain i n

/-- Bring the bursts of ring `i` up to date. -/
def State.drainRing (s : State) (i : Nat) : State := s.drain i ((s.ring i).bursts.length + 1)

/-- Data that waited for DRAM goes to it once DEEP is left (R394). -/
def State.dmaFlush (s : State) : State :=
  if s.dramOpen then
    (s.rings.filter fun p => !p.2.bursts.isEmpty).foldl (fun (a : State) p => a.drainRing p.1) s
  else s

/-- Change the request of ring `i` at stream position `pos`; `bad` marks its burst as failed. -/
def Ring.onReq (r : Ring) (pos : Nat) (bad : Bool) (f : Req → Req) : Ring :=
  { r with
    bursts := lupd (fun b => b.reqs.any fun q => q.pos == pos)
      (fun b => { b with reqs := lupd (fun q => q.pos == pos) f b.reqs, bad := b.bad || bad }) r.bursts }

/-- A request that has ended. -/
def Req.ended (q : Req) : Req := { q with got := List.replicate q.len 0 }

/-- The ring has an outstanding request at a stream position. -/
def Ring.awaits (r : Ring) (pos : Nat) : Bool :=
  r.bursts.any fun b => b.reqs.any fun q => q.pos == pos && decide (q.got.length < q.len)

/-- A completion for the host read of a COPY at stream position `pos` arrives, or the last one for a read that was given up
(R347). -/
def hostCompletionAct (i : Nat) (late : Bool) (pos : Nat) (st : Cpl) (data : List Byte) (s : State) : State :=
  let r := s.ring i
  if late then s.lateEnds i st
  else if !r.awaits pos then s
  else if cplFails st then ((s.setRing i (r.onReq pos true Req.ended)).cplNoted st).drainRing i
  else (s.setRing i (r.onReq pos false fun q => { q with got := (q.got ++ data).take q.len })).drainRing i

/-- A COPY whose bytes have all been moved, and whose host writes have all been issued, completes (R336, R344). -/
def descriptorCompleteAct (i : Nat) (s : State) : State :=
  let r := s.ring i
  if r.st = 2 && !r.fetch && dw r.desc 0 24 4 = 1 && copyTotal r.desc ≤ r.moved && r.bursts.isEmpty &&
      !s.link.held.any (Tlp.writesFor i) then
    (s.descDone i).wakeWaits 64
  else s

/-- A WAIT's timeout runs out (R343): a condition that holds in the same cycle wins. -/
def waitTimeoutAct (i : Nat) (s : State) : State :=
  let r := s.ring i
  if r.st ≠ 4 then s
  else if waitHolds (s.ring (dw r.desc 1 0 6)).evt (r.desc.getD 2 0) then (s.descDone i).wakeWaits 64
  else s.ringError i 6 true

/-- A completion timeout is counted and reported through AER (R323, R347). -/
def State.timedOut (s : State) : State := (s.drawHdr.aerReport 14 s.freeHdr).bump Reg.HOST_CPL_TMO

/-- A device read of ring `i` completes with a completion timeout (R347): one that was given up, that of data at stream
position `pos`, or the fetch or re-read. None does while Completion Timeout Disable is 1 (R323). -/
def hostCplTmoAct (i : Nat) (late : Bool) (pos : Option Nat) (s : State) : State :=
  let r := s.ring i
  let s1 := s.timedOut
  if s.cfgBit Cfg.devCtl2 4 then s
  else match late, pos with
  | true, _ => if r.late = 0 then s else s1.lateEnds i .ok
  | false, some p => if r.awaits p then (s1.setRing i (r.onReq p true Req.ended)).drainRing i else s
  | false, none =>
    if r.fetch then (s1.setRing i { r with fetch := false }).ringError i 7 false
    else if 0 < r.reread then (s1.setRing i { r with reread := r.reread - 1 }).ringError i 7 false
    else s

/-- DMA_ERR_INFO.VALID, W1C. -/
def dmaErrInfoAct (v : Word) (s : State) : State :=
  if wbit v 31 then s.setReg Reg.DMA_ERR_INFO 0 else s

/-! ### Function resets and power states (R332, R333) -/

/-- Drop the registers of a page and its header: back to their reset values (R432). -/
def State.resetPage (s : State) (p : Nat) : State :=
  { s with regs := skeep (fun k => k / 0x1000 != p) s.regs, hdrs := skeep (fun k => k != p) s.hdrs }

/-- The function and the DMA page as a Function reset leaves them (R332). -/
def State.functionReset (s : State) : State :=
  let s1 := s.resetPage 3
  let s2 : State :=
    { s1 with
      rings := [], chans := [], burstNo := 0,
      bar2Wait := s1.bar2Wait.filter fun q => match q with
        | .read _ _ _ => false
        | .write _ _ => true,
      link := { s1.link with d3 := false, msixEn := false, fnMask := false, cfg := [], msixTab := [], pba := [], held := [] } }
  (s2.setReg Reg.HOST_WIN 0).bump Reg.HOST_RESETS

/-- An FLR (R332). -/
def flrAct (s : State) : State := s.functionReset.raise Ev.HOST_FLR 0

/-- A hot reset or DL_Down (R332). -/
def linkDownAct (s : State) : State :=
  let s1 := s.functionReset
  ({ s1 with link := { s1.link with up := false, speed := 0, width := 0 } } : State).raise Ev.HOST_LINK_DOWN 0

/-- The data link comes up (R349). -/
def linkUpAct (speed width : Nat) (s : State) : State :=
  let s1 : State := { s with link := { s.link with up := true, speed := speed, width := width } }
  let s2 := s1.raise Ev.HOST_LINK_UP (speed * 256 + width)
  if speed < 3 then s2.raise Ev.HOST_LINK_SLOW speed else s2

/-- Entry to D3hot (R333): messages pend, and every active ring stops as for a STOP. -/
def d3Act (s : State) : State :=
  (List.range 64).foldl
    (fun (a : State) i =>
      let r := a.ring i
      if r.st = 2 ∨ r.st = 3 ∨ r.st = 4 then a.stopRing i else a) { s with link := { s.link with d3 := true } }

/-- Return to D0 (R333): every ring that was still stopping has ended and is IDLE, with its configuration kept. -/
def d0Act (s : State) : State :=
  let s1 := (List.range 64).foldl
    (fun (a : State) i => if (a.ring i).stopReq then a.endStopped i else a) { s with link := { s.link with d3 := false } }
  s1.msixFlush

/-- Requests that waited for Bus Master Enable go out once it is set, and messages that pend behind them. -/
def State.busFlush (s : State) : State := s.issueHeld.msixFlush

/-- A poisoned write is dropped (R324): reported through AER as a Poisoned TLP Received, counted, raised. -/
def poisonRxAct (hdr : List Word) (s : State) : State :=
  ((s.poisonSeen hdr).bump Reg.HOST_POISON_RX).raise Ev.HOST_POISON_RX 0

/-- The kinds of requests that have no completion. -/
def unsupportedPosted : Unsupported → Bool
  | .memWrite | .atWrite | .vdm0 | .vdm1 | .ecrc => true
  | _ => false

/-- An unsupported request (R324): answered with Unsupported Request, but for a Type 1 vendor-defined message. A request with
a wrong digest is discarded and reported while ECRC checking is enabled; without checking it does what the row of the request
does (R323; log entry 13). -/
def unsupportedAct (kind : Unsupported) (hdr : List Word) (s : State) : State :=
  match kind with
  | .vdm1 => s
  | .ecrc => if s.checksEcrc then s.ecrcSeen hdr else s
  | _ => s.hostUr (unsupportedPosted kind) hdr

/-! ### Configuration requests (R323) -/

/-- A double word of configuration space as a configuration read returns it: the stored one with the power state, the MSI-X
controls, the link speed and width, and whether reads are outstanding. -/
def State.cfgRead (s : State) (dw : Nat) : Word :=
  let v := s.cfg dw
  if dw = Cfg.pmcsr then setFld v 0 2 (if s.link.d3 then 3 else 0)
  else if dw = Cfg.msix then setFld (setFld v 31 1 (b2n s.link.msixEn)) 30 1 (b2n s.link.fnMask)
  else if dw = Cfg.devCtl then setBit v 21 (decide (0 < s.readsOpen))
  else if dw = Cfg.linkCtl then setFld (setFld v 16 4 s.link.speed) 20 6 s.link.width
  else v

/-- What a write of configuration space does beside its bits: MSI-X controls, the requests that waited for Bus Master
Enable, an FLR, and the power states D0 and D3hot. -/
def State.cfgEffect (s : State) (dw : Nat) (v : Word) (be : BitVec 4) : State :=
  if dw = Cfg.msix then
    ({ s with link := { s.link with msixEn := wbit (s.cfg dw) 31, fnMask := wbit (s.cfg dw) 30 } } : State).msixFlush
  else if dw = Cfg.command then s.busFlush
  else if dw = Cfg.devCtl then if wbit v 15 && be.getLsbD 1 then flrAct s else s
  else if dw = Cfg.pmcsr then
    if !be.getLsbD 0 then s
    else if fld v 0 2 = 3 then (if s.link.d3 then s else d3Act s)
    else if fld v 0 2 = 0 then (if s.link.d3 then d0Act s else s)
    else s
  else s

/-- A Type 0 configuration request. A read returns the double word; a write changes its writable bits and clears its W1C bits
under the byte enables. -/
def configAct (write : Bool) (dw : Nat) (v : Word) (be : BitVec 4) (s : State) : State :=
  if !write then s.completes fun s => { s with cfgData := s.cfgRead dw }
  else
    let m := cfgMask dw &&& beMask be
    let w := ((v &&& m) ||| (s.cfg dw &&& ~~~ m)) &&& ~~~ (v &&& cfgW1c dw &&& beMask be)
    (s.setCfg dw w).cfgEffect dw v be

end Sys2Proof.Machine
end

