-- ==== Sys2Proof/Machine/Raster.lean ====
section
/-!
DEFINITION. Sys2Proof/Machine/Raster.lean: the coordinate transform, sampling and accumulation (R101 to R114), as pure
functions of the tile, the geometry region and the transform table.
-/

namespace Sys2Proof.Machine

/-- The transform table (R103): YC, SY and ten coefficients per axis. -/
structure Xform where
  sy : Nat
  yc : Int
  cx : List Int
  cy : List Int
  deriving DecidableEq, Repr

/-- Word at a byte offset of a table held as bytes. -/
def tabWord (t : List Byte) (o : Nat) : Nat := leNat ((t.drop o).take 4)

/-- Halfword at a byte offset of a table. -/
def tabHalf (t : List Byte) (o : Nat) : Nat := leNat ((t.drop o).take 2)

/-- Read the transform table (R103). -/
def xformOf (t : List Byte) : Xform :=
  ⟨nfld (tabWord t 0) 8 5, sext 32 (tabWord t 4), (List.range 10).map fun i => sext 32 (tabWord t (8 + 4 * i)),
    (List.range 10).map fun i => sext 32 (tabWord t (0x30 + 4 * i))⟩

/-- Absolute value of an integer. -/
def iabs (v : Int) : Int := if v < 0 then -v else v

/-- The checks of R106 on the transform table of a stripe of `bands` bands. -/
def xformOk (bands : Nat) (t : List Byte) : Bool :=
  let x := xformOf t
  let s : Int := 2 ^ x.sy
  let l : Int := 256 * (256 * bands)
  nfld (tabWord t 0) 0 8 == 1 && nfld (tabWord t 0) 13 19 == 0 &&
    ((List.range 10).all fun i => tabWord t (0x58 + 4 * i) == 0) &&
    16 ≤ x.sy && decide (iabs x.yc ≤ s) && decide (iabs (l - x.yc) ≤ s) &&
    decide ((x.cx.map iabs).sum ≤ 2 ^ 29) && decide ((x.cy.map iabs).sum ≤ 2 ^ 29)

/-- The ten terms of R104 at a vertex. -/
def xformTerms (x : Xform) (p : Pt) : List Int :=
  let q (v : Int) : Int := v / 2 ^ 30
  let u := (p.x - 1048576) * 2 ^ 10
  let v := (p.y - x.yc) * 2 ^ 30 / 2 ^ x.sy
  let uu := q (u * u)
  let uv := q (u * v)
  let vv := q (v * v)
  [2 ^ 30, u, v, uu, uv, vv, q (uu * u), q (uu * v), q (u * vv), q (vv * v)]

/-- The displacement of a vertex on one axis (R104). -/
def xformShift (cs ts : List Int) : Int := (((cs.zip ts).map fun p => p.1 * p.2).sum + 2 ^ 45) / 2 ^ 46

/-- The transformed vertex (R104). -/
def xform (x : Xform) (p : Pt) : Pt :=
  let ts := xformTerms x p
  ⟨p.x + xformShift x.cx ts, p.y + xformShift x.cy ts⟩

/-- An edge is inclusive (R110). -/
def edgeInclusive (a b : Pt) : Bool := decide (b.y < a.y) || (decide (b.y = a.y) && decide (a.x < b.x))

/-- The sample `p` is on the inner side of the edge from `a` to `b` (R110). -/
def edgeIn (a b p : Pt) : Bool :=
  let e := (b.x - a.x) * (p.y - a.y) - (b.y - a.y) * (p.x - a.x)
  decide (0 < e) || (decide (e = 0) && edgeInclusive a b)

/-- The sample lies inside the triangle, whose orientation must be positive (R108, R110). -/
def inTriangle (t : Pt × Pt × Pt) (p : Pt) : Bool :=
  decide (0 < orient t.1 t.2.1 t.2.2) && edgeIn t.1 t.2.1 p && edgeIn t.2.1 t.2.2 p && edgeIn t.2.2 t.1 p

/-- The bounding box of a vertex list: least x, least y, greatest x, greatest y. -/
def bbox (l : List Pt) : Int × Int × Int × Int :=
  (minOf (l.map Pt.x), minOf (l.map Pt.y), maxOf (l.map Pt.x), maxOf (l.map Pt.y))

/-- The samples of pixel (`x`, `y`) inside one triangle (R109, R111). -/
def pixelSamples (t : Pt × Pt × Pt) (x y : Int) : Nat :=
  let b := bbox [t.1, t.2.1, t.2.2]
  if b.2.2.1 < 256 * x ∨ 256 * x + 256 < b.1 ∨ b.2.2.2 < 256 * y ∨ 256 * y + 256 < b.2.1 then 0
  else
    ((List.range 16).map fun (j : Nat) =>
      ((List.range 16).filter fun (i : Nat) => inTriangle t ⟨256 * x + 16 * i + 8, 256 * y + 16 * j + 8⟩).length).sum


/-- The coverage c of a record at a pixel (R111); a bitmap without bytes gives none. -/
def covAt (r : CovRec) (x y : Int) : Nat :=
  match r with
  | .tris _ vs => ((triangles vs).map fun t => pixelSamples t x y).sum
  | .bits _ _ b raw =>
    if x < b.px ∨ b.px + b.w ≤ x ∨ y < b.py ∨ b.py + b.h ≤ y then 0
    else bitmapCoverage b raw (x - b.px).toNat (y - b.py).toNat

def covDose (r : CovRec) : Nat :=
  match r with
  | .tris d _ => d
  | .bits _ d _ _ => d

/-- The accumulator of a pixel before saturation (R112). -/
def covSum (rs : List CovRec) (x y : Int) : Nat :=
  (rs.map fun r =>
    let c := covAt r x y
    if c = 0 then 0 else (c * covDose r + 64) / 128).sum

/-- The home bands that a tile of band `b` draws on (R101). -/
def drawBands (bands b : Nat) : List Nat :=
  (List.range 6).filterMap fun k => if 4 ≤ b + k ∧ b + k - 4 < bands then some (b + k - 4) else none

/-- The transformed vertices of a record. -/
def recXform (x : Xform) (g : Geom) (gran : Nat) : List Pt := (recVerts g gran).map (xform x)

/-- The record's reference is filed in the bucket of tile column `t` of band `b` (R102): its bounding box touches the
tile in the sense of R129. Or its bitmap lies in that tile square (R87, R101). -/
def filedIn (x : Xform) (g : Geom) (gran t b : Nat) : Bool :=
  if recType g gran = 4 then
    let m := bitmapOf g gran
    decide (m.px / 256 = t) && decide (m.py / 256 = b)
  else
    let bb := bbox (recXform x g gran)
    decide (bb.1 / 65536 ≤ t) && decide ((t : Int) ≤ (bb.2.2.1 - 1) / 65536) && decide (bb.2.1 / 65536 ≤ b) &&
      decide ((b : Int) ≤ (bb.2.2.2 - 1) / 65536)

/-- The granules of the coverage records in the bucket of a tile, in the order of R81 and R101. -/
def bucketGrans (x : Xform) (g : Geom) (bands t b : Nat) : List Nat :=
  ((drawBands bands b).flatMap (bandGrans g)).filter fun gran => !recDens g gran && filedIn x g gran t b

/-- A record as the raster parser presents it: transformed, a bitmap not yet decoded (R102). -/
def presented (x : Xform) (g : Geom) (gran : Nat) : CovRec :=
  if recType g gran = 4 then .bits gran (recDose g gran) (bitmapOf g gran) [] else .tris (recDose g gran) (recXform x g gran)

/-- The tiles in whose buckets a presented record is filed (R102): those of `bands` bands that the bounding box of its
vertices touches, or the one that its bitmap lies in (R87). -/
def CovRec.tiles (bands : Nat) : CovRec → List Nat
  | .tris _ vs =>
    let bb := bbox vs
    let cols : List Nat := (List.range 32).filter fun (t : Nat) => decide (bb.1 / 65536 ≤ (t : Int)) && decide ((t : Int) ≤ (bb.2.2.1 - 1) / 65536)
    let rows : List Nat := (List.range bands).filter fun (b : Nat) => decide (bb.2.1 / 65536 ≤ (b : Int)) && decide ((b : Int) ≤ (bb.2.2.2 - 1) / 65536)
    rows.flatMap fun b => cols.map fun t => 32 * b + t
  | .bits _ _ m _ => [32 * (m.py / 256).toNat + (m.px / 256).toNat]

/-- The bitmap record at `gran` with the bytes that its decode gave; one whose decode faulted contributes nothing (R92). -/
def CovRec.decoded (r : CovRec) (d : Decoded) : CovRec :=
  match r, d with
  | .bits gran dose b _, .bytes raw => .bits gran dose b raw
  | r, _ => r

/-- The granules of the bitmaps of a bucket, in its order. -/
def bucketBits (rs : List CovRec) : List Nat :=
  rs.filterMap fun r =>
    match r with
    | .bits gran _ _ _ => some gran
    | .tris .. => none

/-- Put the decoded bytes of the bitmaps of a bucket into their places. -/
def withRaws : List CovRec → List (List Byte) → List CovRec
  | [], _ => []
  | .bits gran dose b _ :: rs, raw :: raws => .bits gran dose b raw :: withRaws rs raws
  | r :: rs, raws => r :: withRaws rs raws

/-- A record for a reconstruction from source (R128). -/
def covRecOf (x : Xform) (g : Geom) (gran : Nat) : CovRec :=
  let r := presented x g gran
  if recType g gran = 4 then r.decoded (decodeBitmap g gran) else r

/-- The records of a tile's bucket for the engines. -/
def bucketRecs (x : Xform) (g : Geom) (bands t b : Nat) : List CovRec :=
  (bucketGrans x g bands t b).map (covRecOf x g)

/-- The triangles with negative orientation in a bucket (R108). -/
def bucketFlips (rs : List CovRec) : Nat :=
  (rs.map fun r =>
    match r with
    | .tris _ vs => ((triangles vs).filter fun t => decide (orient t.1 t.2.1 t.2.2 < 0)).length
    | .bits .. => 0).sum

/-- The pixels (dx, dy) of a piece inside its tile: quarter `q`, or the whole tile for `none` (R115). -/
def piecePixels (q : Option Nat) : List (Nat × Nat) :=
  match q with
  | none => (List.range 256).flatMap fun y => (List.range 256).map fun x => (x, y)
  | some k =>
    (List.range 128).flatMap fun y => (List.range 128).map fun x => (128 * (k % 2) + x, 128 * (k / 2) + y)

/-- The sums of a piece's pixels that are not 0, keyed by 256 dy + dx. -/
def pieceSums (rs : List CovRec) (t b : Nat) (q : Option Nat) : Store Nat :=
  (piecePixels q).filterMap fun p =>
    let v := covSum rs (256 * t + p.1) (256 * b + p.2)
    if v = 0 then none else some (256 * p.2 + p.1, v)

end Sys2Proof.Machine
end

