-- ==== Sys2Proof/Machine/Density.lean ====
section
/-!
DEFINITION. Sys2Proof/Machine/Density.lean: density and cost cells, the dose table, convolution, factors and dose codes
(R125 to R137), as pure functions.
-/

namespace Sys2Proof.Machine

/-- The density samples of cell (`i`, `j`) inside a triangle (R126). -/
def cellSamples (t : Pt × Pt × Pt) (i j : Int) : Nat :=
  ((List.range 16).map fun (b : Nat) =>
    ((List.range 16).filter fun (a : Nat) =>
      inTriangle t ⟨32768 * i + 2048 * a + 1024, 32768 * j + 2048 * b + 1024⟩).length).sum

/-- The key of a density cell: columns −32 to 95 (R125). -/
def densKey (i j : Int) : Nat := (128 * j + (i + 32)).toNat

/-- The cell is on the density map of a stripe of `bands` bands (R125). -/
def onMap (bands : Nat) (i j : Int) : Bool :=
  decide (-32 ≤ i) && decide (i ≤ 95) && decide (0 ≤ j) && decide (j < 2 * bands)

/-- The integers from `a` to `b`, none if `b < a`. -/
def irange (a b : Int) : List Int := (List.range (b - a + 1).toNat).map fun (k : Nat) => a + k

/-- The cells of a bounding box given by its least and greatest cell columns and rows. -/
def boxCells (i0 i1 j0 j1 : Int) : List (Int × Int) := (irange j0 j1).flatMap fun j => (irange i0 i1).map fun i => (i, j)

/-- Add to a cell of a store. -/
def cellAdd (m : Store Nat) (k v cap : Nat) : Store Nat := if v = 0 then m else sput 0 m k (min cap (sget 0 m k + v))

/-- The sums S of R127 after one record. -/
def densAdd (bands : Nat) (g : Geom) (gran : Nat) (m : Store Nat) : Store Nat :=
  if recType g gran = 4 then m
  else
    let vs := recVerts g gran
    let bb := bbox vs
    (boxCells (bb.1 / 32768) (bb.2.2.1 / 32768) (bb.2.1 / 32768) (bb.2.2.2 / 32768)).foldl
      (fun m c =>
        if onMap bands c.1 c.2 then
          let n := ((triangles vs).map fun t => cellSamples t c.1 c.2).sum
          cellAdd m (densKey c.1 c.2) (n * recDose g gran) (2 ^ 64)
        else m) m

/-- Density d of a cell from its sum S (R127): 0 outside the map. -/
def cellDensity (bands : Nat) (m : Store Nat) (i j : Int) : Nat :=
  if onMap bands i j then min 4095 ((sget 0 m (densKey i j) + 64) / 128) else 0

/-- The raster cost of a record (R129). -/
def recCost (wPrim wEdge wByte : Nat) (g : Geom) (gran : Nat) : Nat :=
  match recType g gran with
  | 3 => wPrim + 3 * (fanN g gran - 2) * wEdge
  | 4 => wPrim + ((bitmapOf g gran).encLen + 15) / 16 * wByte
  | _ => wPrim + 6 * wEdge

/-- The key of a cost cell, columns 0 to 63. -/
def costKey (i j : Int) : Nat := (64 * j + i).toNat

/-- The cost map after one record (R129): each touched cell, saturating at 2²⁴ − 1. -/
def costAdd (bands wPrim wEdge wByte : Nat) (g : Geom) (gran : Nat) (m : Store Nat) : Store Nat :=
  if recDens g gran then m
  else
    let cost := recCost wPrim wEdge wByte g gran
    let cells :=
      if recType g gran = 4 then
        let b := bitmapOf g gran
        boxCells (b.px / 128) ((b.px + b.w - 1) / 128) (b.py / 128) ((b.py + b.h - 1) / 128)
      else
        let bb := bbox (recVerts g gran)
        boxCells (bb.1 / 32768) ((bb.2.2.1 - 1) / 32768) (bb.2.1 / 32768) ((bb.2.2.2 - 1) / 32768)
    cells.foldl
      (fun (m : Store Nat) (c : Int × Int) =>
        if decide (0 ≤ c.1) && decide (c.1 ≤ 63) && decide (0 ≤ c.2) && decide (c.2 < 2 * bands) then
          cellAdd m (costKey c.1 c.2) cost (2 ^ 24 - 1)
        else m) m

/-! ### The dose table (R133, R134) -/

/-- NK of a dose table. -/
def doseNk (t : List Byte) : Nat := nfld (tabWord t 0) 8 2

/-- Tap `n` = t + 32 of kernel `k`: across the scan, along the scan. -/
def tapA (t : List Byte) (k n : Nat) : Nat := tabHalf t (0x40 + 0x108 * k + 2 * n)
def tapB (t : List Byte) (k n : Nat) : Nat := tabHalf t (0x40 + 0x108 * k + 0x84 + 2 * n)

/-- CURVE[n]. -/
def curve (t : List Byte) (n : Nat) : Nat := tabHalf t (0x400 + 2 * n)

/-- The checks of R134. -/
def doseOk (t : List Byte) : Bool :=
  let nk := doseNk t
  let sum (f : Nat → Nat) : Nat := ((List.range 65).map f).sum
  nfld (tabWord t 0) 0 8 == 1 && 1 ≤ nk && nk ≤ 3 && nfld (tabWord t 0) 10 22 == 0 &&
    ((List.range 15).all fun i => tabWord t (4 + 4 * i) == 0) &&
    ((List.range 42).all fun i => tabWord t (0x358 + 4 * i) == 0) &&
    ((List.range 3).all fun k => tabHalf t (0x40 + 0x108 * k + 0x82) == 0 && tabHalf t (0x40 + 0x108 * k + 0x106) == 0) &&
    ((List.range 3).all fun k => k < nk || (List.range 65).all fun n => tapA t k n == 0 && tapB t k n == 0) &&
    ((List.range nk).map fun k => sum (tapA t k) * sum (tapB t k)).sum ≤ 2 ^ 32

/-! ### Convolution and factors (R135, R136) -/

/-- The convolved density of a factor cell before the limit (R135). -/
def convTotal (t : List Byte) (d : Int → Int → Nat) (i j : Int) : Nat :=
  ((List.range (doseNk t)).map fun k =>
    ((List.range 65).map fun (s : Nat) =>
      let h := ((List.range 65).map fun (n : Nat) => tapA t k n * d (i + n - 32) (j + s - 32)).sum
      tapB t k s * ((h + 32768) / 65536)).sum).sum

/-- The unlimited and the limited index of a factor cell (R135). -/
def convRaw (t : List Byte) (d : Int → Int → Nat) (i j : Int) : Nat := (convTotal t d i j + 16384) / 32768
def convIndex (t : List Byte) (d : Int → Int → Nat) (i j : Int) : Nat := min 1023 (convRaw t d i j)

/-- The factor F of a cell (R136). -/
def cellFactor (t : List Byte) (d : Int → Int → Nat) (i j : Int) : Nat := curve t (convIndex t d i j)

/-- The factor g of a pixel (R136), `f` being the factor of each cell. -/
def pixelFactor (f : Int → Int → Nat) (x y : Int) : Nat :=
  let i0 := (x - 64) / 128
  let j0 := (y - 64) / 128
  let wx := (2 * ((x - 64) % 128) + 1).toNat
  let wy := (2 * ((y - 64) % 128) + 1).toNat
  (f i0 j0 * (256 - wx) * (256 - wy) + f (i0 + 1) j0 * wx * (256 - wy) + f i0 (j0 + 1) * (256 - wx) * wy +
    f (i0 + 1) (j0 + 1) * wx * wy + 32768) / 65536

/-- The dose code before and after the cap of 32 − H (R137). -/
def codeRaw (a g : Nat) : Nat := (a * g + 131072) / 2 ^ 18
def doseCode (heal a g : Nat) : Nat := min (32 - heal) (codeRaw a g)

/-- The factor cells that a tile's pixels read: columns 2t − 1 to 2t + 2, rows 2b − 1 to 2b + 2 (R132, R136). -/
def tileCells (t b : Nat) : List (Int × Int) :=
  boxCells (2 * t - 1) (2 * t + 2) (2 * b - 1) (2 * b + 2)

/-- The factors of a tile's cells, formed once, keyed by 4 × row + column in the 4 by 4 neighbourhood. -/
def tileFactors (tab : List Byte) (d : Int → Int → Nat) (t b : Nat) : List Nat :=
  (tileCells t b).map fun c => cellFactor tab d c.1 c.2

/-- The factor of a cell from a tile's 16 factors. -/
def factorFrom (fs : List Nat) (t b : Nat) (i j : Int) : Nat :=
  fs.getD (4 * (j - (2 * b - 1)) + (i - (2 * t - 1))).toNat 0

/-- The 65,536 codes of a tile that are not 0, keyed by 256 dy + dx, from its coverage sums (R112, R137). -/
def tileCodes (heal : Nat) (fs : List Nat) (t b : Nat) (cov : Store Nat) : Store Nat :=
  cov.filterMap fun p =>
    let c := doseCode heal (min 4095 p.2)
      (pixelFactor (factorFrom fs t b) (256 * t + p.1 % 256) (256 * b + p.1 / 256))
    if c = 0 then none else some (p.1, c)

/-- The pixels of a tile whose code was clamped (R137). -/
def tileClamps (heal : Nat) (fs : List Nat) (t b : Nat) (cov : Store Nat) : Nat :=
  (cov.filter fun p =>
    32 - heal < codeRaw (min 4095 p.2)
      (pixelFactor (factorFrom fs t b) (256 * t + p.1 % 256) (256 * b + p.1 / 256))).length

end Sys2Proof.Machine
end

