-- ==== Sys2Proof/Machine/PassCodes.lean ====
section
/-!
DEFINITION. Sys2Proof/Machine/PassCodes.lean: tile signatures (R144, R145), pass mask tables (R168, R169), the mapping
of beams, pixels and passes (R19, R22), healing (R177) and the storage layout of residue rows (R166).
-/

namespace Sys2Proof.Machine

/-! ### Signatures -/

/-- One bit step of the CRC-64 (R145). -/
def crc64Bit (crc : BitVec 64) : BitVec 64 :=
  if crc.getLsbD 63 then (crc <<< 1) ^^^ 0x42F0E1EBA9EA3693 else crc <<< 1

/-- `n` bit steps. -/
def crc64Bits : Nat → BitVec 64 → BitVec 64
  | 0, crc => crc
  | n + 1, crc => crc64Bits n (crc64Bit crc)

/-- One byte of the stream (R145). -/
def crc64Byte (crc : BitVec 64) (b : Nat) : BitVec 64 := crc64Bits 8 (crc ^^^ BitVec.ofNat 64 (b % 256 * 2 ^ 56))

/-- The CRC of a byte stream. -/
def crc64 (bytes : List Nat) : BitVec 64 := bytes.foldl crc64Byte 0

/-- The preamble of a tile's stream (R144). -/
def sigPreamble (tile level heal : Nat) : List Nat :=
  [tile % 256, tile / 256 % 256, tile / 65536 % 256, tile / 2 ^ 24 % 256, level % 256, heal % 256, 0, 0]

/-- The code bytes of `n` pixels from number `k` on, read along the codes that are not 0 (R144). -/
def codeStream : Nat → Nat → Store Nat → List Nat
  | 0, _, _ => []
  | n + 1, k, [] => 0 :: codeStream n (k + 1) []
  | n + 1, k, p :: m => if p.1 = k then p.2 % 64 :: codeStream n (k + 1) m else 0 :: codeStream n (k + 1) (p :: m)

/-- The signature of a tile from its codes, keyed by 256 v + u (R144, R145). -/
def tileSignature (tile level heal : Nat) (codes : Store Nat) : BitVec 64 :=
  crc64 (sigPreamble tile level heal ++ codeStream 65536 0 codes)

/-! ### Pass mask tables -/

/-- MASK[d][φ] (R168). -/
def passMask (t : List Byte) (d phi : Nat) : BitVec 32 := BitVec.ofNat 32 (tabWord t (0x40 + 4 * (16 * d + phi)))

/-- The number of set bits of a pass set. -/
def popcount (m : BitVec 32) : Nat := ((List.range 32).filter fun k => m.getLsbD k).length

/-- The checks of R169. -/
def passOk (t : List Byte) : Bool :=
  nfld (tabWord t 0) 0 8 == 1 && nfld (tabWord t 0) 8 24 == 0 && ((List.range 15).all fun i => tabWord t (4 + 4 * i) == 0) &&
    (List.range 33).all fun d => (List.range 16).all fun p => popcount (passMask t d p) == d

/-! ### Beams, pixels and passes -/

/-- The pixel column that beam (r, c) addresses (R19). -/
def beamX (r c : Nat) : Nat := 16 * c + r % 16

/-- The line that row `r` addresses at transit `n` (R19), for a start offset Y0. -/
def beamY (n r y0 : Nat) : Int := (n : Int) - 16 * r - y0

/-- The beam of pass `k` of pixel column `x` (R22), as the index 512 r + c. -/
def passBeam (x k : Nat) : Nat := 512 * (x % 16 + 16 * k) + x / 16

/-- The transit at which pass `k` of pixel (x, y) fires (R22). -/
def passTransit (x y k y0 : Nat) : Nat := y + y0 + 16 * (x % 16 + 16 * k)

/-- The pixel phase (R25). -/
def pixelPhase (x y : Nat) : Nat := x % 4 + 4 * (y % 4)

/-! ### Healing (R177) -/

/-- The first live pass after `k`, in ring order, that is not set yet. -/
def healTarget (u e : BitVec 32) (k : Nat) : Option Nat :=
  ((List.range 31).map fun i => (k + i + 1) % 32).find? fun j => !u.getLsbD j && !e.getLsbD j

/-- Move the bits of the dead passes from `k` upwards, `fuel` passes left: the healed mask and the unplaced set. -/
def healFrom (m u : BitVec 32) : Nat → Nat → BitVec 32 → BitVec 32 → BitVec 32 × BitVec 32
  | 0, _, e, lost => (e, lost)
  | fuel + 1, k, e, lost =>
    if m.getLsbD k && u.getLsbD k then
      match healTarget u e k with
      | some j => healFrom m u fuel (k + 1) (e ||| (1#32 <<< j)) lost
      | none => healFrom m u fuel (k + 1) e (lost ||| (1#32 <<< k))
    else healFrom m u fuel (k + 1) e lost

/-- The healed mask and the unplaced set of a mask `m` when the passes of `u` are dead or killed. -/
def heal (m u : BitVec 32) : BitVec 32 × BitVec 32 := healFrom m u 32 0 (m &&& ~~~ u) 0

/-- The dead and killed passes of pixel column `x` in an almanac (R177). -/
def deadPasses (alm : Store Nat) (x : Nat) : BitVec 32 :=
  BitVec.ofNat 32 (((List.range 32).map fun k => if 2 ≤ sget 0 alm (passBeam x k) then 2 ^ k else 0).sum)

/-! ### Storage layout (R162, R166, R353) -/

/-- The line slot of a line (R162). -/
def lineSlot (y : Nat) : Nat := y % 10240

/-- The first byte, in region 0, of the residue row of a slot and residue (R353). -/
def rowByte (slot rho : Nat) : Nat := 384 * (256 * (16 * (slot / 256) + rho) + slot % 256)

/-- The bytes of a residue row that hold the code of column `c` (R166): one or two. -/
def codeBytes (c : Nat) : List Nat :=
  if (6 * c + 5) / 8 = 6 * c / 8 then [6 * c / 8] else [6 * c / 8, 6 * c / 8 + 1]

/-- The columns whose code lies wholly or partly in byte `j` of a residue row. -/
def byteColumns (j : Nat) : List Nat :=
  (List.range ((8 * j + 7) / 6 - 8 * j / 6 + 1)).map fun i => 8 * j / 6 + i

/-- Group, row and byte of a byte of region 0 (R353). -/
def regionCell (o : Nat) : Nat × Nat × Nat := (o / 2 ^ 20, o / 256 % 4096, o % 256)

/-- Bits of byte `j` of a residue row that belong to the code of column `c`, as (bit of the byte, bit of the code). -/
def codeBitsIn (j c : Nat) : List (Nat × Nat) :=
  (List.range 6).filterMap fun i => if (6 * c + i) / 8 = j then some ((6 * c + i) % 8, i) else none

/-- The error that byte error `e` of byte `j` puts into the code of column `c`. -/
def codeError (j c e : Nat) : Nat :=
  ((codeBitsIn j c).map fun p => if e.testBit p.1 then 2 ^ p.2 else 0).sum

end Sys2Proof.Machine
end

