-- ==== Sys2Proof/Machine/CtxOps.lean ====
section
/-!
DEFINITION. Sys2Proof/Machine/CtxOps.lean: reading and changing job contexts, and the numbering of bands, lines and tiles
of a stripe and of a top-up (R70, R310, R311, R470).
-/

namespace Sys2Proof.Machine

/-- A context. -/
def State.ctx (s : State) (c : Nat) : Ctx := sget Ctx.reset s.ctxs c

def State.setCtx (s : State) (c : Nat) (x : Ctx) : State := { s with ctxs := sput Ctx.reset s.ctxs c x }

/-- The EXPOSING context. -/
def State.exposing (s : State) : Option Nat := s.expo.map Expo.ctx

/-- The PRIMING context. -/
def State.priming (s : State) : Option Nat := (s.ctxs.find? fun p => p.2.st == 4).map Prod.fst

/-- A context is LOADING. -/
def State.loadingAny (s : State) : Bool := s.ctxs.any fun p => p.2.st == 1

/-- A stripe is running: some context is PRIMING or EXPOSING (R73). -/
def State.running (s : State) : Bool := s.priming.isSome || s.expo.isSome

/-- The first band of a stripe in source numbering: B_LO of a top-up, else 0 (R311). -/
def Ctx.band0 (x : Ctx) : Nat := if x.side.topup then x.side.bLo else 0

/-- The band after the last one of a stripe, in source numbering. -/
def Ctx.bandEnd (x : Ctx) : Nat := x.band0 + x.d.bands

/-- The last transit of the stripe (R20, R75). -/
def Ctx.lastTransit (x : Ctx) : Nat := x.d.y0 + 256 * x.d.bands + 8175

/-- The generation of a stripe and the generation it delivers (R301, R306). -/
def Ctx.gen (x : Ctx) : Nat := if x.side.topup then x.side.gen else 1
def Ctx.inGen (x : Ctx) : Nat := if x.side.topup then x.side.inGen else 0

/-- The context whose geometry and tables a stripe is formed from: the source of a top-up (R312). -/
def State.sourceOf (s : State) (c : Nat) : Nat := if (s.ctx c).side.topup then (s.ctx c).side.link else c

/-- BANDS of the geometry that a stripe is formed from. -/
def State.srcBands (s : State) (c : Nat) : Nat := (s.ctx (s.sourceOf c)).d.bands

/-- The geometry region of a context as it stands in DRAM (R66, R78). -/
def State.geom (s : State) (c : Nat) : Geom := fun o => s.dramNat ((s.ctx c).d.geomAddr + o) 4

/-- The transform of a context. -/
def State.xformTab (s : State) (c : Nat) : Xform := xformOf (s.ctx c).xf

/-- The line that row `r` addresses at transit `n` of stripe `c` (R19, R311). -/
def Ctx.line (x : Ctx) (n r : Nat) : Int := (n : Int) - 16 * r - x.d.y0 + 256 * x.band0

/-- The line is one of the stripe. -/
def Ctx.hasLine (x : Ctx) (y : Int) : Bool := decide (256 * (x.band0 : Int) ≤ y) && decide (y < 256 * (x.bandEnd : Int))

/-- Some beam addresses a pixel of the stripe at transit `n`. -/
def Ctx.addresses (x : Ctx) (n : Nat) : Bool := x.d.y0 ≤ n && n ≤ x.lastTransit

/-- The meridian of a stripe (R26, R131): the line that row 0 addresses at the last transit fired, −Y0 before transit 0.
DEDUCED (log entry 105): that of a top-up is in source numbering, 256 × B_LO further, also before transit 0 (R311, R470). -/
def State.meridian (s : State) (c : Nat) : Int :=
  let x := s.ctx c
  let n : Int := match s.expo with
    | some e => if e.ctx = c then (match e.fired with
      | some n => (n : Int)
      | none => 0) else 0
    | none => 0
  n - x.d.y0 + 256 * x.band0

/-- The density of a cell as the density pass has it for context `c` (R127). -/
def State.density (s : State) (c : Nat) (i j : Int) : Nat := cellDensity (s.srcBands c) (s.ctx c).prep.dens i j

/-- The sums S of the whole geometry of a context (R127, R128). -/
def fullDens (bands : Nat) (g : Geom) : Store Nat :=
  (List.range bands).foldl (fun m b => (bandGrans g b).foldl (fun m gran => densAdd bands g gran m) m) []

/-- The dose code of a pixel regenerated from the source context `h` (R128, R307). -/
def State.sourceCode (s : State) (h x y : Nat) : Nat :=
  let cx := s.ctx h
  let g := s.geom h
  let dens := fullDens cx.d.bands g
  let rs := bucketRecs (s.xformTab h) g cx.d.bands (x / 256) (y / 256)
  let f := fun i j => cellFactor cx.dose (cellDensity cx.d.bands dens) i j
  doseCode cx.d.heal (min 4095 (covSum rs x y)) (pixelFactor f x y)

end Sys2Proof.Machine
end

