-- ==== Sys2Proof/Machine/LedgerOps.lean ====
section
/-!
DEFINITION. Sys2Proof/Machine/LedgerOps.lean: ledger records, their states, their raw and lost sets (chapter 12,
R298 to R309, R318, R319).
-/

namespace Sys2Proof.Machine

/-! ### The area -/

/-- LDG_BASE (R298). -/
def State.ldgBase (s : State) : Nat := (s.reg Reg.LDG_BASE_LO).toNat + 2 ^ 32 * (s.reg Reg.LDG_BASE_HI).toNat

/-- 2^E records (R298). -/
def State.ldgSize (s : State) : Nat := 2 ^ s.rf Reg.LDG_CFG 16 5

/-- LDG_TAIL. -/
def State.ldgTail (s : State) : Nat := (s.reg Reg.LDG_TAIL).toNat

/-- Records from `a` up to `b`, modulo 2³². -/
def idDiff (a b : Nat) : Nat := (b + 2 ^ 32 - a % 2 ^ 32) % 2 ^ 32

/-- LDG_FREE (R318). -/
def State.ldgFree (s : State) : Nat := s.ldgSize - idDiff s.ldgTail s.ledger.head

/-- The address of snapshot slot (ctx, g) (R300). -/
def State.snapAddr (s : State) (ctx g : Nat) : Nat := s.ldgBase + 32768 * (16 * ctx + g)

/-- The address of the record with an ID. -/
def State.recAddr (s : State) (id : Nat) : Nat := s.ldgBase + 2 ^ 26 + 64 * (id % s.ldgSize)

/-- A record lies from TAIL to HEAD − 1. -/
def State.inRing (s : State) (r : Rec) : Bool := idDiff s.ldgTail r.id < idDiff s.ldgTail s.ledger.head

/-! ### The words of a record (R301) -/

/-- Words 0 to 14. -/
def Rec.words (r : Rec) : List Nat :=
  [r.st + 16 * r.kind + 2 ^ 8 * r.cause + 2 ^ 16 * r.ctx + 2 ^ 24 * r.gen + 2 ^ 28 * r.inGen,
   r.id, r.jobTag, r.time % 2 ^ 32, r.time / 2 ^ 32 % 2 ^ 32, r.a, r.b, r.y0,
   r.lanes % 2 ^ 32, r.lanes / 2 ^ 32 % 2 ^ 32, r.lanes / 2 ^ 64 % 2 ^ 32,
   r.srcPage + 2 ^ 12 * r.srcEvt + 2 ^ 17 * b2n r.srcCmd,
   (match r.taker with
    | some t => t + 128
    | none => 0),
   r.bLo, 0]

/-- The 64 bytes of a record, CHECK last. -/
def Rec.bytes (r : Rec) : List Byte := (r.words ++ [r.words.sum % 2 ^ 32]).flatMap (leBytes 4)

/-- Write the line of a record (R304). -/
def State.writeRec (s : State) (r : Rec) : State := s.dramPut 6 (s.recAddr r.id) r.bytes

/-- The open records of a context: OPEN, HELD or TAKEN (R305). -/
def State.openRecs (s : State) (c : Nat) : List Rec :=
  s.ledger.recs.filter fun r => r.ctx == c && (r.st == 1 || r.st == 2 || r.st == 3)

/-- A context holds an open record (R77). -/
def State.holdsOpen (s : State) (c : Nat) : Bool := !(s.openRecs c).isEmpty

/-- A context whose records are all TOPPED or DISCARDED is no longer an adopting context (R317). -/
def State.endAdoptions (s : State) : State :=
  (List.range 128).foldl
    (fun (a : State) c =>
      let x := a.ctx c
      if x.side.adopting && !a.holdsOpen c then a.setCtx c { x with side := { x.side with adopting := false } } else a) s

/-- Change records and rewrite the line of each one that changed. -/
def State.changeRecs (s : State) (f : Rec → Rec) : State :=
  let s1 : State := { s with ledger := { s.ledger with recs := s.ledger.recs.map f } }
  ((s.ledger.recs.filter fun r => decide (f r ≠ r)).foldl (fun a r => a.writeRec (f r)) s1).endAdoptions

/-! ### Making records (R302, R303, R318, R319) -/

/-- The kind of a cause (R302). -/
def causeKind (cause : Nat) : Nat :=
  if cause ≤ 5 then 1 else if cause = 6 then 2 else if cause = 7 then 3 else if cause = 8 then 4 else 5

/-- The causes whose records start HELD (R302). -/
def causeHeld (cause : Nat) : Bool := cause == 4 || cause == 5 || cause == 10

/-- All 86 logical lanes. -/
def allLanes : Nat := 2 ^ 86 - 1

/-- The context that holds the records of source `h`: the adopting context while an ADOPT of it is in progress, also once the
source has been released (R317; log entry 115). -/
def State.holderOf (s : State) (h : Nat) : Nat :=
  match s.ledger.job with
  | some j => if j.src = h ∧ (j.op = 2 ∨ (j.op = 3 ∧ (s.ctx h).st = 0)) then j.target else h
  | none => h

/-- Stripe `c` as the maker of records, its own or its source's (R313). -/
def State.maker (s : State) (c : Nat) : Maker :=
  let x := s.ctx c
  { src := s.sourceOf c, gen := x.gen, inGen := x.inGen, y0 := x.d.y0, bLo := if x.side.topup then x.side.bLo else 0 }

/-- Make a record of a stripe (R301): it is written with the others of its cycle (R303). `src` is the event of an ABORT,
`none` for a command. -/
def State.recordBy (s : State) (m : Maker) (cause a b lanes : Nat) (src : Option EvId) : State :=
  let h := s.holderOf m.src
  let abort := cause == 13
  let r : Rec :=
    { id := 0, st := if causeHeld cause then 2 else 1, kind := causeKind cause, cause := cause, ctx := h,
      gen := m.gen, inGen := m.inGen, jobTag := (s.ctx h).d.jobTag, time := s.tau / 64, a := a, b := b,
      y0 := m.y0, lanes := lanes,
      srcPage := if abort then src.elim 0 EvId.page else 0, srcEvt := if abort then src.elim 0 EvId.bit else 0,
      srcCmd := abort && src.isNone, taker := none, takerGen := 0, bLo := m.bLo, old := false }
  { s with ledger := { s.ledger with fresh := s.ledger.fresh ++ [r] } }

/-- Make a record of stripe `c`. -/
def State.makeRecord (s : State) (c cause a b lanes : Nat) (src : Option EvId) : State :=
  s.recordBy (s.maker c) cause a b lanes src

/-- The place of a record among those of its cycle (R303): by cause, an ABORT last; within a cause by tile, line or transit,
PIXEL and COLUMN records by line or band and then by column. -/
def Rec.rank (r : Rec) : Nat :=
  (if r.cause = 13 then 15 else r.cause) * 2 ^ 64 + (if r.kind = 2 ∨ r.kind = 4 then r.b * 8192 + r.a % 8192 else r.a)

/-- Put a record behind those that come before it. -/
def putRec (r : Rec) : List Rec → List Rec
  | [] => [r]
  | q :: qs => if q.rank ≤ r.rank then q :: putRec r qs else r :: q :: qs

/-- A READY context that has adopted records is an adopting context as long as one is not final: also once a further record
is made for it (R317; log entry 113). -/
def State.adoptsAgain (s : State) (c : Nat) : State :=
  let x := s.ctx c
  if x.st = 2 && x.side.linkV && !x.side.topup then s.setCtx c { x with side := { x.side with adopting := true } } else s

/-- Write a record that has been made as the next one, or lose it (R318, R319). -/
def State.appendRec (s : State) (r0 : Rec) : State :=
  let free := s.ldgFree
  if free = 0 then
    let hx := s.ctx r0.ctx
    let s1 := (s.bump Reg.LDG_LOST).setCtx r0.ctx { hx with side := { hx.side with overflow := true } }
    s1.raiseCtx Ev.LDG_LEDGER_OVERFLOW r0.cause r0.ctx
  else
    let r : Rec := { r0 with id := s.ledger.head }
    let s1 : State :=
      { s with ledger := { s.ledger with recs := s.ledger.recs ++ [r], head := (s.ledger.head + 1) % 2 ^ 32 } }
    let s2 := (s1.adoptsAgain r.ctx).writeRec r
    let s3 := if r.st = 2 then s2.raiseCtx Ev.LDG_RECORD_HELD r.cause r.ctx else s2
    if free - 1 = s.rf Reg.LDG_CFG 0 16 then s3.raise Ev.LDG_LEDGER_LOW ((free - 1) % 65536) else s3

/-- Write the records of the cycle in their order (R303). -/
def State.writeFresh (s : State) : State :=
  (s.ledger.fresh.foldl (fun l r => putRec r l) []).foldl (fun (a : State) r => a.appendRec r)
    { s with ledger := { s.ledger with fresh := [] } }

/-- Make the records of a list, in its order. -/
def State.makeRecords (s : State) (c cause : Nat) : List (Nat × Nat) → State
  | [] => s
  | p :: ps => (s.makeRecord c cause p.1 p.2 0 none).makeRecords c cause ps

/-- The records that top-up `t` has taken and that are TAKEN. -/
def Rec.takenBy (r : Rec) (t : Nat) : Bool := r.st == 3 && r.taker == some t

/-- A top-up leaves EXPOSING: its records become TOPPED after the new records of the cycle are written (R305). -/
def State.topLater (s : State) (t : Nat) : State := { s with ledger := { s.ledger with topping := s.ledger.topping ++ [t] } }

/-- The records that a top-up has taken become TOPPED (R305). -/
def State.topRecords (s : State) (t : Nat) : State :=
  if s.ledger.recs.any fun r => r.takenBy t then
    (s.changeRecs fun r => if r.takenBy t then { r with st := 4 } else r).raiseCtx Ev.LDG_TOPPED t ((s.ctx t).side.link)
  else s

/-- The records of every top-up that has left EXPOSING become TOPPED (R305). -/
def State.topAll (s : State) : State :=
  s.ledger.topping.foldl (fun (a : State) t => a.topRecords t) { s with ledger := { s.ledger with topping := [] } }

/-- A top-up is aborted in PRIMING or released from READY: its records become OPEN again (R305). -/
def State.reopenRecords (s : State) (t : Nat) : State :=
  s.changeRecs fun r => if r.takenBy t then { r with st := 1, taker := none, takerGen := 0 } else r

/-! ### Raw and lost sets (R307 to R309) -/

/-- The word u of column `x` of generation `g` (R300), as the build of top-up `t` read it. -/
def State.snapWord (s : State) (t g x : Nat) : BitVec 32 := sget 0 (s.ctx t).side.snaps (8192 * g + x)

/-- A record covers a pixel of a tile, of lines, or names the pixel. -/
def Rec.names (r : Rec) (x y : Nat) : Bool :=
  match r.kind with
  | 1 => r.a == 32 * (y / 256) + x / 256
  | 2 => r.a % 8192 == x && r.b == y
  | 3 => r.a ≤ y && y < r.a + r.b
  | 4 => r.a == x && r.b == y / 256
  | _ => false

/-- The first lost pass of a PIXEL record. -/
def Rec.pass (r : Rec) : Nat := nfld r.a 16 5

/-- The passes of a mask from `k` on. -/
def fromPass (m : BitVec 32) (k : Nat) : BitVec 32 := m &&& (0xFFFFFFFF#32 <<< k)

/-- The pass set of the passes whose lane and transit a TRANSITS record lists. -/
def Rec.transitPasses (r : Rec) (x y : Nat) : BitVec 32 :=
  BitVec.ofNat 32 (((List.range 32).map fun k =>
    let row := x % 16 + 16 * k
    let n : Int := (y : Int) + 16 * row + r.y0 - 256 * r.bLo
    if r.lanes.testBit (row / 6) && decide ((r.a : Int) ≤ n) && decide (n ≤ (r.b : Int)) then 2 ^ k else 0).sum)

/-- The raw set of a record at a pixel, given e and lh of its generation and the records of the same context and
generation (R308). -/
def rawSet (peers : List Rec) (e lh : BitVec 32) (x y : Nat) (r : Rec) : BitVec 32 :=
  match r.kind with
  | 1 | 3 => if r.names x y then e ||| lh else 0
  | 2 => if r.names x y then fromPass e r.pass else 0
  | 4 => if r.names x y then lh else 0
  | _ =>
    if peers.any fun q => (q.kind == 1 || q.kind == 3) && q.names x y then 0
    else
      let kept := (peers.filter fun q => q.kind == 2 && q.names x y).foldl
        (fun m q => m &&& ~~~ (fromPass 0xFFFFFFFF#32 q.pass)) (0xFFFFFFFF#32)
      e &&& kept &&& r.transitPasses x y

/-- The lost set of a record: its raw set minus those of lower IDs (R309). -/
def lostSet (peers : List Rec) (e lh : BitVec 32) (x y : Nat) (r : Rec) : BitVec 32 :=
  let lower := (peers.takeWhile fun q => q.id != r.id).foldl (fun m q => m ||| rawSet peers e lh x y q) 0
  rawSet peers e lh x y r &&& ~~~ lower

/-- The records of the job of a context and of a generation, in the order of their IDs. -/
def State.peers (s : State) (h g : Nat) : List Rec := s.ledger.recs.filter fun r => !r.old && r.ctx == h && r.gen == g

/-- A context is released: its records, which are final, are those of an earlier job from then on. -/
def State.agedRecs (s : State) (c : Nat) : State :=
  { s with ledger := { s.ledger with recs := s.ledger.recs.map fun r => if r.ctx = c then { r with old := true } else r } }

/-- The input mask of generation `g` of context `h` at a pixel whose dose code is `d` (R307), under the snapshots that
top-up `t` keeps: the table's mask, or the union of the lost sets of the records that the top-up took. -/
def State.inputMask (s : State) (t h d x y : Nat) : Nat → Nat → BitVec 32
  | 0, _ => passMask (s.ctx h).pass d (pixelPhase x y)
  | fuel + 1, g =>
    if g ≤ 1 then passMask (s.ctx h).pass d (pixelPhase x y)
    else
      (s.ledger.recs.filter fun r => !r.old && r.ctx == h && r.takerGen == g && (r.st == 3 || r.st == 4)).foldl
        (fun m r =>
          let eh := heal (s.inputMask t h d x y fuel r.gen) (s.snapWord t r.gen x)
          m ||| lostSet (s.peers h r.gen) eh.1 eh.2 x y r) 0

/-- Λ of a top-up context at a pixel (R313): empty where a line that it depends on could not be read, so that the beams stay
dark (R1, R367; log entry 129). -/
def State.lambdaMask (s : State) (c d x y : Nat) : BitVec 32 :=
  let side := (s.ctx c).side
  if side.blind || side.snapBad.contains (x / 16) then 0
  else s.inputMask c (s.sourceOf c) d x y 15 side.gen

/-- The generations whose snapshots and records a top-up of records of generation `g` of context `h` depends on (R307), from
`g` down to 1. -/
def State.genChain (s : State) (h : Nat) : Nat → Nat → List Nat
  | 0, _ => []
  | fuel + 1, g =>
    if g ≤ 1 then [g]
    else
      match s.ledger.recs.find? fun r => !r.old && r.ctx == h && r.takerGen == g && (r.st == 3 || r.st == 4) with
      | some r => g :: s.genChain h fuel r.gen
      | none => [g]

/-! ### Adoption (R317, R367) -/

/-- A read of a line of the ledger area for context `h` (R367): its bytes, none of an unusable line. -/
def State.ledgerGet (s : State) (h line : Nat) : Option (List Byte) × State :=
  let r := s.dramReadLine 7 line
  if r.1.usable then (some r.1.bytes, r.2)
  else
    let x := r.2.ctx h
    (none, (r.2.setCtx h { x with side := { x.side with overflow := true } }).raiseCtx Ev.DRAM_LEDGER_MEM 0 h)

/-- The same where the bytes do not matter. -/
def State.ledgerLine (s : State) (h line : Nat) : State := (s.ledgerGet h line).2

/-- The reads of the lines of some records. -/
def State.ledgerReads (s : State) (h : Nat) (ids : List Nat) : State :=
  ids.foldl (fun (a : State) id => a.ledgerLine h (a.recAddr id / 64)) s

/-- What a build has read of snapshots: words with their keys, the last first, and the groups of columns of unusable lines. -/
structure SnapRead where
  words : Store (BitVec 32)
  bad : List Nat
  deriving DecidableEq, Repr

/-- The words of a line of a snapshot that are not 0, with their keys, the last first. -/
def snapWords (key : Nat) (bytes : List Byte) : Store (BitVec 32) :=
  ((List.range 16).filterMap fun j =>
    let w := BitVec.ofNat 32 (leNat ((bytes.drop (4 * j)).take 4))
    if w = 0 then none else some (key + j, w)).reverse

/-- Read line `i` of snapshot slot (h, g). -/
def State.readSnapLine (s : State) (h g i : Nat) (a : SnapRead) : SnapRead × State :=
  let r := s.ledgerGet h (s.snapAddr h g / 64 + i)
  match r.1 with
  | some bytes => ({ a with words := snapWords (8192 * g + 16 * i) bytes ++ a.words }, r.2)
  | none => ({ a with bad := i :: a.bad }, r.2)

/-- Read the snapshots of some generations of context `h`, the lowest first. -/
def State.readSnaps (s : State) (h : Nat) (gens : List Nat) : SnapRead × State :=
  let r := (gens.flatMap fun g => (List.range 512).map fun i => (g, i)).foldl
    (fun (a : SnapRead × State) p => a.2.readSnapLine h p.1 p.2 a.1) (⟨[], []⟩, s)
  (⟨r.1.words.reverse, r.1.bad⟩, r.2)

/-- Read the records of some generations of context `h` that lie in the ring: whether a line was unusable. -/
def State.readRecs (s : State) (h : Nat) (gens : List Nat) : Bool × State :=
  (s.ledger.recs.filter fun r => !r.old && r.ctx == h && gens.contains r.gen && s.inRing r).foldl
    (fun (a : Bool × State) r =>
      let q := a.2.ledgerGet h (a.2.recAddr r.id / 64)
      (a.1 || q.1.isNone, q.2)) (false, s)

/-- What the build of top-up `t` of context `h`, of records of generation `g`, reads of the ledger area (R307, R367): every
record and snapshot that its Λ depends on. DESIGN CHOICE (log entry 129): they are read once, now, and kept. -/
def State.keepLedger (s : State) (h t g : Nat) : State :=
  let gens := (s.genChain h 15 g).reverse
  let r := s.readRecs h gens
  let q := r.2.readSnaps h gens
  let x := q.2.ctx t
  q.2.setCtx t { x with side := { x.side with snaps := q.1.words, snapBad := q.1.bad, blind := r.1 } }

/-- A source-data cause: SIG_MEM_FAULT and DECODE (R302, R317). -/
def sourceData (cause : Nat) : Bool := cause == 4 || cause == 5

/-- A record as an adoption leaves it. Records that have been retired follow their context without a line (R309). -/
def Rec.moved (r : Rec) (ids : List Nat) (src target : Nat) : Rec :=
  if r.ctx ≠ src ∨ r.old then r
  else if ids.contains r.id && r.st == 2 && sourceData r.cause then { r with ctx := target, st := 1 }
  else { r with ctx := target }

/-- Copy a line of a snapshot slot from one context to another. DESIGN CHOICE (log entry 129): an unusable line is copied as
a poisoned line without a table entry, as R367 has it of a retirement copy. -/
def State.copySnapLine (s : State) (src target g i : Nat) : State :=
  let line := s.snapAddr target g / 64 + i
  let r := s.ledgerGet src (s.snapAddr src g / 64 + i)
  match r.1 with
  | some bytes => r.2.dramPut 6 (64 * line) bytes
  | none => (r.2.portRaise 6).dramStore line 1 (r.2.dramPeek (s.snapAddr src g + 64 * i) 64)

/-- Copy a snapshot slot from one context to another. -/
def State.copySnap (s : State) (src target g : Nat) : State :=
  (List.range 512).foldl (fun (a : State) i => a.copySnapLine src target g i) s

/-- The steps of an adoption (R317): CTX of the records, the snapshots, source-data records OPEN, and what C2 takes over of
the source. -/
def State.adoptMove (s : State) (j : LdgJob) : State :=
  let s0 := s.ledgerReads j.src j.ids
  let x := s0.ctx j.src
  let y := s0.ctx j.target
  let f (r : Rec) : Rec := r.moved j.ids j.src j.target
  let s1 : State := { s0 with ledger := { s0.ledger with recs := s0.ledger.recs.map f } }
  let s2 := (s0.ledger.recs.filter fun r => decide (f r ≠ r) && s0.inRing r).foldl
    (fun (a : State) r => a.writeRec (f r)) s1
  let s3 := (List.range x.side.genMax).foldl (fun (a : State) i => a.copySnap j.src j.target (i + 1)) s2
  let side : LdgSide :=
    { y.side with
      genMax := x.side.genMax, linkV := true, link := j.src, adopting := true, placed := x.side.placed,
      origin := x.side.origin, xref := x.side.xref, y0s := x.side.y0s, pitch := x.side.pitch, stagger := x.side.stagger }
  s3.setCtx j.target { y with side := side }

/-- RELEASE of the source of an ADOPT in progress: the steps of the adoption, which R317 gives 50 ms, are done by then. DESIGN
CHOICE (log entry 115). -/
def State.adoptEarly (s : State) (c : Nat) : State :=
  match s.ledger.job with
  | some j =>
    if j.op = 2 ∧ j.src = c then
      let s1 := s.adoptMove j
      { s1 with ledger := { s1.ledger with job := some { j with op := 3 } } }
    else s
  | none => s

/-! ### Regions (R310, R312) -/

/-- The rows of logical lane `l` (R190). -/
def laneRows (l : Nat) : List Nat := if l = 85 then [510, 511] else (List.range 6).map fun j => 6 * l + j

/-- The bands that a record's region meets in a source of `bands` bands, as intervals (lowest, highest). -/
def Rec.bandSpans (r : Rec) (bands : Nat) : List (Nat × Nat) :=
  match r.kind with
  | 1 => [(r.a / 32, r.a / 32)]
  | 2 => [(r.b / 256, r.b / 256)]
  | 3 => if r.b = 0 then [] else [(r.a / 256, (r.a + r.b - 1) / 256)]
  | 4 => [(r.b, r.b)]
  | _ =>
    ((List.range 86).filter fun l => r.lanes.testBit l).flatMap fun l =>
      (laneRows l).filterMap fun (row : Nat) =>
        let off : Int := 256 * (r.bLo : Int) - 16 * row - r.y0
        let lo := max 0 ((r.a : Int) + off)
        let hi := min (256 * (bands : Int) - 1) ((r.b : Int) + off)
        if lo ≤ hi then some (lo.toNat / 256, hi.toNat / 256) else none

/-- The region meets a tile (R312). -/
def Rec.meetsTile (r : Rec) (bands t b : Nat) : Bool :=
  (r.bandSpans bands).any (fun p => p.1 ≤ b && b ≤ p.2) &&
    (match r.kind with
     | 1 => r.a == 32 * b + t
     | 2 => r.a % 8192 / 256 == t
     | 4 => r.a / 256 == t
     | _ => true)

/-- The tile of a top-up is formed; every other tile of it is final at admission with code 0 (R312). -/
def State.tileNeeded (s : State) (c t b : Nat) : Bool :=
  !(s.ctx c).side.topup || s.ledger.recs.any fun r => r.takenBy c && r.meetsTile (s.srcBands c) t b

end Sys2Proof.Machine
end

