-- ==== Sys2Proof/Machine/FormOps.lean ====
section
/-!
DEFINITION. Sys2Proof/Machine/FormOps.lean: the density pass, the raster parser, the tile queue and engines, dose
formation, signatures and the dose window of the EXPOSING stripe (chapters 03 to 07, R94 to R171).
-/

namespace Sys2Proof.Machine

/-! ### Results that complete later (R41) -/

/-- Start a result: READY clears and what it will report is kept. -/
def State.resultStart (s : State) (off : Nat) (w : Waiting) : State :=
  let s1 := s.resStart off
  { s1 with results := sins off w s1.results }

/-- Complete a result that waits, with its event, which names the context of the result, else `ctx`. -/
def State.resultFinish (s : State) (off : Nat) (ev : EvId) (ctx : Option Nat) : State :=
  match s.results.find? fun p => p.1 == off with
  | none => s
  | some p =>
    let s1 := p.2.regs.foldl (fun (a : State) q => a.setReg q.1 q.2) s
    (({ s1 with results := sdel off s1.results } : State).resDone off p.2.stat).raiseAs false ev 0 (p.2.ctx.or ctx)

/-! ### SRAM bytes that a unit meets (R139, R352; log entry 11) -/

/-- Read the SRAM bytes that an operation meets: those that are uncorrectable, and the state after. -/
def State.sramHits (s : State) : List SramHit → List SramHit × State
  | [] => ([], s)
  | h :: hs =>
    let r := s.sramRead h.group.toNat h.row.toNat h.byte.toNat
    let rest := r.2.2.sramHits hs
    (if r.1 == .bad then h :: rest.1 else rest.1, rest.2)

/-- The consequence of an uncorrectable byte for context `c`: of a table (R352), or of a map, in cell row `row` (R139). -/
def State.mapFault (s : State) (c row : Nat) (h : SramHit) : State :=
  if groupRegion h.group.toNat = 4 then s.raiseCtx Ev.MEM_TABLE_FAULT h.group.toNat c
  else s.raiseCtx Ev.CORR_MAP_FAULT row c

/-- Meet the bytes of `hits` for context `c`: none if all could be used, else the state after their consequences. -/
def State.meets (s : State) (hits : List SramHit) (c row : Nat) : Bool × State :=
  let h := s.sramHits hits
  (h.1.isEmpty, h.1.foldl (fun (a : State) b => a.mapFault c row b) h.2)

/-! ### The dose window (R162 to R166) -/

/-- The key of the 256 codes of line `y` in tile column `t`. -/
def winKey (y t : Nat) : Nat := 32 * lineSlot y + t

/-- The code of a pixel of the window. -/
def State.code (s : State) (x y : Nat) : Nat := sget 0 (sget [] s.win.codes (winKey y (x / 256))) (x % 256)

/-- Write the code of a pixel. -/
def State.setCode (s : State) (x y v : Nat) : State :=
  let k := winKey y (x / 256)
  { s with win := { s.win with codes := sput [] s.win.codes k (sput 0 (sget [] s.win.codes k) (x % 256) v) } }

/-- The row that a physical row of a group serves, if it serves one (R358). -/
def Sram.logicalRow (m : Sram) (g prow : Nat) : Option Nat :=
  if prow < 4096 then (if sget 0 m.rowMap (g * 4096 + prow) = 0 then some prow else none)
  else (m.rowMap.find? fun p => p.1 / 4096 == g && p.2 == prow - 4096 + 1).map fun p => p.1 % 4096

/-- The stored byte of an error key holds codes of tile (t, b) (R166, R353). -/
def Sram.inTile (m : Sram) (t b key : Nat) : Bool :=
  let g := key / (4160 * 256)
  match m.logicalRow g (key / 256 % 4160) with
  | none => false
  | some row =>
    let o := g * 2 ^ 20 + row * 256 + key % 256
    g < 60 && o % 384 / 12 == t && o / 384 / 256 / 16 == b % 40

/-- Write the codes of tile (t, b), keyed 256 dy + dx; every stored error of its bytes vanishes (R164, R354). -/
def State.putTile (s : State) (t b : Nat) (codes : Store Nat) : State :=
  let row (dy : Nat) : Store Nat := (codes.filter fun p => p.1 / 256 == dy).map fun p => (p.1 % 256, p.2)
  let c := (List.range 256).foldl
    (fun (m : Store (Store Nat)) dy => sput [] m (winKey (256 * b + dy) t) (row dy)) s.win.codes
  { s with
    win := { s.win with codes := c },
    sram := { s.sram with err := skeep (fun k => !s.sram.inTile t b k) s.sram.err } }

/-- FINAL of a tile (R164). -/
def State.isFinal (s : State) (t b : Nat) : Bool := (sget 0 s.win.fin (b % 40)).testBit t

/-- FINAL of a tile of an admitted band. -/
def State.isFinalTile (s : State) (tile : Nat) : Bool :=
  match s.expo with
  | some e => e.low ≤ tile / 32 && tile / 32 < e.admitted && s.isFinal (tile % 32) (tile / 32)
  | none => false

/-- All 32 tiles of a band are final. -/
def State.bandFinal (s : State) (b : Nat) : Bool := sget 0 s.win.fin (b % 40) == 2 ^ 32 - 1

/-! ### The model of the governor over one band (R274) -/

/-- The costs of the four cells of a tile. -/
def tileCosts (cost : Store Nat) (t b : Nat) : List Nat :=
  (List.range 4).map fun q => sget 0 cost (costKey (2 * t + q % 2 : Nat) (2 * b + q / 2 : Nat))

/-- A tile is split (R115). -/
def Ctx.splits (x : Ctx) (t b : Nat) : Bool := x.samp.splitEn && x.samp.thresh ≤ (tileCosts x.prep.cost t b).sum

/-- The engine clocks of the pieces of band `b` under PIECE_OVH and CPC. -/
def Ctx.pieceClocks (x : Ctx) (ovh cpc b : Nat) : List Nat :=
  (List.range 32).flatMap fun t =>
    let cs := tileCosts x.prep.cost t b
    (if x.splits t b then cs else [cs.sum]).map fun c => ovh + c * cpc / 256

/-- R′ of a band: E engines enabled (R274). -/
def Ctx.bandTime (x : Ctx) (ovh cpc derate e b : Nat) : Nat :=
  let cl := x.pieceClocks ovh cpc b
  let r := max ((cl.sum + e - 1) / e) (cl.foldl max 0)
  (r * derate + 255) / 256

/-! ### Progress of the density pass (R130 to R132) -/

/-- The density pass may start a further band list of context `c` (R131). -/
def State.mayParse (s : State) (c : Nat) : Bool :=
  let x := s.ctx c
  x.prep.parsed < s.srcBands c && decide (256 * (x.prep.parsed : Int) < s.meridian c + 256 * (x.samp.horizon : Int))

/-- The density that band `b` needs has been parsed (R132). -/
def State.densReady (s : State) (c b : Nat) : Bool := min (b + 17) (s.srcBands c - 1) < (s.ctx c).prep.parsed

/-- Some tile of bands up to `b` of the stripe is not final (R138). DESIGN CHOICE (log entry 140): a retired band counts as
final, whatever its tiles are. -/
def State.unfinalUpTo (s : State) (c b : Nat) : Bool :=
  let x := s.ctx c
  match s.expo with
  | some e =>
    e.ctx != c || (List.range (x.bandEnd - e.low)).any fun i =>
      e.low + i ≤ b && (e.admitted ≤ e.low + i || !s.bandFinal (e.low + i))
  | none => true

/-- The density rows that band `b` reads are final and held (R132, R138, R141). -/
def State.densHeld (s : State) (c b : Nat) : Bool :=
  ((s.ctx c).st == 4 || (s.ctx c).st == 5) && s.densReady c b && s.unfinalUpTo c (max 17 b)

/-! ### Faults of the parsers (R94 to R98) -/

/-- Capture the first fault (R98). -/
def State.captureFault (s : State) (c source code band gran : Nat) : State :=
  if wbit (s.reg Reg.JOB_FAULT_INFO) 31 then s
  else
    ((s.setReg Reg.JOB_FAULT_INFO (pack [(31, 1), (24, c), (12, source), (0, code)])).setReg Reg.JOB_FAULT_BAND
      (w32 band)).setReg Reg.JOB_FAULT_GRAN (w32 gran)

/-- A record or directory fault. -/
def State.recordFault (s : State) (c source code band gran : Nat) : State :=
  (s.captureFault c source code band gran).raiseCtx Ev.JOB_RECORD_FAULT code c

/-- An unusable geometry line (R97). -/
def State.geomMemFault (s : State) (c band line : Nat) : State :=
  (s.captureFault c 3 0 band ((64 * line - (s.ctx c).d.geomAddr) / 8)).raiseCtx Ev.JOB_GEOM_MEM_FAULT 0 c

/-- Read lines `a` to `b` in address order up to the first unusable one, which is answered. -/
def State.readLinesTo (s : State) (input a : Nat) : Nat → Option Nat × State
  | 0 => (none, s)
  | n + 1 =>
    let r := s.dramReadLine input a
    if r.1.usable then r.2.readLinesTo input (a + 1) n else (some a, r.2)

/-- What a parser's look at one record or directory entry gives: the next granule, a fault code, or an unusable line. -/
inductive Parsed where
  | ok (next : Nat)
  | fault (code gran : Nat)
  | mem (line : Nat)
  deriving DecidableEq, Repr

/-- Read and check the directory entry of band `b` (R469). -/
def State.parseDir (s : State) (input c b : Nat) : Parsed × State :=
  let d := (s.ctx c).d
  let r := s.readLinesTo input ((d.geomAddr + 16 * b) / 64) 1
  match r.1 with
  | some l => (.mem l, r.2)
  | none =>
    let e := dirEntry (s.geom c) b
    (if dirOk d.geomSize e then .ok e.off else .fault 9 (2 * b), r.2)

/-- Read and check the record at `gran` of a list that starts at `first` and ends before `fin`. DESIGN CHOICE (log entry
37): of a record whose LEN runs past the end of its list, the lines up to that end are read before BAD_LEN is found. -/
def State.parseRecord (s : State) (input c b first fin gran : Nat) : Parsed × State :=
  let base := (s.ctx c).d.geomAddr
  let lineOf (g : Nat) : Nat := (base + 8 * g) / 64
  let g := s.geom c
  let from' := if gran = first ∨ lineOf gran ≠ lineOf (gran - 1) then lineOf gran else lineOf gran + 1
  let head := s.readLinesTo input from' (lineOf gran + 1 - from')
  match head.1 with
  | some l => (.mem l, head.2)
  | none =>
    let last := lineOf (min fin (gran + max 1 (recLen g gran)) - 1)
    let rest := head.2.readLinesTo input (lineOf gran + 1) (last - lineOf gran)
    match rest.1 with
    | some l => (.mem l, rest.2)
    | none =>
      let code := checkRecord g ((s.ctx c).d.bands) b fin gran
      (if code = 0 then .ok (gran + recLen g gran) else .fault code gran, rest.2)

/-- Check the records of a list from `gran` on, `n` of them found so far; at its end COUNT is checked (R469). -/
def State.parseList (s : State) (input c b first fin count : Nat) : Nat → Nat → Nat → Parsed × State
  | 0, gran, _ => (.ok gran, s)
  | fuel + 1, gran, n =>
    if fin ≤ gran then (if n = count then .ok gran else .fault 8 first, s)
    else
      let r := s.parseRecord input c b first fin gran
      match r.1 with
      | .ok next => r.2.parseList input c b first fin count fuel next (n + 1)
      | o => (o, r.2)

/-- What a fault or an unusable line found by a parser does. -/
def State.parserFault (s : State) (c source b : Nat) : Parsed → State
  | .ok _ => s
  | .fault code gran => s.recordFault c source code b gran
  | .mem l => s.geomMemFault c b l

/-- The start hold ends once the density pass reached its stop or parsed the last list (R279). -/
def State.checkStartHold (s : State) : State :=
  match s.expo with
  | some e =>
    if e.startHold && !s.mayParse e.ctx then
      ({ s with expo := some { e with startHold := false } } : State).raiseCtx Ev.GOV_START_DONE 0 e.ctx
    else s
  | none => s

/-- The context that the density pass works on (R131). -/
def State.parseTarget (s : State) : Option Nat :=
  match (s.exposing.filter fun c => s.mayParse c) with
  | some c => some c
  | none => s.priming.filter fun c => s.mayParse c

/-- The density pass works one band list into the maps of context `c` (R126 to R130). -/
def State.densApply (s : State) (c b : Nat) : State :=
  let g := s.geom (s.sourceOf c)
  let x := s.ctx c
  let bands := s.srcBands c
  let grans := bandGrans g b
  let p : Prep :=
    { x.prep with
      parsed := b + 1,
      dens := grans.foldl (fun m gr => densAdd bands g gr m) x.prep.dens,
      cost := grans.foldl (fun m gr => costAdd bands x.samp.wPrim x.samp.wEdge x.samp.wByte g gr m) x.prep.cost }
  ((s.setCtx c { x with prep := p }).rewrites 2).rewrites 3

/-- The granule that an uncorrectable byte of the staging held is fetched again (R352). -/
def State.refetch (s : State) (src gran : Nat) : List SramHit → Option Nat × State
  | [] => (none, s)
  | _ :: _ => s.readLinesTo 0 (((s.ctx src).d.geomAddr + 8 * gran) / 64) 1

/-- The density pass parses one band list (R94, R125 to R131, R469). `hits` are the bytes with errors that it meets: of its
staging, which held granule `gran`, and of the maps, at cell row `row` (R139, R352). -/
def densParseAct (hits : List SramHit) (row gran : Nat) (s : State) : State :=
  match s.parseTarget with
  | none => s
  | some c =>
    let src := s.sourceOf c
    let b := (s.ctx c).prep.parsed
    let h := s.sramHits hits
    let again := h.2.refetch src gran (h.1.filter fun x => groupRegion x.group.toNat == 3)
    let maps := h.1.filter fun x => groupRegion x.group.toNat != 3
    match again.1 with
    | some l => again.2.geomMemFault c b l
    | none =>
      if !maps.isEmpty then maps.foldl (fun (a : State) x => a.mapFault c row x) again.2
      else
        let dir := again.2.parseDir 0 src b
        match dir.1 with
        | .ok _ =>
          let e := dirEntry (s.geom src) b
          let r := dir.2.parseList 0 src b e.off (e.off + e.len) e.count (e.len + 1) e.off 0
          match r.1 with
          | .ok _ => (r.2.densApply c b).checkStartHold
          | o => r.2.parserFault c 0 b o
        | o => dir.2.parserFault c 0 b o

/-! ### The raster parser (R102, R152) -/

/-- Change the parsers of a context. -/
def State.setPrep (s : State) (c : Nat) (p : Prep) : State := s.setCtx c { s.ctx c with prep := p }

/-- File a record that the parser presents in the buckets of the tiles of `want` that it touches (R102). Density-only
records are never presented (R81). -/
def State.fileRec (s : State) (c gran : Nat) (want : Nat → Bool) : State :=
  let src := s.sourceOf c
  let g := s.geom src
  if recDens g gran then s
  else
    let r := presented (s.xformTab src) g gran
    let p := (s.ctx c).prep
    (s.setPrep c
      { p with
        buckets := ((r.tiles (s.srcBands c)).filter want).foldl (fun m t => sput [] m t (sget [] m t ++ [r])) p.buckets }).rewrites
      3

/-- The bucket of a tile. -/
def State.bucketOf (s : State) (c tile : Nat) : List CovRec := sget [] (s.ctx c).prep.buckets tile

/-- The raster parser takes a band list again for a tile that is regenerated (R152). -/
def State.parseAgain (s : State) (c tile b : Nat) : State :=
  let src := s.sourceOf c
  let dir := s.parseDir 1 src b
  match dir.1 with
  | .ok _ =>
    let e := dirEntry (s.geom src) b
    let r := dir.2.parseList 1 src b e.off (e.off + e.len) e.count (e.len + 1) e.off 0
    match r.1 with
    | .ok _ =>
      let s1 := (bandGrans (s.geom src) b).foldl (fun (a : State) gran => a.fileRec c gran fun t => t == tile) r.2
      let p := (s1.ctx c).prep
      let last := min (tile / 32 + 1) (s.srcBands c - 1)
      s1.setPrep c { p with again := if last ≤ b then p.again.tail else (tile, b + 1) :: p.again.tail }
    | o => r.2.parserFault c 1 b o
  | o => dir.2.parserFault c 1 b o

/-- The raster parser presents the next record of the EXPOSING stripe, or passes to the next list (R102). -/
def State.parseNext (s : State) (c : Nat) : State :=
  let src := s.sourceOf c
  let p := (s.ctx c).prep
  let b := p.band
  let e := dirEntry (s.geom src) b
  if s.srcBands c ≤ b then s
  else if !p.inside then
    let dir := s.parseDir 1 src b
    match dir.1 with
    | .ok off =>
      if e.len = 0 then
        if e.count = 0 then dir.2.setPrep c { p with band := b + 1 } else dir.2.recordFault c 1 8 b e.off
      else dir.2.setPrep c { p with inside := true, gran := off, count := 0 }
    | o => dir.2.parserFault c 1 b o
  else
    let r := s.parseRecord 1 src b e.off (e.off + e.len) p.gran
    match r.1 with
    | .ok next =>
      let s1 := r.2.fileRec c p.gran fun t => !r.2.isFinalTile t
      let q := (s1.ctx c).prep
      if next < e.off + e.len then s1.setPrep c { q with gran := next, count := q.count + 1 }
      else if p.count + 1 = e.count then s1.setPrep c { q with inside := false, band := b + 1, gran := 0, count := 0 }
      else s1.recordFault c 1 8 b e.off
    | o => r.2.parserFault c 1 b o

/-- The raster parser works (R102): lists to be taken again for a regeneration come first (log entry 34). It stalls while
the staging region is full. `hits` are bytes with errors of the transform table. -/
def rasterParseAct (full : Bool) (hits : List SramHit) (s : State) : State :=
  match s.exposing with
  | none => s
  | some c =>
    let h := s.meets hits c 0
    if full || !h.1 then h.2
    else
      match (h.2.ctx c).prep.again with
      | (tile, b) :: _ => h.2.parseAgain c tile b
      | [] => h.2.parseNext c

/-- Every record whose coverage can reach the tile has been presented (R81, R101), also for its regeneration (R152). -/
def State.bucketFull (s : State) (c tile : Nat) : Bool :=
  let p := (s.ctx c).prep
  min (tile / 32 + 1) (s.srcBands c - 1) < p.band && p.again.all fun q => q.1 != tile

/-! ### Captures and ends of tiles -/

/-- A signature capture completes (R158). -/
def State.capDone (s : State) (c : Nat) (void compared ok regen : Bool) (comp expect : Nat) : State :=
  let s1 := (((s.setReg Reg.SIG_CAP_CALC_LO (w32 comp)).setReg Reg.SIG_CAP_CALC_HI (w32 (comp / 2 ^ 32))).setReg
    Reg.SIG_CAP_EXP_LO (w32 expect)).setReg Reg.SIG_CAP_EXP_HI (w32 (expect / 2 ^ 32))
  let s2 := s1.resDone Reg.SIG_CAP_STAT [(30, b2n void), (29, b2n compared), (28, b2n ok), (27, b2n regen)]
  ({ s2 with form := { s2.form with cap := none } } : State).raiseCtx Ev.SIG_CAP_DONE 0 c

/-- The capture names this tile of this context. -/
def State.capIs (s : State) (c tile : Nat) : Bool := s.form.cap == some (c, tile)

/-- The armed signature force names this tile (R415). -/
def State.forceIs (s : State) (c tile : Nat) : Bool :=
  s.test.sigArmed && s.rf Reg.TEST_SIG 20 7 == c && s.rf Reg.TEST_SIG 0 20 == tile

/-- Disarm the signature force if it names this tile. -/
def State.disarmForce (s : State) (c tile : Nat) : State :=
  if s.forceIs c tile then { s with test := { s.test with sigArmed := false } } else s

/-- A band whose tiles are all final is compared with its model (R283), as the latest plan cycle took it (R278). -/
def State.checkModel (s : State) (b : Nat) : State :=
  match s.expo with
  | none => s
  | some e =>
    let w := (((s.ctx e.ctx).pieceClocks (fld s.gov.model 20 12) (fld s.gov.model 10 10) b).sum)
    let act := sget 0 e.wAct b
    let s1 := if w = 0 then s else s.peak Reg.GOV_FIT 0 16 (min 65535 (256 * act / w))
    if w * fld s.gov.model 0 10 < act * 256 then (s1.bump Reg.GOV_SLIPS).raiseCtx Ev.GOV_MODEL_SLIP b e.ctx else s1

/-- The bucket of a tile is given up, and nothing is taken again for it. -/
def State.dropBucket (s : State) (c tile : Nat) : State :=
  let p := (s.ctx c).prep
  s.setPrep c { p with buckets := sdel tile p.buckets, again := p.again.filter fun q => q.1 != tile }

/-- A tile's codes become final (R149, R164): its attempt ends. A capture still armed for it has met no hand-off (R158). -/
def State.tileFinal (s0 : State) (c t b : Nat) : State :=
  let tile := 32 * b + t
  let s := if s0.capIs c tile then s0.capDone c true false false false 0 0 else s0
  let m := sget 0 s.win.fin (b % 40) ||| 2 ^ t
  let s1 : State :=
    { s with
      win := { s.win with fin := sput 0 s.win.fin (b % 40) m },
      form := { s.form with tiles := sdel tile s.form.tiles } }
  let s2 := (s1.dropBucket c tile).disarmForce c tile
  if s2.bandFinal b && !s.bandFinal b then s2.checkModel b else s2

/-- An engine's disable takes effect at the end of its piece (R120). -/
def State.enginesOn (s : State) : Nat := (s.reg Reg.RAST_ENG_EN_LO).toNat + 2 ^ 32 * (s.reg Reg.RAST_ENG_EN_HI).toNat

/-- An engine of the raster. -/
def State.engine (s : State) (i : Nat) : Engine := sget Engine.reset s.form.engines i

def State.setEngine (s : State) (i : Nat) (e : Engine) : State :=
  { s with form := { s.form with engines := sput Engine.reset s.form.engines i e } }

/-- The engine has finished: a cleared enable takes effect (R120). -/
def State.enginePasses (s : State) (i : Nat) : State :=
  if s.enginesOn.testBit i then s else { s with form := { s.form with engOn := s.form.engOn &&& (2 ^ 48 - 1 - 2 ^ i) } }

/-- Add engine clocks to W_act of a band (R283). -/
def State.spent (s : State) (b clk : Nat) : State :=
  { s with expo := s.expo.map fun e => { e with wAct := sput 0 e.wAct b (sget 0 e.wAct b + clk) } }

/-- An engine gives up a piece it works on or holds; the clocks spent on one not complete count (R283). -/
def State.stopEngine (s : State) (i tile : Nat) : State :=
  let e := s.engine i
  let s1 := if e.held then s else s.spent (tile / 32) (s.ctl - e.start)
  (s1.setEngine i Engine.reset).enginePasses i

/-- Stop every engine that works on or holds a piece of a tile, and drop its pieces from the queue (R118 step 1). -/
def State.stopTile (s : State) (tile : Nat) : State :=
  let s1 := (List.range 48).foldl
    (fun (a : State) i =>
      match (a.engine i).piece with
      | some p => if p.tile = tile then a.stopEngine i tile else a
      | none => a) s
  { s1 with form := { s1.form with queue := s1.form.queue.filter fun p => p.tile != tile } }

/-- Write a tile dark (R118 step 2, R150, R164): all codes 0, final. -/
def State.darkTile (s : State) (c t b : Nat) : State := ((s.stopTile (32 * b + t)).putTile t b []).tileFinal c t b

/-- Abandon a tile with a ledger cause and its event (R118, R119). -/
def State.abandonTile (s : State) (c t b cause : Nat) (ev : EvId) : State :=
  let s1 := (s.darkTile c t b).makeRecord c cause (32 * b + t) 0 0 none
  ((s1.bump Reg.RAST_LATE).setReg Reg.RAST_LATE_TILE (pack [(25, c), (0, 32 * b + t)])).raiseCtx ev b c

/-- The deadline transit of band `b` (R118). -/
def Ctx.deadline (x : Ctx) (b : Nat) : Nat := x.d.y0 + 256 * (b - x.band0) - x.samp.guard

/-- The deadline transit of band `b` of the EXPOSING stripe has fired. -/
def State.deadlinePassed (s : State) (b : Nat) : Bool :=
  match s.expo with
  | some e => (match e.fired with
    | some n => (s.ctx e.ctx).deadline b ≤ n
    | none => false)
  | none => false

/-- A tile attempt. -/
def State.tile? (s : State) (tile : Nat) : Option Tile := (s.form.tiles.find? fun p => p.1 == tile).map Prod.snd

def State.setTile (s : State) (tile : Nat) (x : Tile) : State :=
  { s with form := { s.form with tiles := sins tile x s.form.tiles } }

/-- A piece of the tile is not complete. -/
def State.incomplete (s : State) (t b : Nat) : Bool :=
  !s.isFinal t b && (match s.tile? (32 * b + t) with
    | some x => x.stage == 0
    | none => true)

/-- Abandon every tile of the admitted bands whose deadline transit has fired with a piece incomplete (R118). -/
def lateTilesAct (s : State) : State :=
  match s.expo with
  | none => s
  | some e =>
    (List.range (e.admitted - e.low)).foldl
      (fun (a : State) i =>
        let b := e.low + i
        if !a.deadlinePassed b then a
        else (List.range 32).foldl
          (fun (a : State) t => if a.incomplete t b then a.abandonTile e.ctx t b 1 Ev.RAST_TILE_LATE else a) a) s

/-! ### The tile queue and engines (R115 to R120) -/

/-- The pieces of a tile. -/
def tilePieces (tile : Nat) (split : Bool) : List Piece :=
  if split then (List.range 4).map fun q => ⟨tile, some q⟩ else [⟨tile, none⟩]

/-- Insert a tile into an order of descending cost, ties by ascending number (R116). -/
def insertByCost (cost : Nat → Nat) (t : Nat) : List Nat → List Nat
  | [] => [t]
  | u :: us => if cost u < cost t then t :: u :: us else u :: insertByCost cost t us

/-- The order in which the tile columns of a band enter the queue. -/
def queueOrder (cost : Nat → Nat) (ts : List Nat) : List Nat := ts.foldl (fun l t => insertByCost cost t l) []

/-- Start an attempt of a tile; `clamped` says that DOSE_CLAMP has been raised for it (R137). -/
def State.startAttempt (s : State) (tile : Nat) (regen split clamped : Bool) : State :=
  let s1 := s.setTile tile ⟨regen, split, if split then 4 else 1, 0, 0, clamped, [], 0, 0, false⟩
  if split then s1.bump Reg.RAST_SPLITS else s1

/-- A band's pieces enter the queue once it is admitted and its cost rows are final (R116). `hits` are bytes with errors of
the cost map, at cell row `row` (R139). Of a band that was retired before its cost rows were final no tile is left: all are
abandoned (R118, R163). -/
def bandEnqueueAct (hits : List SramHit) (row : Nat) (s0 : State) : State :=
  match s0.expo with
  | none => s0
  | some e =>
    let h := s0.meets hits e.ctx row
    let s := h.2
    let x := s.ctx e.ctx
    let b := e.enqueued
    if !h.1 || e.admitted ≤ b || x.prep.parsed ≤ b then s
    else
      let ts := (List.range 32).filter fun t => e.low ≤ b && !s.isFinal t b
      let ord := queueOrder (fun t => (tileCosts x.prep.cost t b).sum) ts
      let s1 := ord.foldl
        (fun (a : State) t =>
          let a1 := a.startAttempt (32 * b + t) false (x.splits t b) false
          { a1 with form := { a1.form with queue := a1.form.queue ++ tilePieces (32 * b + t) (x.splits t b) } }) s
      { s1 with expo := some { e with enqueued := b + 1 } }

/-- A tile goes back for regeneration, ahead of every piece not yet taken (R116, R152): its bucket is emptied, and the
raster parser takes its records again from the geometry region. -/
def State.regenerate (s : State) (c tile : Nat) (split : Bool) : State :=
  let s1 := s.startAttempt tile true split ((s.tile? tile).any Tile.clamped)
  let p := (s1.ctx c).prep
  let s2 := s1.setPrep c { p with buckets := sdel tile p.buckets, again := p.again ++ [(tile, tile / 32 - 4)] }
  { s2 with form := { s2.form with queue := tilePieces tile split ++ s2.form.queue } }

/-- The bitmap that the decoder of engine `i` works on: the granule of its record. -/
def State.decoding (s : State) (c i : Nat) : Option Nat :=
  let e := s.engine i
  e.piece.bind fun p => (bucketBits (s.bucketOf c p.tile))[e.raws.length]?

/-- Where the encoded bytes of the bitmap record at a granule begin in DRAM (R87). -/
def State.encStart (s : State) (c gran : Nat) : Nat := (s.ctx (s.sourceOf c)).d.geomAddr + 8 * gran + 24

/-- What the decoder of a bitmap record gets to from the bytes that lie before a DRAM line (R90, R93). -/
def State.decodeBefore (s : State) (c gran line : Nat) : Decoded :=
  let g := s.geom (s.sourceOf c)
  let raw := (bitmapOf g gran).raw
  decodeTokens raw (raw + 1) [] ((encBytes g gran).take (64 * line - s.encStart c gran))

/-- The decoder comes to read a line of the record: it holds part of the header, or encoded bytes that the decoder still
wants after those before the line. -/
def State.wantsLine (s : State) (c gran line : Nat) : Bool :=
  decide (64 * line < s.encStart c gran) ||
    (decide (64 * line < s.encStart c gran + (bitmapOf (s.geom (s.sourceOf c)) gran).encLen) &&
      match s.decodeBefore c gran line with
      | .fault 4 _ => true
      | _ => false)

/-- The decoder reads the lines of a bitmap record in address order, as far as it comes (R97, R367): the first unusable one,
and the state after. -/
def State.decoderReads (s : State) (c gran : Nat) : Option Nat × State :=
  let a := (s.ctx (s.sourceOf c)).d.geomAddr + 8 * gran
  let first := a / 64
  let last := (a + 8 * recLen (s.geom (s.sourceOf c)) gran - 1) / 64
  s.readLinesTo 2 first (((List.range (last + 1 - first)).takeWhile fun i => s.wantsLine c gran (first + i)).length)

/-- The bytes that the decoder puts out for the bitmap at a granule, up to an unusable line if it meets one. -/
def State.bitmapOut (s : State) (c gran : Nat) : Option Nat → Nat
  | some line => (s.decodeBefore c gran line).made
  | none => (decodeBitmap (s.geom (s.sourceOf c)) gran).made

/-- The bytes for which the output buffer needs room before the decode ends, in a fault or not (R93, R97). -/
def State.bitmapNeed (s : State) (c gran : Nat) : Nat := s.bitmapOut c gran (s.decoderReads c gran).1

/-- Give the decoder of engine `i` room for `room` more bytes: it stops again if that is not enough (R93). DESIGN CHOICE (log
entry 133): a buffer that fills with the last byte that the decode puts out is no stop. The workspace is written (R354). -/
def State.decoderRoom (s : State) (c i room : Nat) : State :=
  let e := s.engine i
  let made := e.made + room
  match s.decoding c i with
  | none => (s.setEngine i { e with made := made, stopped := false }).rewrites 1
  | some gran =>
    let full : Bool := made < s.bitmapNeed c gran
    let s1 := (s.setEngine i { e with made := made, stopped := full }).rewrites 1
    if full then s1.bump Reg.JOB_DEC_SUSPEND else s1

/-- An idle enabled engine takes the piece at the head of the queue (R116); `room` is what the output buffer of its
decoder can take at first. -/
def pieceDispatchAct (room : Nat) (s : State) : State :=
  match s.expo, s.form.queue with
  | some e, p :: ps =>
    let on := s.form.engOn ||| s.enginesOn
    let s1 : State := { s with form := { s.form with engOn := on } }
    match (List.range 48).find? fun i => s.enginesOn.testBit i && (s1.engine i).piece.isNone with
    | none => s1
    | some i =>
      let s2 := s1.setEngine i { Engine.reset with piece := some p, start := s.ctl }
      ({ s2 with form := { s2.form with queue := ps } } : State).decoderRoom e.ctx i room
  | _, _ => s

/-- A stopped decoder resumes from its kept position once space frees (R93). -/
def decodeResumeAct (i room : Nat) (s : State) : State :=
  match s.exposing with
  | some c => if (s.engine i).stopped && room != 0 then s.decoderRoom c i room else s
  | none => s

/-- The class in force of an event. -/
def State.classNow (s : State) (ev : EvId) : Nat := (s.hdr ev.page).classOf ev.page ev.bit

/-- A decode fault (R92, R96): a Repairable one writes the tile dark. -/
def State.decodeFault (s : State) (c tile gran code : Nat) : State :=
  let s1 := s.captureFault c 2 code (tile / 32) gran
  let s2 := if s.classNow Ev.JOB_DECODE_FAULT = 1 then
    (s1.darkTile c (tile % 32) (tile / 32)).makeRecord c 5 tile 0 0 none else s1
  s2.raiseCtx Ev.JOB_DECODE_FAULT code c

/-- A bitmap decode of engine `i` ends (R92, R96); `room` is the room that its buffer has for the next. Each piece of a
split tile decodes the bitmaps of the tile, and JOB_DEC_TILES counts each decode (log entry 35). -/
def decodeDoneAct (i room : Nat) (s : State) : State :=
  match s.exposing, (s.engine i).piece with
  | some c, some p =>
    let e := s.engine i
    match s.decoding c i with
    | none => s
    | some gran =>
      let r := s.decoderReads c gran
      if e.stopped || e.held then s
      else if e.made < s.bitmapOut c gran r.1 then s.decoderRoom c i 0
      else
        match r.1 with
        | some l => r.2.geomMemFault c (p.tile / 32) l
        | none =>
          match decodeBitmap (s.geom (s.sourceOf c)) gran with
          | .bytes raw =>
            ((r.2.setEngine i { e with raws := e.raws ++ [raw], made := 0 }).bump Reg.JOB_DEC_TILES).decoderRoom c i room
          | .fault code _ => r.2.decodeFault c p.tile gran code
  | _, _ => s

/-- Merge the sums of a piece into those of its tile. -/
def mergeSums (a b : Store Nat) : Store Nat := b.foldl (fun m p => sins p.1 p.2 m) a

/-- The pixels whose sum exceeds 4,095 (R113). -/
def satCount (m : Store Nat) : Nat := (m.filter fun p => 4095 < p.2).length

/-- The slowest piece (R123). DESIGN CHOICE (log entry 120): of equal clocks the first piece is kept. -/
def State.peakPiece (s : State) (c : Nat) (p : Piece) (clk : Nat) : State :=
  if (s.reg Reg.RAST_PEAK_CLK).toNat < clk then
    (s.setReg Reg.RAST_PEAK_CLK (w32 clk)).setReg Reg.RAST_PEAK_TILE
      (pack [(25, c), (24, b2n p.quarter.isSome), (20, p.quarter.getD 0), (0, p.tile)])
  else s

/-- A tile whose coverage is complete waits for density (R132): counted, and DENS_WAIT once a band. -/
def State.noteWait (s : State) (c b : Nat) : State :=
  if s.densReady c b then s
  else
    let s1 := s.bump Reg.CORR_WAITS
    let x := s1.ctx c
    if x.prep.densWait.contains b then s1
    else (s1.setCtx c { x with prep := { x.prep with densWait := b :: x.prep.densWait } }).raiseCtx Ev.CORR_DENS_WAIT b c

/-- An engine completes its piece after `clk` clocks (R112, R113, R117, R123, R283), once every record of the tile has been
presented and its bitmaps are decoded (R81). DESIGN CHOICE (log entry 118): flips and saturations are counted and raised here,
so that what never completes adds none; R108 and R113 do not say. -/
def pieceDoneAct (i clk : Nat) (s : State) : State :=
  match s.expo, (s.engine i).piece with
  | some e, some p =>
    let c := e.ctx
    match s.tile? p.tile with
    | none => s
    | some x =>
      let bucket := s.bucketOf c p.tile
      if (s.engine i).held || !s.bucketFull c p.tile || (bucketBits bucket).length ≠ (s.engine i).raws.length then s
      else
        let b := p.tile / 32
        let recs := withRaws bucket (s.engine i).raws
        let sums := pieceSums recs (p.tile % 32) b p.quarter
        let sat := satCount sums
        let flips := if x.left = (if x.split then 4 else 1) then bucketFlips recs else 0
        let s1 := ((s.setEngine i { s.engine i with held := true }).enginePasses i).peakPiece c p clk
        let s2 := s1.spent b clk
        let s3 := if flips = 0 then s2 else (s2.addCnt Reg.RAST_FLIPS flips).raiseCtx Ev.RAST_XFORM_FLIP b c
        let s4 := if sat = 0 then s3 else s3.addCnt Reg.RAST_SATS sat
        let s5 := if sat ≠ 0 && satCount x.cov = 0 then s4.raiseCtx Ev.RAST_ACC_SAT b c else s4
        let x1 : Tile := { x with left := x.left - 1, cov := mergeSums x.cov sums }
        if x1.left ≠ 0 then s5.setTile p.tile x1
        else
          let s6 := (s5.setTile p.tile { x1 with stage := 1, order := s5.form.order }).bump Reg.RAST_TILES
          ({ s6 with form := { s6.form with order := s6.form.order + 1 } } : State).noteWait c b
  | _, _ => s

/-- A byte of the accumulators, the bitmap staging or a tile bucket that an engine reads carries an error (R119, R352, R355);
one that is uncorrectable abandons the tile. -/
def workspaceAct (i : Nat) (hit : SramHit) (s : State) : State :=
  let r := s.sramRead hit.group.toNat hit.row.toNat hit.byte.toNat
  if r.1 ≠ .bad then r.2.2
  else
    match s.exposing, (s.engine i).piece with
    | some c, some p => r.2.2.abandonTile c (p.tile % 32) (p.tile / 32) 2 Ev.RAST_WORKSPACE_FAULT
    | _, _ => r.2.2

/-- A write of the engine enables (R120). -/
def engEnAct (hi : Bool) (v : Word) (s : State) : State :=
  let s1 := s.writeRw (if hi then Reg.RAST_ENG_EN_HI else Reg.RAST_ENG_EN_LO) v
  if s1.enginesOn = 0 then s.raise Ev.RAST_ENG_NONE 0
  else (List.range 48).foldl
    (fun (a : State) i => if (a.engine i).piece.isNone || (a.engine i).held then a.enginePasses i else a) s1

/-- A write of RAST_CTL (R121). -/
def rastCtlAct (v : Word) (s : State) : State :=
  if fld v 16 10 < 64 then s.raise Ev.RAST_CFG_RANGE 0 else s.writeRw Reg.RAST_CTL v

/-- The stored Y range of a context, both ends included (R122, R470). -/
def Ctx.yRange (x : Ctx) : Nat × Nat := (65536 * x.band0, 65536 * x.bandEnd)

/-- A write of RAST_PROBE_CMD: the probe takes its inputs now (R122). DESIGN CHOICE (log entry 36): RANGE of a context that
is FREE or LOADING, whose L is not known, is formed from the bands that the context holds. DESIGN CHOICE (log entry 119):
RAST_PROBE_D reads 0 too when VALID = 0 or RANGE = 1. -/
def rastProbeAct (v : Word) (s : State) : State :=
  let c := fld v 0 7
  let x := s.ctx c
  let p : Pt := ⟨sext 32 (s.reg Reg.RAST_PROBE_X).toNat, sext 32 (s.reg Reg.RAST_PROBE_Y).toNat⟩
  let valid := x.st != 0 && x.st != 1
  let range := decide (p.x < 0) || decide (2097152 < p.x) || decide (p.y < (x.yRange.1 : Int)) ||
    decide ((x.yRange.2 : Int) < p.y)
  let q := xform (xformOf x.xf) p
  let ok := valid && !range
  s.resultStart Reg.RAST_PROBE_STAT
    ⟨[(Reg.RAST_PROBE_XO, if ok then w32i q.x else 0), (Reg.RAST_PROBE_YO, if ok then w32i q.y else 0),
      (Reg.RAST_PROBE_D, if ok then pack [(16, toBits 16 (q.y - p.y)), (0, toBits 16 (q.x - p.x))] else 0)],
     [(30, b2n valid), (29, b2n range)], some c⟩

/-! ### Dose formation (R132 to R141) -/

/-- The attempt that dose formation takes next (R132). -/
def State.doseNext (s : State) (c : Nat) : Option Nat :=
  let ready := s.form.tiles.filter fun p => p.2.stage == 1 && s.densReady c (p.1 / 32)
  leastBy (fun t => (s.tile? t).elim 0 Tile.order) (ready.map Prod.fst)

/-- Count the factor cells of a tile whose index was limited, each once (R135). DESIGN CHOICE (log entry 104): cells of row
−1, which lies in no band, count with band 0, and those of row 2 × BANDS with band BANDS; R143 does not say. DESIGN CHOICE
(log entry 139): neither a dose probe nor the recomputation of a regeneration counts. -/
def State.idxSats (s : State) (c t b : Nat) : State :=
  let cx := s.ctx c
  let tab := (s.ctx (s.sourceOf c)).dose
  let hit := (tileCells t b).filter fun p => 1023 < convRaw tab (s.density c) p.1 p.2
  hit.foldl
    (fun (a : State) p =>
      let key := densKey p.1 (p.2 + 1)
      let x := a.ctx c
      if x.prep.idxSat.contains key then a
      else
        let band := (max 0 p.2).toNat / 2
        let first := !(x.prep.idxSat.any fun k => (k / 128 - 1) / 2 == band)
        let a1 := (a.bump Reg.CORR_IDX_SATS).setCtx c { x with prep := { x.prep with idxSat := key :: x.prep.idxSat } }
        if first then a1.raiseCtx Ev.CORR_IDX_SAT band c else a1) (s.setCtx c cx)

/-- Dose formation takes a tile (R132); `hits` are the map and table bytes with errors that it reads, `row` the cell row
of an uncorrectable map entry (R139). -/
def doseFormAct (hits : List SramHit) (row : Nat) (s : State) : State :=
  match s.exposing with
  | none => s
  | some c =>
    let h := s.meets hits c row
    if !h.1 then h.2
    else if h.2.form.tiles.any fun p => p.2.stage == 2 then h.2
    else
      match h.2.doseNext c with
      | none => h.2
      | some tile =>
        match h.2.tile? tile with
        | none => h.2
        | some x =>
          let s1 := (List.range 48).foldl
            (fun (a : State) i =>
              match (a.engine i).piece with
              | some p => if p.tile = tile then a.setEngine i Engine.reset else a
              | none => a) h.2
          ((s1.setTile tile { x with stage := 2 }).idxSats c (tile % 32) (tile / 32)).rewrites 2

/-- The signature list line of a tile's entry. -/
def State.sigLine (s : State) (c tile : Nat) : Nat := ((s.ctx c).d.sigAddr + 8 * tile) / 64

/-- A tile is written dark for an unusable list entry (R148); a capture of its hand-off reports the signature, not compared
(R158). -/
def State.sigMemDark (s : State) (c tile : Nat) (x : Tile) : State :=
  let s1 := if s.capIs c tile then s.capDone c false false false x.regen x.sig 0 else s
  ((s1.darkTile c (tile % 32) (tile / 32)).makeRecord c 4 tile 0 0 none).bump Reg.SIG_DARK

/-- The list entry of a tile is read when its codes are handed off (R147, R148); the attempt `x` keeps what the read gave.
DESIGN CHOICE (log entry 108): each hand-off reads, and a tile whose entry was read before the line became unusable is still
compared; R148 does not say when entries are read. DESIGN CHOICE (log entry 124): where the unusable line aborts the stripe, a
capture of this hand-off is voided with it (R155), else it reports the signature. -/
def State.sigEntry (s : State) (c tile : Nat) (x : Tile) : State :=
  let line := s.sigLine c tile
  if s.form.sigDark.contains line then s.sigMemDark c tile x
  else
    let r := s.dramReadLine 3 line
    let o := ((s.ctx c).d.sigAddr + 8 * tile) % 64
    if r.1.usable then
      r.2.setTile tile { x with expect := leNat ((r.1.bytes.drop o).take 8), cap := r.2.capIs c tile }
    else
      let first := (64 * line - (s.ctx c).d.sigAddr) / 8 / 32
      let s1 := r.2.raiseCtx Ev.SIG_MEM_FAULT first c
      if s.classNow Ev.SIG_MEM_FAULT = 1 then
        ({ s1 with form := { s1.form with sigDark := line :: s1.form.sigDark } } : State).sigMemDark c tile x
      else s1

/-- Dose formation hands a tile's codes to the signature unit and the dose window (R137, R149, R164). DESIGN CHOICE (log
entry 107): CORR_TILES and CORR_CLAMPS count every hand-off, that of a regenerated tile too; R142 does not say. -/
def handoffAct (s : State) : State :=
  match s.exposing, s.form.tiles.find? fun p => p.2.stage == 2 with
  | some c, some (tile, x) =>
    let t := tile % 32
    let b := tile / 32
    let cx := s.ctx c
    let fs := tileFactors (s.ctx (s.sourceOf c)).dose (s.density c) t b
    let codes := tileCodes cx.d.heal fs t b x.cov
    let clamps := tileClamps cx.d.heal fs t b x.cov
    let sig := (tileSignature tile cx.samp.level cx.d.heal codes).toNat
    let s1 := (s.bump Reg.CORR_TILES).putTile t b codes
    let s2 := if clamps = 0 then s1 else s1.addCnt Reg.CORR_CLAMPS clamps
    let s3 := if clamps = 0 || x.clamped then s2 else s2.raiseCtx Ev.CORR_DOSE_CLAMP b c
    let x1 : Tile := { x with stage := 3, cov := [], sig := sig, clamped := x.clamped || clamps != 0 }
    if cx.d.sigEn then (s3.setTile tile x1).sigEntry c tile x1
    else (if s3.capIs c tile then s3.capDone c false false false x.regen sig 0 else s3).tileFinal c t b
  | _, _ => s

/-- Capture the first mismatch (R151, R160). -/
def State.captureMismatch (s : State) (c tile : Nat) (regen : Bool) (comp expect : Nat) : State :=
  if wbit (s.reg Reg.SIG_MIS_INFO) 31 then s
  else
    ((((s.setReg Reg.SIG_MIS_INFO (pack [(31, 1), (24, c), (20, b2n regen), (0, tile)])).setReg Reg.SIG_MIS_CALC_LO
      (w32 comp)).setReg Reg.SIG_MIS_CALC_HI (w32 (comp / 2 ^ 32))).setReg Reg.SIG_MIS_EXP_LO (w32 expect)).setReg
      Reg.SIG_MIS_EXP_HI (w32 (expect / 2 ^ 32))

/-- The comparison of a tile attempt completes (R149 to R154, R157, R415, R417). DESIGN CHOICE (log entry 141): a capture of a
compared tile completes here, with the outcome, and not at the hand-off (R158). -/
def sigCompareAct (tile : Nat) (s : State) : State :=
  match s.exposing, s.tile? tile with
  | some c, some x =>
    if x.stage ≠ 3 then s
    else
      let t := tile % 32
      let b := tile / 32
      let cx := s.ctx c
      let forced := s.forceIs c tile && (!s.test.sigUsed || (x.regen && wbit (s.reg Reg.TEST_SIG) 31))
      let comp := if forced then x.sig ^^^ 1 else x.sig
      let expect := x.expect
      let ok := comp == expect
      let s0 : State :=
        if forced then ({ s with test := { s.test with sigUsed := true } } : State).bump Reg.TEST_INJ else s
      let s1 := s0.bump Reg.SIG_TILES
      let s2 := if x.cap then s1.capDone c false true ok x.regen comp expect else s1
      if ok then
        let s3 := s2.tileFinal c t b
        if x.regen then s3.bump Reg.SIG_REGEN_OK else s3
      else
        let s3 := (s2.bump Reg.SIG_MISMATCH).captureMismatch c tile x.regen comp expect
        let again := !x.regen && cx.samp.regenEn && !s.deadlinePassed b
        let s4 :=
          if again then (s3.regenerate c tile x.split).raiseCtx Ev.SIG_MISMATCH b c
          else
            (((s3.darkTile c t b).makeRecord c 3 tile 0 0 none).bump Reg.SIG_DARK).raiseCtx Ev.SIG_DARK b c
        if x.regen then s4 else s4.bucketAdd .sig Ev.SIG_BURST b (some c)
  | _, _ => s

/-- SIG_CAP_CMD (R158, R470): an earlier capture, also one whose hand-off awaits its comparison, is replaced. -/
def sigCapAct (v : Word) (s : State) : State :=
  let c := fld v 20 7
  let tile := fld v 0 20
  let x := s.ctx c
  let s1 := s.resStart Reg.SIG_CAP_STAT
  let s2 : State := { s1 with form := { s1.form with tiles := s1.form.tiles.map fun p => (p.1, { p.2 with cap := false }) } }
  if tile < 32 * x.band0 || 32 * x.bandEnd ≤ tile || x.st < 2 || 5 < x.st then s2.capDone c true false false false 0 0
  else { s2 with form := { s2.form with cap := some (c, tile) } }

/-- CORR_CTL (R140). -/
def corrCtlAct (v : Word) (s : State) : State :=
  if fld v 0 11 < 64 ∨ 1024 < fld v 0 11 then s.raise Ev.CORR_CFG_RANGE 0 else s.writeRw Reg.CORR_CTL v

/-- A write of CORR_PROBE_CMD: the dose probe takes its inputs now (R141, R470). DESIGN CHOICE (log entry 36): RANGE of a
context that is FREE or LOADING is formed from the bands that the context holds; (log entry 138): with RANGE = 1, VALID is
that of the band of line y, whose rows above the stripe count as its last. -/
def corrProbeAct (v : Word) (s : State) : State :=
  let c := fld v 0 7
  let cx := s.ctx c
  let x := s.rf Reg.CORR_PROBE_X 0 13
  let y := s.rf Reg.CORR_PROBE_Y 0 23
  let range := 8191 < x || y < 256 * cx.band0 || 256 * cx.bandEnd ≤ y
  let valid := s.densHeld c (y / 256)
  let tab := (s.ctx (s.sourceOf c)).dose
  let i : Int := (x / 128 : Nat)
  let j : Int := (y / 128 : Nat)
  let f := cellFactor tab (s.density c)
  let ok := valid && !range
  s.resultStart Reg.CORR_PROBE_STAT
    ⟨[(Reg.CORR_PROBE_D, if ok then pack [(16, s.density c i j), (0, convIndex tab (s.density c) i j)] else 0),
      (Reg.CORR_PROBE_G, if ok then pack [(16, f i j), (0, pixelFactor f x y)] else 0)],
     [(30, b2n valid), (29, b2n range)], some c⟩

/-- A probe completes (R41, R122, R141); `hits` are bytes with errors of the maps and tables that it reads (R139, R352). -/
def probeDoneAct (off : Nat) (ev : EvId) (hits : List SramHit) (row : Nat) (s : State) : State :=
  match s.results.find? fun p => p.1 == off with
  | none => s
  | some p => (s.meets hits (p.2.ctx.getD 0) row).2.resultFinish off ev none

/-- Discard everything the tiles of the EXPOSING stripe were doing (R155, R139). -/
def State.dropTiles (s : State) : State :=
  let engs := (List.range 48).foldl (fun (a : State) i =>
    if (a.engine i).piece.isSome then (a.setEngine i Engine.reset).enginePasses i else a) s
  { engs with form := { engs.form with queue := [], tiles := [], sigDark := [] } }

/-- A stripe ends: its tiles are discarded if it was EXPOSING; a capture or a signature force of it ends (R158, R415). -/
def State.endForm (s : State) (c : Nat) : State :=
  let s1 := if s.exposing = some c then s.dropTiles else s
  let s2 := match s1.form.cap with
    | some (k, _) => if k = c then s1.capDone c true false false false 0 0 else s1
    | none => s1
  if s2.test.sigArmed && s2.rf Reg.TEST_SIG 20 7 == c then { s2 with test := { s2.test with sigArmed := false } } else s2

end Sys2Proof.Machine
end

