-- ==== Sys2Proof/Machine/LaneOps.lean ====
section
/-!
DEFINITION. Sys2Proof/Machine/LaneOps.lean: beam lanes, their power states and failover, the blanker command and status
path, deskew and lane tests, frames and markers on the lanes (chapter 08), and kills (R179 to R182).
-/

namespace Sys2Proof.Machine

/-! ### Lanes and mapping (R190, R220) -/

/-- A physical lane after a reset with WARM = 1 (R220): mapped lanes and P86 SHALLOW, the other spares DEEP. -/
def PLane.reset (p : Nat) : PLane := ⟨if p ≤ 86 then 1 else 2, false, false, 0, 0, 0⟩

def State.plane (s : State) (p : Nat) : PLane := sget (PLane.reset p) s.bln.phys p

def State.setPlane (s : State) (p : Nat) (x : PLane) : State :=
  { s with bln := { s.bln with phys := sput (PLane.reset p) s.bln.phys p x } }

/-- The physical lane of a logical lane. -/
def State.mapOf (s : State) (l : Nat) : Nat := sget l s.bln.map l

/-- The logical lane that a physical lane carries. -/
def State.logicalOf (s : State) (p : Nat) : Option Nat := (List.range 86).find? fun l => s.mapOf l == p

def State.mapped (s : State) (p : Nat) : Bool := (s.logicalOf p).isSome

/-- The spares: lanes that carry no logical lane (R190). -/
def State.spares (s : State) : List Nat := (List.range 96).filter fun p => !s.mapped p

/-- The lane under test, if MODE is not 0 (R218). -/
def State.underTest (s : State) (p : Nat) : Bool := s.rf Reg.BLN_TEST_CTL 0 2 ≠ 0 && s.rf Reg.BLN_TEST_CTL 16 7 == p

/-- The target of the failover in progress. -/
def State.foTarget (s : State) (p : Nat) : Bool := (s.bln.fo.map Failover.new) == some p

/-- The transit that fires next. -/
def Expo.next (e : Expo) : Nat := e.fired.elim 0 (· + 1)

/-- A marker of the stripe is still to leave: of a transit that has fired, or of one that has yet to. -/
def State.markerDue (s : State) : Bool :=
  !s.markers.isEmpty || s.expo.any fun e => decide (e.next ≤ (s.ctx e.ctx).lastTransit)

/-- The power state that R220 gives a lane in its next condition. A lane that serves a stripe stays ACTIVE until the markers
of its fired transits have left, also those that an abort makes dark (R200; log entry 39). -/
def State.nextPwr (s : State) (p : Nat) : Nat :=
  let x := s.plane p
  let warm := (s.spares.filter fun q => !(s.plane q).failed).take (s.rf Reg.BLN_CTL 8 4)
  let wake (goal : Nat) : Nat := if x.pwr = 2 || x.pwr = 3 then 3 else goal
  if s.bln.leaving.any fun q => q.1 == p then x.pwr
  else if s.underTest p then wake x.pwr
  else if x.failed then 2
  else if s.foTarget p then wake 0
  else if s.mapped p then
    if s.expo.isSome then wake 0
    else if x.pwr = 0 && !s.markers.isEmpty then 0
    else if s.bln.cal then wake 1
    else if wbit (s.reg Reg.BLN_CTL) 1 && !s.running then (if x.pwr = 3 then 3 else 2)
    else wake 1
  else if s.bln.cal then wake 1
  else if warm.contains p then wake 1
  else 2

/-- An old lane of a failover has no further marker to wait for (R213 step 5, R220). -/
def State.dropLeaving (s : State) : State :=
  if s.markerDue then s else { s with bln := { s.bln with leaving := [] } }

/-- Every lane takes the power state of R220. -/
def State.lanePower (s : State) : State :=
  (List.range 96).foldl
    (fun (a : State) p =>
      let n := a.nextPwr p
      let x := a.plane p
      if n = x.pwr then a
      else
        let a1 := a.setPlane p { x with pwr := n }
        if n = 3 then (a1.laneOut (.wake p)).sendSkips p
        else if n = 1 then a1.sendSkips p else a1) s.dropLeaving

/-- Some mapped lane is WAKING or DEEP (R221). -/
def State.lanesAsleep (s : State) : Bool := (List.range 86).any fun l => 2 ≤ (s.plane (s.mapOf l)).pwr

/-! ### Blanker commands (R204 to R206) -/

/-- The auxiliary lanes of the blanker that are enabled (R203). -/
def State.auxEnabled (s : State) : List Nat := (List.range 4).filter fun i => wbit (s.reg Reg.BLN_AUX) i

/-- A command body (R204). -/
def cmdBody (seq op arg : Nat) : List Byte := [1, BitVec.ofNat 8 op] ++ leBytes 2 seq ++ leBytes 4 arg ++ leBytes 4 0

/-- Send a command on every enabled auxiliary lane. -/
def State.putCmd (s : State) (seq op arg : Nat) : State := s.sendMsg s.auxEnabled (cmdBody seq op arg)

/-- Send a new command with the next SEQ on every enabled auxiliary lane. -/
def State.sendCmd (s : State) (op arg word : Nat) : State :=
  let seq := s.bln.nextSeq
  let s1 : State :=
    { s with bln := { s.bln with cmds := s.bln.cmds ++ [⟨seq, op, arg, 1, word⟩], nextSeq := (seq + 1) % 65536 } }
  s1.putCmd seq op arg

/-- A kill word (R179): the beam that a valid word names. -/
def State.killBeam (s : State) (i : Nat) : Option Nat :=
  let w := s.nvw (261 + i)
  if wbit w 31 then some (fld w 0 18) else none

/-- A kill awaits confirmation (R180). -/
def State.killsWaiting (s : State) : Bool := s.bln.cmds.any fun c => c.op == 2

/-- The beams whose revive is not acknowledged (R181). -/
def State.reviving (s : State) : List Nat :=
  ((s.bln.cmds.filter fun c => c.op == 3).map BCmd.arg) ++ ((s.bln.unsent.filter fun c => c.1 == 3).map fun c => c.2.1)

/-- A kill or revive of an applied proposal waits to be sent (R180 step 2). -/
def State.queueCmd (s : State) (op arg word : Nat) : State :=
  { s with bln := { s.bln with unsent := s.bln.unsent ++ [(op, arg, word)] } }

/-- Send the kills and revives of the proposals applied (R180 step 2, R181). -/
def State.sendQueued (s : State) : State :=
  s.bln.unsent.foldl (fun (a : State) c => a.sendCmd c.1 c.2.1 c.2.2) { s with bln := { s.bln with unsent := [] } }

/-- Send a kill for every valid kill word (R182). -/
def State.sendKills (s : State) : State :=
  (List.range 64).foldl
    (fun (a : State) i =>
      match a.killBeam i with
      | some b => a.sendCmd 2 b i
      | none => a) s

/-- The argument of a REMAP command (R204). -/
def remapArg (p l : Nat) : Nat := p * 256 + l

/-- Send REMAP for every logical lane that is not on its reset physical lane (R206). -/
def State.sendMaps (s : State) : State :=
  (List.range 86).foldl (fun (a : State) l => if a.mapOf l = l then a else a.sendCmd 4 (remapArg (a.mapOf l) l) 0) s

/-- The command path restarts after a reset of the device (R182, R206). -/
def State.restartPath (s : State) : State :=
  (({ s with bln := { s.bln with cmds := [], unsent := s.bln.unsent.filter fun c => c.1 != 2 } } : State).sendCmd 1 0
    0).sendMaps.sendKills

/-- The command path restarts after a record with RESTARTED = 1: SYNC, REMAPs, kills, then what else was waiting, each
with a new SEQ (R206). -/
def State.blankerRestart (s : State) : State :=
  let again := s.bln.cmds.filter fun c => c.op == 5 || (c.op == 4 && (s.bln.fo.bind Failover.seq) == some c.seq)
  let s1 := s.restartPath
  again.foldl
    (fun (a : State) c =>
      let a1 := a.sendCmd c.op c.arg c.word
      if c.op = 4 then
        { a1 with bln := { a1.bln with fo := a1.bln.fo.map fun f => { f with seq := some a.bln.nextSeq } } }
      else if s.bln.calSeq = some c.seq then { a1 with bln := { a1.bln with calSeq := some a.bln.nextSeq } }
      else a1) s1

/-! ### Failover (R212 to R214) -/

/-- BLN_REMAP_STAT completes. -/
def State.remapDone (s : State) (l p code : Nat) : State :=
  ((s.setReg Reg.BLN_REMAP_INFO (pack [(8, p), (0, l)])).resDone Reg.BLN_REMAP_STAT [(28, code)]).raise
    Ev.BLN_REMAP_DONE l

/-- The spare that an automatic trigger picks (R213 step 1): the lowest that is SHALLOW, else the lowest that is DEEP, else
the lowest that is WAKING (log entry 40). -/
def State.pickSpare (s : State) : Option Nat :=
  let ok := s.spares.filter fun p => !(s.plane p).failed
  let at' (pwr : Nat) : Option Nat := ok.find? fun p => (s.plane p).pwr == pwr
  ((at' 1).or (at' 2)).or ok.head?

/-- The REMAP of a failover is sent once its target is ACTIVE (R213 steps 2, 3). -/
def State.sendRemap (s : State) : State :=
  match s.bln.fo with
  | some f =>
    if f.seq.isNone && (s.plane f.new).pwr == 0 then
      ({ s with bln := { s.bln with fo := some { f with seq := some s.bln.nextSeq } } } : State).sendCmd 4
        (remapArg f.new f.lane) f.lane
    else s
  | none => s

/-- Begin a failover when none runs (R213, R214). DESIGN CHOICE (log entry 126): a lane above 85 is a BAD_TARGET, and BUSY is
decided first, then BAD_TARGET, then NO_SPARE; (log entry 144): a result without a target shows PHYS = 0. -/
def State.beginFailover (s : State) (l : Nat) (target : Option Nat) : State :=
  let s1 := s.resStart Reg.BLN_REMAP_STAT
  let p := target.getD 0
  if s.bln.cal || s.rf Reg.BLN_TEST_CTL 0 2 ≠ 0 then s1.remapDone l p 3
  else if 85 < l then s1.remapDone l p 2
  else
    match target with
    | some p =>
      if 95 < p || s.mapped p || (s.plane p).failed then s1.remapDone l p 2
      else ({ s1 with bln := { s1.bln with fo := some ⟨l, s.mapOf l, p, none, false⟩ } } : State).lanePower.sendRemap
    | none =>
      match s.pickSpare with
      | none => (s1.remapDone l 0 1).raise Ev.BLN_REMAP_FAIL l
      | some p => ({ s1 with bln := { s1.bln with fo := some ⟨l, s.mapOf l, p, none, false⟩ } } : State).lanePower.sendRemap

/-- Serve the waiting triggers in ascending lane order until one runs (R214). -/
def State.serveFailovers (s : State) : Nat → State
  | 0 => s
  | n + 1 =>
    match s.bln.fo, s.bln.foWait with
    | none, p :: ps =>
      (({ s with bln := { s.bln with foWait := ps } } : State).beginFailover p.1 p.2).serveFailovers n
    | _, _ => s

/-- A trigger (R214): dropped for a lane that waits or is in failover. -/
def State.triggerFailover (s : State) (l : Nat) (target : Option Nat) : State :=
  if (s.bln.fo.map Failover.lane) == some l || s.bln.foWait.any fun p => p.1 == l then s
  else
    match s.bln.fo with
    | some _ => { s with bln := { s.bln with foWait := sins l target s.bln.foWait } }
    | none => s.beginFailover l target

/-- The REMAP of the failover is acknowledged (R213 step 5): the old lane sends the logical one up to the next marker of the
stripe and goes DEEP after it, or at once where no marker of the stripe is left (`dropLeaving`). -/
def State.failoverDone (s : State) : State :=
  match s.bln.fo with
  | none => s
  | some f =>
    let s1 := s.setPlane f.old { s.plane f.old with failed := true }
    let s2 : State :=
      { s1 with
        bln := { s1.bln with
          map := sput f.lane s1.bln.map f.lane f.new, fo := none,
          leaving := (f.old, f.lane) :: s1.bln.leaving } }
    (s2.lanePower.remapDone f.lane f.new 0).serveFailovers 86

/-- BLN_REMAP_CMD (R213). -/
def remapCmdLane (v : Word) (s : State) : State :=
  s.triggerFailover (fld v 0 7) (if wbit v 31 then none else some (fld v 8 7))

/-! ### Test streams and the measurements of a calibration (R216, R218; log entries 74, 106) -/

/-- The stream of a pattern code (R218); the header and first byte of test frames and the contents of a PRBS register, which
is not 0, are free. -/
def State.testStream (s : State) (pattern : Nat) : Stream × State :=
  let w (i : Nat) : Nat := (Config.freeWord (s.draws + i)).toNat
  let taps := prbsTaps pattern
  (if pattern = 0 then .frames ((List.range 8).map fun i => BitVec.ofNat 8 (w i)) (BitVec.ofNat 8 (w 8))
    else .prbs taps.1 taps.2 (max 1 (w 0 % 2 ^ taps.1)),
    { s with draws := s.draws + 9 })

/-- A lane sends the stream of a pattern code from here on. -/
def State.sendStream (s : State) (lane pattern : Nat) : State :=
  let t := s.testStream pattern
  t.2.laneOut (.stream lane t.1)

/-- One bit of the next word of the test stream is inverted, once the lane sends it (R218); which bit is free. -/
def State.testInvert (s : State) : State :=
  let p := s.rf Reg.BLN_TEST_CTL 16 7
  if s.bln.inj && decide ((s.plane p).pwr ≤ 1) then
    ({ s with bln := { s.bln with inj := false }, draws := s.draws + 1 } : State).laneOut
      (.invert p (Config.freeWord s.draws).toNat)
  else s

/-- The test stream begins on the lane under test as soon as its driver is on (R218, R220). -/
def State.startTest (s : State) : State :=
  let p := s.rf Reg.BLN_TEST_CTL 16 7
  if s.underTest p && decide ((s.plane p).pwr ≤ 1) then (s.sendStream p (s.rf Reg.BLN_TEST_CTL 8 3)).testInvert else s

/-- The lanes that a calibration measures. -/
def State.calLanes (s : State) : List Nat := (List.range 96).filter fun p => !(s.plane p).failed

/-- FAR_LOOP on for the next lane that a calibration measures, once it is awake (R216 step 2). -/
def State.calSend (s : State) : State :=
  match s.bln.calTodo.dropWhile fun p => (s.plane p).failed with
  | [] => { s with bln := { s.bln with calTodo := [] } }
  | p :: rest =>
    let s1 : State := { s with bln := { s.bln with calTodo := p :: rest } }
    if s.bln.calSeq.isSome || 2 ≤ (s.plane p).pwr then s1
    else ({ s1 with bln := { s1.bln with calSeq := some s1.bln.nextSeq } } : State).sendCmd 5 (2 ^ 31 + p) 0

/-- The FAR_LOOP of the lane being measured is acknowledged (R216 step 2): COM every 64 code groups, PRBS7, FAR_LOOP off,
then the next lane. -/
def State.calLooped (s : State) : State :=
  match s.bln.calTodo with
  | [] => s
  | p :: rest =>
    let s1 := (((s.laneOut (.stream p (.coms 64))).sendStream p 1).sendSkips p).sendCmd 5 p 0
    ({ s1 with bln := { s1.bln with calTodo := rest, calSeq := none } } : State).calSend

/-! ### Acknowledgement and resend (R180, R205) -/

/-- ACK has reached a SEQ (R205). DESIGN CHOICE (log entry 127): it is at most 32,767 beyond it modulo 65,536. -/
def ackReaches (ack seq : Nat) : Bool := (ack + 65536 - seq) % 65536 < 32768

/-- Take an ACK (R205, R180 step 3, R213 step 5, R216 step 2). -/
def State.takeAck (s : State) (ack : Nat) : State :=
  let done := s.bln.cmds.filter fun c => ackReaches ack c.seq
  let left := s.bln.cmds.filter fun c => !ackReaches ack c.seq
  let foAck := done.any fun c => c.op == 4 && (s.bln.fo.bind Failover.seq) == some c.seq
  let s1 : State := { s with bln := { s.bln with cmds := left, ack := ack } }
  let s2 := if (done.any fun c => c.op == 2) && !s1.killsWaiting then s1.raise Ev.ALM_KILL_ACKED 0 else s1
  let s3 := if foAck then s2.failoverDone else s2
  if s.bln.calSeq.any fun q => ackReaches ack q then s3.calLooped else s3

/-- REMAP_FAIL, once for a failover (R213 step 6). -/
def State.remapFails (s : State) (seq : Nat) : State :=
  match s.bln.fo with
  | some f =>
    if f.seq = some seq && !f.failed then
      ({ s with bln := { s.bln with fo := some { f with failed := true } } } : State).raise Ev.BLN_REMAP_FAIL f.lane
    else s
  | none => s

/-- Every unacknowledged command is sent again, oldest first; the 10th send that stayed unacknowledged raises its event
(R180 step 4, R205, R213 step 6). -/
def resendAct (s : State) : State :=
  s.bln.cmds.foldl
    (fun (a : State) c =>
      let a1 :=
        if c.sends ≠ 10 then a
        else if c.op = 2 ∨ c.op = 3 then a.raise Ev.ALM_KILL_UNACKED c.word
        else a.remapFails c.seq
      let a2 : State :=
        { a1 with
          bln := { a1.bln with
            cmds := lupd (fun x => x.seq == c.seq) (fun x => { x with sends := x.sends + 1 }) a1.bln.cmds } }
      a2.putCmd c.seq c.op c.arg) s

/-! ### Status (R207 to R211) -/

/-- An occurrence that names the EXPOSING context, if any. -/
def State.raiseExp (s : State) (ev : EvId) (detail : Nat) : State := s.raiseAs false ev detail s.exposing

/-- The lanes of a mask. -/
def laneList (m : Nat) : List Nat := (List.range 86).filter fun l => m.testBit l

/-- A lane whose frame was not fired (R210, R212). -/
def State.laneReject (s : State) (l : Nat) : State :=
  let sel := BucketSel.lane (BitVec.ofNat 7 l)
  let fires := (s.bucket sel).fires (s.rf (bucketCfg sel) 16 16)
  let s1 := ((s.bump Reg.BLN_REJECTS).bucketAdd sel Ev.BLN_LANE_BURST l none).raiseExp Ev.BLN_LANE_REJECT l
  if fires && wbit (s1.reg Reg.BLN_CTL) 0 then s1.triggerFailover l none else s1

/-- The auxiliary lanes that are awaited: enabled and not DOWN (R209, R211). -/
def State.auxAwaited (s : State) : List Nat := s.auxEnabled.filter fun i => !s.bln.down.testBit i

/-- Decide the status of a transit (R209, R210). A lane whose frame could not be read counts as not fired (R359). -/
def State.decideStatus (s : State) (w : Await) : State :=
  let s0 : State := { s with awaits := s.awaits.filter fun x => decide (x ≠ w) }
  let reported := w.got.map Prod.snd
  let allOnes := reported.foldl (fun a b => a &&& b) allLanes
  let anyOnes := reported.foldl (fun a b => a ||| b) 0
  let differ := if reported.isEmpty then allLanes else (anyOnes ^^^ allOnes) &&& allLanes
  let rejects := (if reported.isEmpty then 0 else w.lanes &&& allOnes) ||| w.lost
  let unknown := w.lanes &&& differ
  let s1 := if rejects = 0 then s0 else s0.recordBy w.maker 9 w.n w.n rejects none
  let s2 := if unknown = 0 then s1 else
    (s1.recordBy w.maker 10 w.n w.n unknown none).addCnt Reg.BLN_STAT_LOST (laneList unknown).length
  let s3 := (laneList rejects).foldl (fun (a : State) l => a.laneReject l) s2
  if reported.isEmpty then s3.raiseExp Ev.BLN_STATUS_LOST w.n
  else if differ = 0 then s3 else s3.raiseExp Ev.BLN_STATUS_CONFLICT w.n

/-- Decide every transit for which all awaited lanes have delivered a record. -/
def State.decideReady (s : State) : State :=
  s.awaits.foldl
    (fun (a : State) w => if s.auxAwaited.all fun i => w.got.any fun p => p.1 == i then a.decideStatus w else a) s

/-- The next message of lane A`i` is discarded as a CRC failure by TEST_LANE_CNT (R412). -/
def State.auxCorrupts (s : State) (i : Nat) : Bool :=
  s.rf Reg.TEST_LANE_CNT 0 16 ≠ 0 && wbit (s.reg Reg.TEST_LANE_CFG) 31 && s.rf Reg.TEST_LANE_CFG 20 4 == i

/-- One corruption of TEST_LANE_CNT is used up. -/
def State.useCorruption (s : State) : State :=
  (s.setRf Reg.TEST_LANE_CNT 0 16 (s.rf Reg.TEST_LANE_CNT 0 16 - 1)).bump Reg.TEST_INJ

/-- A status record on auxiliary lane `i` (R203, R207 to R211). -/
def statusRecordAct (i : Nat) (body : List Byte) (crc : Word) (s : State) : State :=
  let flags := bodyNat body 1 1
  let n := bodyNat body 4 4
  if !wbit (s.reg Reg.BLN_AUX) i then s
  else if s.auxCorrupts i then s.useCorruption.bump Reg.BLN_AUX_ERR
  else if body.length ≠ 20 || !crcGood body crc || bodyNat body 0 1 != 2 then s.bump Reg.BLN_AUX_ERR
  else
    let s1 : State := { s with bln := { s.bln with down := s.bln.down &&& (15 - 2 ^ i) } }
    let s2 := s1.takeAck (bodyNat body 2 2)
    let s3 := if flags.testBit 0 then
        let r := s2.blankerRestart
        match r.exposing with
        | some c => r.raiseCtx Ev.BLN_BLANKER_RESTART 0 c
        | none => r
      else s2
    let s4 := if flags.testBit 1 then s3.raiseExp Ev.BLN_BLANKER_FAULT 0 else s3
    if flags.testBit 2 then s4
    else
      match s4.awaits.find? fun w => w.n == n && !(w.got.any fun p => p.1 == i) with
      | none => s4.bump Reg.BLN_AUX_ERR
      | some w =>
        let w1 : Await := { w with got := sins i (bodyNat body 8 12 % 2 ^ 86) w.got }
        let s5 : State := { s4 with awaits := lupd (fun x => decide (x = w)) (fun _ => w1) s4.awaits }
        if s5.auxAwaited.all fun j => w1.got.any fun p => p.1 == j then s5.decideStatus w1 else s5

/-- The status timeout of a transit (R209). -/
def statusTimeoutAct (n : Nat) (s : State) : State :=
  match s.awaits.find? fun w => w.n == n with
  | some w => s.decideStatus w
  | none => s

/-- An auxiliary lane delivers no valid record for 100 µs (R211). -/
def auxDownAct (i : Nat) (s : State) : State :=
  if !wbit (s.reg Reg.BLN_AUX) i || s.bln.down.testBit i then s
  else
    let s1 : State := { s with bln := { s.bln with down := s.bln.down ||| 2 ^ i } }
    (s1.raise Ev.BLN_AUX_DOWN i).decideReady

/-! ### Deskew, tests and settings (R215 to R223) -/

/-- A lane leaves its wake (R220): what waited for it follows. -/
def laneWakeAct (p : Nat) (s : State) : State :=
  if (s.plane p).pwr ≠ 3 then s
  else
    let s1 := ((s.setPlane p { s.plane p with pwr := 1 }).lanePower).sendRemap
    (if s1.underTest p then s1.startTest else s1).calSend

/-- STALE of the taps. -/
def State.setStale (s : State) (b : Bool) : State := s.setRf Reg.BLN_CAL_STAT 30 1 (b2n b)

/-- BLN_CAL_STAT completes with an outcome; outcomes 2 to 4 leave STALE = 1 (R216). With any outcome the stream of A6 is fresh from
the next tick on, that of A7 from the next firing on (R268). -/
def State.calDone (s : State) (code : Nat) : State :=
  let s1 : State :=
    { s with bln := { s.bln with cal := false, calTodo := [], calSeq := none }, gen := { s.gen with stale := false } }
  ((s1.resDone Reg.BLN_CAL_STAT [(30, if code < 2 then 0 else 1), (20, code)]).raise Ev.BLN_CAL_DONE code).lanePower

/-- BLN_CAL_CMD.GO (R216): every lane that is not FAILED is to be measured, and then once more. -/
def calCmdAct (v : Word) (s : State) : State :=
  if !wbit v 0 then s
  else if s.bln.cal then s.raise Ev.BLN_IGNORED (offDetail Reg.BLN_CAL_CMD)
  else
    let s1 := (s.resStart Reg.BLN_CAL_STAT).setStale true
    if s.expo.isSome || s.bln.fo.isSome || s.rf Reg.BLN_TEST_CTL 0 2 ≠ 0 then s1.calDone 2
    else
      let s2 : State :=
        { s1 with
          bln := { s1.bln with cal := true, calTodo := s.calLanes ++ s.calLanes, calSeq := none },
          gen := { s1.gen with stale := true, dfHeld := true } }
      s2.lanePower.calSend

/-- The calibration ends (R216): `arr` are the medians a(P), `resid` and `eye` the second measurement; `ok` is false
when FAR_LOOP stayed unacknowledged or no COM returned. It ends well only once every lane has been measured twice. DESIGN
CHOICE (log entry 74): the taps of step 3 take effect here; (log entry 145): of lanes that share the largest residual or the
narrowest eye the lowest is named. -/
def calEndAct (ok : Bool) (arr resid eye : List Nat) (s : State) : State :=
  if !s.bln.cal then s
  else
    let lanes := s.calLanes
    if !ok then s.calDone 4
    else if !s.bln.calTodo.isEmpty then s
    else
      let t := (lanes.map fun p => arr.getD p 0).foldl max 0
      let s2 := lanes.foldl
        (fun (a : State) p =>
          a.setPlane p
            { a.plane p with
              tap := min 1023 (t - arr.getD p 0), range := 1023 < t - arr.getD p 0, resid := resid.getD p 0,
              eye := eye.getD p 0 }) s
      let worst := leastBy (fun p => 1023 - resid.getD p 0) lanes
      let narrow := leastBy (fun p => eye.getD p 0) lanes
      let s3 := (s2.setReg Reg.BLN_CAL_RESID (pack [(16, worst.getD 0), (0, resid.getD (worst.getD 0) 0)])).setReg
        Reg.BLN_CAL_EYE (pack [(16, narrow.getD 0), (0, eye.getD (narrow.getD 0) 0)])
      s3.calDone (if lanes.any fun p => 1023 < t - arr.getD p 0 then 1 else 0)

/-- A write of BLN_LANE_TAP (R215, R217). DESIGN CHOICE (log entry 128): with PHYS above 95 it is dropped with BLN_IGNORED. -/
def laneTapAct (v : Word) (s : State) : State :=
  let p := s.rf Reg.BLN_LANE_SEL 0 7
  if s.expo.isSome || 95 < p then s.raise Ev.BLN_IGNORED (offDetail Reg.BLN_LANE_TAP)
  else (s.setPlane p { s.plane p with tap := fld v 0 10 }).setStale true

/-- BLN_LANE_CMD (R214, R223). DESIGN CHOICE (log entry 128): with PHYS above 95 it is dropped with BLN_IGNORED. -/
def laneCmdAct (op : Nat) (s : State) : State :=
  let p := s.rf Reg.BLN_LANE_SEL 0 7
  if 95 < p || s.mapped p || (op ≠ 1 ∧ op ≠ 2) then s.raise Ev.BLN_IGNORED (offDetail Reg.BLN_LANE_CMD)
  else (s.setPlane p { s.plane p with failed := op == 1 }).lanePower

/-- End a lane test: a MODE 3 test leaves the far-end loop (R218), a failover target that was under test is ACTIVE with its
REMAP (R213 steps 2, 3), and a lane whose driver stays on sends skip ordered sets again (R199, R220). -/
def State.endTest (s : State) : State :=
  let p := s.rf Reg.BLN_TEST_CTL 16 7
  let s1 := if s.rf Reg.BLN_TEST_CTL 0 2 = 3 then s.sendCmd 5 p 0 else s
  let s2 :=
    ({ s1.setRf Reg.BLN_TEST_CTL 0 2 0 with bln := { s1.bln with lock := false, inj := false } } : State).lanePower.sendRemap
  if (s2.plane p).pwr ≤ 1 ∧ (s2.plane p).pwr = (s.plane p).pwr then s2.sendSkips p else s2

/-- A write of BLN_TEST_CTL (R218). Only a test is dropped for a running stripe, not the end of one. DESIGN CHOICE (log entry
128): so is, whole, a write that names no lane or no pattern. -/
def testCtlAct (v : Word) (s : State) : State :=
  let p := fld v 16 7
  let on : Bool := fld v 0 2 != 0
  if 95 < p || 4 < fld v 8 3 || (on && s.mapped p && s.running) then s.raise Ev.BLN_IGNORED (offDetail Reg.BLN_TEST_CTL)
  else
    let s1 := (if s.rf Reg.BLN_TEST_CTL 0 2 = 0 then s else s.endTest).writeRw Reg.BLN_TEST_CTL v
    let s2 := s1.setReg Reg.BLN_TEST_ERR 0
    let s3 : State := { s2 with bln := { s2.bln with lock := false, inj := wbit v 31 && on } }
    let s4 := if fld v 0 2 = 3 then s3.sendCmd 5 (2 ^ 31 + p) 0 else s3
    s4.lanePower.startTest

/-- INJ on the lane under test (R218). -/
def injAct (s : State) : State :=
  if s.rf Reg.BLN_TEST_CTL 0 2 = 0 then s.setReg Reg.BLN_TEST_ERR 0
  else (({ s with bln := { s.bln with inj := true } } : State).setReg Reg.BLN_TEST_ERR 0).testInvert

/-- The checker gains or loses lock, and has counted `errors` more (R218). -/
def checkerAct (lock : Bool) (errors : Nat) (s : State) : State :=
  if s.rf Reg.BLN_TEST_CTL 0 2 = 0 then s
  else
    ({ s with bln := { s.bln with lock := lock } } : State).setRf Reg.BLN_TEST_ERR 0 31
      (satAdd 31 (s.rf Reg.BLN_TEST_ERR 0 31) errors)

/-- A write of BLN_CTL (R222). -/
def blnCtlAct (v : Word) (s : State) : State :=
  if fld v 16 8 < 2 || 60 < fld v 16 8 || 10 < fld v 8 4 then s.raise Ev.BLN_CFG_RANGE 0
  else (s.writeRw Reg.BLN_CTL v).lanePower

/-- A write of BLN_AUX (R222). DESIGN CHOICE (log entry 143): DOWN of a lane that it disables clears (R211). -/
def blnAuxAct (v : Word) (s : State) : State :=
  if s.expo.isSome || fld v 0 4 = 0 || 4 < fld v 8 3 then s.raise Ev.BLN_CFG_RANGE 0
  else
    let s1 := s.writeRw Reg.BLN_AUX v
    let s2 := s1.fill ((s1.auxEnabled.filter fun i => s.clk.ready && !s.auxEnabled.contains i).map (96 + ·))
    ({ s2 with bln := { s2.bln with down := s2.bln.down &&& fld v 0 4 } } : State).decideReady

/-! ### Frames (R191 to R196) -/

/-- The payload of logical lane `l` from the beams that fire (R191). -/
def payload (l : Nat) (bits : List (Nat × Bool)) : List Byte :=
  let mine := bits.filter fun p => p.1 / 512 / 6 == l
  (List.range 384).map fun k =>
    BitVec.ofNat 8 ((mine.map fun p =>
      let r := p.1 / 512 % 6
      let c := p.1 % 512
      if 64 * r + c / 8 = k then 2 ^ (c % 8) else 0).sum)

/-- The header of a frame (R195). -/
def frameHeader (n l : Nat) (dark last : Bool) (stagger onTime : Nat) : List Byte :=
  leBytes 4 n ++ [BitVec.ofNat 8 l, BitVec.ofNat 8 (8 * stagger + 4 * b2n dark + 2 * b2n last + b2n (n == 0))] ++
    leBytes 2 onTime

/-- The bytes of a frame after COM and SOF (R194). -/
def frameBytes (n l : Nat) (dark last : Bool) (stagger onTime : Nat) (bits : List (Nat × Bool)) : List Byte :=
  withCrc (frameHeader n l dark last stagger onTime ++ payload l (if dark then [] else bits))

/-- The lanes whose frame carries a 1 (R210). -/
def lanesOf (bits : List (Nat × Bool)) : Nat :=
  ((List.range 86).map fun l => if bits.any fun p => p.1 / 512 / 6 == l then 2 ^ l else 0).sum

/-- Put a frame on physical lane `p` if it is ACTIVE and not under test, corrupted if TEST_LANE_CNT says so (R193, R194,
R218, R411). -/
def State.putFrame (s : State) (p : Nat) (start : Option Int) (bytes : List Byte) : State :=
  let hit := s.rf Reg.TEST_LANE_CNT 0 16 ≠ 0 && !wbit (s.reg Reg.TEST_LANE_CFG) 31 && s.rf Reg.TEST_LANE_CFG 24 7 == p
  let k := s.rf Reg.TEST_LANE_CFG 8 10 - 2
  if (s.plane p).pwr ≠ 0 || s.underTest p then s
  else if hit then
    s.useCorruption.sendLine p start (framed (bytes.set k (bytes.getD k 0 ^^^ BitVec.ofNat 8 (s.rf Reg.TEST_LANE_CFG 0 8))))
  else s.sendLine p start (framed bytes)

/-- The lanes whose frame buffer holds an uncorrectable byte (R359), and the state after the reads. -/
def State.frameHits (s : State) : List FrameHit → List Nat × State
  | [] => ([], s)
  | h :: hs =>
    let r := s.sramRead h.hit.group.toNat h.hit.row.toNat h.hit.byte.toNat
    let rest := r.2.2.frameHits hs
    (if r.1 == .bad then h.lane.toNat :: rest.1 else rest.1, rest.2)

/-- The beams of the lanes `bad` do not fire. -/
def withoutLanes (bad : List Nat) (bits : List (Nat × Bool)) : List (Nat × Bool) :=
  bits.filter fun p => !bad.contains (p.1 / 512 / 6)

/-- The frame of transit `n` of stripe `c` leaves on every ACTIVE lane, and its copy on a failover target and on an old lane
that has still to send a marker (R193, R213); a
lane of `bad` sends it DARK with a zero payload, and the transit is decided accordingly (R359). -/
def State.sendFrames (s : State) (c n : Nat) (start : Option Int) (dark : Bool) (bad : List Nat) (bits : List (Nat × Bool)) :
    State :=
  let x := s.ctx c
  let s1 := (List.range 86).foldl
    (fun (a : State) l =>
      let f := frameBytes n l (dark || bad.contains l) (n == x.lastTransit) x.samp.stagger x.d.onTime bits
      let a1 := a.putFrame (a.mapOf l) start f
      let a2 := (a1.bln.leaving.filter fun q => q.2 == l).foldl (fun (b : State) q => b.putFrame q.1 start f) a1
      match a2.bln.fo with
      | some o => if o.lane = l then a2.putFrame o.new start f else a2
      | none => a2) s
  { s1 with
    bln := { s1.bln with
      sent := start.map fun i => i + 398, unread := (bad.eraseDups.map fun l => 2 ^ l).sum, blank := dark } }

/-- The physical lanes that are ACTIVE and not under test. -/
def State.activeLanes (s : State) : List Nat := (List.range 96).filter fun p => (s.plane p).pwr == 0 && !s.underTest p

/-- A marker leaves on every ACTIVE lane at `start`, after the fill up to it (R193, R197, R199). -/
def State.sendMarker (s : State) (start : Int) (byte : Nat) : State :=
  let gap := (s.bln.sent.elim 0 fun e => start - e).toNat
  let s1 := s.activeLanes.foldl
    (fun (a : State) p =>
      (if gap = 0 then a else a.sendLine p s.bln.sent (fillGroups gap)).sendLine p (some start)
        [.tm, .d (BitVec.ofNat 8 byte)]) s
  ({ s1 with bln := { s1.bln with sent := some (start + 2), leaving := [] } } : State).lanePower

/-- After the last marker of a stripe its lanes send fill only (R193). -/
def State.endStream (s : State) : State :=
  let s1 := s.fill s.activeLanes
  ({ s1 with bln := { s1.bln with sent := none } } : State).lanePower

end Sys2Proof.Machine
end

