-- ==== Sys2Proof/Machine/PassOps.lean ====
section
/-!
DEFINITION. Sys2Proof/Machine/PassOps.lean: judging lines, pass allocation with healing and stored faults, admission and
retirement of bands, the almanac and the kill list (chapter 07, R163 to R182, and R303 for the runs of records).
-/

namespace Sys2Proof.Machine

/-- Change the exposure. -/
def State.updExpo (s : State) (f : Expo → Expo) : State := { s with expo := s.expo.map f }

/-! ### Runs of records (R303) -/

/-- Write the LINE_LATE record of the run in progress. -/
def State.endLateRun (s : State) : State :=
  match s.expo with
  | some e => (match e.lateRun with
    | some r => (s.updExpo fun e => { e with lateRun := none }).makeRecord e.ctx 7 r.1 r.2 0 none
    | none => s)
  | none => s

/-- Write the INTERLOCK or TEST_HOLD record of the run in progress. -/
def State.endHoldRun (s : State) : State :=
  match s.expo with
  | some e => (match e.holdRun with
    | some r => (s.updExpo fun e => { e with holdRun := none }).makeRecord e.ctx r.1 r.2.1 r.2.2 allLanes none
    | none => s)
  | none => s

/-- A transit whose marker a hold makes dark extends or starts the run of its cause; 0 ends the run (R303). -/
def State.noteHold (s : State) (cause n : Nat) : State :=
  match s.expo with
  | none => s
  | some e =>
    match e.holdRun with
    | some (k, a, b) =>
      if k = cause ∧ b + 1 = n then s.updExpo fun e => { e with holdRun := some (k, a, n) }
      else
        let s1 := s.endHoldRun
        if cause = 0 then s1 else s1.updExpo fun e => { e with holdRun := some (cause, n, n) }
    | none => if cause = 0 then s else s.updExpo fun e => { e with holdRun := some (cause, n, n) }

/-! ### The almanac (R172 to R178) -/

/-- The state of a beam in the active almanac. -/
def State.beamState (s : State) (i : Nat) : Nat := sget 0 s.alm.active i

/-- n_u of a group (R177). -/
def groupDead (alm : Store Nat) (x : Nat) : Nat := ((List.range 32).filter fun k => 2 ≤ sget 0 alm (passBeam x k)).length

/-- UMAX and the lowest column that reaches it (R178). -/
def umaxOf (alm : Store Nat) : Nat × Nat :=
  (List.range 8192).foldl (fun m x => if m.1 < groupDead alm x then (groupDead alm x, x) else m) (0, 0)

/-- The active almanac at an entry to EXPOSING (R174). -/
def State.copyAlm (s : State) : Store Nat :=
  let kills := (List.range 64).filterMap fun i => s.killBeam i
  (kills ++ s.reviving).foldl (fun m b => sput 0 m b 3) s.alm.staged

/-- The healed mask and the unplaced set of a pixel of stripe `c` with code `d` under the active almanac (R177, R313). -/
def State.healPixel (s : State) (c d x y : Nat) (u : BitVec 32) : BitVec 32 × BitVec 32 × BitVec 32 :=
  let m := if (s.ctx c).side.topup then s.lambdaMask c d x y else passMask (s.ctx c).pass d (pixelPhase x y)
  let h := heal m u
  (m, h.1, h.2)

/-- The active almanac as the EXPOSING stripe entered with it: a kill during the stripe does not change what R178 records. -/
def State.almAtEntry (s : State) : Store Nat := s.expo.elim [] Expo.entryAlm

/-- The bits that a HEAL_SHORT record of a column and band stands for (R178). -/
def State.shortBits (s : State) (c x b : Nat) : Nat :=
  let u := deadPasses s.almAtEntry x
  ((List.range 256).map fun i =>
    let y := 256 * b + i
    popcount (s.healPixel c (s.sourceCode (s.sourceOf c) x y) x y u).2.2).sum

/-- Make the HEAL_SHORT records of one band (R178). -/
def State.healShortBand (s : State) (c b : Nat) : State :=
  let h := (s.ctx c).d.heal
  let cols := (List.range 8192).filter fun x => h < groupDead s.almAtEntry x
  let s1 := cols.foldl
    (fun (a : State) x => (a.makeRecord c 8 x b 0 none).addCnt Reg.PASS_UNHEALED (a.shortBits c x b)) s
  s1.updExpo fun e => { e with healed := b + 1 }

/-- Make the HEAL_SHORT records of every band not yet begun (R178). -/
def State.healShortRest (s : State) : State :=
  match s.expo with
  | some e =>
    (List.range ((s.ctx e.ctx).bandEnd - e.healed)).foldl (fun (a : State) i => a.healShortBand e.ctx (e.healed + i)) s
  | none => s

/-! ### Judgement (R165) -/

/-- Judge the line of transit `n` (R165, R178, R303). -/
def State.judgeLine (s : State) (n : Nat) : State :=
  match s.expo with
  | none => s
  | some e =>
    let x := s.ctx e.ctx
    let y := x.line n 0
    if !x.hasLine y then s.endLateRun
    else
      let y := y.toNat
      let b := y / 256
      let s1 := if y % 256 = 0 then (s.endLateRun).healShortBand e.ctx b else s
      if s1.bandFinal b then s1.endLateRun
      else
        let s2 := (s1.bump Reg.PASS_LATE_LINES).updExpo fun e =>
          { e with
            late := y :: e.late,
            lateRun := some (match e.lateRun with
              | some r => (r.1, r.2 + 1)
              | none => (y, 1)) }
        if e.lateBands.contains b then s2
        else (s2.updExpo fun e => { e with lateBands := b :: e.lateBands }).raiseCtx Ev.PASS_LINE_LATE b e.ctx

/-! ### Allocation (R170, R171, R313) -/

/-- A stored fault: pixel, first lost pass, uncorrectable byte or illegal code, code read (R171). -/
structure Stored where
  x : Nat
  y : Nat
  pass : Nat
  byte : Bool
  code : Nat
  deriving DecidableEq, Repr

/-- What allocation has gathered: the state, the bits (beam, healed) in descending beam order, the faults, the bytes of
region 0 that failed in this transit, each of which is read once (R167). -/
structure Alloc where
  s : State
  bits : List (Nat × Bool)
  faults : List Stored
  failed : List Nat
  deriving Repr

/-- The stored bytes of region 0 that hold the code of column `c` of a residue row and carry an error. -/
def State.codeErrs (s : State) (slot rho c : Nat) : List Nat :=
  if s.sram.err = [] then []
  else
    (codeBytes c).filter fun j =>
      let k := regionCell (rowByte slot rho + j)
      sget 0 s.sram.err (s.sram.key k.1 k.2.1 k.2.2) ≠ 0

/-- Read the bytes of a code that carry errors: the error each puts into the code, and the bytes that are bad. A byte that
has failed in this transit is not read again. -/
def State.readErrs (s : State) (failed : List Nat) (slot rho c : Nat) : List Nat → Nat × List Nat × State
  | [] => (0, [], s)
  | j :: js =>
    let o := rowByte slot rho + j
    let k := regionCell o
    let r := if failed.contains o then (.bad, 0, s) else s.sramRead k.1 k.2.1 k.2.2
    let rest := r.2.2.readErrs failed slot rho c js
    if r.1 = .bad then (rest.1, j :: rest.2.1, rest.2.2) else (codeError j c r.2.1 ^^^ rest.1, rest.2.1, rest.2.2)

/-- The faults of a failing byte: every pixel whose code lies wholly or partly in it (R171). -/
def byteFaults (y rho k j : Nat) : List Stored := (byteColumns j).map fun c => ⟨16 * c + rho, y, k, true, 0⟩

/-- Allocate one beam (R170, R313). `unknown` are the bytes of the active almanac that cannot be read (R175). -/
def allocBeam (c n : Nat) (unknown late : List Nat) (dead : Nat → BitVec 32) (i : Nat) (a : Alloc) : Alloc :=
  let x := a.s.ctx c
  let r := i / 512
  let col := i % 512
  let px := beamX r col
  let y := x.line n r
  if !x.hasLine y || late.contains y.toNat || 2 ≤ a.s.beamState i || unknown.contains (i / 4) then a
  else
    let y := y.toNat
    let errs := a.s.codeErrs (lineSlot y) (r % 16) col
    let rd := a.s.readErrs a.failed (lineSlot y) (r % 16) col errs
    let d := (rd.2.2.code px y) ^^^ rd.1
    if !rd.2.1.isEmpty then
      { a with
        s := rd.2.2
        faults := a.faults ++ rd.2.1.flatMap (byteFaults y (r % 16) (r / 16))
        failed := a.failed ++ rd.2.1.map fun j => rowByte (lineSlot y) (r % 16) + j }
    else if d = 63 then { a with s := rd.2.2 }
    else if 32 < d then { a with s := rd.2.2, faults := a.faults ++ [⟨px, y, r / 16, false, d⟩] }
    else
      let h := rd.2.2.healPixel c d px y (dead px)
      if h.2.1.getLsbD (r / 16) then { a with s := rd.2.2, bits := (i, !h.1.getLsbD (r / 16)) :: a.bits }
      else { a with s := rd.2.2 }

/-- Insert a fault in the order of R303: ascending line, then ascending column; a pixel is taken once. -/
def insertStored (f : Stored) : List Stored → List Stored
  | [] => [f]
  | g :: gs =>
    if f.y < g.y ∨ (f.y = g.y ∧ f.x < g.x) then f :: g :: gs
    else if f.y = g.y ∧ f.x = g.x then g :: gs
    else g :: insertStored f gs

/-- The bytes of the window that hold a pixel's code are rewritten: their errors vanish (R171, R354).
DESIGN CHOICE (log entry 125): also an error that no beam read in the transit, and the neighbouring code in such a byte then
reads as last written. -/
def State.clearCode (s : State) (x y : Nat) : State :=
  (codeBytes (x / 16)).foldl
    (fun (a : State) j =>
      let k := regionCell (rowByte (lineSlot y) (x % 16) + j)
      a.sramWrote k.1 k.2.1 k.2.2) s

/-- Act on a stored fault (R171). -/
def State.storedFault (s : State) (c : Nat) (f : Stored) : State :=
  let s1 := ((s.setCode f.x f.y 63).clearCode f.x f.y).makeRecord c 6 (f.x + f.pass * 2 ^ 16) f.y 0 none
  let s2 := s1.bump Reg.PASS_STORED
  let s3 := if wbit (s2.reg Reg.PASS_FAULT_INFO) 31 then s2 else
    ((s2.setReg Reg.PASS_FAULT_INFO (pack [(31, 1), (24, c), (23, b2n f.byte), (0, f.code)])).setReg Reg.PASS_FAULT_X
      (pack [(16, f.pass), (0, f.x)])).setReg Reg.PASS_FAULT_Y (w32 f.y)
  s3.raiseCtx Ev.PASS_STORED_CODE (f.y / 256) c

/-- Read the bytes of region 4 that an operation meets: those that are uncorrectable, and the state after (R356). -/
def State.tabHits (s : State) : List TabHit → List TabHit × State
  | [] => ([], s)
  | h :: hs =>
    let r := s.sramRead h.hit.group.toNat h.hit.row.toNat h.hit.byte.toNat
    let rest := r.2.2.tabHits hs
    (if r.1 == .bad then h :: rest.1 else rest.1, rest.2)

/-- TABLE_FAULT of the copies that held an uncorrectable byte (R175, R352). -/
def State.tabFaults (s : State) (c : Nat) (bad : List TabHit) : State :=
  bad.foldl (fun (a : State) h => a.raiseCtx Ev.MEM_TABLE_FAULT h.hit.group.toNat c) s

/-- The place of a byte of region 4 as the almanac keeps it. -/
def SramHit.place (h : SramHit) : Nat := h.group.toNat * 2 ^ 20 + h.row.toNat * 256 + h.byte.toNat

/-- Pass allocation for transit `n`, whose line has been judged: every beam is decided (R170), and the frame buffers are
written (R354). `hits` are bytes with errors of the active almanac and of the pass mask table (R175, R352). -/
def State.allocate (s0 : State) (n : Nat) (hits : List TabHit) : State :=
  let h := s0.tabHits hits
  let s := h.2
  match s.expo with
  | none => s
  | some e0 =>
    let late := e0.late
    let dead := deadPasses s.alm.active
    let unknown := h.1.filterMap fun b => b.alm.map BitVec.toNat
    let a := (List.range 262144).foldl (fun (a : Alloc) i => allocBeam e0.ctx n unknown late dead i a) ⟨s, [], [], []⟩
    let s2 := (a.faults.foldl (fun l f => insertStored f l) []).foldl (fun (t : State) f => t.storedFault e0.ctx f) a.s
    ((s2.updExpo fun e => { e with bits := a.bits }).rewrites 6).tabFaults e0.ctx h.1

/-! ### Admission and retirement (R163, R164, R312) -/

/-- Admit band `b`: its FINAL bits clear, and the tiles a top-up does not form are final with code 0. -/
def State.admitBand (s : State) (c b : Nat) : State :=
  let s1 : State :=
    { s with
      win := { s.win with fin := sput 0 s.win.fin (b % 40) 0 },
      expo := s.expo.map fun e => { e with admitted := b + 1 } }
  (List.range 32).foldl
    (fun (a : State) t => if a.tileNeeded c t b then a else (a.putTile t b []).tileFinal c t b) s1

/-- The transit that retires a band (R163): row 511 addresses its last line. -/
def Ctx.retireTransit (x : Ctx) (b : Nat) : Nat := x.d.y0 + 256 * (b - x.band0) + 255 + 8176

/-- Transit `n` has fired: a band may retire and its slot admit another (R163). -/
def State.retireAt (s : State) (n : Nat) : State :=
  match s.expo with
  | none => s
  | some e =>
    let x := s.ctx e.ctx
    if e.low < x.bandEnd && x.retireTransit e.low ≤ n then
      let s1 := s.updExpo fun e => { e with low := e.low + 1 }
      if e.low + 40 < x.bandEnd then s1.admitBand e.ctx (e.low + 40) else s1
    else s

/-! ### Almanac loads (R173) -/

/-- ALM_LOAD_CMD.GO. -/
def almLoadCmdAct (v : Word) (s : State) : State :=
  if !wbit v 0 then s
  else
    let addr := (s.reg Reg.ALM_LOAD_LO).toNat + 2 ^ 32 * (s.reg Reg.ALM_LOAD_HI).toNat
    let s1 := s.resStart Reg.ALM_LOAD_STAT
    { s1 with alm := { s1.alm with loading := some addr } }

/-- The states of an almanac image. -/
def imageStates (bytes : List Byte) : Store Nat :=
  (bytes.zipIdx.flatMap fun p =>
    (List.range 4).filterMap fun q =>
      let v := nfld p.1.toNat (2 * q) 2
      if v = 0 then none else some (4 * p.2 + q, v))

/-- The bytes of the staged almanac are written anew: their errors vanish (R175, R354). -/
def State.restage (s : State) : State :=
  (s.alm.bad.foldl (fun (a : State) p => a.sramWrote (p.2 / 2 ^ 20) (p.2 / 256 % 4096) (p.2 % 256))
    { s with alm := { s.alm with bad := [] } }).rewrites 4

/-- An almanac load completes (R173, R175), once SRAM is zeroed (R357); `hits` are bytes of the load buffer with errors.
DESIGN CHOICE (log entry 109): ALM_LOAD_DETAIL is 0 after an outcome other than BAD_VALUE; R173 gives it no meaning there. -/
def almLoadDoneAct (hits : List SramHit) (s : State) : State :=
  match s.alm.loading, s.sram.zeroed with
  | some addr, true =>
    let s0 : State := { s with alm := { s.alm with loading := none } }
    let finish (a : State) (code detail : Nat) : State :=
      ((a.setReg Reg.ALM_LOAD_DETAIL (w32 detail)).resDone Reg.ALM_LOAD_STAT [(20, code)]).raise Ev.ALM_LOAD_DONE code
    if addr % 64 ≠ 0 ∨ 2 ^ 35 < addr + 65536 then finish s0 1 0
    else
      let r := s0.dramRead 5 addr 65536
      match r.1 with
      | none => finish r.2 3 0
      | some bytes =>
        let h := r.2.sramHits hits
        if !h.1.isEmpty then finish h.2 3 0
        else
          let img := imageStates bytes
          match img.find? fun p => p.2 == 3 with
          | some p => finish h.2 2 p.1
          | none =>
            let s1 := h.2.restage
            let s2 := finish { s1 with alm := { s1.alm with staged := img } } 0 0
            s2.setReg Reg.ALM_STAGED_TAG (w32 (s2.rf Reg.ALM_LOAD_STAT 0 16))
  | _, _ => s

/-! ### Kills (R179 to R182) -/

/-- ALM refuses a proposal that changes the kill words to `w` (R179). -/
def State.killsRefused (s : State) (w : Nat → Word) : Bool :=
  let beam (v : Word) : Option Nat := if wbit v 31 then some (fld v 0 18) else none
  let after := (List.range 64).filterMap fun i => beam (w i)
  decide (¬ after.Nodup) ||
    (s.running && (List.range 64).any fun i =>
      (s.killBeam i).isSome && beam (w i) != s.killBeam i)

/-- The kill words have changed from `old`: kills and revives wait to be sent, and a running stripe is aborted (R180, R181).
DESIGN CHOICE: KILL_ABORT is raised once for each kill word that is set, in ascending order of the words (log entry 111), and
a beam that moves from one word to another is queued for a REVIVE and a KILL in that order too (log entry 112). -/
def State.killsApplied (s : State) (old : Nat → Option Nat) : State :=
  (List.range 64).foldl
    (fun (a : State) i =>
      let now := a.killBeam i
      if now = old i then a
      else
        let a1 := match old i with
          | some b => a.queueCmd 3 b i
          | none => a
        match now with
        | none => a1
        | some b =>
          let a2 : State := { a1 with alm := { a1.alm with active := sput 0 a1.alm.active b 3 } }
          let a3 := a2.queueCmd 2 b i
          match a3.exposing with
          | some c => a3.raiseCtx Ev.ALM_KILL_ABORT i c
          | none => a3) s

/-! ### The suspect log (R176) -/

/-- Append the entries of a stripe that ends. -/
def State.suspectLog (s : State) (c : Nat) (aborted : Bool) (sus : Store (Nat × Nat)) : State :=
  sus.foldl
    (fun (a : State) p =>
      { a with
        alm := { a.alm with
          log := (⟨aborted, c, p.1, min p.2.1 (2 ^ 24 - 1), p.2.2⟩ :: a.alm.log).take 1024,
          logWr := (a.alm.logWr + 1) % 65536 } }) s

/-- A bit fires: PASS_HEALED and the firings of SUSPECT beams (R170, R176). The bits of a transit are taken in descending
beam order. DESIGN CHOICE (log entry 110): SUSPECT_FIRE thus names the highest beam of those that fire first together. -/
def State.firesBit (s : State) (n : Nat) (p : Nat × Bool) : State :=
  let s1 := if p.2 then s.bump Reg.PASS_HEALED else s
  match s1.expo with
  | none => s1
  | some e =>
    if s1.beamState p.1 ≠ 1 then s1
    else
      let old := sget (0, n) e.suspects p.1
      let s2 := s1.updExpo fun e => { e with suspects := sins p.1 (old.1 + 1, old.2) e.suspects, susRaised := true }
      if e.susRaised then s2 else s2.raiseCtx Ev.ALM_SUSPECT_FIRE p.1 e.ctx

end Sys2Proof.Machine
end

