-- ==== Sys2Proof/Machine/TreeOps.lean ====
section
/-!
DEFINITION. Sys2Proof/Machine/TreeOps.lean: roles, ports and messages of a constellation that the motion chapters share
(R284, R285, R291, R292).
-/

namespace Sys2Proof.Machine

/-- CST_CFG.ROLE (R284). -/
def State.role (s : State) : Nat := s.rf Reg.CST_CFG 0 2

/-- This device is the conductor: ALONE or ROOT (R284). -/
def State.conductor (s : State) : Bool := s.role != 2

/-- The ports the role uses: 0 parent, 1 child 0, 2 child 1 (R284). -/
def State.portUsed (s : State) (port : Nat) : Bool :=
  match s.role with
  | 1 => port == 1 || port == 2
  | 2 => port ≤ 2
  | _ => false

/-- The auxiliary lanes of the ports in use. -/
def State.portLanes (s : State) : List Nat := ([0, 1, 2].filter fun p => s.portUsed p).flatMap fun p => [8 + 2 * p, 9 + 2 * p]

/-- The auxiliary lanes that send whatever else happens: A4 and A5 (R225), A6 where no setpoints are sent because the device
is not the conductor (R249), and the lanes of the used ports (R284, R285). -/
def State.fillAux (s : State) : List Nat := [4, 5] ++ (if s.conductor then [] else [6]) ++ s.portLanes

/-- A child of this node: 0 or 1. -/
def State.kid (s : State) (c : Nat) : Child := sget Child.reset s.cst.kids c

def State.setKid (s : State) (c : Nat) (k : Child) : State :=
  { s with cst := { s.cst with kids := sput Child.reset s.cst.kids c k } }

/-- A port has a lane with symbol lock. Lane A(8 + i) is bit i (R285, R293). -/
def State.portLocked (s : State) (port : Nat) : Bool := s.cst.locks.testBit (2 * port) || s.cst.locks.testBit (2 * port + 1)

/-- A port is up: a child port goes down after 4 missed REPORTs (R293), until a JOIN or TIME_REQ arrives on it (log entry
42). -/
def State.portUp (s : State) (port : Nat) : Bool :=
  s.portLocked port && (port == 0 || (s.kid (port - 1)).missed < 4)

/-- The signed or unsigned value of `n` bytes, the least significant first. -/
def intBytes (n : Nat) (v : Int) : List Byte := leBytes n (toBits (8 * n) v)

/-- Send a message on both lanes of a port: TYPE, zero, SEQ and the bytes from 4 on (R285). -/
def State.sendCst (s : State) (port type : Nat) (rest : List Byte) : State :=
  if !s.portUsed port || !s.portUp port then s
  else
    let seq := sget 0 s.cst.tx port
    ({ s with cst := { s.cst with tx := sput 0 s.cst.tx port ((seq + 1) % 65536) } } : State).sendMsg
      [8 + 2 * port, 9 + 2 * port] ([BitVec.ofNat 8 type, 0] ++ leBytes 2 seq ++ rest)

/-- Send a message down to both children. -/
def State.sendDown (s : State) (type : Nat) (rest : List Byte) : State := (s.sendCst 1 type rest).sendCst 2 type rest

/-- Some member is JOINED below this node (R291). -/
def State.anyJoined (s : State) : Bool := (s.kid 0).joined || (s.kid 1).joined

/-- Send HALT down and show its CAUSE (R292). -/
def State.haltDown (s : State) (cause : Nat) : State :=
  (s.sendDown 0x41 ([BitVec.ofNat 8 cause, 0, 0, 0])).setReg Reg.CST_HALT_INFO (w32 cause)

/-- A HALT is sent by the conductor: it raises CST_HALT itself (R292). -/
def State.haltSend (s : State) (cause : Nat) : State := (s.haltDown cause).raiseExp Ev.CST_HALT cause

/-- The conditions of R292 on the conductor, and of R281: a context is EXPOSING here or in the latest reduced report. -/
def State.exposingAnywhere (s : State) : Bool := s.expo.isSome || (s.conductor && s.cst.expAll)

/-- Keep a setpoint for the interpolation of R244: (τ of the tick, Y, X). At a tick per µs, 32 of them reach from the
greatest LEAD of 15 µs back beyond the greatest LAT and the 2 µs of R291. -/
def State.keepSetpt (s : State) (t : Nat) (y x : Int) : State :=
  { s with cst := { s.cst with setpts := ((t, y, x) :: s.cst.setpts).take 32 } }

/-- The body of a SETPT from byte 4 on (R285). -/
def setptBytes (t : Nat) (y x : Int) : List Byte := leBytes 8 t ++ intBytes 8 y ++ intBytes 8 x

end Sys2Proof.Machine
end

