-- ==== Sys2Proof/Machine/MotOps.lean ====
section
/-!
DEFINITION. Sys2Proof/Machine/MotOps.lean: the trajectory generator, the setpoint stream and the deflection cam
(chapter 10, R249 to R271). Inside a move every quantity is mirrored for a move toward lower positions (R251).
-/

namespace Sys2Proof.Machine

/-! ### One tick of a plan (R250, R253, R255) -/

/-- Move `a` toward `goal` by at most `j`. -/
def toward (j a goal : Int) : Int := if a < goal then min goal (a + j) else max goal (a - j)

/-- The velocity that a ramp from `a` ≥ 0 to 0 at −J still adds: a − J, a − 2J, … (R253, R255). -/
def rampSum (j a : Int) : Int :=
  let k := a / j
  k * a - j * (k * (k + 1) / 2)

/-- The same with the sign of `a`. -/
def rampGain (j a : Int) : Int := if a < 0 then -rampSum j (-a) else rampSum j a

/-- One tick of the stop sequence with hold deceleration `h`: the next velocity and acceleration, or none on the tick that
ends it (R255). -/
def stopTick (j h v a : Int) : Option (Int × Int) :=
  let last := decide (a < 0) && decide (v ≤ rampSum j (-a))
  let a' := if last then toward j a 0 else toward j a (-h)
  if (last && a' == 0) || decide (v + a' ≤ 0) then none else some (v + a', a')

/-- The stop sequence from (v, a) covers at most `r`: D(h) ≤ r (R254). Every tick that does not end it moves at least one
LSB, so `r + 1` ticks decide it. -/
def stopFits (j h : Int) : Nat → Int → Int → Int → Bool
  | 0, _, _, _ => false
  | fuel + 1, v, a, r =>
    if r < 0 then false
    else
      match stopTick j h v a with
      | none => true
      | some (v', a') => stopFits j h fuel v' a' (r - v')

/-- D(h) ≤ r from the state (v, a). -/
def stopWithin (j h v a r : Int) : Bool := stopFits j h (r.toNat + 1) v a r

/-- The ticks before the final ramp of the stop starts, or the sequence ends, at most `fuel`. -/
def ticksToRamp (j h : Int) : Nat → Int → Int → Nat
  | 0, _, _ => 0
  | fuel + 1, v, a =>
    if decide (a < 0) && decide (v ≤ rampSum j (-a)) then 0
    else
      match stopTick j h v a with
      | none => 0
      | some (v', a') => ticksToRamp j h fuel v' a' + 1

/-- The distance of ramp and hold alone, without a final ramp, is at most `r`: no `h` that fails this can stop in `r`. -/
def holdFits (j h : Int) : Nat → Int → Int → Int → Bool
  | 0, _, _, _ => false
  | fuel + 1, v, a, r =>
    if r < 0 then false
    else
      let a' := toward j a (-h)
      if v + a' ≤ 0 then true else holdFits j h fuel (v + a') a' (r - (v + a'))

/-- The least number of `lo` .. `lo + 2^n` at which `p`, false then true, is true; `lo + 2^n` if it is true nowhere below. -/
def bisect (p : Nat → Bool) : Nat → Nat → Nat
  | 0, lo => if p lo then lo else lo + 1
  | n + 1, lo => if p (lo + 2 ^ n - 1) then bisect p n lo else bisect p n (lo + 2 ^ n)

/-- Search `h` upward from `h`, by intervals on which the final ramp starts at the same tick and D falls as `h` grows
(log entry 16). -/
def searchH (j v a r : Int) (fuelT : Nat) : Nat → Nat → Nat
  | 0, h => h
  | fuel + 1, h =>
    let t (x : Nat) := ticksToRamp j x fuelT v a
    let last := bisect (fun x => decide (t x < t h)) 48 h - 1
    if stopWithin j last v a r || 2 ^ 48 ≤ last then
      bisect (fun x => decide (last ≤ x) || stopWithin j x v a r) 48 h
    else searchH j v a r fuelT fuel (last + 1)

/-- The smallest hold deceleration whose stop fits the remaining distance (R254). -/
def leastH (j v a r : Int) : Int :=
  let n := r.toNat + 1
  let h0 := bisect (fun x => holdFits j x n v a r) 48 0
  (searchH j v a r n (n + 2) h0 : Nat)

/-! ### The generator -/

/-- The position of an axis. -/
def Gen.pos (g : Gen) (axis : Bool) : Int := if axis then g.x else g.y

def Gen.setPos (g : Gen) (axis : Bool) (p : Int) : Gen := if axis then { g with x := p } else { g with y := p }

/-- A quantity of the move, mirrored for a move toward lower positions. -/
def Gen.mir (g : Gen) (p : Int) : Int := if g.neg then -p else p

/-- ACC and DEC in force, in the internal LSB (R251). -/
def Gen.accI (g : Gen) : Int := (g.acc : Int) * 65536
def Gen.decI (g : Gen) : Int := (g.dec : Int) * 65536

/-- The remaining distance after moving to velocity `v`. -/
def Gen.left (g : Gen) : Int := g.mir g.tgt - g.mir (g.pos g.axis)

/-- One tick of the present plan in ACCEL or CRUISE: velocity, acceleration, whether the velocity target is reached. -/
def Gen.planTick (g : Gen) : Int × Int × Bool :=
  if g.st = 2 then (g.v, 0, true)
  else
    let reach := g.v + rampGain g.mj g.a
    let fin := if g.up then decide (g.vt ≤ reach) else decide (reach ≤ g.vt)
    let a' := if fin then toward g.mj g.a 0 else toward g.mj g.a (if g.up then g.accI else -g.accI)
    if fin && a' == 0 then (g.vt, 0, true) else (g.v + a', a', false)

/-- The stop trigger of R254 at the present state. -/
def Gen.mustStop (g : Gen) : Bool :=
  let n := g.planTick
  !stopWithin g.mj g.decI n.1 n.2.1 (g.left - n.1)

/-- A new velocity target (R258). -/
def Gen.retarget (g : Gen) (vt : Int) : Gen :=
  { g with st := 1, vt := vt, up := decide (g.v + rampGain g.mj g.a ≤ vt), held := false }

/-- Advance to a velocity and acceleration. -/
def Gen.advance (g : Gen) (v a : Int) : Gen :=
  { g.setPos g.axis (g.pos g.axis + (if g.neg then -v else v)) with v := v, a := a }

/-- The generator at standstill after a move. -/
def Gen.halted (g : Gen) : Gen := { g with st := 0, v := 0, a := 0, held := false, toTgt := false, gov := false, h := 0 }

def State.setGen (s : State) (g : Gen) : State := { s with gen := g }

/-- MOT_RESULT completes (R252, R253). -/
def State.moveResult (s : State) (axis : Bool) (code : Nat) : State :=
  (s.resDone Reg.MOT_RESULT [(28, code), (27, b2n axis)]).raise Ev.MOT_MOVE_RESULT code

/-- A result of the present tick, to be completed at its end (R253). -/
def State.noteResult (s : State) (axis : Bool) (code : Nat) : State :=
  s.setGen { s.gen with done := s.gen.done ++ [(axis, code)] }

/-- The results of the tick complete, the older move first (R253). -/
def State.flushResults (s : State) : State :=
  s.gen.done.foldl (fun (a : State) p => a.moveResult p.1 p.2) (s.setGen { s.gen with done := [] })

/-- The velocity target that VEL and the governor give (R259, R281), and whether the ceiling is the lower value. -/
def State.effVel (s : State) (axis : Bool) : Nat × Bool :=
  let g := s.gen
  if !axis && s.exposingAnywhere && s.gov.ceil < g.vel then (s.gov.ceil, true) else (g.vel, false)

/-- A move starts from standstill (R252, R253); results that wait are of older moves. -/
def State.startMove (s0 : State) (axis : Bool) (tgt : Int) : State :=
  let s := s0.flushResults
  let g := s.gen
  let p := g.pos axis
  if tgt * 2 ^ 32 = p then s.noteResult axis 0
  else
    let e := s.effVel axis
    let vt : Int := (e.1 : Int) * 2 ^ 24
    s.setGen
      { g with
        st := 1, axis := axis, v := 0, a := 0, neg := decide (tgt * 2 ^ 32 < p), tgt := tgt * 2 ^ 32, vt := vt, up := true,
        veff := vt, mj := g.jerk, toTgt := true, h := 0, held := false, clamped := false, gov := e.2 }

/-- Discard the pending target (R252, R256). -/
def State.clearPend (s : State) : State :=
  match s.gen.pend with
  | some p => (s.setGen { s.gen with pend := none }).noteResult p.1 4
  | none => s

/-- DEC_CLAMPED is set (R258). -/
def State.decClamp (s : State) : State := (s.setGen { s.gen with clamped := true }).raiseExp Ev.MOT_DEC_CLAMP 0

/-- The stop for the target begins from the present state (R254). -/
def State.beginTargetStop (s : State) : State :=
  let g := s.gen
  let h := leastH g.mj g.v g.a g.left
  let s1 := s.setGen { g with st := 3, toTgt := true, h := h, held := false }
  if g.decI < h then s1.decClamp else s1

/-- A STOP begins (R256, R292). With cause 0, HALT was sent when the stop was caused. -/
def State.beginStop (s : State) (cause : Nat) : State :=
  let g := s.gen
  if g.st = 0 then s
  else
    let h := if g.st = 3 ∧ g.toTgt = true then max g.decI g.h else g.decI
    let s1 := s.setGen { g with st := 3, toTgt := false, h := h, held := false }
    if s1.exposingAnywhere && cause != 0 then s1.haltSend cause else s1

/-- An accepted write of DEC acts (R258). A velocity that is held stands until VEL or the ceiling changes again. -/
def State.decWrite (s : State) (v : Nat) : State :=
  let g := s.gen
  let s1 := s.setGen { g with dec := v }
  if g.st ≠ 3 ∨ g.toTgt = false then s1
  else if v < g.dec then
    if (v : Int) * 65536 < g.h then s1.decClamp else s1
  else if g.dec < v then
    let held : Gen :=
      { s1.gen with
        st := 1, vt := g.v + rampGain g.mj g.a, up := true, held := true, h := 0,
        veff := ((s.effVel g.axis).1 : Int) * 2 ^ 24 }
    if held.mustStop then s1.beginTargetStop else s1.setGen held
  else s1

/-- The travel limits of an axis (R260): lowest and highest position, in MU. -/
def State.travel (s : State) (axis : Bool) : Int × Int :=
  let o := if axis then 329 else 325
  let w (i : Nat) : Nat := (s.nvw (o + i)).toNat
  (sext 48 (w 0 + 2 ^ 32 * (w 1 % 65536)), sext 48 (w 2 + 2 ^ 32 * (w 3 % 65536)))

/-- The velocity limit of an axis, in MU/µs. -/
def State.vlim (s : State) (axis : Bool) : Nat := fld (s.nvw 333) (if axis then 16 else 0) 16

/-- A position lies inside the limits of its axis. -/
def State.inTravel (s : State) (axis : Bool) (p : Int) : Bool :=
  decide ((s.travel axis).1 ≤ p) && decide (p ≤ (s.travel axis).2)

/-- A motion command acts at a tick (R253, R256, R257, R261). -/
def State.motCmd (s : State) : MotCmd → State
  | .move axis tgt =>
    let s1 := (s.setGen { s.gen with clamped := false }).clearPend
    if s.gen.st = 0 then s1.startMove axis tgt else s1.setGen { s1.gen with pend := some (axis, tgt) }
  | .stop cause => s.beginStop cause
  | .clearPend => s.clearPend
  | .setPos axis tgt =>
    if s.gen.st ≠ 0 || s.running || !s.inTravel axis tgt then s.raise Ev.MOT_IGNORED 4
    else s.setGen (s.gen.setPos axis (tgt * 2 ^ 32))
  | .prof which v =>
    match which with
    | 0 => s.setGen { s.gen with vel := v }
    | 1 => s.setGen { s.gen with acc := v }
    | 2 => s.decWrite v
    | _ => s.setGen { s.gen with jerk := v }

/-- The velocity target follows VEL and the ceiling (R258, R259). -/
def State.followVel (s : State) : State :=
  let g := s.gen
  if g.st = 0 then s
  else
    let e := s.effVel g.axis
    let vt : Int := (e.1 : Int) * 2 ^ 24
    let g1 := { g with gov := e.2 }
    if vt = g.veff then s.setGen g1
    else if g.st = 3 then s.setGen { g1 with veff := vt }
    else s.setGen (({ g1 with veff := vt } : Gen).retarget vt)

/-- The stop sequence ends (R253, R255): its result comes before those of the targets that waited behind the move. -/
def State.endMove (s : State) : State :=
  let g := s.gen
  if g.toTgt then
    let land := g.left / 65536
    let s1 := s.setGen ((g.setPos g.axis g.tgt).halted)
    (s1.setGen { s1.gen with done := (g.axis, 0) :: s1.gen.done }).setReg Reg.MOT_LAND (w32 (min (2 ^ 32 - 1) land.toNat))
  else s.setGen { g.halted with done := (g.axis, 1) :: g.done }

/-- Compute the tick (R250, R253 to R255). -/
def State.computeTick (s : State) : State :=
  let g0 := s.gen
  let s1 := if (g0.st = 1 ∨ g0.st = 2) ∧ g0.mustStop = true then s.beginTargetStop else s
  let g := s1.gen
  match g.st with
  | 0 => s1
  | 3 =>
    match stopTick g.mj g.h g.v g.a with
    | none => s1.endMove
    | some n => s1.setGen (g.advance n.1 n.2)
  | _ =>
    let n := g.planTick
    s1.setGen { g.advance n.1 n.2.1 with st := if n.2.2 then 2 else 1 }

/-! ### The setpoint stream (R263, R268, R291) -/

/-- A signed value of the move as software and the streams see it. -/
def Gen.signed (g : Gen) (v : Int) : Int := if g.neg then -v else v

/-- The device time of the tick: its message leaves LEAD µs before it (R263). -/
def State.tickTime (s : State) : Nat := s.tau + 64000 * s.rf Reg.MOT_CFG 8 4

/-- The body of a setpoint message (R263). -/
def State.setpointBody (s : State) : List Byte :=
  let g := s.gen
  let flags := b2n g.axis + 2 * b2n (g.st != 0) + 4 * b2n (g.st == 3) + 8 * b2n g.stale + 16 * b2n s.clk.hold + 32 * b2n g.gov
  intBytes 8 (g.y / 65536) ++ intBytes 8 (g.x / 65536) ++ intBytes 4 (g.signed g.v / 65536) ++
    intBytes 4 (g.signed g.a / 256) ++ leBytes 4 (s.tickTime / 64) ++ leBytes 2 flags ++ leBytes 2 g.seq

/-- Replace two bytes of a body. -/
def setHalf (body : List Byte) (o v : Nat) : List Byte :=
  (body.set o (BitVec.ofNat 8 v)).set (o + 1) (BitVec.ofNat 8 (v / 256))

/-- Send the setpoint message of the tick; during a calibration the last one is repeated, STALE, with SEQ advancing
(R268). -/
def State.sendSetpoint (s : State) : State :=
  if !wbit (s.reg Reg.MOT_CFG) 12 || !s.conductor || s.streamsOff then s
  else
    let body := if s.gen.stale then
        (if s.lastSp.isEmpty then [] else
          setHalf (s.lastSp.set 28 (s.lastSp.getD 28 0 ||| 8#8)) 30 s.gen.seq)
      else s.setpointBody
    if body.isEmpty then s
    else
      let s1 := s.bump Reg.MOT_SP_SENT
      ({ s1 with
        lastSp := if s.gen.stale then s.lastSp else body,
        gen := { s1.gen with seq := (s1.gen.seq + 1) % 65536 } } : State).sendMsg [6] body

/-- The conductor applies the ceiling computed since the last tick (R281). -/
def State.takeCeil (s : State) : State :=
  match s.gov.next with
  | some v => { s with gov := { s.gov with ceil := v, next := none } }
  | none => s

/-- Once per microsecond (R250, R253). -/
def tickAct (s0 : State) : State :=
  let s := s0.takeCeil
  if !s.conductor then s
  else
    let s1 := s.gen.cmds.foldl (fun (a : State) c => a.motCmd c) (s.setGen { s.gen with cmds := [] })
    let s2 := match s1.gen.st, s1.gen.pend with
      | 0, some p => ((s1.setGen { s1.gen with pend := none }).startMove p.1 p.2)
      | _, _ => s1
    let s3 := (s2.followVel.computeTick.flushResults).sendSetpoint
    let y := s3.gen.y / 65536
    let x := s3.gen.x / 65536
    let s4 := s3.keepSetpt s3.tickTime y x
    if s4.anyJoined then s4.sendDown 0x40 (setptBytes s4.tickTime y x) else s4

/-! ### Commands (R249, R252, R256, R257, R261, R262, R269) -/

/-- Queue a command for the next tick. -/
def State.queueMot (s : State) (c : MotCmd) : State := s.setGen { s.gen with cmds := s.gen.cmds ++ [c] }

/-- MOT_TGT. -/
def State.motTgt (s : State) : Int := sext 48 ((s.reg Reg.MOT_TGT_LO).toNat + 2 ^ 32 * s.rf Reg.MOT_TGT_HI 0 16)

/-- A command of the generator, dropped on a device that is not the conductor (R249). -/
def State.onConductor (s : State) (op : Nat) (f : State → State) : State :=
  if s.conductor then f s else s.raise Ev.MOT_IGNORED op

/-- MOVE (R252). -/
def moveAct (axis : Bool) (s : State) : State :=
  s.onConductor 1 fun s =>
    let vel := s.rf Reg.MOT_VEL 0 23
    if !s.inTravel axis s.motTgt then s.moveResult axis 2
    else if vel = 0 ∨ 256 * s.vlim axis < vel then s.moveResult axis 3
    else s.queueMot (.move axis s.motTgt)

/-- STOP (R256). -/
def stopAct (s : State) : State := s.onConductor 2 fun s => s.queueMot (.stop 1)

/-- CLEAR_PEND (R256). -/
def clearPendAct (s : State) : State := s.onConductor 3 fun s => s.queueMot .clearPend

/-- SET_POS (R261). -/
def setPosAct (axis : Bool) (s : State) : State := s.onConductor 4 fun s => s.queueMot (.setPos axis s.motTgt)

/-- SNAP captures p, v and a of an axis (R269): v and a are 0 for the axis not in motion. -/
def motSnapAct (axis : Bool) (s : State) : State :=
  let g := s.gen
  let mine := decide (g.axis = axis) && g.st != 0
  let v := if mine then g.signed g.v / 65536 else 0
  let a := if mine then g.signed g.a / 256 else 0
  let p := g.pos axis / 65536
  s.resultStart Reg.MOT_SNAP_STAT
    ⟨[(Reg.MOT_SNAP_POS_LO, w32i p), (Reg.MOT_SNAP_POS_HI, w32i (p / 2 ^ 32)), (Reg.MOT_SNAP_VEL, w32i v),
      (Reg.MOT_SNAP_ACC, w32i a)], [], none⟩

/-- MOT_CMD by its OP (R269). -/
def motCmdAct (v : Word) (s : State) : State :=
  match fld v 0 3 with
  | 1 => moveAct (wbit v 8) s
  | 2 => stopAct s
  | 3 => clearPendAct s
  | 4 => setPosAct (wbit v 8) s
  | 5 => motSnapAct (wbit v 8) s
  | op => s.raise Ev.MOT_IGNORED op

/-- The offset of MOT_VEL (0), MOT_ACC (1), MOT_DEC (2), MOT_JERK (3). -/
def profOff (which : Nat) : Nat := Reg.MOT_VEL + 4 * which

/-- A write of a profile register (R257). -/
def profileAct (which : Nat) (v : Word) (s : State) : State :=
  let x := (v &&& regMask (profOff which)).toNat
  let bad := if which = 0 then s.gen.st != 0 && (x == 0 || 256 * s.vlim s.gen.axis < x) else x == 0
  if bad then s.raise Ev.MOT_CFG_REFUSED (offDetail (profOff which))
  else (s.writeRw (profOff which) v).queueMot (.prof which x)

/-- A write of MOT_CFG (R269). -/
def motCfgAct (v : Word) (s : State) : State :=
  if s.gen.st ≠ 0 || s.expo.isSome || fld v 8 4 = 0 || 4 < fld v 0 3 || (fld v 4 3 ≠ 3 ∧ fld v 4 3 ≠ 4) then
    s.raise Ev.MOT_CFG_REFUSED (offDetail Reg.MOT_CFG)
  else s.writeRw Reg.MOT_CFG v

/-- A stop that the device itself begins on the conductor: the generator takes it at the next tick. HALT leaves in the cycle
of its cause, in which the stripe is still EXPOSING, where a move is under way; else the stop sequence, if one begins at the
tick, decides (R261, R262, R292, R387). -/
def State.stopNow (s : State) (cause : Nat) : State :=
  if !s.conductor then s
  else if s.gen.st ≠ 0 && s.exposingAnywhere then (s.haltSend cause).queueMot (.stop 0)
  else s.queueMot (.stop cause)

/-- On entry to dark hold the generator stops and the pending target is discarded (R262). -/
def State.motDarkHold (s : State) : State :=
  if s.conductor then (s.queueMot .clearPend).stopNow 2 else s

/-! ### The cam (R265 to R268) -/

/-- An entry of a bank: X and Y (R265). -/
def State.camEntry (s : State) (bank : Bool) (k : Nat) : Int × Int :=
  let w := s.reg ((if bank then Reg.CAM1_0 else Reg.CAM0_0) + 4 * k)
  (sext 16 (fld w 0 16), sext 16 (fld w 16 16))

/-- The bank in use. -/
def State.camBank (s : State) : Bool := wbit (s.reg Reg.CAM_CTL) 0

/-- A write of an entry (R265). -/
def camWriteAct (bank : Bool) (k : Nat) (v : Word) (s : State) : State :=
  let off := (if bank then Reg.CAM1_0 else Reg.CAM0_0) + 4 * k
  if bank = s.camBank then s.raise Ev.MOT_CAM_IGNORED (offDetail off) else s.setReg off v

/-- The swap takes place. -/
def State.camSwap (s : State) : State :=
  let b := !s.camBank
  (s.setReg Reg.CAM_CTL (pack [(0, b2n b)])).raise Ev.MOT_CAM_SWAP (b2n b)

/-- The stripe is ARMED. -/
def State.armed (s : State) : Bool := s.expo.any Expo.armed

/-- CAM_CTL.SWAP (R265). DESIGN CHOICE (log entry 117): the bit reads 0, and a pending swap shows in SWAP_PEND; R7 lets a W1S
bit read the state. -/
def swapAct (s : State) : State :=
  if wbit (s.reg Reg.CAM_CTL) 2 then s.raise Ev.MOT_CAM_IGNORED (offDetail Reg.CAM_CTL)
  else if s.armed then s.setReg Reg.CAM_CTL (setBit (s.reg Reg.CAM_CTL) 2 true)
  else s.camSwap

/-- A swap that waits takes place when the next transit fires (R265). -/
def State.camFire (s : State) : State := if wbit (s.reg Reg.CAM_CTL) 2 then s.camSwap else s

/-- A sample from a phase, with its fraction (R266). -/
def State.camSample (s : State) (phi : Nat) (xerr : Int) : Int × Int :=
  let a := s.camEntry s.camBank (phi / 256 % 256)
  let b := s.camEntry s.camBank ((phi / 256 + 1) % 256)
  let f : Int := (phi % 256 : Nat)
  let mix (u v : Int) : Int := u + ((v - u) * f + 128) / 256
  (clampInt (-32767) 32767 (mix a.1 b.1 + xerr), clampInt (-32767) 32767 (mix a.2 b.2))

/-- phi of sample `i` (R266). -/
def camPhi (ofs : Int) (w : Int) (pitch i : Nat) : Nat :=
  (((ofs * 1000 * w) / (104960 * (pitch : Int)) + 2048 * (i : Int)) % 65536).toNat

/-- The body of a deflection message (R267). -/
def deflectionBody (n flags : Nat) (xerr : Int) (time dt : Nat) (samples : List (Int × Int)) : List Byte :=
  leBytes 4 n ++ leBytes 2 flags ++ intBytes 2 xerr ++ leBytes 4 time ++ leBytes 4 dt ++
    samples.flatMap fun p => intBytes 2 p.1 ++ intBytes 2 p.2

/-- Send a deflection message, or repeat the last one during a calibration (R267, R268). DESIGN CHOICE (log entry 130): after
it the last message is repeated with STALE = 1 until the next firing. -/
def State.sendDeflection (s : State) (body : List Byte) : State :=
  if !wbit (s.reg Reg.MOT_CFG) 13 || s.streamsOff then s
  else
    let b := if s.gen.dfHeld then
        (if s.lastDf.isEmpty then [] else s.lastDf.set 4 (s.lastDf.getD 4 0 ||| 4#8))
      else body
    if b.isEmpty then s
    else
      let s1 := s.bump Reg.MOT_DF_SENT
      ({ s1 with lastDf := if s.gen.dfHeld then s.lastDf else body } : State).sendMsg [7] b

/-- The deflection message of a fired transit: F(n) in 1/64 ns, whether its marker is DARK as far as known (R266, R267). -/
def State.deflectionFire (s : State) (n pitch : Nat) (ofs : Int) (time : Nat) (dark : Bool) : State :=
  let w0 := s.loop.v / 65536
  let w : Int := if w0 = 0 then 1 else w0
  let dt := ((pitch : Int) * 2 ^ 17 / w).toNat
  ({ s with gen := { s.gen with shot := some (n, time, dark), dfHeld := s.gen.stale } } : State).sendDeflection
    (deflectionBody n (2 * b2n dark + 8 * b2n s.camBank) s.loop.xerr time dt
      ((List.range 32).map fun i => s.camSample (camPhi ofs w pitch i) s.loop.xerr))

end Sys2Proof.Machine
end

