-- ==== Sys2Proof/Machine/GovOps.lean ====
section
/-!
DEFINITION. Sys2Proof/Machine/GovOps.lean: the rate governor: band ceilings, segment values, the ceiling VGOV and plan
cycles (chapter 11, R274 to R283, R288).
-/

namespace Sys2Proof.Machine

/-- The value that means no limit (R277). -/
def noLimit : Nat := 0x7FFFFF

/-- RAST_STAT.ENABLED. -/
def State.enabledCount (s : State) : Nat := ((List.range 48).filter fun i => s.form.engOn.testBit i).length

/-- The flash span of a stripe (R184). -/
def Ctx.span (x : Ctx) : Nat := x.d.onTime + 112 * x.samp.stagger

/-- Band `b` of a stripe is costed (R275). -/
def Ctx.costed (x : Ctx) (b : Nat) : Bool := b < x.prep.parsed

/-- R′ of a band under GOV_MODEL as it stands (R274). -/
def State.bandR (s : State) (x : Ctx) (b : Nat) : Nat :=
  x.bandTime (s.rf Reg.GOV_MODEL 20 12) (s.rf Reg.GOV_MODEL 10 10) (s.rf Reg.GOV_MODEL 0 10) (max 1 s.enabledCount) b

/-- GOV_CREEP.V. -/
def State.creep (s : State) : Nat := s.rf Reg.GOV_CREEP 0 23

/-- VB from R′ (R275). -/
def bandCeil (pitch span r : Nat) : Nat := min noLimit (pitch * 16384000 / max ((r + 3) / 4) (max 16000 span))

/-- VB of a band. -/
def State.bandVel (s : State) (x : Ctx) (b : Nat) : Nat :=
  if x.costed b then bandCeil x.samp.pitch x.span (s.bandR x b) else s.creep

/-- Half-open ranges of positions meet. -/
def rangesMeet (a b c d : Int) : Bool := decide (a < d) && decide (c < b)

/-- The own value of segment `seg` (R277). -/
def State.ownValue (s : State) (k : Nat) (seg : Int) : Nat :=
  match s.expo with
  | none => noLimit
  | some e =>
    let x := s.ctx e.ctx
    let lo := seg * 2 ^ k
    let hi := lo + 2 ^ k
    let pos (n : Int) : Int := e.origin + n * x.samp.pitch
    let inStripe := rangesMeet lo hi (pos 0) (pos (x.d.y0 + 256 * x.d.bands + 8176))
    let bands := ((List.range x.d.bands).filter fun (i : Nat) =>
      rangesMeet lo hi (pos (x.d.y0 + 256 * (i : Int) - 2048)) (pos (x.d.y0 + 256 * (i : Int)))).map (x.band0 + ·)
    if bands.isEmpty && !inStripe then noLimit
    else if wbit (s.reg Reg.GOV_CTL) 0 || e.startHold then s.creep
    else
      let base := if inStripe then x.samp.pitch * 16384000 / max 16000 x.span else noLimit
      bands.foldl (fun m b => min m (s.bandVel x b)) (min noLimit base)

/-! ### The ceiling VGOV (R280) -/

/-- Lowering the velocity from `v` to `v2` with `a` = 0 at first: ticks and distance (R253, R280). -/
def lowerRun (j acc v2 : Int) : Nat → Int → Int → Nat × Int → Nat × Int
  | 0, _, _, r => r
  | fuel + 1, v, a, r =>
    let fin := decide (v + rampGain j a ≤ v2)
    let a' := toward j a (if fin then 0 else -acc)
    if fin && a' == 0 then (r.1 + 1, r.2 + v2) else lowerRun j acc v2 fuel (v + a') a' (r.1 + 1, r.2 + (v + a'))

/-- DV with the number of its ticks; velocities in the MOT_VEL format, the distance in 2⁻³² MU. -/
def dvRun (j acc : Int) (v1 v2 : Nat) : Nat × Int :=
  if v1 ≤ v2 then (0, 0) else lowerRun j acc (v2 * 2 ^ 24) ((v1 - v2) * 2 ^ 24 + 2) (v1 * 2 ^ 24) 0 (0, 0)

/-- A distance and a velocity fit into `room` MU: room ≥ d + v × 32,768 / 256,000 (R280). -/
def roomFor (room d : Int) (v : Nat) : Bool := decide (d * 256000 + (v : Int) * 32768 * 2 ^ 32 ≤ room * 2 ^ 32 * 256000)

/-- One condition of R280. -/
def segOk (j acc room : Int) (m v : Nat) : Bool := roomFor room (dvRun j acc v m).2 v

/-- A distance that DV is not below and that grows with `v`: the sum of v − i × ACC without a ramp. -/
def dvLeast (acc : Int) (v m : Nat) : Int :=
  if v ≤ m then 0
  else
    let d : Int := ((v : Int) - m) * 2 ^ 24
    let n := (d + acc - 1) / acc - 1
    n * ((v : Int) * 2 ^ 24) - acc * (n * (n + 1) / 2)

/-- The largest velocity up to `v` that meets one condition, or 0. It goes down by the intervals on which the number of
ticks is the same and DV grows with the velocity (log entry 16). -/
def segMost (j acc room : Int) (m : Nat) : Nat → Nat → Nat
  | 0, _ => 0
  | fuel + 1, v =>
    if v = 0 then 0
    else
      let t := (dvRun j acc v m).1
      let lo := bisect (fun x => decide (t ≤ (dvRun j acc x m).1)) 23 0
      if segOk j acc room m lo then
        let r := bisect (fun x => decide (v < x) || !segOk j acc room m x) 23 lo - 1
        if r ≤ v && segOk j acc room m r then r else segMost j acc room m fuel (v - 1)
      else segMost j acc room m fuel (min (lo - 1) (v - 1))

/-- The same from a first bound that no velocity above can meet. -/
def segBest (j acc room : Int) (m v : Nat) : Nat :=
  let top := bisect (fun x => !roomFor room (dvLeast acc x m) x) 23 0 - 1
  segMost j acc room m (v + 1) (min v top)

/-- Lower `v` until every condition holds. -/
def segAll (best : Nat → Nat → Nat) (n : Nat) : Nat → Nat → Nat
  | 0, v => v
  | fuel + 1, v =>
    let v' := (List.range n).foldl (fun v i => best i v) v
    if v' = v then v else segAll best n fuel v'

/-- VGOV from the minima M(s0) .. M(s0 + 127) (R280). -/
def vgov (j acc : Int) (k : Nat) (s0 p : Int) (ms : List Nat) (creep : Nat) : Nat :=
  let m (i : Nat) : Nat := if i = 128 then creep else ms.getD i noLimit
  let best (i v : Nat) : Nat := segBest j acc ((s0 + 1 + i) * 2 ^ k - p) (m (i + 1)) v
  max 1 (segAll best 128 (noLimit + 1) (min noLimit (m 0)))

/-! ### Plan cycles (R288) -/

/-- The 128 own values from segment `base`, with the predictions and band ceilings of the cycle (R274 to R278). -/
def State.formOwn (s : State) (k : Nat) (base : Int) : State :=
  let own := (List.range 128).map fun (i : Nat) => s.ownValue k (base + (i : Int))
  let costed := match s.expo with
    | some e =>
      let x := s.ctx e.ctx
      ((List.range x.prep.parsed).filter fun b => decide (x.band0 ≤ b ∧ b < x.bandEnd)).map fun b => (b, s.bandR x b, s.bandVel x b)
    | none => []
  { s with
    gov := { s.gov with
      ownBase := base, own := own, pred := costed.foldl (fun m p => sput 0 m p.1 p.2.1) [],
      vels := costed.foldl (fun m p => sput 0 m p.1 p.2.2) [], vel0 := s.creep, model := s.reg Reg.GOV_MODEL } }

/-- The value that a child contributes for a segment: its latest report, GOV_CREEP.V where that covers nothing (R288). -/
def Child.value (k : Child) (creep : Nat) (seg : Int) : Nat :=
  let i := seg - k.base
  if 0 ≤ i ∧ i < 128 then k.vals.getD i.toNat creep else creep

/-- The joined children. -/
def State.kids (s : State) : List Child := ([s.kid 0, s.kid 1]).filter Child.joined

/-- Members of this subtree as CST_MEMBERS shows them. -/
def State.memberCount (s : State) : Nat := 1 + (s.kids.map Child.members).sum

/-- The reduced values (R288 step 3), under the creep velocity of the cycle (R278). -/
def State.reduced (s : State) : List Nat :=
  s.gov.own.zipIdx.map fun p =>
    s.kids.foldl (fun m k => min m (k.value s.gov.vel0 (s.gov.ownBase + (p.2 : Int)))) p.1

/-- START of a PLAN (R285): some member is in its start hold. A report says no more of a member than that a context is
EXPOSING, so while a child reports that and the conductor itself is not in its hold the flag is free (log entry 44). -/
def State.planStart (s : State) : Bool × State :=
  if s.expo.any Expo.startHold then (true, s)
  else if s.kids.any Child.exp then (Config.freeBit s.draws, { s with draws := s.draws + 1 })
  else (false, s)

/-- Steps 4 and 5 on the conductor: the ceiling is in force from the next tick on (R281). DEDUCED (log entry 69): the plan
step of R280 is t0, so that s0 and p are those for which the own values of step 1 are formed; those are of the segments of
the plan before, and the new SEG_LOG2 holds from this plan on (R276). -/
def State.planStep (s : State) : State :=
  let g := s.gen
  let k := s.rf Reg.GOV_CTL 16 5
  let j : Int := if g.st = 0 then g.jerk else g.mj
  let v := vgov j g.accI s.gov.segLog2 s.gov.ownBase s.gov.pos s.gov.red s.gov.vel0
  let base := g.y / 2 ^ 32 / 2 ^ k
  let start := s.planStart
  let s1 : State :=
    { start.2 with
      gov := { s.gov with next := some v, base := base, segLog2 := k, waiting := false } }
  let body := leBytes 4 s.cst.cycle ++ intBytes 4 base ++ [BitVec.ofNat 8 k, BitVec.ofNat 8 (b2n start.1)] ++
    leBytes 2 s.memberCount ++ leBytes 4 v
  (s1.sendDown 0x31 body).bump Reg.GOV_CYCLES

/-- The LOST flag of this node (R293). -/
def State.lostBelow (s : State) : Bool := (s.kid 0).lost || (s.kid 1).lost

/-- Step 3: the reduction ends; the conductor plans, a member reports up. A member that sends no report keeps the reduced
values that it sent last (GOV_SEG_MIN, R294). -/
def State.finishReports (s : State) : State :=
  let exp := s.kids.any Child.exp || (s.role != 0 && s.expo.isSome)
  let sends := s.conductor || (s.cst.joined && s.portUp 0)
  let s1 : State :=
    { s with
      gov := { s.gov with
        red := if sends then s.reduced else s.gov.red, redBase := if sends then s.gov.ownBase else s.gov.redBase,
        waiting := false },
      cst := { s.cst with expAll := exp } }
  if s.conductor then s1.planStep
  else if !s.cst.joined then s1
  else
    s1.sendCst 0 0x30
      (leBytes 4 s.cst.cycle ++ intBytes 4 s.gov.ownBase ++ leBytes 2 s.memberCount ++
        [BitVec.ofNat 8 (b2n exp + 2 * b2n s.lostBelow), 0] ++ s1.gov.red.flatMap (leBytes 4))

/-- Step 3 ends once every joined child has started its report. -/
def State.reportsReady (s : State) : State :=
  if s.gov.waiting && s.kids.all Child.got then s.finishReports else s

/-- Plan cycle `c` begins: a child that started no report in the cycle that ends misses one (R293). -/
def Child.newCycle (k : Child) (c : Nat) : Child :=
  { k with missed := if k.got then 0 else k.missed + 1, got := k.rep == some c }

/-- The bytes with errors that the plan cycle meets in the cost map of the EXPOSING context, at cell row `row` (R139). -/
def State.costHits (s : State) (hits : List SramHit) (row : Nat) : State :=
  match s.exposing with
  | some c => (s.meets hits c row).2
  | none => s

/-- A plan cycle begins (R288 steps 1 and 2). -/
def planCycleAct (hits : List SramHit) (row : Nat) (s0 : State) : State :=
  let s := s0.costHits hits row
  let conductor := s.conductor
  let k := s.gov.segLog2
  let p := s.gen.y / 2 ^ 32
  let s1 := s.formOwn k (if conductor then p / 2 ^ k else s.gov.base)
  let miss := if s1.cst.gotPlan then 0 else s1.cst.planMiss + 1
  let c := s1.cst
  let s2 : State :=
    { s1 with
      cst := { c with cycle := s1.tau / (64 * 16384) % 2 ^ 32, gotPlan := false, planMiss := if c.joined && !conductor then miss else 0 },
      gov := { s1.gov with pos := p, waiting := true } }
  let fresh (a : State) (i : Nat) : State := if (a.kid i).joined then a.setKid i ((a.kid i).newCycle s2.cst.cycle) else a
  (fresh (fresh s2 0) 1).reportsReady

/-- The reports have not all started by the timeout (R288 step 3): each missing one counts in CST_STALE. -/
def reportTimeoutAct (s : State) : State :=
  if !s.gov.waiting then s
  else (s.addCnt Reg.CST_STALE (s.kids.filter fun k => !k.got).length).finishReports

/-- A write of GOV_CTL (0), GOV_MODEL (1) or GOV_CREEP (2) (R278, R294). -/
def govConfigAct (which : Nat) (v : Word) (s : State) : State :=
  let off := Reg.GOV_CTL + 4 * which
  let bad := match which with
    | 0 => decide (fld v 16 5 < 16) || decide (22 < fld v 16 5) || s.running || s.gen.st != 0
    | 1 => decide (fld v 0 10 < 256)
    | _ => fld v 0 23 == 0
  if bad then s.raise Ev.GOV_CFG_REFUSED (offDetail off) else s.writeRw off v

end Sys2Proof.Machine
end

