-- ==== Sys2Proof/Machine/CstOps.lean ====
section
/-!
DEFINITION. Sys2Proof/Machine/CstOps.lean: joining, messages, time synchronisation, halts and link loss of a
constellation (chapter 11, R284 to R293, R296).
-/

namespace Sys2Proof

/-- The auxiliary lane that brings a copy on a port. -/
def Rx.lane (rx : Rx) (port : Nat) : Nat := 8 + 2 * port + Machine.b2n rx.second

/-- SEQ of a message (R285). -/
def Rx.seq (rx : Rx) : Nat := Machine.bodyNat rx.body 2 2

/-- A field of a message: `n` bytes from byte `o`. -/
def Rx.nat (rx : Rx) (o n : Nat) : Nat := Machine.bodyNat rx.body o n
def Rx.int (rx : Rx) (o n : Nat) : Int := Machine.bodyInt rx.body o n

end Sys2Proof

namespace Sys2Proof.Machine

/-! ### Receiving (R285, R293) -/

/-- The port number of child 0 or 1. -/
def kidPort (port : Bool) : Nat := if port then 2 else 1

/-- The SEQs taken on a port after one more: none for a SEQ taken before. The mask reaches 32,768 numbers back, half the
number circle (log entry 41). -/
def seqTaken (last mask seq : Nat) : Option (Nat × Nat) :=
  let ahead := (seq + 65536 - last) % 65536
  let back := (last + 65536 - seq) % 65536
  if mask = 0 then some (seq, 1)
  else if 0 < ahead ∧ ahead < 32768 then some (seq, (mask * 2 ^ ahead + 1) % 2 ^ 32768)
  else if mask.testBit back then none
  else some (last, mask + 2 ^ back)

/-- Take a message of TYPE `type`, with a body of `len` bytes, on a port: one that TEST_LANE_CNT corrupts, with a bad check
or an unknown TYPE counts (R293, R412), the second copy of a SEQ is discarded (R285). A body of another length has no CRC at
its end, which counts as a bad one (log entry 100). -/
def State.receive (s : State) (port : Nat) (type : Byte) (len : Nat) (rx : Rx) (act : State → State) : State :=
  if !s.portUsed port then s
  else if s.auxCorrupts (rx.lane port) then s.useCorruption.bump Reg.CST_LINK_ERR
  else if rx.body.length ≠ len || !crcGood rx.body rx.crc || rx.body.headD 0 != type then s.bump Reg.CST_LINK_ERR
  else
    let w := sget (0, 0) s.cst.rx port
    match seqTaken w.1 w.2 rx.seq with
    | none => s
    | some w1 => act { s with cst := { s.cst with rx := sput (0, 0) s.cst.rx port w1 } }

/-! ### Joining (R287) -/

/-- Members counted on the root: latest reports, the root itself, grants not yet reflected. -/
def State.countAll (s : State) : Nat := 1 + (s.kids.map fun k => k.members + k.granted.length).sum

/-- The ID of the node above. -/
def parentId (id : Nat) : Nat := (id - 1) / 2

/-- The child port (1 or 2) whose subtree holds `id`, seen from node `own`; 0 if none does. -/
def routeKid (own : Nat) : Nat → Nat → Nat
  | 0, _ => 0
  | fuel + 1, id => if id ≤ own then 0 else if parentId id = own then (if id % 2 = 1 then 1 else 2) else routeKid own fuel (parentId id)

/-- The body of JOIN and GRANT from byte 4 on. -/
def joinBytes (id depth last : Nat) : List Byte := leBytes 2 id ++ [BitVec.ofNat 8 depth, BitVec.ofNat 8 last]

/-- Send a GRANT toward the child that holds an ID; an accepted direct child is joined (R287). -/
def State.sendGrant (s : State) (id depth result : Nat) : State :=
  let port := routeKid s.cst.id 16 id
  if port = 0 then s
  else
    let s1 := s.sendCst port 0x12 (joinBytes id depth result)
    if result = 0 ∧ parentId id = s.cst.id then
      s1.setKid (port - 1) { Child.reset with joined := true, got := true, granted := (s1.kid (port - 1)).granted }
    else s1

/-- The first plan cycle whose report shows what became of a GRANT that leaves now (R287). DESIGN CHOICE (log entry 131): the
first that begins 5,500 ns later, by which time the GRANT has passed 11 hops (R286). -/
def State.grantShows (s : State) : Nat := (s.tau / 64 + 5500 + 16383) / 16384 % 2 ^ 32

/-- The grant of a node counts: once, however often it is repeated (R287). -/
def Child.grants (k : Child) (id cycle : Nat) : Child :=
  { k with granted := (k.granted.filter fun g => g.1 != id) ++ [(id, cycle)] }

/-- A report of plan cycle `c` with `members` reflects grants: the oldest as many as the members have grown by, and every one
that a report of that cycle shows the outcome of. DESIGN CHOICE (log entry 131). -/
def Child.reflects (k : Child) (c members : Nat) : Child :=
  { k with granted := (k.granted.drop (members - k.members)).filter fun g => 2 ^ 31 ≤ (c + 2 ^ 32 - g.2) % 2 ^ 32 }

/-- The root decides a JOIN (R287). -/
def State.rootDecides (s : State) (port id depth : Nat) : State :=
  let again := (s.kid (port - 1)).granted.any fun g => g.1 == id
  if !again && decide (2048 < s.countAll + 1) then s.sendGrant id depth 2
  else
    let s1 := s.sendGrant id depth 0
    s1.setKid (port - 1) ((s1.kid (port - 1)).grants id s.grantShows)

/-- A child that is not JOINED shows that it is back: its port comes up again (R293; log entry 42). -/
def State.kidBack (s : State) (c : Nat) : State :=
  if (s.kid c).joined then s else s.setKid c { s.kid c with missed := 0 }

/-- A JOIN arrives from a child (R287). -/
def joinAct (port : Bool) (rx : Rx) (s : State) : State :=
  s.receive (kidPort port) 0x11 16 rx fun s =>
    let id := rx.nat 4 2
    let depth := rx.nat 6 1
    let dev := rx.nat 8 8
    if !s.cst.joined then s
    else
      let c := kidPort port - 1
      let s0 := s.kidBack c
      let id1 := if id = 0xFFFF then 2 * s.cst.id + 1 + c else id
      let d1 := if id = 0xFFFF then s.cst.depth + 1 else depth
      if 11 < d1 then s0.sendGrant id1 d1 1
      else if s0.role = 1 then s0.rootDecides (kidPort port) id1 d1
      else s0.sendCst 0 0x11 (joinBytes id1 d1 0 ++ leBytes 8 dev)

/-- A synchronised member that is not joined sends JOIN, and again until a GRANT arrives (R287). Its own DEPTH is not stated:
a free byte. -/
def joinSendAct (s : State) : State :=
  if s.role ≠ 2 || s.cst.joined || s.cst.refused || !s.portUp 0 || (!s.cst.asked && decide (s.cst.good < 2)) then s
  else
    let dev := leBytes 4 Config.devIdLo.toNat ++ leBytes 4 Config.devIdHi.toNat
    ({ s with draws := s.draws + 1, cst := { s.cst with asked := true } } : State).sendCst 0 0x11
      (joinBytes 0xFFFF (Config.freeWord s.draws).toNat 0 ++ dev)

/-- A GRANT arrives (R287). -/
def grantAct (rx : Rx) (s : State) : State :=
  s.receive 0 0x12 8 rx fun s =>
    let id := rx.nat 4 2
    let depth := rx.nat 6 1
    let result := rx.nat 7 1
    if s.role ≠ 2 then s
    else if s.cst.joined then s.sendGrant id depth result
    else if result = 0 then
      ({ s with
        cst := { s.cst with joined := true, asked := false, id := id, depth := depth, planMiss := 0, gotPlan := true } } :
        State).raise Ev.CST_JOINED id
    else ({ s with cst := { s.cst with refused := true, asked := false } } : State).raise Ev.CST_JOIN_REFUSED result

/-- CST_CMD.REJOIN (R287). -/
def rejoinAct (s : State) : State := { s with cst := { s.cst with refused := false } }

/-! ### Reports and plans (R288) -/

/-- A REPORT arrives from a child (R287, R288, R293). One of another cycle only becomes the child's latest report (log entry
43). -/
def reportAct (port : Bool) (rx : Rx) (s : State) : State :=
  s.receive (kidPort port) 0x30 528 rx fun s =>
    let c := kidPort port - 1
    let members := rx.nat 12 2
    let lost := rx.nat 14 1 / 2 % 2 == 1
    let now := rx.nat 4 4 == s.cst.cycle
    let k := s.kid c
    if !k.joined then s
    else
      let k1 : Child :=
        { k.reflects (rx.nat 4 4) members with
          members := members, base := rx.int 8 4,
          vals := (List.range 128).map fun i => rx.nat (16 + 4 * i) 4 % 2 ^ 23, exp := rx.nat 14 1 % 2 == 1, lost := lost,
          rep := some (rx.nat 4 4), got := k.got || now, missed := if now then 0 else k.missed }
      let s1 := s.setKid c k1
      let s2 := if s.conductor && lost && !k.lost then
          (s1.setReg Reg.CST_LOST_PORT (w32 (c + 1))).raise Ev.CST_LOSS (c + 1)
        else s1
      s2.reportsReady

/-- A PLAN arrives (R288 step 6). -/
def planAct (rx : Rx) (s : State) : State :=
  s.receive 0 0x31 20 rx fun s =>
    if s.role ≠ 2 || !s.cst.joined then s
    else
      let s1 : State :=
        { s with
          gov := { s.gov with ceil := rx.nat 16 4 % 2 ^ 23, base := rx.int 8 4, segLog2 := rx.nat 12 1 },
          cst := { s.cst with gotPlan := true, planMiss := 0 } }
      (s1.sendDown 0x31 (rx.body.drop 4)).bump Reg.GOV_CYCLES

/-! ### Time (R289) -/

/-- A member sends TIME_REQ. -/
def timeReqSendAct (s : State) : State :=
  if s.role ≠ 2 || !s.portUp 0 then s
  else ({ s with cst := { s.cst with t1 := some s.tau } } : State).sendCst 0 0x20 (leBytes 8 s.tau)

/-- A TIME_REQ arrives; the answer leaves `turn` units later. -/
def timeReqAct (port : Bool) (rx : Rx) (turn : Nat) (s : State) : State :=
  s.receive (kidPort port) 0x20 12 rx fun s =>
    let c := kidPort port - 1
    if !s.cst.joined then s
    else
      (s.kidBack c).sendCst (kidPort port) 0x21
        (leBytes 8 (rx.nat 4 8) ++ leBytes 8 s.tau ++ leBytes 8 (s.tau + turn))

/-- θ of an exchange, in units of τ, truncated toward zero. -/
def thetaOf (t1 t2 t3 t4 : Nat) (asym : Int) : Int := ((((t2 : Int) - t1) - ((t4 : Int) - t3)) - 2 * asym).tdiv 2

/-- The correction of τ by θ (R289). -/
def State.correctTau (s : State) (th : Int) : State :=
  let m := th.natAbs
  let c := { s.cst with theta := th, t1 := none, good := if m ≤ 1 then s.cst.good + 1 else 0 }
  if c.joined then
    let s1 : State := { s with cst := { c with slew := if th = 0 then 0 else th.sign } }
    let s2 := s1.peak Reg.CST_OFS_PEAK 0 16 (min 65535 m)
    if 64 < m then s2.raiseExp Ev.CST_TIME_SLIP (min 65535 m) else s2
  else if 0 < th then { s with cst := c, tau := (s.tau + m) % 2 ^ 64 }
  else { s with cst := { c with hold := m / 64, short := m % 64 } }

/-- A TIME_RSP arrives. -/
def timeRspAct (rx : Rx) (s : State) : State :=
  s.receive 0 0x21 28 rx fun s =>
    if s.role ≠ 2 || s.cst.t1 ≠ some (rx.nat 4 8) then s
    else s.correctTau (thetaOf (rx.nat 4 8) (rx.nat 12 8) (rx.nat 20 8) s.tau (sext 16 (s.rf Reg.CST_ASYM 0 16)))

/-- The step of τ in one motion-island cycle (R272, R273, R289). -/
def State.stepTau (s : State) : State :=
  let c := s.cst
  if 0 < c.hold then { s with cst := { c with hold := c.hold - 1 } }
  else if 0 < c.short then { s with tau := (s.tau + 64 - c.short) % 2 ^ 64, cst := { c with short := 0 } }
  else { s with tau := ((s.tau + 64 : Int) + c.slew).toNat % 2 ^ 64, cst := { c with slew := 0 } }

/-- SNAP (R296). -/
def cstSnapAct (s : State) : State :=
  s.resultStart Reg.CST_SNAP_STAT
    ⟨[(Reg.CST_SNAP_LO, w32 s.tau), (Reg.CST_SNAP_HI, w32 (s.tau / 2 ^ 32)), (Reg.CST_SNAP_OFS, w32i s.cst.theta)], [], none⟩

/-- CST_CMD: REJOIN and SNAP. -/
def cstCmdAct (v : Word) (s : State) : State :=
  let s1 := if wbit v 1 then rejoinAct s else s
  if wbit v 0 then cstSnapAct s1 else s1

/-! ### Setpoints, halts and losses (R291 to R293) -/

/-- A SETPT arrives. -/
def setptAct (rx : Rx) (s : State) : State :=
  s.receive 0 0x40 28 rx fun s =>
    if s.role ≠ 2 || !s.cst.joined then s
    else (s.keepSetpt (rx.nat 4 8) (rx.int 12 8) (rx.int 20 8)).sendDown 0x40 (rx.body.drop 4)

/-- The node leaves the tree (R293): its own children are told, and it tries to join again. -/
def State.leaveTree (s : State) (port : Nat) : State :=
  let s1 := s.haltDown 4
  let s2 : State :=
    { s1 with
      cst := { s1.cst with joined := false, asked := false, good := 0, kids := [], planMiss := 0, expAll := false, slew := 0 },
      gov := { s1.gov with waiting := false } }
  (s2.setReg Reg.CST_LOST_PORT (w32 port)).raiseExp Ev.CST_ORPHAN port

/-- A HALT arrives (R292, R293). -/
def haltAct (rx : Rx) (s : State) : State :=
  s.receive 0 0x41 8 rx fun s =>
    let cause := rx.nat 4 1
    if s.role ≠ 2 || !s.cst.joined then s
    else if cause = 4 then s.leaveTree 3
    else (s.haltDown cause).raiseExp Ev.CST_HALT cause

/-- The other lane of a port. -/
def otherLane (i : Nat) : Nat := if i % 2 = 0 then i + 1 else i - 1

/-- A lane loses symbol lock. -/
def State.unlock (s : State) (i : Nat) : State :=
  if s.cst.locks.testBit i then { s with cst := { s.cst with locks := s.cst.locks - 2 ^ i } } else s

/-- A child port goes down (R293): its subtree leaves the reduction and the member count. -/
def State.childDown (s : State) (p missed : Nat) : State :=
  let s1 := s.setKid (p - 1) { Child.reset with lost := true, missed := missed }
  ((s1.setReg Reg.CST_LOST_PORT (w32 p)).raise Ev.CST_LOSS p).reportsReady

/-- The parent port has lost both lanes (R293): a member leaves the tree, and synchronises afresh when the port is back. -/
def State.parentDown (s : State) : State :=
  let s1 := if s.cst.joined then s.leaveTree 3 else s
  { s1 with cst := { s1.cst with good := 0, asked := false } }

/-- Both lanes of a port have lost symbol lock (R293). -/
def State.portDown (s : State) (p : Nat) : State :=
  if !s.portUsed p then s else if p = 0 then s.parentDown else s.childDown p 0

/-- A lane of a port loses symbol lock and the port runs on the other, or is down if that was its last (R293). -/
def linkDegradedAct (i : Nat) (s : State) : State :=
  if !s.cst.locks.testBit i then s
  else if s.cst.locks.testBit (otherLane i) then
    (if s.portUsed (i / 2) then (s.unlock i).raise Ev.CST_LINK_DEGRADED (8 + i) else s.unlock i)
  else (s.unlock i).portDown (i / 2)

/-- A child port goes down: both lanes lost, or 4 REPORTs missed (R293). -/
def lossAct (port lanes : Bool) (s : State) : State :=
  let p := kidPort port
  let k := s.kid (p - 1)
  if lanes then (if s.portLocked p then ((s.unlock (2 * p)).unlock (2 * p + 1)).portDown p else s)
  else if s.portUsed p && k.joined && decide (4 ≤ k.missed) then s.childDown p k.missed
  else s

/-- The parent port goes down: both lanes lost, or 4 PLANs missed (R293). -/
def orphanAct (lanes : Bool) (s : State) : State :=
  if lanes then (if s.portLocked 0 then ((s.unlock 0).unlock 1).portDown 0 else s)
  else if s.role = 2 && s.cst.joined && decide (4 ≤ s.cst.planMiss) then s.leaveTree 3
  else s

/-- A lane gains symbol lock (R293); the parent port coming up allows a JOIN again (R287). -/
def symbolLockAct (i : Nat) (s : State) : State :=
  if 6 ≤ i || s.cst.locks.testBit i then s
  else
    let up := !s.portLocked (i / 2)
    let s1 : State :=
      { s with
        cst := { s.cst with
          locks := s.cst.locks + 2 ^ i, rx := if up then sput (0, 0) s.cst.rx (i / 2) (0, 0) else s.cst.rx } }
    if i / 2 = 0 then
      (if up then { s1 with cst := { s1.cst with refused := false, good := 0 } } else s1)
    else s1.kidBack (i / 2 - 1)

/-- Lanes of ports that a role begins to use send skip ordered sets until a message (R284, R285), and A6 of a device that is
no longer the conductor sends nothing else (R249). -/
def State.fillPorts (s old : State) : State :=
  s.fill ((s.fillAux.filter fun i => !old.fillAux.contains i).map (96 + ·))

/-- A write of CST_CFG (R284): a change of ROLE leaves the tree at once. -/
def cstCfgAct (v : Word) (s : State) : State :=
  if fld v 0 2 = 3 || (fld v 4 3 ≠ 3 ∧ fld v 4 3 ≠ 4) || s.running || s.gen.st != 0 then
    s.raise Ev.CST_CFG_REFUSED (offDetail Reg.CST_CFG)
  else if fld v 0 2 = s.role then s.writeRw Reg.CST_CFG v
  else
    let s1 := if s.role = 0 || !s.cst.joined then s else s.leaveTree 3
    let s2 := (s1.writeRw Reg.CST_CFG v).fillPorts s1
    { s2 with
      cst := { s2.cst with
        joined := s2.role != 2, id := 0, depth := 0, refused := false, asked := false, good := 0, kids := [], planMiss := 0, gotPlan := false,
        t1 := none, setpts := [], expAll := false, hold := 0, short := 0, slew := 0 },
      gov := { s2.gov with next := none } }

end Sys2Proof.Machine
end

