-- ==== Sys2Proof/Machine/TrkOps.lean ====
section
/-!
DEFINITION. Sys2Proof/Machine/TrkOps.lean: metrology samples, the tracking loop, arming, firing and markers (chapter 09,
R225 to R246; perturbations of R407 to R410).
-/

namespace Sys2Proof.Machine

/-! ### Boundaries and phases -/

/-- B(n) of the EXPOSING stripe (R234). -/
def State.boundary (s : State) (e : Expo) (n : Nat) : Int := e.origin + (n : Int) * (s.ctx e.ctx).samp.pitch

/-- P >> 16. -/
def State.posMu (s : State) : Int := s.loop.p / 65536

/-- The transit phase (R236): 0 outside an ARMED stripe and before transit 0. -/
def State.phase (s : State) : Nat :=
  match s.expo with
  | some e =>
    (match e.armed, e.fired with
     | true, some n =>
       let pitch : Int := (s.ctx e.ctx).samp.pitch
       (min 255 (max 0 (256 * (s.posMu - s.boundary e n) / pitch))).toNat
     | _, _ => 0)
  | none => 0

/-- The last transit fired in the EXPOSING stripe: TRK_TRANSIT. -/
def State.lastFired (s : State) : Nat := ((s.expo.bind Expo.fired).getD 0)

/-- Bits [15:0] of the transit, a detail of the events of R248. -/
def State.firedBits (s : State) : Nat := s.lastFired % 65536

/-! ### Lock (R230, R231, R233) -/

/-- The lane that feeds the loop: true A5. -/
def Loop.feeds (l : Loop) (second : Bool) : Bool := l.sec == second

def Loop.lane (l : Loop) (second : Bool) : MetLane := if second then l.a5 else l.a4

def Loop.setLane (l : Loop) (second : Bool) (m : MetLane) : Loop := if second then { l with a5 := m } else { l with a4 := m }

def State.setLoop (s : State) (l : Loop) : State := { s with loop := l }

/-- A lane has an accepted sample within TMO × 100 ns (R231). -/
def State.laneUp (s : State) (second : Bool) : Bool :=
  match (s.loop.lane second).last with
  | some t => decide (s.tau / 64 ≤ t + 100 * s.rf Reg.TRK_LOCK 24 8)
  | none => false

/-- The loop meets a condition of R231: the secondary takes over in STANDBY, or lock is lost. -/
def State.loseLock (s : State) (cause : Nat) : State :=
  let l := s.loop
  if l.st = 0 then s
  else if !l.sec && s.rf Reg.TRK_CFG 4 2 == 2 && s.laneUp true && l.secOk then
    (s.setLoop { l with sec := true, usePrim := false }).raiseExp Ev.TRK_MET_SWITCH 0
  else
    let s1 := (s.setLoop { l with st := 0, locked := false }).raiseExp Ev.TRK_LOCK_LOST cause
    if s.armed then s1.raiseExp Ev.TRK_TRACK_LOST s.firedBits else s1

/-- GAP consecutive numbers are missing on the feeding lane. -/
def State.gapCheck (s : State) (second : Bool) (run : Nat) : State :=
  if s.loop.feeds second && decide (s.rf Reg.TRK_LOCK 16 8 ≤ run) then s.loseLock 2 else s

/-- A value in its signed 64-bit format; one that does not fit there is free (R230; log entry 45). -/
def State.fit64 (s : State) (x : Int) : Int × State :=
  if -(2 ^ 63) ≤ x ∧ x < 2 ^ 63 then (x, s)
  else
    (sext 64 ((Config.freeWord s.draws).toNat + 2 ^ 32 * (Config.freeWord (s.draws + 1)).toNat), { s with draws := s.draws + 2 })

/-- P and V in their formats. -/
def State.fitLoop (s : State) : State :=
  let p := s.fit64 s.loop.p
  let v := p.2.fit64 s.loop.v
  v.2.setLoop { v.2.loop with p := p.1, v := v.1 }

/-- One update of the loop (R230): the loop after it, and whether its error loses lock. -/
def Loop.update (l : Loop) (gp gv win : Int) (ym a tv : Int) : Loop × Bool :=
  match l.st with
  | 0 => ({ l with p := ym * 65536, v := 0, y1 := ym, t1 := tv, st := 1 }, false)
  | 1 =>
    if tv ≤ l.t1 then ({ l with p := ym * 65536, y1 := ym, t1 := tv }, false)
    else
      let v := ((ym - l.y1) * 2 ^ 32).tdiv (tv - l.t1)
      ({ l with v := v, p := ym * 65536 + v * a / 65536, cnt := 0, st := 2 }, false)
  | _ =>
    let e := ym * 65536 + l.v * a / 65536 - l.p
    let m : Int := e.natAbs
    let l1 := { l with p := l.p + e * gp / 65536, v := l.v + e * gv / 256 }
    if win * 2 ^ 18 < m then (l1, true)
    else ({ l1 with cnt := if m ≤ win * 65536 then min 64 (l.cnt + 1) else 0 }, false)

/-- V × 1,000 > 4 × PITCH × 2³² (R239). -/
def State.tooFast (s : State) : Bool := decide (4 * (s.rf Reg.GEOM_PITCH 0 16 : Int) * 2 ^ 32 < s.loop.v * 1000)

/-- TRK_STAT.OVERSPEED follows V; its rise during EXPOSING is an event. -/
def State.speedCheck (s : State) : State :=
  let now := s.tooFast
  let s1 := s.setLoop { s.loop with overspeed := now }
  if now && !s.loop.overspeed && s.expo.isSome then s1.raiseExp Ev.TRK_OVERSPEED s.firedBits else s1

/-! ### Checks on the position (R235 step 3, R243 to R245, R261) -/

/-- The measured position lies outside the travel limits while LOCKED. -/
def State.outside (s : State) : Bool := s.loop.locked && !s.inTravel false s.posMu

/-- The position is found outside the travel limits now, and was not at the latest check (R261). -/
def State.leftTravel (s : State) : Bool := s.outside && !s.loop.out

/-- The position check of a motion cycle, after an accepted sample of that cycle and before firing (R235 step 3, R261). -/
def State.travelCheck (s : State) : State :=
  let s1 := s.setLoop { s.loop with out := s.outside }
  if s.leftTravel then (s1.raiseExp Ev.MOT_TRAVEL 0).stopNow 3 else s1

/-- Raise Ymax, measure the retreat (R243). -/
def State.retreatCheck (s : State) (y : Int) : State :=
  match s.expo with
  | none => s
  | some e =>
    let top := max e.ymax y
    let r := (top - y).toNat
    let s1 := (s.updExpo fun e => { e with ymax := top }).peak Reg.TRK_PEAKS 0 16 (min 65535 r)
    if e.retWin < r then s1.raiseExp Ev.TRK_RETREAT_FAULT (min 65535 r) else s1

/-- A setpoint lies within 2 µs of an instant in τ, on either side (R291). -/
def State.copyNear (s : State) (t : Int) : Bool := s.cst.setpts.any fun p => decide (((p.1 : Int) - t).natAbs ≤ 128000)

/-- The setpoint interpolated to an instant in τ, as a fraction (numerator, denominator) in 2⁻¹⁶ MU (R244). Where no setpoint
lies on one side of the instant, the interpolation is not defined and the value is free (log entry 46). -/
def State.setpointAt (s : State) (t : Int) : (Int × Int) × State :=
  let before := s.cst.setpts.find? fun p => decide ((p.1 : Int) ≤ t)
  let after := s.cst.setpts.reverse.find? fun p => decide (t ≤ (p.1 : Int))
  match before, after with
  | some b, some a =>
    if a.1 ≤ b.1 then ((b.2.1, 1), s)
    else
      let d : Int := (a.1 : Int) - b.1
      ((b.2.1 * d + (a.2.1 - b.2.1) * (t - b.1), d), s)
  | _, _ =>
    ((sext 64 ((Config.freeWord s.draws).toNat + 2 ^ 32 * (Config.freeWord (s.draws + 1)).toNat), 1),
      { s with draws := s.draws + 2 })

/-- The following error at a sample (R244); a member without a copy near it skips the check (R291). -/
def State.followCheck (s : State) (y tv : Int) : State :=
  match s.expo with
  | none => s
  | some e =>
    if !s.conductor && !s.copyNear (tv * 64) then s.bump Reg.CST_STALE
    else
      let r := s.setpointAt (tv * 64)
      let err : Int := (y * 65536 * r.1.2 - r.1.1).natAbs
      let mu := (err / (65536 * r.1.2)).toNat
      let s1 := r.2.peak Reg.TRK_PEAKS 16 16 (min 65535 mu)
      if e.feY ≠ 0 ∧ (e.feY : Int) * 65536 * r.1.2 < err then s1.raiseExp Ev.TRK_FOLLOW_ERR (min 65535 mu) else s1

/-- XERR and the across-scan check (R245). -/
def State.acrossCheck (s : State) (x : Option Int) : State :=
  match s.expo, x with
  | some e, some xm =>
    let pitch : Int := (s.ctx e.ctx).samp.pitch
    let err := e.xref - xm
    let xe := min 32767 (max (-32767) ((2048 * err + pitch) / (2 * pitch)))
    let s1 := s.setLoop { s.loop with xerr := xe }
    if e.feX ≠ 0 ∧ e.feX < err.natAbs then s1.raiseExp Ev.TRK_X_DEV (min 65535 err.natAbs) else s1
  | _, _ => s

/-- The checks at an accepted sample of the loop lane. -/
def State.sampleChecks (s : State) (y tv : Int) (x : Option Int) : State :=
  if !s.armed then s else ((s.retreatCheck y).followCheck y tv).acrossCheck x

/-! ### Samples (R227 to R233, R407, R408) -/

/-- The SECOFS and agreement window in force: those of the stripe while EXPOSING (R241). -/
def State.secOfs (s : State) : Int :=
  match s.expo with
  | some e => e.secOfs
  | none => sext 48 ((s.reg Reg.TRK_SECOFS_LO).toNat + 2 ^ 32 * s.rf Reg.TRK_SECOFS_HI 0 16)

def State.xchkWin (s : State) : Nat :=
  match s.expo with
  | some e => e.xchk
  | none => s.rf Reg.TRK_XCHK 0 16

/-- The loop takes a sample (R230). -/
def State.feedLoop (s : State) (y a tv : Int) (x : Option Int) : State :=
  let win : Int := s.rf Reg.TRK_LOCK 0 16
  let u := s.loop.update (s.rf Reg.TRK_GAIN 16 16) (s.rf Reg.TRK_GAIN 0 16) win y a tv
  let s1 := (s.setLoop u.1).fitLoop
  let s2 := if u.2 then s1.loseLock 1
    else if u.1.cnt = 64 && !u.1.locked && u.1.st == 2 then
      (s1.setLoop { s1.loop with locked := true }).raiseExp Ev.TRK_LOCKED 0
    else s1
  s2.speedCheck.sampleChecks y tv x

/-- The secondary sample is compared with the loop (R232). -/
def State.compareSecond (s : State) (y a : Int) : State :=
  let d := (y + s.secOfs) * 65536 + s.loop.v * a / 65536 - s.loop.p
  let ok := decide ((d.natAbs : Int) ≤ (s.xchkWin : Int) * 65536)
  let s1 := s.setLoop { s.loop with secOk := ok }
  if !ok && s.loop.locked then s1.raiseExp Ev.TRK_MET_DISAGREE (min 65535 (d.natAbs / 65536)) else s1

/-- The PRBS23 generator, x²³ + x¹⁸ + 1, after `n` steps (R408; log entry 7). -/
def prbsStep (x : BitVec 23) : BitVec 23 := (x <<< 1) ||| (if x.getLsbD 22 != x.getLsbD 17 then 1#23 else 0#23)

def prbsAt : Nat → BitVec 23
  | 0 => BitVec.ofNat 23 Config.prbsSeed
  | n + 1 => prbsStep (prbsAt n)

/-- TEST_MET_CTL.LANE selects a lane (R407). -/
def State.metSelected (s : State) (second : Bool) : Bool :=
  s.testEn && (s.rf Reg.TEST_MET_CTL 24 2 == 2 || s.rf Reg.TEST_MET_CTL 24 2 == b2n second)

/-- What the perturbation of R408 adds to an accepted sample of a selected lane. -/
def State.metOffset (s : State) : Int :=
  let jit := s.rf Reg.TEST_MET_CTL 0 16
  sext 32 (s.reg Reg.TEST_MET_STEP).toNat + (((prbsAt s.test.prbs).toNat % (2 * jit + 1) : Nat) : Int) - jit

/-- The perturbed values of an accepted sample. One without an x takes no perturbation of X, and counts none (R417). -/
def State.perturb (s : State) (second : Bool) (y : Int) (x : Option Int) : Int × Option Int × State :=
  let onX : Bool := s.rf Reg.TEST_MET_CTL 26 1 == 1
  if !s.metSelected second then (y, x, s)
  else
    let o := s.metOffset
    let on := s.rf Reg.TEST_MET_CTL 0 16 ≠ 0 || s.reg Reg.TEST_MET_STEP != 0
    let s1 : State := { s with test := { s.test with prbs := s.test.prbs + 1 } }
    let s2 := if on && (!onX || x.isSome) then s1.bump Reg.TEST_INJ else s1
    if onX then (y, x.map fun v => v + o, s2) else (y + o, x, s2)

/-- An accepted sample acts (R230 to R233): y and x corrected, tv and age in ns. -/
def State.acceptSample (s : State) (second : Bool) (y : Int) (x : Option Int) (tv : Int) : State :=
  let p := s.perturb second y x
  let y := p.1
  let x := p.2.1
  let s0 := p.2.2
  let a : Int := (s0.tau / 64 : Nat) - tv
  let l := s0.loop
  if second then
    if l.sec then s0.feedLoop (y + s0.secOfs) a tv x else s0.compareSecond y a
  else if l.sec && !l.usePrim then s0
  else (s0.setLoop { l with sec := false, usePrim := false }).feedLoop y a tv x

/-- The corrected value of an axis: none where a negated raw value is −2⁴⁷ (R229). -/
def corrected (neg : Bool) (raw : BitVec 48) : Option Int :=
  if neg then (if raw.toInt = -(2 ^ 47) then none else some (-raw.toInt)) else some raw.toInt

/-- The fields of a sample body (R226). -/
def sampleY (body : List Byte) : BitVec 48 := BitVec.ofNat 48 (bodyNat body 0 6)
def sampleX (body : List Byte) : BitVec 48 := BitVec.ofNat 48 (bodyNat body 6 6)
def sampleFlags (body : List Byte) : BitVec 16 := BitVec.ofNat 16 (bodyNat body 12 2)
def sampleSeq (body : List Byte) : Nat := bodyNat body 14 2

/-- A message of a metrology lane whose COM arrived at `com` on the device time base (R225 to R229, R407, R412). -/
def metSampleAct (second : Bool) (com : Nat) (body : List Byte) (crc : Word) (s : State) : State :=
  let lane := if second then 5 else 4
  let flags := sampleFlags body
  let seq := sampleSeq body
  if !wbit (s.reg Reg.TRK_CFG) 0 || (second && s.rf Reg.TRK_CFG 4 2 == 0) then s
  else if s.auxCorrupts lane then s.useCorruption.bump Reg.TRK_LINK_ERR
  else if body.length ≠ 16 || !crcGood body crc then s.bump Reg.TRK_LINK_ERR
  else
    let m := s.loop.lane second
    let put (a : State) (m : MetLane) : State := a.setLoop (a.loop.setLane second m)
    let close := m.ref.any fun r => decide (com < r + 3072)
    if close then
      ((put s { m with disc := m.disc + 1 }).bump Reg.TRK_LINK_ERR).gapCheck second (m.miss + m.disc + 1)
    else
      let m1 := { m with ref := some com }
      let d := match m.seq with
        | some q => (seq + 65536 - q) % 65536
        | none => 1
      if d = 0 ∨ 32767 < d then (put s m1).bump Reg.TRK_LINK_ERR
      else
        let ym := if flags.getLsbD 0 then corrected (wbit (s.reg Reg.TRK_CFG) 1) (sampleY body) else none
        let xm := if flags.getLsbD 1 then corrected (wbit (s.reg Reg.TRK_CFG) 2) (sampleX body) else none
        let drop := ym.isSome && s.metSelected second && s.rf Reg.TEST_MET_CTL 16 8 ≠ 0
        if drop then
          (((put s { m1 with disc := m.disc + 1 }).setRf Reg.TEST_MET_CTL 16 8 (s.rf Reg.TEST_MET_CTL 16 8 - 1)).bump
            Reg.TEST_INJ).gapCheck second (m.miss + m.disc + 1)
        else
          let run := m.miss + (d - 1)
          let s1 := (s.addCnt Reg.TRK_MISSING (d - 1)).addCnt Reg.TRK_WARN (b2n (flags.getLsbD 2))
          match ym with
          | none =>
            ((put s1 { m1 with seq := some seq, miss := run + 1, disc := 0 }).addCnt Reg.TRK_MISSING 1).gapCheck second
              (run + 1)
          | some yv =>
            let s2 := (put s1 { m1 with seq := some seq, miss := 0, disc := 0, last := some (s.tau / 64) }).bump
              Reg.TRK_SAMPLES
            let lat := if second then s.rf Reg.TRK_LAT 16 12 else s.rf Reg.TRK_LAT 0 12
            ((s2.gapCheck second run).acceptSample second yv xm ((com / 64 : Nat) - (lat : Int))).travelCheck

/-- No sample of a lane has been accepted for TMO × 100 ns (R231). -/
def sampleTimeoutAct (second : Bool) (s : State) : State :=
  if s.loop.feeds second && !s.laneUp second then s.loseLock 3 else s

/-! ### Settings and snapshots (R233, R246) -/

/-- A lane as a write of EN leaves it: its next sample is ahead, and no run of missing numbers goes on (R229). -/
def MetLane.afresh (m : MetLane) : MetLane := { m with seq := none, miss := 0, disc := 0 }

/-- The loop as TRK_CFG.EN = 0 leaves it: idle, and back on the primary (log entry 47). -/
def Loop.idle (l : Loop) : Loop :=
  { l with st := 0, locked := false, sec := false, usePrim := false, a4 := l.a4.afresh, a5 := l.a5.afresh }

/-- A write of TRK_CFG (0), TRK_LAT (1), TRK_GAIN (2) or TRK_LOCK (3) (R246). -/
def trkConfigAct (which : Nat) (v : Word) (s : State) : State :=
  let off := Reg.TRK_CFG + 4 * which
  let bad := match which with
    | 0 => fld v 4 2 == 3 || decide (4 < fld v 8 3) || decide (4 < fld v 12 3)
    | 3 => fld v 16 8 == 0 || fld v 24 8 == 0 || fld v 0 16 == 0
    | _ => false
  if s.expo.isSome || bad then s.raiseExp Ev.TRK_CFG_REFUSED (offDetail off)
  else
    let s1 := s.writeRw off v
    if which = 0 && !(wbit v 0 && wbit (s.reg off) 0) then s1.setLoop s1.loop.idle else s1

/-- TRK_CMD.USE_PRIMARY (R233, R246). -/
def usePrimaryAct (s : State) : State :=
  if s.expo.isSome then s.raiseExp Ev.TRK_CFG_REFUSED (offDetail Reg.TRK_CMD)
  else if s.loop.sec then s.setLoop { s.loop with usePrim := true } else s

/-- TRK_CMD.SNAP (R246). -/
def trkSnapAct (s : State) : State :=
  s.resultStart Reg.TRK_SNAP_STAT
    ⟨[(Reg.TRK_SNAP_POS_LO, w32i s.posMu), (Reg.TRK_SNAP_POS_HI, w32 (toBits 48 s.posMu / 2 ^ 32)),
      (Reg.TRK_SNAP_VEL, w32i (s.loop.v / 65536)), (Reg.TRK_SNAP_PH, pack [(16, toBits 16 s.loop.xerr), (0, s.phase)])], [], none⟩

/-- TRK_CMD. -/
def trkCmdAct (v : Word) (s : State) : State :=
  let s1 := if wbit v 1 then usePrimaryAct s else s
  if wbit v 0 then trkSnapAct s1 else s1

/-! ### Arming (R241, R242) -/

/-- (V × 1,024) >> 32. -/
def State.ahead (s : State) : Int := s.loop.v * 1024 / 2 ^ 32

/-- B(0) lies far enough ahead. -/
def State.roomAhead (s : State) (e : Expo) : Bool :=
  if 0 < s.loop.v then decide (s.ahead ≤ s.boundary e 0 - s.posMu) else decide (s.posMu < s.boundary e 0)

/-- An event of this command makes the EXPOSING stripe abort or starts dark hold (R44), the records that the command makes
being written with it (R303). -/
def State.darkDue (s : State) : Bool :=
  s.writeFresh.due.any fun o => decide (3 ≤ o.cls) || (o.cls == 2 && o.ctx.all fun c => s.exposing == some c)

/-- The level at which DARK_N holds a marker that leaves now: within 32 ns of an edge it is free (R446). -/
def State.darkPin (s : State) : Bool × State :=
  if s.pins.darkWait ≠ 0 then (Config.freeBit s.draws, { s with draws := s.draws + 1 }) else (!s.pins.darkN, s)

/-- One nominal ns of the control clock passes (R56; log entry 2), and one in which DARK_N has had no edge (R446). -/
def State.controlCycle (s : State) : State :=
  let s1 : State := { s with pins := { s.pins with darkWait := s.pins.darkWait - 1 } }
  if s.mainUp then { s1 with ctl := s.ctl + 1 } else s1

/-- The instant of the present cycle on the lane grid of F, in code groups. -/
def State.nowGroups (s : State) : Int := s.tau * 164 / 6400

/-- The stripe becomes ARMED: transit 0 is judged and allocated, and its frame leaves (R193, R241). A low DARK_N does not
make the frame dark (log entry 77). -/
def stripeArmedAct (hits : List TabHit) (frames : List FrameHit) (s : State) : State :=
  match s.expo with
  | none => s
  | some e =>
    if e.armed || !s.loop.locked || s.lanesAsleep || !s.roomAhead e then s
    else
      let s1 := ((s.updExpo fun e => { e with armed := true }).judgeLine 0).allocate 0 hits
      let h := s1.frameHits frames
      match h.2.expo with
      | some e1 => h.2.sendFrames e.ctx 0 (some s.nowGroups) (s.clk.hold || h.2.darkDue) h.1 e1.bits
      | none => h.2

/-- The stage has come too close to B(0) (R242). -/
def startLateAct (s : State) : State :=
  match s.expo with
  | none => s
  | some e =>
    if !e.armed && decide (0 < s.loop.v) && decide (s.boundary e 0 - s.ahead < s.posMu) then
      s.raiseCtx Ev.TRK_START_LATE 0 e.ctx
    else s

/-! ### Firing (R234 to R240) -/

/-- The firing condition of R234 on the boundary: OFS in 1/64 code group is OFS / 104.96 ns. -/
def State.nearEnough (s : State) (e : Expo) (n : Nat) : Bool :=
  decide (s.boundary e n - s.posMu ≤ s.loop.v * (512 * 10496 - 100 * e.ofs) / (10496 * 2 ^ 32))

/-- The predicted crossing after the present cycle, scaled: `num / den` per ns, truncated toward zero. -/
def State.crossing (s : State) (e : Expo) (n num den : Nat) : Int :=
  ((s.boundary e n * 2 ^ 32 - s.loop.p * 65536) * num).tdiv (s.loop.v * den)

/-- F(n) in 1/64 code group on the lane time base (R234). -/
def State.flashUnits (s : State) (e : Expo) (n : Nat) : Int :=
  ((s.tau * 164 / 100 : Nat) : Int) + s.crossing e n 10496 100 + e.ofs

/-- S(n) (R237). -/
def slotOf (f : Int) : Int := f / 64 - 2

/-- R237. -/
def State.serves (s : State) (span : Nat) (f : Int) : Bool :=
  (s.lastS.all fun l => decide (l + 400 ≤ slotOf f)) &&
    (s.lastF.all fun l => decide ((span : Int) * 164 ≤ (f - l) * 100))

/-- TEST_STAT.UNSAFE (R410). -/
def State.testUnsafe (s : State) : Bool :=
  s.testEn && (s.rf Reg.TEST_MET_CTL 0 16 ≠ 0 || s.reg Reg.TEST_MET_STEP != 0)

/-- The record of an unserved transit (R238). -/
def State.unservedRecord (s : State) (e : Expo) (n : Nat) : State :=
  let s1 := (s.makeRecord e.ctx 11 n n allLanes none).bump Reg.TRK_UNSERVED
  let b := (max 0 (s1.meridian e.ctx)).toNat / 256
  if e.unservedBands.contains b then s1
  else (s1.updExpo fun e => { e with unservedBands := b :: e.unservedBands }).raiseExp Ev.TRK_UNSERVED b

/-- The dark-lost count of R240 after transit `n`. -/
def State.darkCount (s : State) (e : Expo) (n : Nat) (unserved : Bool) : State :=
  let x := s.ctx e.ctx
  if !x.addresses n then s
  else
    let late := x.hasLine (x.line n 0) && e.late.contains (x.line n 0).toNat
    let k := if unserved || late then e.darkRun + 1 else 0
    let s1 := s.updExpo fun e => { e with darkRun := k }
    if k = 65 then s1.raiseExp Ev.TRK_DARK_RUN (n % 65536) else s1

/-- A transit has fired in this motion cycle. -/
def State.firedNow (s : State) : Bool := s.expo.any Expo.firedNow

/-- Transit n fires (R234): F(n) and its slot are fixed, the line of n + 1 is judged and allocated, deadlines, retirement
and the cam act. A position found outside the travel limits in this cycle cancels the firing (R235). `hits` are bytes of
region 4 with errors that the allocation for n + 1 meets (R175). -/
def transitFireAct (hits : List TabHit) (s0 : State) : State :=
  let s := s0.travelCheck
  match s.expo with
  | none => s
  | some e =>
    let x := s.ctx e.ctx
    let n := e.next
    if s0.leftTravel || e.firedNow || !e.armed || !s.loop.locked || !decide (0 < s.loop.v) || x.lastTransit < n ||
      !s.nearEnough e n then s
    else
      let f := s.flashUnits e n
      let ok := s.serves x.span f
      let start := if ok then slotOf f else (s.lastS.elim (slotOf f) fun l => max (slotOf f) (l + 400))
      let m : Marker := { n := n, ctx := e.ctx, f := f, start := start, served := ok, abort := false, bits := e.bits }
      let s1 := (s.updExpo fun e => { e with fired := some n, firedNow := true, bits := [] }).camFire
      let s2 : State :=
        { s1 with
          markers := s1.markers ++ [m], lastS := some start, lastF := if ok then some f else s1.lastF,
          crossings := s1.crossings ++ [(((s.tau : Int) + s.crossing e n 64 1).toNat, s.boundary e n)] }
      let s3 := lateTilesAct s2
      let s4 := if n < x.lastTransit then s3.judgeLine (n + 1) else s3
      let lost := !ok && x.addresses n
      let s5 := if lost then s4.unservedRecord e n else s4
      let s6 := (s5.darkCount e n lost).retireAt n
      let s7 := if n < x.lastTransit then s6.allocate (n + 1) hits else s6
      s7.deflectionFire n x.samp.pitch e.ofs (f * 100 / 164).toNat
        (!ok || s.clk.hold || s.testUnsafe || !s.pins.darkN || s7.darkDue)

/-! ### Markers (R193, R197 to R200, R410, R446, R447) -/

/-- The marker byte (R197, R198). -/
def markerByte (n : Nat) (f : Int) (served dark : Bool) : Nat :=
  (if served then (f % 64).toNat else 0) + 64 * b2n dark + 128 * (n % 2)

/-- The frame of the transit after a marker leaves (R193, R200): of a transit that has fired, or of the one prepared. The
lanes of `bad` lose it (R359). It is dark where its transit is known to be: aborted, unserved or in dark hold (R195, R200).
DEDUCED (log entry 77): a low DARK_N is not such a case, since it may rise before the marker of that transit, which then
fires what its frame carries (R1, R446, R447). -/
def State.nextFrame (s : State) (m : Marker) (bad : List Nat) : State :=
  let x := s.ctx m.ctx
  let start := some (m.start + 2)
  if x.lastTransit ≤ m.n then s.endStream
  else
    match s.markers.find? fun k => k.ctx == m.ctx && k.n == m.n + 1 with
    | some k => s.sendFrames m.ctx (m.n + 1) start (k.abort || s.clk.hold || !k.served) bad k.bits
    | none =>
      match s.expo with
      | some e => if e.ctx = m.ctx then s.sendFrames m.ctx (m.n + 1) start s.clk.hold bad e.bits else s.endStream
      | none => s.endStream

/-- The run of records that a marker extends or ends (R303, R410, R447). -/
def State.markRun (s : State) (m : Marker) (pin : Bool) : State :=
  if m.abort || s.exposing != some m.ctx then s
  else s.noteHold (if !m.served || s.clk.hold then 0 else if pin then 12 else if s.testUnsafe then 14 else 0) m.n

/-- The lanes whose frame, the one last sent, carries a 1 of `bits` (R195, R210, R359). -/
def State.frameOnes (s : State) (bits : List (Nat × Bool)) : Nat :=
  if s.bln.blank then 0 else lanesOf (withoutLanes (laneList s.bln.unread) bits)

/-- The oldest marker leaves on every ACTIVE lane, then the next frame (R193, R197), of which the lanes of `frames` have
unreadable bytes; while the lanes are idle it is not sent (R381, R387). Under a marker with DARK = 0 every bit that was
allocated 1 fires (R170). -/
def markerSendAct (frames : List FrameHit) (s : State) : State :=
  match s.markers with
  | [] => s
  | m :: rest =>
    if s.lanesIdle then ({ s with markers := rest, bln := { s.bln with unread := 0 } } : State).lanePower else
    let pin := s.darkPin
    let s1 : State := { pin.2 with markers := rest }
    let dark := m.abort || s1.clk.hold || pin.1 || !m.served || s1.testUnsafe
    let s2 := s1.markRun m pin.1
    let s3 := if dark then s2 else m.bits.foldl (fun (a : State) b => a.firesBit m.n b) s2
    let w : Await := ⟨m.n, m.ctx, if dark then 0 else s.frameOnes m.bits, if dark then 0 else s.bln.unread, s.maker m.ctx, []⟩
    let s4 := if dark then s3 else s3.bump Reg.BLN_FRAMES
    let s5 := s4.sendMarker m.start (markerByte m.n m.f m.served dark)
    let h := s5.frameHits frames
    (({ h.2 with awaits := h.2.awaits ++ [w] } : State).nextFrame m h.1).decideReady

/-! ### Deflection while no transit fires (R267) -/

/-- An IDLE deflection message: DT = 0, the last transit fired, and 32 equal samples of the entry of the transit phase. TIME
and DARK are those of that transit (log entry 48); before any transit has fired TRANSIT, TIME and DARK are free (log entry
7). -/
def deflectionIdleAct (s : State) : State :=
  let d := s.draws
  let shot := s.gen.shot.getD ((Config.freeWord d).toNat, (Config.freeWord (d + 1)).toNat, Config.freeBit (d + 2))
  let s1 : State := if s.gen.shot.isSome then s else { s with draws := d + 3 }
  s1.sendDeflection
    (deflectionBody shot.1 (1 + 2 * b2n shot.2.2 + 8 * b2n s.camBank) s.loop.xerr shot.2.1 0
      (List.replicate 32 (s.camSample (256 * s.phase) s.loop.xerr)))

/-! ### One motion-island cycle with nothing commanded (log entry 2) -/

/-- The crossings whose instant has come enter TRK_PRED_PEAK (chapter 09, Latency chain). -/
def State.crossPeaks (s : State) : State :=
  let ready := s.crossings.filter fun c => decide (c.1 ≤ s.tau)
  let s1 := ready.foldl (fun (a : State) c => a.peak Reg.TRK_PRED_PEAK 0 16 (min 65535 (s.posMu - c.2).natAbs)) s
  { s1 with crossings := s1.crossings.filter fun c => !decide (c.1 ≤ s.tau) }

/-- The motion cycle that ends has its position check, then the next begins: τ and P advance (R230, R235, R272). -/
def motionCycle (s : State) : State :=
  if !s.mainUp || s.islandStopped 1 then s
  else
    let s1 := (s.travelCheck.updExpo fun e => { e with firedNow := false }).stepTau
    (s1.setLoop { s1.loop with p := s1.loop.p + s1.loop.v / 65536 }).fitLoop.crossPeaks

end Sys2Proof.Machine
end

