-- ==== Sys2Proof/Machine/JobOps.lean ====
section
/-!
DEFINITION. Sys2Proof/Machine/JobOps.lean: loading a job, the life cycle of a context, the entries to PRIMING and EXPOSING,
and the ends of a stripe (chapter 03, R66 to R77; R174, R178, R300, R303, R305, R311).
-/

namespace Sys2Proof.Machine

/-! ### Commands of JOB_CMD (R71, R72) -/

/-- A dropped command names the context of its CTX field, RESUME and the reserved codes too (R99). -/
def State.jobIgnored (s : State) (op ctx : Nat) : State := s.raiseCtx Ev.JOB_IGNORED op ctx

/-- Move a context to another state. -/
def State.setCtxSt (s : State) (c st : Nat) : State := s.setCtx c { s.ctx c with st := st }

/-- The target of the GENERATE in progress (R310). -/
def State.genTarget (s : State) : Option Nat :=
  match s.ledger.job with
  | some j => if j.op = 1 then some j.target else none
  | none => none

/-- A context still holds records as an adopting context (R317). -/
def State.adopter (s : State) (c : Nat) : Bool := (s.ctx c).side.adopting && s.holdsOpen c

/-- The target of the ADOPT in progress (R317). -/
def State.adoptTarget (s : State) : Option Nat :=
  match s.ledger.job with
  | some j => if j.op = 2 ∨ j.op = 3 then some j.target else none
  | none => none

/-- A context that R317 keeps from START and RELEASE. -/
def State.heldBack (s : State) (c : Nat) : Bool := s.adopter c || s.adoptTarget == some c

/-- LOAD (R69, R71). DESIGN CHOICE (log entry 137): while the context is LOADING its JOB_CTX_TAG and JOB_CTX_SIZE read 0. -/
def loadAct (c : Nat) (s : State) : State :=
  if (s.ctx c).st ≠ 0 || s.loadingAny then s.jobIgnored 1 c
  else
    let addr := (s.reg Reg.JOB_DESC_LO).toNat + 2 ^ 32 * (s.reg Reg.JOB_DESC_HI).toNat
    (s.resStart Reg.JOB_RESULT).setCtx c { Ctx.reset with st := 1, descAddr := addr }

/-- START (R71, R317). -/
def startAct (c : Nat) (s : State) : State :=
  if (s.ctx c).st ≠ 2 || s.heldBack c then s.jobIgnored 2 c
  else { s.setCtxSt c 3 with startQ := s.startQ ++ [c] }

/-- CANCEL (R71): a context that leaves PRIMING drops its density results. -/
def cancelAct (c : Nat) (s : State) : State :=
  let x := s.ctx c
  if x.st = 3 then { s.setCtxSt c 2 with startQ := s.startQ.filter fun k => k != c }
  else if x.st = 4 then ((s.endForm c).setCtx c { x with st := 2, prep := Prep.reset }).lanePower
  else s.jobIgnored 3 c

/-- RELEASE (R71, R77, R305, R317). DESIGN CHOICE (log entry 123): a capture armed for the context stays armed; R158 voids it
only on leaving PRIMING and EXPOSING. -/
def releaseAct (c : Nat) (s : State) : State :=
  let x := s.ctx c
  if x.st = 2 && !s.heldBack c then ((if x.side.topup then s.reopenRecords c else s.adoptEarly c).agedRecs c).setCtx c Ctx.reset
  else if (x.st = 6 ∨ x.st = 7) && !s.holdsOpen c then ((s.adoptEarly c).agedRecs c).setCtx c Ctx.reset
  else s.jobIgnored 5 c

/-- RESUME (R71, R76). -/
def resumeAct (c : Nat) (s : State) : State := if s.heldQ then { s with heldQ := false } else s.jobIgnored 6 c

/-! ### The end of LOAD (R68, R69) -/

/-- The words of a descriptor whose reserved bits or values fail check 5, by offset in ascending order. -/
def descFieldFaults (d : List Byte) : List Nat :=
  let w := tabWord d
  let checks : List (Nat × Bool) :=
    [(0x00, decide (2 ^ 16 ≤ w 0x00)), (0x04, decide (2 ≤ w 0x04)), (0x08, decide (2 ^ 15 ≤ w 0x08)),
     (0x0C, decide (2 ^ 24 ≤ w 0x0C)), (0x10, decide (4 < w 0x10)), (0x14, decide (w 0x14 = 0 ∨ 16000 < w 0x14)),
     (0x1C, decide (w 0x1C ≠ 0)), (0x24, decide (8 ≤ w 0x24)), (0x2C, decide (8 ≤ w 0x2C)),
     (0x34, decide (8 ≤ w 0x34)), (0x3C, decide (8 ≤ w 0x3C)), (0x44, decide (8 ≤ w 0x44)),
     (0x4C, decide (w 0x04 % 2 = 1 ∧ 8 ≤ w 0x4C))] ++
    (List.range 12).map fun i => (0x50 + 4 * i, decide (w (0x50 + 4 * i) ≠ 0))
  (checks.filter Prod.snd).map Prod.fst

/-- The number in an address pair. -/
def descPair (d : List Byte) (o : Nat) : Nat := tabWord d o + 2 ^ 32 * tabWord d (o + 4)

/-- The address words that fail check 6, in ascending order: misaligned, or a region that reaches above 2³⁵. -/
def descAddrFaults (d : List Byte) : List Nat :=
  let bad (o size : Nat) : Bool := decide (descPair d o % 64 ≠ 0) || decide (2 ^ 35 < descPair d o + size)
  let bands := tabWord d 0x08
  let size := descPair d 0x28
  let checks : List (Nat × Bool) :=
    [(0x20, bad 0x20 size), (0x28, decide (size % 64 ≠ 0) || decide (size < 16 * bands)), (0x30, bad 0x30 128),
     (0x38, bad 0x38 3072), (0x40, bad 0x40 2176), (0x48, decide (tabWord d 0x04 % 2 = 1) && bad 0x48 (256 * bands))]
  (checks.filter Prod.snd).map Prod.fst

/-- The descriptor as the context keeps it. -/
def descOf (d : List Byte) : Desc :=
  let w := tabWord d
  { level := nfld (w 0) 8 8, sigEn := w 0x04 % 2 == 1, bands := w 0x08, y0 := w 0x0C, heal := w 0x10, onTime := w 0x14,
    jobTag := w 0x18, geomAddr := descPair d 0x20, geomSize := descPair d 0x28, sigAddr := descPair d 0x48 }

/-- Checks 2 to 6 of R69 on a readable descriptor: outcome code and offset at fault. -/
def descChecks (level : Nat) (d : List Byte) : Option (Nat × Nat) :=
  let w := tabWord d
  if w 0 % 256 ≠ 1 then some (1, 0)
  else if nfld (w 0) 8 8 ≠ level then some (2, 0)
  else if w 0x08 % 2 ^ 15 = 0 then some (3, 0x08)
  else
    match descFieldFaults d, descAddrFaults d with
    | o :: _, _ => some (4, o)
    | [], o :: _ => some (5, o)
    | [], [] => none

/-- LOAD ends in LOADING with a code and an offset; anything but LOADED frees the context. JOB_RESULT_DETAIL of LOADED is 0.
DESIGN CHOICE (log entry 29): R69 gives its offset only for a failed check. -/
def State.loadEnds (s : State) (c code detail : Nat) : State :=
  let s1 := if code = 0 then s else s.setCtx c Ctx.reset
  ((s1.setReg Reg.JOB_RESULT_DETAIL (w32 detail)).resDone Reg.JOB_RESULT [(24, c), (20, code)]).raiseCtx
    Ev.JOB_LOAD_DONE code c

/-- Checks 7 and 8 of R69, and the copy into the table store. -/
def State.loadTables (s : State) (c : Nat) (d : List Byte) : State :=
  let r1 := s.dramRead 4 (descPair d 0x30) 128
  let r2 := r1.2.dramRead 4 (descPair d 0x38) 3072
  let r3 := r2.2.dramRead 4 (descPair d 0x40) 2176
  match r1.1, r2.1, r3.1 with
  | none, _, _ => r3.2.loadEnds c 7 0x30
  | _, none, _ => r3.2.loadEnds c 7 0x38
  | _, _, none => r3.2.loadEnds c 7 0x40
  | some xf, some dose, some pass =>
    let x := descOf d
    if !xformOk x.bands xf then r3.2.loadEnds c 6 0x30
    else if !doseOk dose then r3.2.loadEnds c 6 0x38
    else if !passOk pass then r3.2.loadEnds c 6 0x40
    else
      ((r3.2.setCtx c
        { Ctx.reset with
          st := 2, d := x, xf := xf, dose := dose, pass := pass, side := { LdgSide.reset with genMax := 1, y0s := x.y0 } }).rewrites
        4).loadEnds c 0 0

/-- The checks of R69 end. A descriptor whose 128 bytes run past 2³⁵ cannot be read and ends as MEM_FAULT at offset 0x00.
DESIGN CHOICE (log entry 30): R69 names no outcome for it.
Tables go into SRAM, which no block writes before it is zeroed (R357). -/
def loadDoneAct (s : State) : State :=
  match s.ctxs.find? fun p => p.2.st == 1 && s.genTarget != some p.1 with
  | none => s
  | some (c, x) =>
    if !s.sram.zeroed then s
    else if 2 ^ 35 < x.descAddr + 128 then s.loadEnds c 7 0
    else
      let r := s.dramRead 4 x.descAddr 128
      match r.1 with
      | none => r.2.loadEnds c 7 0
      | some d =>
        match descChecks (fld (s.nvw 0) 0 8) d with
        | some o => r.2.loadEnds c o.1 o.2
        | none => r.2.loadTables c d

/-! ### The entry to PRIMING (R71, R73) -/

/-- CTRL_BEHAV.LEVEL. -/
def State.level (s : State) : Nat := fld (s.nvw 0) 0 8

/-- What a context samples on entry to PRIMING (R73, R121, R140, R159, R185, R222). -/
def State.sample (s : State) : Samp :=
  { level := s.level, pitch := (s.reg Reg.GEOM_PITCH).toNat, guard := s.rf Reg.RAST_CTL 16 10,
    splitEn := s.rf Reg.RAST_CTL 0 1 == 1, thresh := s.rf Reg.RAST_SPLIT 0 24, horizon := s.rf Reg.CORR_CTL 0 11,
    wPrim := s.rf Reg.CORR_COST_W 0 8, wEdge := s.rf Reg.CORR_COST_W 8 8, wByte := s.rf Reg.CORR_COST_W 16 8,
    regenEn := s.rf Reg.SIG_CTL 0 1 == 1, stagger := s.rf Reg.PASS_CTL 0 5, statTmo := s.rf Reg.BLN_CTL 16 8 }

/-- The head of the start queue enters PRIMING (R71, R73, R311, R318, R394). A top-up keeps the stagger of its source (R185),
and a test on a mapped lane ends (R218). A source starts without a placement and with its own Y0s: what an adoption that has
ended copied to it is no longer its own (R311, R317). -/
def primingEntryAct (s : State) : State :=
  match s.startQ with
  | [] => s
  | c :: rest =>
    let x := s.ctx c
    if s.priming.isSome || s.heldQ || s.rf Reg.CLK_PWR 0 2 ≠ 0 || x.d.level ≠ s.level then s
    else
      let p0 := s.sample
      let p := if x.side.topup then { p0 with stagger := (s.ctx x.side.link).side.stagger } else p0
      let own : LdgSide := { x.side with pitch := p.pitch, stagger := p.stagger }
      let side := if x.side.topup then own else { own with placed := false, y0s := x.d.y0 }
      let s1 := ({ s with startQ := rest } : State).setCtx c { x with st := 4, samp := p, prep := Prep.reset, side := side }
      let test := s.rf Reg.BLN_TEST_CTL 0 2 ≠ 0 && s.mapped (s.rf Reg.BLN_TEST_CTL 16 7)
      let s2 := if test then s1.endTest else s1.lanePower
      let s3 := if s2.ldgFree ≤ s2.rf Reg.LDG_CFG 0 16 then s2.raise Ev.LDG_LEDGER_LOW (s2.ldgFree % 65536) else s2
      if x.side.topup && p.pitch ≠ (s.ctx x.side.link).side.pitch then s3.raiseCtx Ev.LDG_TOPUP_MISMATCH 0 c else s3

/-- A queue head of another level returns to READY (R71). -/
def jobLevelAct (s : State) : State :=
  match s.startQ with
  | [] => s
  | c :: rest =>
    if (s.ctx c).d.level = s.level then s
    else (({ s with startQ := rest } : State).setCtxSt c 2).raiseCtx Ev.JOB_LEVEL (s.ctx c).d.level c

/-! ### The entry to EXPOSING (R74, R163, R174, R178, R241, R279, R300, R311) -/

/-- A 48-bit register pair. -/
def State.reg48 (s : State) (lo : Nat) : Int := sext 48 ((s.reg lo).toNat + 2 ^ 32 * (s.reg (lo + 4)).toNat)

/-- The active almanac of the entry: bytes of the staged copy that cannot be read count as DEAD (R174, R175). -/
def State.entryAlm (s : State) (bad : List Nat) : Store Nat :=
  let dead := bad.flatMap fun j => (List.range 4).map fun q => 4 * j + q
  let staged := dead.foldl (fun m b => sput 0 m b 2) s.alm.staged
  ({ s with alm := { s.alm with staged := staged } } : State).copyAlm

/-- Write the snapshot of context `h`, generation `g` (R300): the dead passes of every column. -/
def State.writeSnap (s : State) (h g : Nat) (u : Nat → BitVec 32) : State :=
  s.dramPut 6 (s.snapAddr h g) ((List.range 8192).flatMap fun x => leBytes 4 (u x).toNat)

/-- From a source's ORIGIN to that of a top-up of it (R311). -/
def Ctx.shift (x : Ctx) (y0s : Nat) : Int := ((y0s : Int) - x.d.y0 + 256 * x.side.bLo) * x.samp.pitch

/-- ORIGIN and XREF of the stripe, and the placement kept for its source (R241, R311). -/
def State.place (s : State) (c : Nat) : Int × Int × State :=
  let h := s.sourceOf c
  let hx := s.ctx h
  let x := s.ctx c
  let keep (origin xref : Int) : State :=
    s.setCtx h { hx with side := { hx.side with placed := true, origin := origin, xref := xref } }
  let o := s.reg48 Reg.TRK_ORIGIN_LO
  let r := s.reg48 Reg.TRK_XREF_LO
  if !x.side.topup then (o, r, keep o r)
  else if hx.side.placed then (hx.side.origin + x.shift hx.side.y0s, hx.side.xref, s)
  else (o, r, keep (o - x.shift hx.side.y0s) r)

/-- The exposure of a context as it begins (R241, R163). -/
def State.newExpo (s : State) (c : Nat) (origin xref : Int) : Expo :=
  let b := (s.ctx c).band0
  { ctx := c, armed := false, origin := origin, xref := xref, secOfs := s.reg48 Reg.TRK_SECOFS_LO,
    retWin := s.rf Reg.TRK_RETREAT 0 8, feY := s.rf Reg.TRK_FE 0 16, feX := s.rf Reg.TRK_FE 16 16,
    xchk := s.rf Reg.TRK_XCHK 0 16, ofs := sext 16 (s.rf Reg.TRK_OFS 0 16), ymax := s.posMu, fired := none, low := b,
    admitted := b, enqueued := b, late := [], healed := b, darkRun := 0, lateRun := none, holdRun := none,
    lateBands := [], unservedBands := [], suspects := [], susRaised := false, startHold := true, firedNow := false, bits := [], wAct := [],
    entryAlm := s.alm.active }

/-- The bytes of the staged almanac, of those that `among` picks, that are known to be uncorrectable. -/
def State.stagedKnown (s : State) (among : Nat → Bool) : List TabHit :=
  (s.alm.bad.filter fun p => among p.1).map fun p =>
    ⟨⟨BitVec.ofNat 7 (p.2 / 2 ^ 20), BitVec.ofNat 12 (p.2 / 256), BitVec.ofNat 8 p.2⟩, some (BitVec.ofNat 16 p.1)⟩

/-- A reader of the staged almanac meets, among the bytes that `among` picks, those known to be uncorrectable and those of
`hits` (R175). Each is a read of its SRAM byte, counted and logged (R356); the uncorrectable ones stay known. -/
def State.stagedBad (s : State) (among : Nat → Bool) (hits : List TabHit) : List TabHit × State :=
  let known := s.stagedKnown among
  let h := s.tabHits (known ++ hits.filter fun b => !known.any fun k => k.hit == b.hit)
  let others := skeep (fun j => !among j) h.2.alm.bad
  (h.1, { h.2 with alm := { h.2.alm with
    bad := h.1.foldl (fun m b => b.alm.elim m fun j => sins j.toNat (SramHit.place b.hit) m) others } })

/-- The PRIMING context enters EXPOSING; `hits` are bytes with errors that the copy of the staged almanac meets. -/
def exposingEntryAct (hits : List TabHit) (s00 : State) : State :=
  match s00.priming with
  | none => s00
  | some c =>
    if s00.expo.isSome || s00.killsWaiting || s00.clk.hold || !s00.writeOk || !s00.pins.darkN then s00
    else
      let h := s00.stagedBad (fun _ => true) hits
      let s := h.2
      let alm := s.entryAlm (h.1.filterMap fun b => b.alm.map BitVec.toNat)
      let um := umaxOf alm
      let s1 := ({ s with alm := { s.alm with active := alm } } : State).rewrites 4
      let s2 := (s1.setReg Reg.ALM_ACTIVE_TAG (w32 (s.rf Reg.ALM_STAGED_TAG 0 16))).setReg Reg.ALM_HEAL_STAT
        (pack [(31, 1), (16, um.1), (0, um.2)])
      let s3 := s2.writeSnap (s.sourceOf c) (s.ctx c).gen (deadPasses alm)
      let pl := s3.place c
      let s4 : State :=
        { pl.2.2.setCtxSt c 5 with
          expo := some (pl.2.2.newExpo c pl.1 pl.2.1), gov := { s.gov with pred := [], vels := [] } }
      let n := min 40 (s.ctx c).d.bands
      let s5 := (List.range n).foldl (fun (a : State) i => a.admitBand c ((s.ctx c).band0 + i)) s4
      let s6 := if s5.bln.cal then s5.calDone 3 else s5.lanePower
      let s7 := s6.checkStartHold
      let s8 := if (s.ctx c).d.heal < um.1 then s7.raiseCtx Ev.ALM_HEAL_SHORT um.1 c else s7
      s8.tabFaults c h.1

/-! ### The ends of a stripe (R75, R76) -/

/-- The exposure is over: no context is EXPOSING, and XERR is 0 (R244). -/
def State.leaveExposing (s : State) (c st : Nat) : State :=
  ({ s.setCtxSt c st with expo := none, loop := { s.loop with xerr := 0 } } : State).lanePower

/-- The stripe is complete: its last marker and frames have left, and every status is decided (R75, R176, R305). -/
def stripeDoneAct (s : State) : State :=
  match s.expo with
  | none => s
  | some e =>
    let c := e.ctx
    let last := (s.ctx c).lastTransit
    if e.fired ≠ some last || (s.markers.any fun m => m.ctx == c) || (s.awaits.any fun w => w.ctx == c) then s
    else
      let s1 := s.endLateRun.endHoldRun
      let s2 := (s1.endForm c).leaveExposing c 6
      let s3 := if (s.ctx c).side.topup then s2.topLater c else s2
      (s3.suspectLog c false e.suspects).raiseCtx Ev.JOB_STRIPE_DONE 0 c

/-- The first transit that an abort makes dark: that of the first marker not sent, an unserved one being dark without it
(R200, R238, R303; log entry 19). -/
def State.firstDark (s : State) (e : Expo) : Nat :=
  match s.markers.find? fun m => m.ctx == e.ctx && !m.abort && m.served with
  | some m => m.n
  | none => e.next

/-- Abort an EXPOSING stripe: going dark, its records, ABORTED (R76, R178, R303, R305). DESIGN CHOICE (log
entry 121): the context keeps what JOB_CTX_DENS and JOB_CTX_RAST count until RELEASE. -/
def State.abortExposing (s : State) (e : Expo) (src : Option EvId) : State :=
  let c := e.ctx
  let first := s.firstDark e
  let last := (s.ctx c).lastTransit
  let s1 : State := { s with markers := lupd (fun m => m.ctx == c) (fun m => { m with abort := true }) s.markers }
  let s2 := s1.endLateRun.healShortRest.endHoldRun
  let s3 := if first ≤ last then s2.makeRecord c 13 first last allLanes src else s2
  let s4 := (s3.endForm c).leaveExposing c 7
  let s5 := if (s.ctx c).side.topup then s4.topLater c else s4
  (({ s5.suspectLog c true e.suspects with heldQ := true } : State)).raiseCtx Ev.JOB_STRIPE_ABORTED 0 c

/-- Abort a PRIMING stripe (R76, R300, R303, R314). -/
def State.abortPriming (s : State) (c : Nat) (src : Option EvId) : State :=
  let x := s.ctx c
  let s1 := if x.side.topup then s.reopenRecords c
    else (s.writeSnap c x.gen fun _ => 0).makeRecord c 13 0 x.lastTransit allLanes src
  let s2 := (s1.endForm c).setCtxSt c 7
  (({ s2 with heldQ := true } : State)).lanePower.raiseCtx Ev.JOB_STRIPE_ABORTED 0 c

/-- Abort the stripe of a context that is running. `src` is the event, or none for a command (R301). -/
def State.abortCtx (s : State) (c : Nat) (src : Option EvId) : State :=
  match s.expo with
  | some e =>
    if e.ctx = c then s.abortExposing e src
    else if (s.ctx c).st = 4 then s.abortPriming c src else s
  | none => if (s.ctx c).st = 4 then s.abortPriming c src else s

/-- Abort every running stripe. -/
def State.abortAll (s : State) (src : Option EvId) : State :=
  let s1 := match s.expo with
    | some e => s.abortExposing e src
    | none => s
  match s1.priming with
  | some c => s1.abortPriming c src
  | none => s1

/-- ABORT (R71). -/
def abortAct (c : Nat) (s : State) : State :=
  match s.expo with
  | some e => if e.ctx = c then s.abortExposing e none else s.jobIgnored 4 c
  | none => s.jobIgnored 4 c

/-- A write of JOB_CMD by its OP (R71, R98). -/
def jobCmdAct (v : Word) (s : State) : State :=
  let c := fld v 8 7
  match fld v 0 3 with
  | 1 => loadAct c s
  | 2 => startAct c s
  | 3 => cancelAct c s
  | 4 => abortAct c s
  | 5 => releaseAct c s
  | 6 => resumeAct c s
  | op => s.jobIgnored op c

/-- JOB_FAULT_INFO.VALID, W1C (R98): the whole capture clears. -/
def jobFaultInfoAct (v : Word) (s : State) : State :=
  if wbit v 31 then
    ((s.setReg Reg.JOB_FAULT_INFO 0).setReg Reg.JOB_FAULT_BAND 0).setReg Reg.JOB_FAULT_GRAN 0
  else s

end Sys2Proof.Machine
end

