-- ==== Sys2Proof/Machine/LdgOps.lean ====
section
/-!
DEFINITION. Sys2Proof/Machine/LdgOps.lean: the commands of the ledger: building top-ups, adoption, held records, retiring
records and the ledger area (chapter 12, R299, R310 to R321, R367).
-/

namespace Sys2Proof.Machine

/-- A dropped command or TAIL write (R320, R321). -/
def State.ldgIgnored (s : State) (off : Nat) : State := s.raise Ev.LDG_IGNORED (offDetail off)

/-- LDG_RESULT completes (R321). -/
def State.ldgDone (s : State) (code gen inGen count : Nat) : State :=
  ((s.setReg Reg.LDG_RESULT_INFO (pack [(28, gen), (24, inGen), (0, min count (2 ^ 24 - 1))])).resDone Reg.LDG_RESULT
    [(20, code)]).raise Ev.LDG_GEN_DONE code

/-- The source may give records to a top-up or to another context: DONE, ABORTED or adopting (R310, R317). -/
def State.givesRecords (s : State) (c : Nat) : Bool := (s.ctx c).st == 6 || (s.ctx c).st == 7 || s.adopter c

/-- The OPEN records of a context. -/
def State.openOnly (s : State) (c : Nat) : List Rec := s.ledger.recs.filter fun r => r.ctx == c && r.st == 1

/-- The context of a top-up being built from `src` (R310, R311). The highest generation that it has used is its own (R306; log
entry 114). -/
def State.topupCtx (s : State) (src y0 g inGen bLo bHi : Nat) : Ctx :=
  let x := s.ctx src
  { Ctx.reset with
    st := 1, d := { x.d with bands := bHi + 1 - bLo, y0 := y0 }, xf := x.xf, dose := x.dose, pass := x.pass,
    side := { LdgSide.reset with
      genMax := g, topup := true, linkV := true, link := src, gen := g, inGen := inGen, bLo := bLo, bHi := bHi, y0s := y0 } }

/-- GENERATE on records that exist: they are taken, and the build begins (R310). -/
def State.takeRecords (s : State) (src target : Nat) (recs : List Rec) : State :=
  let x := s.ctx src
  let g := recs.foldl (fun m r => min m r.gen) 15
  let taken := recs.filter fun r => r.gen == g
  let real := taken.filter fun r => !(r.bandSpans x.d.bands).isEmpty
  let spans := real.flatMap fun r => r.bandSpans x.d.bands
  let bLo := spans.foldl (fun m p => min m p.1) 32767
  let bHi := spans.foldl (fun m p => max m p.2) 0
  let g' := x.side.genMax + 1
  let mark (r : Rec) : Rec :=
    if !taken.contains r then r
    else if real.contains r then { r with st := 3, taker := some target, takerGen := g' }
    else { r with st := 4, taker := some target }
  let s1 := s.changeRecs mark
  let s2 : State :=
    { s1 with ledger := { s1.ledger with job := some ⟨1, src, target, taken.map Rec.id, taken.length⟩ } }
  if real.isEmpty then s2.setCtx target { Ctx.reset with st := 1, side := { LdgSide.reset with inGen := g } }
  else
    (s2.setCtx src { x with side := { x.side with genMax := g' } }).setCtx target
      (s.topupCtx src (s.rf Reg.LDG_ARG 0 24) g' g bLo bHi)

/-- GENERATE (R306, R310). -/
def generateAct (src target : Nat) (s : State) : State :=
  if s.ledger.job.isSome then s.ldgIgnored Reg.LDG_CMD
  else
    let s1 := s.resStart Reg.LDG_RESULT
    if !s.givesRecords src || (s.ctx src).side.topup || (s.ctx target).st ≠ 0 || s.loadingAny then s1.ldgDone 2 0 0 0
    else if 15 < (s.ctx src).side.genMax + 1 then s1.ldgDone 3 0 0 0
    else if (s.openOnly src).isEmpty then s1.ldgDone 1 0 0 0
    else s1.takeRecords src target (s.openOnly src)

/-- A reconstruction read of one band list of source `h` (R310, R367): the first unusable line faults. -/
def State.reconBand (s : State) (h b : Nat) : State :=
  let d := (s.ctx h).d
  let r := s.readLinesTo 7 ((d.geomAddr + 16 * b) / 64) 1
  match r.1 with
  | some l => r.2.geomMemFault h b l
  | none =>
    let e := dirEntry (s.geom h) b
    let a := (d.geomAddr + 8 * e.off) / 64
    let n := (d.geomAddr + 8 * (e.off + e.len) + 63) / 64 - a
    let q := r.2.readLinesTo 7 a (if dirOk d.geomSize e && 0 < e.len then n else 0)
    match q.1 with
    | some l => q.2.geomMemFault h b l
    | none => q.2

/-- The reconstruction reads of a top-up of source bands `lo` to `hi`: every band that their codes depend on. -/
def State.reconRead (s : State) (h lo hi : Nat) : State :=
  let first := lo - 21
  let last := min (hi + 21) ((s.ctx h).d.bands - 1)
  (List.range (last + 1 - first)).foldl (fun (a : State) i => a.reconBand h (first + i)) s

/-- The build of a top-up completes (R310). -/
def generateDoneAct (s : State) : State :=
  match s.ledger.job with
  | some j =>
    if j.op ≠ 1 then s
    else
      let s0 : State := { s with ledger := { s.ledger with job := none } }
      let x := s.ctx j.target
      if !x.side.topup then ((s0.ledgerReads j.src j.ids).setCtx j.target Ctx.reset).ldgDone 1 0 x.side.inGen j.count
      else
        let s1 := s0.keepLedger j.src j.target x.side.inGen
        let s2 := s1.reconRead j.src x.side.bLo x.side.bHi
        (((s2.setCtxSt j.target 2).setReg Reg.LDG_RANGE (pack [(15, x.side.bHi), (0, x.side.bLo)]))).ldgDone 0 x.side.gen
          x.side.inGen j.count
  | none => s

/-- ADOPT (R317). -/
def adoptAct (src target : Nat) (s : State) : State :=
  if s.ledger.job.isSome then s.ldgIgnored Reg.LDG_CMD
  else
    let s1 := s.resStart Reg.LDG_RESULT
    let x := s.ctx src
    let y := s.ctx target
    if !s.givesRecords src || s.ledger.recs.any fun r => r.ctx == src && r.st == 3 then s1.ldgDone 2 0 0 0
    else if y.st ≠ 2 || y.side.topup || src = target || y.d.bands ≠ x.d.bands || y.d.heal ≠ x.d.heal ||
        y.d.onTime ≠ x.d.onTime || y.d.level ≠ x.d.level then s1.ldgDone 4 0 0 0
    else
      let ids := (s.ledger.recs.filter fun r => !r.old && r.ctx == src && s.inRing r).map Rec.id
      { s1 with ledger := { s1.ledger with job := some ⟨2, src, target, ids, ids.length⟩ } }

/-- The adoption completes (R317); its steps are done by then where the source has been released before. -/
def adoptDoneAct (s : State) : State :=
  match s.ledger.job with
  | some j =>
    if j.op ≠ 2 ∧ j.op ≠ 3 then s
    else
      let s0 : State := { s with ledger := { s.ledger with job := none } }
      ((if j.op = 2 then s0.adoptMove j else s0).endAdoptions).ldgDone 0 0 0 j.count
  | none => s

/-- TOPUP_HELD and DISCARD_HELD (R305, R316): the record named by LDG_ARG goes to state `st`. -/
def heldAct (discard : Bool) (s : State) : State :=
  if s.ledger.job.isSome then s.ldgIgnored Reg.LDG_CMD
  else
    let id := (s.reg Reg.LDG_ARG).toNat
    let s1 := s.resStart Reg.LDG_RESULT
    match s.ledger.recs.find? fun r => r.id == id && s.inRing r with
    | none => s1.ldgDone 5 0 0 0
    | some r =>
      if r.st ≠ 2 || (!discard && sourceData r.cause) then s1.ldgDone 5 0 0 0
      else (s1.changeRecs fun q => if q = r then { q with st := if discard then 5 else 1 } else q).ldgDone 0 0 0 0

/-- A write of LDG_CMD by its OP (R321). -/
def ldgCmdAct (v : Word) (s : State) : State :=
  match fld v 0 3 with
  | 1 => generateAct (fld v 8 7) (fld v 16 7) s
  | 2 => adoptAct (fld v 8 7) (fld v 16 7) s
  | 3 => heldAct false s
  | 4 => heldAct true s
  | _ => s.ldgIgnored Reg.LDG_CMD

/-- A write of LDG_TAIL (R320). -/
def ldgTailAct (v : Word) (s : State) : State :=
  let t := s.ldgTail
  let n := idDiff t v.toNat
  let between := s.ledger.recs.filter fun r => idDiff t r.id < n && s.inRing r
  if idDiff t s.ledger.head < n || between.any fun r => r.st != 4 && r.st != 5 then s.ldgIgnored Reg.LDG_TAIL
  else s.setReg Reg.LDG_TAIL v

/-- A write of LDG_BASE_LO (0), LDG_BASE_HI (1) or LDG_CFG (2) (R299). -/
def ldgAreaAct (which : Nat) (v : Word) (s : State) : State :=
  let off := Reg.LDG_BASE_LO + 4 * which
  let e := fld v 16 5
  let bad := which = 2 ∧ (e < 12 ∨ 20 < e ∨ fld v 0 16 < 1024 ∨ 2 ^ (e - 1) < fld v 0 16)
  if s.ldgTail ≠ s.ledger.head ∨ s.running = true ∨ bad then s.raise Ev.LDG_CFG_REFUSED (offDetail off)
  else s.writeRw off v

end Sys2Proof.Machine
end

