-- ==== Sys2Proof/Machine/CtrlOps.lean ====
section
/-!
DEFINITION. Sys2Proof/Machine/CtrlOps.lean: page headers, event controls, counter clears, leaky buckets, persistent words,
the two-party protocol and GEOM_PITCH (chapters 01, 02 and 17).
-/

namespace Sys2Proof.Machine

/-! ### Page headers (R33, R38, R43, R45, R46, R331) -/

/-- A 16-bit value that no rule states. -/
def State.openDetail (s : State) : Nat × State :=
  (fld (Config.freeWord s.draws) 0 16, { s with draws := s.draws + 1 })

/-- An occurrence whose DETAIL no rule states (log entry 7). -/
def State.raiseOpen (s : State) (ev : EvId) : State := s.openDetail.2.raise ev s.openDetail.1

/-- The bits of a page whose event occurred in the cycle of the access (R46, R331). -/
def State.tiedBits (s : State) (t : Tie) (p : Nat) : Word :=
  pack ((List.range 32).map fun b => (b, b2n (s.tied t ⟨p, b⟩).isSome))

/-- EVT_STAT, W1C: a bit whose event occurs in the same cycle stays set, and its occurrence signals again (R46, R331). -/
def evtStatAct (t : Tie) (p : Nat) (v : Word) (s : State) : State :=
  let again : Bool := (List.range 32).any fun b =>
    wbit v b && (s.tied t ⟨p, b⟩).any (fun o => o.was) && (s.hdr p).counts p b
  let s1 := s.changeHdr p fun h => { h with stat := h.stat &&& ~~~ (v &&& ~~~ s.tiedBits t p) }
  if again then s1.sendVector (64 + p % 64) else s1

/-- EVT_EN (R331). -/
def evtEnAct (p : Nat) (v : Word) (s : State) : State := s.changeHdr p fun h => { h with en := v }

/-- PAGE_CTL (R331). -/
def pageCtlAct (p : Nat) (v : Word) (s : State) : State :=
  s.changeHdr p fun h => { h with irqEn := wbit v 0, alertEn := wbit v 1 }

/-- PAGE_LOCK.LOCK, W1S (R38). -/
def pageLockAct (p : Nat) (v : Word) (s : State) : State :=
  s.setHdr p { s.hdr p with lock := (s.hdr p).lock || wbit v 0 }

/-- The events whose rule has every occurrence name the EXPOSING context, if any (R224, R248, R271, R297, R401). -/
def namesExposing (ev : EvId) : Bool :=
  match ev.page with
  | 1 => ev.bit == 0
  | 15 => [0, 4, 5, 7, 8].contains ev.bit
  | 16 => true
  | 17 => [1, 2].contains ev.bit
  | 19 => [4, 5, 6].contains ev.bit
  | _ => false

/-- The context of a forced occurrence. DESIGN CHOICE (log entry 22): the EXPOSING one for the events whose rule names it,
else none, so that a forced Stripe-fatal event of another kind aborts every running stripe (R44). -/
def State.forcedCtx (s : State) (ev : EvId) : Option Nat := if namesExposing ev then s.exposing else none

/-- EVT_FORCE (R43): an event whose real occurrence falls in the same cycle is not raised again. Several events of one
write are raised in ascending order of their bits. DESIGN CHOICE (log entry 23): R47 states no order. -/
def evtForceAct (party : Party) (t : Tie) (p : Nat) (v : Word) (s : State) : State :=
  if !s.testEn then s.logAcc party 3 (0x1000 * p + 0x18)
  else
    (List.range (evtTable p).length).foldl
      (fun (a : State) b =>
        if wbit v b && !s.tiedReal t ⟨p, b⟩ then
          a.openDetail.2.raiseAs true ⟨p, b⟩ a.openDetail.1 (s.forcedCtx ⟨p, b⟩)
        else a) s

/-- EVT_CLASS (R45). -/
def evtClassAct (party : Party) (p : Nat) (v : Word) (s : State) : State :=
  let b := fld v 16 5
  let c := fld v 0 3
  let s1 := s.changeHdr p fun h => { h with sel := b }
  if !wbit v 31 then s1
  else
    match evtInfo p b with
    | none => s1.logAcc party 3 (0x1000 * p + 0x1C)
    | some i =>
      if 3 < c ∨ c < i.2 then s1.logAcc party 3 (0x1000 * p + 0x1C)
      else s1.changeHdr p fun h => { h with cls := sput i.1 h.cls b c }

/-! ### Counter clears -/

/-- The counter-clear register of a page, and the registers that its bits clear. -/
def cntClrOf (p : Nat) : Option (Nat × List (Nat × Nat)) :=
  match p with
  | 0 => some (Reg.CTRL_CNT_CLR, [(0, Reg.CTRL_ACC_CNT), (0, Reg.CTRL_ACC_LAST), (1, Reg.CTRL_GATED_CNT)])
  | 1 => some (Reg.CLK_CNT_CLR, [(0, Reg.CLK_TRIPS)])
  | 2 => some (Reg.HOST_CNT_CLR,
      [(0, Reg.HOST_RESETS), (1, Reg.HOST_UR), (2, Reg.HOST_POISON_RX), (3, Reg.HOST_CPL_TMO)])
  | 3 => some (Reg.DMA_CNT_CLR, [(0, Reg.DMA_H2D), (1, Reg.DMA_D2H), (2, Reg.DMA_D2D)])
  | 5 => some (Reg.DRAM_CNT_CLR, [(0, Reg.DRAM_CE), (1, Reg.DRAM_UE), (2, Reg.DRAM_POISONED)])
  | 9 => some (Reg.JOB_CNT_CLR, [(0, Reg.JOB_DEC_TILES), (1, Reg.JOB_DEC_SUSPEND)])
  | 10 => some (Reg.RAST_CNT_CLR,
      [(0, Reg.RAST_TILES), (1, Reg.RAST_SPLITS), (2, Reg.RAST_LATE), (3, Reg.RAST_FLIPS), (4, Reg.RAST_SATS),
       (5, Reg.RAST_PEAK_CLK), (5, Reg.RAST_PEAK_TILE)])
  | 11 => some (Reg.CORR_CNT_CLR,
      [(0, Reg.CORR_TILES), (1, Reg.CORR_CLAMPS), (2, Reg.CORR_IDX_SATS), (3, Reg.CORR_WAITS)])
  | 12 => some (Reg.SIG_CNT_CLR,
      [(0, Reg.SIG_TILES), (1, Reg.SIG_MISMATCH), (2, Reg.SIG_REGEN_OK), (3, Reg.SIG_DARK)])
  | 13 => some (Reg.PASS_CNT_CLR,
      [(0, Reg.PASS_LATE_LINES), (1, Reg.PASS_STORED), (2, Reg.PASS_HEALED), (3, Reg.PASS_UNHEALED)])
  | 15 => some (Reg.BLN_CNT_CLR,
      [(0, Reg.BLN_FRAMES), (1, Reg.BLN_REJECTS), (2, Reg.BLN_STAT_LOST), (3, Reg.BLN_AUX_ERR)])
  | 16 => some (Reg.TRK_CNT_CLR,
      [(0, Reg.TRK_SAMPLES), (1, Reg.TRK_MISSING), (2, Reg.TRK_LINK_ERR), (3, Reg.TRK_UNSERVED), (4, Reg.TRK_PEAKS),
       (5, Reg.TRK_PRED_PEAK), (6, Reg.TRK_WARN)])
  | 17 => some (Reg.MOT_CNT_CLR, [(0, Reg.MOT_SP_SENT), (1, Reg.MOT_DF_SENT)])
  | 18 => some (Reg.GOV_CNT_CLR, [(0, Reg.GOV_FIT), (1, Reg.GOV_SLIPS), (2, Reg.GOV_CYCLES)])
  | 19 => some (Reg.CST_CNT_CLR, [(0, Reg.CST_LINK_ERR), (1, Reg.CST_STALE), (2, Reg.CST_OFS_PEAK)])
  | 20 => some (Reg.LDG_CNT_CLR, [(0, Reg.LDG_LOST)])
  | _ => none

/-- A write of a counter-clear register. -/
def cntClrAct (p : Nat) (v : Word) (s : State) : State :=
  match cntClrOf p with
  | some c => clearBits s v c.2
  | none => s

/-! ### Leaky buckets (R48, R212) -/

/-- The buckets that share an LB_CFG register. -/
def bucketsOf (b : BucketSel) : List Nat :=
  match b with
  | .lane _ => (List.range 86).map fun l => 1 + l
  | b => [bucketKey b]

/-- A write of LB_CFG: COUNT and PEAK become 0, ARMED 1. -/
def lbCfgAct (b : BucketSel) (v : Word) (s : State) : State :=
  let s1 := s.writeRw (bucketCfg b) v
  { s1 with buckets := (bucketsOf b).foldl (fun m k => sput Bucket.reset m k Bucket.reset) s1.buckets }

/-- One leak, if the bucket leaks at all. -/
def lbLeakAct (b : BucketSel) (s : State) : State :=
  if s.rf (bucketCfg b) 0 16 = 0 then s else s.setBucket b ((s.bucket b).leak (s.rf (bucketCfg b) 16 16))

/-! ### Persistent words (R49, R50) -/

/-- Programming of a pending slot completes. DESIGN CHOICE (log entry 101): a completion that brings the counter to 95,000
while islands 0 to 7 do not run raises no NV_WEAR, then or later; R50 does not say. -/
def nvProgramAct (i : Nat) (s : State) : State :=
  if !s.nvPending i then s
  else
    let n := s.nvc i + 1
    let s1 : State := { s with nvCount := sput 0 s.nvCount i n, nvSlot := sput false s.nvSlot i false }
    if n = 95000 && s.mainUp then s1.raise Ev.CTRL_NV_WEAR i else s1

/-- Every pending slot completes (R49). -/
def State.finishNv (s : State) : State := s.nvSlot.foldl (fun (a : State) p => nvProgramAct p.1 a) s

/-! ### The two-party protocol (R52 to R63) -/

/-- The first offset of a party's bank (R57). -/
def bankOf (p : Party) : Nat := if p = .spi then 0x80 else 0

/-- The pairs in a party's bank. -/
def State.bankPairs (s : State) (p : Party) : List (Nat × Word) :=
  (List.range (min 8 (s.rf (Reg.TP_COUNT + bankOf p) 0 4))).map fun i =>
    ((s.reg (Reg.TP_ADDR0 + bankOf p + 8 * i)).toNat, s.reg (Reg.TP_DATA0 + bankOf p + 8 * i))

/-- DATA sets no reserved bit of the word and breaks no range stated for it (R58, R63). -/
def dpValueOk (addr : Nat) (v : Word) : Bool :=
  match nvIdx addr with
  | none => false
  | some i =>
    if i = 0 then v == 1
    else if 261 ≤ i ∧ i ≤ 324 then fld v 18 13 == 0
    else if i = 326 ∨ i = 328 ∨ i = 330 ∨ i = 332 then fld v 16 16 == 0
    else if i = 333 then
      1 ≤ fld v 0 16 && fld v 0 16 ≤ 32767 && 1 ≤ fld v 16 16 && fld v 16 16 ≤ 32767
    else true

/-- The outcome of the checks of R58: 0 passes. -/
def tpCheck (count : Nat) (pairs : List (Nat × Word)) : Nat :=
  if count = 0 ∨ 8 < count ∨ ¬ (pairs.map Prod.fst).Nodup ∨ pairs.any (fun p => !isDp p.1) then 1
  else if pairs.all fun p => dpValueOk p.1 p.2 then 0
  else 2

/-- Whole milliseconds left on the timer of a pending proposal. -/
def State.tpLeft (s : State) : Nat :=
  match s.tp.phase with
  | .pending => (10 ^ 9 - (s.ctl - s.tp.start)) / 10 ^ 6
  | .confirmed => s.tp.left
  | _ => 0

/-- The number of a party: 1 for SPI. -/
def partyBit (p : Party) : Nat := b2n (p == Party.spi)

/-- A dropped command (R61, R65). -/
def tpIgnored (p : Party) (cmd : Nat) (s : State) : State :=
  s.raise Ev.CTRL_TP_IGNORED (2 ^ 15 * partyBit p + cmd)

/-- The proposal ends with an outcome (R60, R65). -/
def State.tpEnds (s : State) (code count : Nat) : State :=
  let p := s.tp.proposer
  let s1 : State := { s with tp := { s.tp with phase := .none } }
  ((s1.setReg Reg.TP_NONCE 0).resDone Reg.TP_STATUS [(27, partyBit p), (20, code), (16, count)]).raise Ev.CTRL_TP_DONE
    (2 ^ 15 * partyBit p + code)

/-- The digest (R59). -/
def tpDigest (pairs : List (Nat × Word)) : Word := w32 ((pairs.map fun p => p.1 + p.2.toNat).sum)

/-- CONFIRM by party `p` (R56, R60). -/
def State.tpConfirm (s : State) (p : Party) : State :=
  if s.reg (Reg.TP_CONF_NONCE + bankOf p) = s.reg Reg.TP_NONCE ∧
      s.reg (Reg.TP_CONF_DIGEST + bankOf p) = tpDigest s.tp.pairs then
    { s with tp := { s.tp with phase := .confirmed, left := s.tpLeft } }
  else s.tpEnds 5 s.tp.pairs.length

/-- The state allows the command of a party (R61). -/
def State.tpAllowed (s : State) (p : Party) (cmd : Nat) : Bool :=
  match s.tp.phase with
  | .none => cmd == 1
  | .pending => if s.tp.proposer = p then cmd == 2 else cmd == 3 || cmd == 4
  | _ => false

/-- A command in a party's bank (R56, R60, R61). -/
def tpCmdAct (p : Party) (cmd : Nat) (s : State) : State :=
  match s.tp.phase, cmd with
  | .none, 1 => { s with tp := { s.tp with phase := .validating, proposer := p } }
  | .pending, 2 => if s.tp.proposer = p then s.tpEnds 6 s.tp.pairs.length else tpIgnored p cmd s
  | .pending, 3 => if s.tp.proposer = p then tpIgnored p cmd s else s.tpConfirm p
  | .pending, 4 => if s.tp.proposer = p then tpIgnored p cmd s else s.tpEnds 7 s.tp.pairs.length
  | _, _ => tpIgnored p cmd s

/-- Of the commands `c` of party `p` and `d` of the other party in one cycle, `c` acts (R61): it is allowed, and where both
are, the SPI proposal is taken and WITHDRAW wins. -/
def State.tpWins (s : State) (p : Party) (c d : Nat) : Bool :=
  s.tpAllowed p c && (!s.tpAllowed (otherParty p) d || (if c = 1 then p == .spi else c == 2))

/-- Two commands of one cycle (R61): the one that acts does so, the other is dropped. The dropped one enters the event log
after what the other raises. DESIGN CHOICE (log entry 1): R61 states no order. -/
def tpBothAct (p : Party) (c d : Nat) (s : State) : State :=
  if s.tpWins p c d then tpIgnored (otherParty p) d (tpCmdAct p c s)
  else if s.tpWins (otherParty p) d c then tpIgnored p c (tpCmdAct (otherParty p) d s)
  else tpIgnored (otherParty p) d (tpIgnored p c s)

/-- In the cycle of the command the device ends a proposal, by its timer too, or makes it pending (R61). -/
def State.tpMoved (s : State) (t : Tie) : Bool :=
  t.inDevice && s.recent.any fun o => !o.forced && (o.ev = Ev.CTRL_TP_DONE || o.ev = Ev.CTRL_TP_PROPOSED)

/-- A command, which is dropped in such a cycle. -/
def tpTiedAct (p : Party) (t : Tie) (cmd : Nat) (s : State) : State :=
  if s.tpMoved t then tpIgnored p cmd s else tpCmdAct p cmd s

/-- Two commands, which are both dropped in such a cycle. -/
def tpBothTied (p : Party) (t : Tie) (c d : Nat) (s : State) : State :=
  if s.tpMoved t then tpIgnored (otherParty p) d (tpIgnored p c s) else tpBothAct p c d s

/-- The pairs in the view. The pairs of an earlier, longer proposal stay beyond COUNT. DESIGN CHOICE (log entry 25): R64
does not say what they read. -/
def State.tpView (s : State) (pairs : List (Nat × Word)) : State :=
  pairs.zipIdx.foldl
    (fun (a : State) q => (a.setReg (Reg.TP_VIEW_ADDR0 + 8 * q.2) (w32 q.1.1)).setReg (Reg.TP_VIEW_DATA0 + 8 * q.2) q.1.2) s

/-- A nonce: free, but not zero (R56). -/
def State.nonce (s : State) : Word := if Config.freeWord s.draws = 0 then 1 else Config.freeWord s.draws

/-- Validation ends (R56 steps 3 and 4, R58). -/
def tpValidateAct (s : State) : State :=
  if s.tp.phase ≠ .validating then s
  else
    let p := s.tp.proposer
    let count := s.rf (Reg.TP_COUNT + bankOf p) 0 4
    let pairs := s.bankPairs p
    let code := tpCheck count pairs
    if code ≠ 0 then s.tpEnds code count
    else
      let s1 : State :=
        { s.tpView pairs with tp := ⟨.pending, p, pairs, s.ctl, 0⟩, draws := s.draws + 1 }
      let st := s1.reg Reg.TP_STATUS
      let s2 := (s1.setReg Reg.TP_NONCE s.nonce).setReg Reg.TP_STATUS
        (pack [(28, 1), (27, partyBit p), (20, fld st 20 4), (16, count), (0, fld st 0 16)])
      s2.raise Ev.CTRL_TP_PROPOSED (2 ^ 15 * partyBit p)

/-- The persistent word `i` as the proposal would leave it. -/
def State.tpWord (s : State) (i : Nat) : Word :=
  match s.tp.pairs.find? fun p => nvIdx p.1 == some i with
  | some p => p.2
  | none => s.nvw i

/-- The proposal names a word of a range of indices. -/
def Tp.names (t : Tp) (lo hi : Nat) : Bool :=
  t.pairs.any fun p => (nvIdx p.1).any fun i => lo ≤ i && i ≤ hi

/-- A position in 2⁻³² MU lies outside the limits that words `o` to `o + 3` give (R260). -/
def State.outsideNew (s : State) (o : Nat) (p : Int) : Bool :=
  let lim (i : Nat) : Int := sext 48 ((s.tpWord (o + i)).toNat + 2 ^ 32 * ((s.tpWord (o + i + 1)).toNat % 65536))
  decide (p < lim 0 * 2 ^ 32) || decide (lim 2 * 2 ^ 32 < p)

/-- MIN ≥ MAX on an axis after the change (R260). -/
def State.limitsCross (s : State) (o : Nat) : Bool :=
  let lim (i : Nat) : Int := sext 48 ((s.tpWord (o + i)).toNat + 2 ^ 32 * ((s.tpWord (o + i + 1)).toNat % 65536))
  decide (lim 2 ≤ lim 0)

/-- MOT refuses the change (R260). -/
def State.motRefuses (s : State) : Bool :=
  s.gen.st ≠ 0 || s.running || s.limitsCross 325 || s.limitsCross 329 || s.outsideNew 325 s.gen.y ||
    s.outsideNew 329 s.gen.x || s.gen.pend.any fun t => s.outsideNew (if t.1 then 329 else 325) (t.2 * 2 ^ 32)

/-- Some owning block refuses the proposal in the present state (R60, R63, R179, R260). A proposal that names CTRL_BEHAV is
one to change the level also where it names the present value. DESIGN CHOICE (log entry 24): R63 does not say. -/
def State.tpRefused (s : State) : Bool :=
  (s.tp.names 0 0 && s.running) || (s.tp.names 261 324 && s.killsRefused fun i => s.tpWord (261 + i)) ||
    (s.tp.names 325 333 && s.motRefuses)

/-- The application of a confirmed proposal (R56 step 6, R60, R62, R180, R181). -/
def tpApplyAct (s : State) : State :=
  if s.tp.phase ≠ .confirmed then s
  else
    let n := s.tp.pairs.length
    if s.tpRefused then s.tpEnds 8 n
    else if s.tp.pairs.any fun p => (nvIdx p.1).any fun i => s.nvWorn i then s.tpEnds 9 n
    else
      let s1 := s.tp.pairs.foldl
        (fun (a : State) p =>
          match nvIdx p.1 with
          | some i => a.nvWrite i p.2
          | none => a) s
      ((s1.killsApplied fun i => s.killBeam i).travelCheck).tpEnds 0 n

/-- The timer of a pending proposal runs out (R60). -/
def tpTimeoutAct (s : State) : State :=
  if s.tp.phase = .pending then s.tpEnds 4 s.tp.pairs.length else s

/-! ### GEOM_PITCH (R11, R12, R30) -/

/-- A write of GEOM_PITCH. Where both refusals hold, PITCH_RANGE is logged first. DESIGN CHOICE (log entry 26): R30 states no
order. The velocity limit follows the pitch at once (R28, R239). -/
def geomPitchAct (v : Word) (s : State) : State :=
  let p := fld v 0 11
  let bad : Bool := p < 320 || 1280 < p
  let s1 := if bad then s.raiseOpen Ev.GEOM_PITCH_RANGE else s
  if s.running then s1.raiseOpen Ev.GEOM_PITCH_BUSY else if bad then s1
  else (s1.writeRw Reg.GEOM_PITCH v).speedCheck

end Sys2Proof.Machine
end

