-- ==== Sys2Proof/Machine/TestOps.lean ====
section
/-!
DEFINITION. Sys2Proof/Machine/TestOps.lean: the test enable, perturbations, memory operations of the test page and the TAP
(chapter 16, R402 to R422).
-/

namespace Sys2Proof.Machine

/-- A refused or dropped write of a TEST register (R417, R422). -/
def State.testIgnored (s : State) (off : Nat) : State := s.raise Ev.TEST_IGNORED (offDetail off)

/-- A write of a TEST block register other than TEST_CTL: denied while the test enable is clear (R402). -/
def testWrite (party : Party) (off : Nat) (act : State → State) (s : State) : State :=
  if s.testEn then act s else s.logAcc party 3 off

/-! ### The test enable (R392, R402, R403) -/

/-- The blocks GEOM to LDG that were clocked in `old` and that the set now in force would gate stay ungated while a stripe
runs (R393). -/
def State.regate (s old : State) : State :=
  if !s.running then s
  else
    let keep := ((List.range 13).filter fun b => wbit old.gateSet b && !wbit s.gateSet b).map fun b => 2 ^ b
    { s with clk := { s.clk with ungated := s.clk.ungated ||| keep.sum } }

/-- Change the mode (R392, R393). -/
def State.setMode (s : State) (m : Nat) : State := ({ s with clk := { s.clk with mode := m } } : State).regate s

/-- Enter a mode, or hold it for the return while the test enable is set (R392). -/
def State.enterMode (s : State) (m : Nat) : State :=
  if s.clk.mode = 2 then { s with clk := { s.clk with held := m } } else s.setMode m

/-- EN clears: every perturbation is disarmed (R403) and MODE takes the held mode (R392). -/
def State.disarm (s : State) : State :=
  let s1 := (((s.setReg Reg.TEST_CTL 0).setReg Reg.TEST_LANE_CNT 0).setRf Reg.TEST_MET_CTL 16 8 0).setReg Reg.TEST_MON 0
  ({ s1 with test := { s1.test with sigArmed := false } } : State).setMode s.clk.held

/-- A write of TEST_CTL (R402, R403). -/
def testEnAct (party : Party) (v : Word) (s : State) : State :=
  if party = .pcie then s.logAcc party 3 Reg.TEST_CTL
  else if wbit v 0 = s.testEn then s
  else if wbit v 0 then
    let s1 : State := { s with clk := { s.clk with held := s.clk.mode } }
    ((s1.setReg Reg.TEST_CTL 1).setReg Reg.TEST_INJ 0).setMode 2
  else s.disarm

/-- The TEST block has been gated: EN clears (R403). -/
def State.testGate (s : State) : State := if s.testEn && s.blockGated 6 then s.disarm else s

/-! ### Perturbations (R404 to R417) -/

/-- A write of TEST_XING_SEL (R404, R417). -/
def xingSelAct (v : Word) (s : State) : State :=
  if 5 < fld v 0 3 then s.testIgnored Reg.TEST_XING_SEL else s.writeRw Reg.TEST_XING_SEL v

/-- A setting of a crossing perturbs it: BP_OFF alone does not (R404). -/
def xingActs (v : Word) : Bool := v &&& 0xFFFFFF00 != 0

/-- A write of TEST_XING_CFG for the selected crossing; a setting that perturbs counts once when it is armed (R404, R417). -/
def xingCfgAct (v : Word) (s : State) : State :=
  let s1 : State := { s with test := { s.test with xing := sput 0 s.test.xing (s.rf Reg.TEST_XING_SEL 0 3) v } }
  if xingActs v then s1.bump Reg.TEST_INJ else s1

/-- A write of TEST_DRAM_DLY for the selected input (R406, R417). -/
def dramDlyAct (v : Word) (s : State) : State :=
  let n := fld v 0 16
  let s1 : State := { s with test := { s.test with dly := sput 0 s.test.dly (s.rf Reg.TEST_DRAM_SEL 0 4) n } }
  if n = 0 then s1 else s1.bump Reg.TEST_INJ

/-- A write of TEST_MET_CTL (R407, R417). -/
def metCtlAct (v : Word) (s : State) : State :=
  if fld v 24 2 = 3 then s.testIgnored Reg.TEST_MET_CTL else s.writeRw Reg.TEST_MET_CTL v

/-- An auxiliary lane that R412 allows: A0 to A5, A8 to A13. -/
def auxLaneOk (n : Nat) : Bool := n ≤ 5 || (8 ≤ n && n ≤ 13)

/-- A write of TEST_LANE_CFG (R411, R412, R417). -/
def laneCfgAct (v : Word) (s : State) : State :=
  let bad := if wbit v 31 then !auxLaneOk (fld v 20 4) else decide (fld v 8 10 < 2 ∨ 397 < fld v 8 10)
  if bad || fld v 0 8 = 0 then s.testIgnored Reg.TEST_LANE_CFG else s.writeRw Reg.TEST_LANE_CFG v

/-- A write of TEST_SIG arms the force (R415). -/
def testSigAct (v : Word) (s : State) : State :=
  let s1 := s.writeRw Reg.TEST_SIG v
  { s1 with test := { s1.test with sigArmed := true, sigUsed := false } }

/-- The monitor with a code runs (R383, R416). -/
def State.monRuns (s : State) (mon : Nat) : Bool :=
  match mon with
  | 0 => false
  | 1 => true
  | 6 => s.clk.xtalOk
  | 7 => s.mainUp && !s.clk.coast
  | _ => s.clk.rcOk

/-- A write of TEST_MON (R416, R417). -/
def testMonAct (v : Word) (s : State) : State :=
  if !s.monRuns (fld v 0 3) then s.testIgnored Reg.TEST_MON else s.writeRw Reg.TEST_MON v

/-- The code of a monitor: of a source (0 RC, 1 XTAL, 2 SYSREF) and a kind (R416). -/
def monCode (src : Nat) (kind : TripKind) : Nat :=
  match kind, src with
  | .activity, n => n + 1
  | .coarse, 1 => 4
  | .coarse, 2 => 5
  | .fine, 2 => 6
  | .lock, _ => 7
  | _, _ => 0

/-- A force is armed for a monitor (R416). -/
def State.monForced (s : State) (src : Nat) (kind : TripKind) : Bool :=
  s.testEn && s.rf Reg.TEST_MON 0 3 ≠ 0 && s.rf Reg.TEST_MON 0 3 == monCode src kind

/-- A trip of a monitor takes a force armed for it (R416, R417). -/
def State.takeForce (s : State) (src : Nat) (kind : TripKind) : State :=
  if s.monForced src kind then (s.setReg Reg.TEST_MON 0).bump Reg.TEST_INJ else s

/-! ### Memory operations (R413, R414) -/

/-- A write of TEST_MEM_CMD by its OP. -/
def testMemAct (op : Nat) (s : State) : State :=
  if op = 0 || s.test.memOp ≠ 0 then s.testIgnored Reg.TEST_MEM_CMD
  else
    let s0 := s.resStart Reg.TEST_MEM_STAT
    let s1 := if op = 1 then s0 else s0.portRaise 11
    { s1 with
      test := { s1.test with
        memOp := op, memAddr := s.reg Reg.TEST_MEM_ADDR, memMask := s.reg Reg.TEST_MEM_MASK } }

/-- The operation completes with an outcome and a result. -/
def State.memOpDone (s : State) (code result : Nat) : State :=
  ((({ s with test := { s.test with memOp := 0 } } : State)).resDone Reg.TEST_MEM_STAT [(28, code), (25, result)]).raise
    Ev.TEST_MEM_DONE code

/-- FLIP_SRAM. -/
def State.flipSramDone (s : State) (written : Bool) : State :=
  let g := fld s.test.memAddr 24 7
  let m := fld s.test.memMask 0 13
  let n := ((List.range 13).filter fun i => m.testBit i).length
  if 95 < g ∨ n = 0 ∨ 2 < n then s.memOpDone 1 0
  else if written then s.memOpDone 2 0
  else ((s.sramFlip g (fld s.test.memAddr 12 12) (fld s.test.memAddr 0 8) m).bump Reg.TEST_INJ).memOpDone 0 0

/-- FLIP_DRAM. -/
def State.flipDramDone (s : State) : State :=
  let line := fld s.test.memAddr 0 29
  let first := fld s.test.memMask 0 7
  let n := fld s.test.memMask 13 3
  let v := fld s.test.memMask 16 8
  if 71 < first ∨ n = 0 ∨ 5 < n ∨ v = 0 then s.memOpDone 1 0
  else if s.arb.owner ≠ 12 then s
  else if s.dram.never line then s.memOpDone 3 0
  else
    let err := (List.range n).foldl
      (fun (m : Store Nat) i =>
        let k := 72 * line + (first + i) % 72
        sput 0 m k (sget 0 m k ^^^ v)) s.dram.err
    (({ s with dram := { s.dram with err := err } } : State).bump Reg.TEST_INJ).memOpDone 0 0

/-- READ_DRAM. -/
def State.readDramDone (s : State) : State :=
  if s.arb.owner ≠ 12 then s
  else
    let r := s.dramReadLine 11 (fld s.test.memAddr 0 29)
    r.2.memOpDone 0 r.1.result

/-- The memory operation in progress completes, once SRAM is zeroed (R357), on DRAM under a grant of input 11 (R413);
`written` says that a write to the SRAM byte fell in the flip's cycle. -/
def memDoneAct (written : Bool) (s : State) : State :=
  if !s.sram.zeroed then s
  else match s.test.memOp with
  | 0 => s
  | 1 => s.flipSramDone written
  | 2 => s.flipDramDone
  | _ => s.readDramDone

end Sys2Proof.Machine
end

