-- ==== Sys2Proof/Machine/ClkOps.lean ====
section
/-!
DEFINITION. Sys2Proof/Machine/ClkOps.lean: clock sources, failure of the active source, switching of islands, modes, gating,
power states, dark hold, resets, the power-up sequence and the supply pins (chapters 15 and 18).
-/

namespace Sys2Proof.Machine

/-- A refused write or dropped command (R401). -/
def State.clkRefused (s : State) (off : Nat) : State := s.raise Ev.CLK_CFG_REFUSED (offDetail off)

/-- Change the clock state. -/
def State.updClk (s : State) (f : Clk → Clk) : State := { s with clk := f s.clk }

/-! ### Dark hold (R392, R394, R395) -/

/-- Entry to RECOVERY: STATE becomes RUN, also while MODE stays TEST (R392, R394). -/
def State.enterRecovery (s : State) : State := ((s.enterMode 3).setReg Reg.CLK_PWR 0).regate s

/-- Entry to dark hold with a cause (R395, R262). In dark hold RC_LOST and BROWNOUT are further entries, whose cause CLK_HOLD
shows from then on (R389, R398, R400); DESIGN CHOICE (log entry 135): a Device-fatal event is none. -/
def State.enterHold (s : State) (cause page : Nat) : State :=
  if s.clk.hold && cause == 1 then s
  else
    let s1 := (s.updClk fun c => { c with hold := true }).setReg Reg.CLK_HOLD (pack [(16, page), (0, cause)])
    if s.clk.hold then s1 else s1.enterRecovery.motDarkHold

/-- A page holds a set bit of class Device-fatal (R395, R448). -/
def State.fatalBit (s : State) : Bool := (List.range pageCount).any fun p => (s.hdr p).anyClass p fun c => c == 3

/-- HOLD_EXIT (R395). -/
def holdExitAct (s : State) : State :=
  if !s.clk.hold || s.clk.svcOnly || s.fatalBit then s.clkRefused Reg.CLK_CMD
  else (s.updClk fun c => { c with hold := false }).raise Ev.CLK_HOLD_EXIT (s.rf Reg.CLK_HOLD 0 4)

/-- SERVICE (R392). -/
def serviceAct (s : State) : State :=
  if s.clk.active = 0 || s.clk.coast || s.clk.hold || s.clk.mode = 1 then s.clkRefused Reg.CLK_CMD else s.enterMode 0

/-! ### Resets (R396 to R399, R432) -/

/-- A page keeps its registers across every reset but POWER_ON without the auxiliary input. -/
def keepClkPage {β : Type} (m : Store β) (regs : Bool) : Store β :=
  skeep (fun k => if regs then k / 0x1000 == 1 else k == 1) m

/-- Islands 0 to 7 are reset and held. `keepPage` says that the service island keeps the CLK page, `warm` that DRAM keeps
its contents. Persistent words, supplies, pins, the TAP, clock sources and what has left the device stay. -/
def State.resetMain (s : State) (warm keepPage : Bool) : State :=
  { State.reset with
    pending := s.pending, due := s.due, recent := s.recent, cyc := s.cyc, out := s.out, draws := s.draws, nv := s.nv, nvCount := s.nvCount,
    nvSlot := s.nvSlot, spiData := s.spiData, pins := s.pins, tap := s.tap, bsr := s.bsr, tdo := s.tdo,
    regs := if keepPage then keepClkPage s.regs true else [],
    hdrs := if keepPage then keepClkPage s.hdrs false else [],
    dram := if warm then s.dram.warm else Dram.reset,
    clk := { Clk.reset with
      rcOk := s.clk.rcOk, xtalOk := s.clk.xtalOk, sysOk := s.clk.sysOk, rcStarting := !s.clk.rcOk } }

/-- Islands 0 to 7 leave reset, and twilight begins (R399 steps 3 and 4). `seq` 9 holds them until POWER_ON (R398). -/
def State.leaveReset (s : State) : State :=
  if s.clk.inReset && s.clk.seq ≠ 9 && s.pins.vin12 && !s.pins.shutdown && s.pins.perstN && s.clk.rcOk then
    s.updClk fun c => { c with inReset := false, seq := 4 }
  else s

/-- Set or clear a bit of a mask. -/
def maskBit (m i : Nat) (b : Bool) : Nat := if b then m ||| 2 ^ i else (m ||| 2 ^ i) - 2 ^ i

/-- An island is asked for the safe clock or for its loop clock (R391). During a RAMP the request makes the switch finish as
a STOP to the latest target; during a STOP it is carried out after it. `method` is CLK_SWITCH.METHOD. -/
def Clk.ask (method : Nat) (safe : Bool) (c : Clk) (i : Nat) : Clk :=
  if c.switching.testBit i then
    if c.stops.testBit i then { c with again := maskBit c.again i (c.goal.testBit i != safe) }
    else { c with goal := maskBit c.goal i safe, stops := maskBit c.stops i true }
  else if c.safe.testBit i = safe then c
  else
    { c with
      switching := maskBit c.switching i true, goal := maskBit c.goal i safe, again := maskBit c.again i false,
      stops := maskBit c.stops i (method.testBit i) }

/-- Every island is asked for the safe clock or for its loop clock. -/
def State.askAll (s : State) (safe : Bool) : State :=
  s.updClk fun c => (List.range 8).foldl (Clk.ask (s.rf Reg.CLK_SWITCH 0 8) safe) c

/-- Step 5 begins: the loops lock to a source and the islands leave the safe clock (R399). -/
def State.beginStep5 (s : State) (src : Nat) : State :=
  (s.updClk fun c => { c with seq := 5, upSrc := src }).askAll false

/-- Twilight ends at once when XTAL has been judged already. -/
def State.startUp (s : State) : State :=
  let s1 := s.leaveReset
  if s1.clk.seq = 4 && s1.clk.xtalOk && s1.clk.fallback = 0 then s1.beginStep5 1 else s1

/-- A reset that islands 0 to 7 can leave (R396). -/
def State.mainReset (s : State) (cause : Nat) (warm : Bool) : State :=
  if s.clk.seq = 9 then s
  else ((s.resetMain warm true).setReg Reg.CLK_RESET (w32 cause)).startUp

/-- CLK_SVC (R396): only writes from SPI act. -/
def clkSvcAct (party : Party) (op : Nat) (s : State) : State :=
  if party = .pcie then s.logAcc party 3 Reg.CLK_SVC
  else if op = 1 then s.mainReset 2 false
  else if op = 2 then s.mainReset 3 true
  else s

/-- PERST_N falls or rises (R396, R399). -/
def perstAct (level : Bool) (s : State) : State :=
  if level = s.pins.perstN then s
  else
    let s1 : State := { s with pins := { s.pins with perstN := level } }
    if level then s1.startUp else s1.mainReset 1 false

/-- VIN12 rises through 10.8 V after a fall below 10.6 V (R396, R399, R436). -/
def powerOnAct (s : State) : State :=
  if !s.pins.armed then s
  else
    let s1 := s.resetMain false s.pins.aux33
    let s2 : State :=
      { s1 with
        pins := { s1.pins with vin12 := true, armed := false, thermHot := false, shutdown := false }, tap := 1,
        bsr := State.reset.bsr, tdo := [], clk := Clk.reset }
    s2.setReg Reg.CLK_RESET 0

/-- The service island loses its last supply: the CLK page returns to its reset values, no action is taken any more, and
islands 0 to 7 stay in reset until POWER_ON (R381, R396, R398, R438). -/
def State.serviceLost (s : State) : State :=
  { s with
    due := [], regs := skeep (fun k => k / 0x1000 != 1) s.regs, hdrs := skeep (fun k => k != 1) s.hdrs,
    clk := { Clk.reset with seq := 9, rcStarting := false } }

/-- The action of BROWNOUT (R398): pending programming finishes, islands 0 to 7 are held in reset until POWER_ON. The CLK
page survives while the auxiliary input is present. -/
def State.brownoutAction (s : State) : State :=
  let s1 := (s.enterHold 3 0).finishNv
  let s2 := s1.resetMain false true
  let s3 := s2.updClk fun c => { c with hold := true, seq := 9, mode := 3, rcStarting := false }
  if s.pins.aux33 then s3 else s3.serviceLost

/-- VIN12 stays below 10.6 V for 1 µs (R398). -/
def brownoutAct (s : State) : State :=
  if !s.pins.vin12 then s
  else
    let s1 := s.raise Ev.CLK_BROWNOUT 0
    { s1 with
      pins := { s1.pins with vin12 := false, armed := true },
      clk := { s1.clk with rcOk := false, xtalOk := false, sysOk := false, rcStarting := false } }

/-- The auxiliary input goes: without VIN12 the service island loses the CLK page (R438). -/
def auxLossAct (s : State) : State :=
  let s1 : State := { s with pins := { s.pins with aux33 := false } }
  if s.pins.vin12 && !s.pins.shutdown then s1 else s1.finishNv.serviceLost

/-- The auxiliary input comes (R438). -/
def auxReturnAct (s : State) : State := { s with pins := { s.pins with aux33 := true } }

/-! ### Temperature and interlock (R441, R442, R446) -/

/-- The sensors are read (R441, R442). -/
def tempAct (hottest : Nat) (s : State) : State :=
  if s.pins.shutdown || !s.pins.vin12 then s
  else
    let hot := 100 ≤ hottest || (s.pins.thermHot && 95 < hottest)
    let s1 : State := { s with pins := { s.pins with thermHot := hot } }
    if hottest < 125 then s1
    else
      let s2 : State := { s1.finishNv with pins := { s1.pins with shutdown := true } }
      if s.pins.aux33 then s2 else s2.serviceLost

/-- An edge of DARK_N: for 32 ns more a marker may show either level (R446). -/
def darkEdgeAct (level : Bool) (s : State) : State :=
  if level = s.pins.darkN then s else { s with pins := { s.pins with darkN := level, darkWait := 33 } }

/-! ### Sources and monitors (R383 to R390) -/

/-- The number of a source (CLK_STAT.ACTIVE). -/
def srcNum : Src → Nat
  | .rc => 0
  | .xtal => 1
  | .sys => 2

/-- The code of a kind of trip (CLK_LAST_TRIP.KIND). -/
def kindNum : TripKind → Nat
  | .activity => 1
  | .coarse => 2
  | .fine => 3
  | .lock => 4

/-- A source is judged stable. -/
def Clk.okOf (c : Clk) (src : Nat) : Bool :=
  match src with
  | 0 => c.rcOk
  | 1 => c.xtalOk
  | _ => c.sysOk

/-- Set or clear the bit of a source. -/
def Clk.setOk (c : Clk) (src : Nat) (b : Bool) : Clk :=
  match src with
  | 0 => { c with rcOk := b }
  | 1 => { c with xtalOk := b }
  | _ => { c with sysOk := b }

/-- The register of a window that was counted (R400). -/
def State.monReg (s : State) (src : Nat) (kind : TripKind) (meas : Nat) : State :=
  match kind, src with
  | .coarse, 1 => s.setReg Reg.CLK_MON_XTAL (w32 (meas % 2 ^ 11))
  | .coarse, 2 => s.setReg Reg.CLK_MON_SYSC (w32 (meas % 2 ^ 12))
  | .fine, _ => s.setReg Reg.CLK_MON_SYS (w32 (meas % 2 ^ 16))
  | _, _ => s

/-- A monitor of the source runs (R383): its counting source is stable, and the fine one has XTAL_OK. -/
def State.monitors (s : State) (src : Nat) (kind : TripKind) : Bool := s.monRuns (monCode src kind)

/-- The condition of a monitor (R383) holds for what it measured: a coarse count, or count − 131,072 of a fine window in
two's complement, with 7.63 ppm to the count. -/
def State.fails (s : State) (src : Nat) (kind : TripKind) (meas : Nat) : Bool :=
  match kind, src with
  | .coarse, 1 => decide (meas % 2 ^ 11 < 1004 ∨ 1044 < meas % 2 ^ 11)
  | .coarse, _ => decide (meas % 2 ^ 12 < 2007 ∨ 2089 < meas % 2 ^ 12)
  | .fine, _ => decide (100 * s.rf Reg.CLK_CTL 16 16 < 763 * (sext 16 meas).natAbs)
  | _, _ => true

/-- A monitor trips: its condition holds, or a force is armed for it (R383, R416). -/
def State.trips (s : State) (src : Nat) (kind : TripKind) (meas : Nat) : Bool :=
  s.fails src kind meas || s.monForced src kind

/-- What a trip does to the bit of its source: a trip of a loop's lock leaves it (R384), but after a forced trip the source
must be judged again (R416). -/
def State.tripBit (s : State) (src : Nat) (kind : TripKind) (meas : Nat) : State :=
  let s1 := (s.monReg src kind meas).takeForce src kind
  if kind = .lock && !s.monForced src kind then s1 else s1.updClk fun c => c.setOk src false

/-- Islands go to the safe clock as soon as the RC is judged (R386 step 3). -/
def State.fallbackStart (s : State) : State :=
  if s.clk.fallback = 1 && s.clk.rcOk then (s.updClk fun c => { c with fallback := 2 }).askAll true else s

/-- A monitor of the active source is evaluated (R386, R389, R400). A window that passes only leaves its count. A trip runs
steps 1 and 2 of R386 at once, while the RC is starting at power-up too, and step 3 as soon as RC_OK = 1. An RC that is the
active source and trips is restarted. DESIGN CHOICE (log entry 28): in service-only dark hold, where every other island is
stopped, the trip only clears the bit and raises CLK_FAIL. -/
def clkFailAct (kind : TripKind) (meas : Nat) (s : State) : State :=
  let src := s.clk.active
  if !s.monitors src kind then s
  else if !s.trips src kind meas then s.monReg src kind meas
  else
    let s1 := s.tripBit src kind meas
    let s2 := if src = 0 ∧ !s1.clk.rcOk then s1.updClk fun c => { c with rcStarting := true } else s1
    if s.clk.fallback ≠ 0 then s2
    else if s.clk.svcOnly then s2.raise Ev.CLK_FAIL (src + 16 * kindNum kind)
    else
      let s3 := s2.updClk fun c =>
        { c with coast := true, fallback := 1, tripSrc := src, tripKind := kindNum kind, move := 0 }
      let s4 := s3.raiseExp Ev.CLK_FAIL (src + 16 * kindNum kind)
      s4.enterRecovery.fallbackStart

/-- A monitor of XTAL or SYSREF, while it is not active, is evaluated (R390, R400). -/
def srcFailAct (src : Nat) (kind : TripKind) (meas : Nat) (s : State) : State :=
  if src = 0 || src = s.clk.active || kind = .lock || !s.monitors src kind then s
  else if !s.trips src kind meas then s.monReg src kind meas
  else (s.tripBit src kind meas).raise Ev.CLK_SRC_FAIL (src + 16 * kindNum kind)

/-- RC activity trips while RC is not active: it is restarted (R389). An RC that is being started is restarted again only by
a forced trip (R416). -/
def rcRestartAct (s : State) : State :=
  if s.clk.active = 0 || (!s.clk.rcOk && !s.monForced 0 .activity) then s
  else
    ((s.tripBit 0 .activity 0).updClk fun c => { c with rcStarting := true }).raise Ev.CLK_RC_RESTART 0

/-- The RC was not judged stable in time (R389). -/
def rcLostAct (s : State) : State :=
  if !s.clk.rcStarting || s.clk.rcOk then s
  else (s.updClk fun c => { c with rcStarting := false }).raise Ev.CLK_RC_LOST 0

/-- The action of RC_LOST: service-only dark hold (R389, R395). -/
def State.rcLostAction (s : State) : State := (s.enterHold 2 0).updClk fun c => { c with svcOnly := true }

/-- A monitor of a source is evaluated, the active one or another (R386, R390, R416). -/
def evalMon (src : Nat) (kind : TripKind) (meas : Nat) (s : State) : State :=
  if src = s.clk.active then clkFailAct kind meas s else srcFailAct src kind meas s

/-- The windows of a source have been counted, and it is judged stable where they pass (R384, R399, R400). A window for which
a force is armed trips instead, and the force is taken (R416). -/
def srcUpAct (src : Src) (coarse fine : Nat) (s : State) : State :=
  let c := s.clk
  match src with
  | .rc =>
    if c.rcOk || !c.rcStarting then s
    else
      ((s.updClk fun c => { c with rcOk := true, rcStarting := false }).raise Ev.CLK_SRC_UP 0).fallbackStart.startUp
  | .xtal =>
    if !c.rcOk then s
    else
      let s1 := s.monReg 1 .coarse coarse
      if s.monForced 1 .coarse then evalMon 1 .coarse coarse s1
      else if c.xtalOk || s.fails 1 .coarse coarse then s1
      else ((s1.updClk fun c => { c with xtalOk := true }).raise Ev.CLK_SRC_UP 1).startUp
  | .sys =>
    if !c.rcOk || !c.xtalOk then s
    else
      let s1 := (s.monReg 2 .coarse coarse).monReg 2 .fine fine
      if s.monForced 2 .coarse then evalMon 2 .coarse coarse s1
      else if s.monForced 2 .fine then evalMon 2 .fine fine s1
      else if c.sysOk || s.fails 2 .coarse coarse || s.fails 2 .fine fine then s1
      else (s1.updClk fun c => { c with sysOk := true }).raise Ev.CLK_SRC_UP 2

/-- XTAL is not judged within 10 ms of twilight: the loops lock to RC (R399 step 5). The KIND of this SRC_FAIL is not
stated (log entry 7). -/
def xtalTimeoutAct (s : State) : State :=
  if s.clk.seq ≠ 4 || s.clk.xtalOk || s.clk.fallback ≠ 0 then s
  else (s.openDetail.2.beginStep5 0).raise Ev.CLK_SRC_FAIL (1 + 16 * (s.openDetail.1 % 16))

/-! ### Moves of the active source (R385) -/

/-- The automatic upward move that is allowed (R385). The one to SYSREF comes after step 10 of the power-up sequence
(R399 step 11). -/
def State.autoTarget (s : State) : Option Nat :=
  let c := s.clk
  if c.autoHeld then none
  else if c.active = 0 && wbit (s.reg Reg.CLK_CTL) 0 && c.xtalOk then some 1
  else if c.active = 1 && wbit (s.reg Reg.CLK_CTL) 1 && c.sysOk && c.ready then some 2
  else none

/-- The move whose windows have passed. -/
def State.moveTarget (s : State) : Option Nat :=
  if s.clk.move = 1 then (if s.clk.okOf s.clk.moveTo then some s.clk.moveTo else none)
  else if s.clk.move = 0 then s.autoTarget
  else none

/-- A move starts: the islands go to the safe clock. -/
def sourceMoveAct (s : State) : State :=
  match s.moveTarget with
  | none => s
  | some t =>
    if !s.mainUp || s.clk.fallback ≠ 0 || s.clk.seq = 4 || s.clk.seq = 5 then s
    else if t = s.clk.active then s.updClk fun c => { c with move := 0 }
    else (s.updClk fun c => { c with move := 2, moveTo := t }).askAll true

/-- A move has completed. -/
def sourceChangedAct (s : State) : State :=
  if s.clk.move ≠ 3 || s.clk.switching ≠ 0 then s
  else (s.updClk fun c => { c with active := c.moveTo, move := 0 }).raise Ev.CLK_SOURCE_CHANGED s.clk.moveTo

/-- The loops have relocked to RC, and the islands switch back (R386 steps 4 and 5); one that is still on its way to the safe
clock turns round as R391 gives. While islands 0 to 7 are in reset they have no clock to switch to, and in service-only dark
hold they are stopped (R389). -/
def loopRelockAct (s : State) : State :=
  if s.clk.fallback ≠ 2 || s.clk.inReset || s.clk.svcOnly then s else (s.updClk fun c => { c with fallback := 3 }).askAll false

/-- The lanes that start at step 9 of R399: beam lanes that are ACTIVE or SHALLOW, and A0 to A3 as far as enabled. -/
def State.fillBeams (s : State) : List Nat :=
  ((List.range 96).filter fun p => decide ((s.plane p).pwr ≤ 1)) ++ s.auxEnabled.map (96 + ·)

/-- The lane island runs again after `old`, in which its lanes were idle: the lanes send again (R381), one under test its
stream (R218). -/
def State.lanesBack (s old : State) : State :=
  if old.lanesIdle && !s.lanesIdle then
    (s.fill ((if s.clk.ready then s.fillBeams else []) ++ s.fillAux.map (96 + ·))).startTest
  else s

/-- Every island is back on its loop clock after a fallback (R386 step 5). -/
def State.fallbackDone (s : State) : State :=
  let s1 := s.updClk fun c =>
    { c with
      coast := false, active := 0, fallback := 0, step5 := if c.seq = 4 ∨ c.seq = 5 then 255 else c.step5,
      seq := if c.seq = 4 ∨ c.seq = 5 then 6 else c.seq }
  (s1.bump Reg.CLK_TRIPS).setReg Reg.CLK_LAST_TRIP (pack [(4, s.clk.tripKind), (0, s.clk.tripSrc)])

/-- Every island has switched: what comes next in a fallback, a move or the power-up sequence. -/
def State.allSwitched (s : State) : State :=
  if s.clk.fallback = 3 then s.fallbackDone
  else if s.clk.fallback ≠ 0 then s
  else if s.clk.move = 2 then (s.updClk fun c => { c with move := 3 }).askAll false
  else if s.clk.seq = 5 then s.updClk fun c => { c with seq := 6, active := c.upSrc }
  else s

/-- An island finishes its switch (R391), and turns round where it was asked to during a STOP. In service-only dark hold every
island is stopped (R389). -/
def islandSwitchAct (i : Nat) (s : State) : State :=
  if !s.clk.switching.testBit i || s.clk.svcOnly then s
  else
    let safe := s.clk.goal.testBit i
    let s1 := s.updClk fun c =>
      { c with
        switching := maskBit c.switching i false, safe := maskBit c.safe i safe,
        step5 := if c.seq = 5 ∧ c.fallback = 0 ∧ !safe then maskBit c.step5 i true else c.step5 }
    let s2 :=
      if s.clk.again.testBit i then s1.updClk fun c => c.ask (s.rf Reg.CLK_SWITCH 0 8) (!safe) i else s1
    (if s2.clk.switching = 0 then s2.allSwitched else s2).lanesBack s

/-- A commanded move of the active source (R385). It is dropped also while an automatic move waits for its windows. DEDUCED (log
entry 134): a fallback is a move of the active source under way (R386), after which SELECT_SYS would not be one step. -/
def selectAct (target : Nat) (s : State) : State :=
  let c := s.clk
  if s.running || !c.okOf target || c.active = target || (target = 2 && c.active = 0) || c.move ≠ 0 ||
      c.fallback ≠ 0 || s.autoTarget.isSome then
    s.clkRefused Reg.CLK_CMD
  else s.updClk fun c => { c with move := 1, moveTo := target, autoHeld := decide (target < c.active) }

/-- A write of CLK_CMD by its OP (R400). -/
def clkCmdAct (op : Nat) (s : State) : State :=
  match op with
  | 1 => selectAct 1 s
  | 2 => selectAct 2 s
  | 3 => selectAct 0 s
  | 4 => serviceAct s
  | 5 => holdExitAct s
  | _ => s.clkRefused Reg.CLK_CMD

/-! ### Settings (R391, R393, R394, R400) -/

/-- CLK_PWR (R394). -/
def clkPwrAct (v : Word) (s : State) : State :=
  let st := fld v 0 2
  if st = 3 || (st ≠ 0 && s.running) then s.clkRefused Reg.CLK_PWR else ((s.writeRw Reg.CLK_PWR v).regate s).lanesBack s

/-- The offset of an enable set: CLK_GATE (0), CLK_RUN_EN (1), CLK_SLEEP_EN (2), CLK_DEEP_EN (3). -/
def gateOff (set : Nat) : Nat := Reg.CLK_GATE + 4 * set

/-- A write of an enable set (R393). -/
def clkGateAct (set : Nat) (v : Word) (s : State) : State :=
  let s1 := s.writeRw (gateOff set) v
  if s.running && (List.range 13).any fun b => wbit s.gateSet b && !wbit s1.gateSet b then s.clkRefused (gateOff set)
  else s1.lanesBack s

/-- CLK_CTL or CLK_SWITCH (R400). -/
def clkCfgAct (switchReg : Bool) (v : Word) (s : State) : State :=
  if switchReg then
    if fld v 8 8 = 0 ∨ s.clk.switching ≠ 0 then s.clkRefused Reg.CLK_SWITCH else s.writeRw Reg.CLK_SWITCH v
  else if fld v 16 16 < 50 ∨ 1000 < fld v 16 16 then s.clkRefused Reg.CLK_CTL
  else s.writeRw Reg.CLK_CTL v

/-! ### The end of the power-up sequence (R399 steps 6, 7, 9, 10) -/

/-- SRAM zeroing completes. -/
def zeroedAct (s : State) : State := if s.clk.seq = 6 && !s.sram.zeroed then sramZeroedAct s else s

/-- DRAM initialisation completes. -/
def dramInitAct (s : State) : State := if s.clk.seq = 6 && !s.dram.ready then dramReadyAct s else s

/-- The lanes start, the command path restarts, and READY is set. -/
def readyAct (s : State) : State :=
  if s.clk.seq ≠ 6 || !s.sram.zeroed || !s.dram.ready || s.clk.fallback ≠ 0 then s
  else
    let s1 := s.updClk fun c => { c with ready := true, seq := 10, held := if c.held = 1 then 0 else c.held }
    let s2 := if s1.clk.mode = 1 then s1.setMode 0 else s1
    let s3 := s2.lanePower
    ((s3.fill s3.fillBeams).restartPath).raise Ev.CLK_READY 0

/-! ### The action of CLK_FAIL (R387) -/

/-- Every running stripe aborts; on the conductor the generator begins a stop. In service-only dark hold the islands that
would do so are stopped (R389). -/
def State.clkFailAction (s : State) : State :=
  if s.clk.svcOnly then s else (s.stopNow 1).abortAll (some Ev.CLK_FAIL)

end Sys2Proof.Machine
end

