-- ==== Sys2Proof/Machine/Settle.lean ====
section
/-!
DEFINITION. Sys2Proof/Machine/Settle.lean: the class actions of the occurrences of one command (R43, R44, R46), taken in the
order of the occurrences once the command's own effect is complete (log entry 17).
-/

namespace Sys2Proof.Machine

/-- The action that the class of an occurrence asks for (R44); a Non-maskable event has the action of its chapter. -/
def State.takeAction (s : State) (o : Occ) : State :=
  if o.ev = Ev.CLK_FAIL then s.clkFailAction
  else if o.ev = Ev.CLK_RC_LOST then s.rcLostAction
  else if o.ev = Ev.CLK_BROWNOUT then s.brownoutAction
  else if o.cls = 2 then
    match o.ctx with
    | some c => s.abortCtx c (some o.ev)
    | none => s.abortAll (some o.ev)
  else if o.cls = 3 then (s.enterHold 1 o.ev.page).abortAll (some o.ev)
  else s

/-- Take the actions that are due; those of the occurrences they cause follow. Once none is due the records that have been
made are written (R303), then those of a top-up that has left EXPOSING become TOPPED (R305), which may raise more. -/
def State.takeActions (s : State) : Nat → State
  | 0 => s
  | n + 1 =>
    match s.due with
    | [] =>
      if !s.ledger.fresh.isEmpty then s.writeFresh.takeActions n
      else if !s.ledger.topping.isEmpty then s.topAll.takeActions n
      else s
    | os => (os.foldl (fun (a : State) o => a.takeAction o) { s with due := [], recent := s.recent ++ os }).takeActions n

/-- Blocks that stayed ungated for a stripe are gated once no context is PRIMING or EXPOSING (R393). -/
def State.gateAgain (s : State) : State := if s.running then s else s.updClk fun c => { c with ungated := 0 }

/-- The occurrences of earlier commands stay only where they are of the same cycle (log entry 1). -/
def State.openCycle (s : State) : State := { s with recent := if s.cyc.same then s.recent else [] }

/-- What a command has written of the logs and lookups of region 5 takes the errors of the bytes with it (R354). -/
def State.logsWritten (s : State) : State := if s.cyc.seen = s.seenNow then s else s.rewrites 5

/-- The command has ended: what the next one may share its cycle with (log entry 1), and what region 5 holds. -/
def State.closeCycle (s : State) : State :=
  let s1 := s.logsWritten
  { s1 with cyc := ⟨false, (if s.cyc.same then s.cyc.incs else []) ++ s.cyc.incsNow, [], s.seenNow⟩, due := [] }

/-- The end of a command: BAR2 requests and DMA data that waited for DRAM (R394), requests of the host interface that wait
(log entry 50), class actions (R44), blocks that stayed ungated for a stripe that has ended (R393), and the perturbations of
a gated test block (R403). -/
def State.settle (s : State) : State :=
  (s.bar2Flush.dmaFlush.issueHeld.openCycle.takeActions 16).gateAgain.testGate.closeCycle

end Sys2Proof.Machine
end

