-- ==== Sys2Proof/WellFormed.lean ====
section
/-!
DEFINITION. Sys2Proof/WellFormed.lean: which operands a link, a sensor or a measurement can deliver with a command; one
with others never arrives, and does nothing (log entry 100). Every other check of a command (a length, a width, an alignment,
a range that the spec names) is the device's own and belongs to its meaning.
-/

namespace Sys2Proof

/-- There are 48 engines (R115). -/
def engineOk (eng : BitVec 6) : Bool := decide (eng.toNat < 48)

/-- There are 86 lane buckets (R212). -/
def BucketSel.ok : BucketSel → Bool
  | .lane l => decide (l.toNat < 86)
  | _ => true

/-- The byte lies in the macro groups `lo` to `hi` (R352). -/
def SramHit.inGroups (h : SramHit) (lo hi : Nat) : Bool := decide (lo ≤ h.group.toNat ∧ h.group.toNat ≤ hi)

/-- The byte is one of region 4 (R352). -/
def TabHit.ok (h : TabHit) : Bool := h.hit.inGroups 88 89

/-- The byte is one that a register read can meet: an almanac's (R175) or one of region 5 (R359). -/
def TabHit.readable (h : TabHit) : Bool := h.hit.inGroups 88 91

/-- The byte is one of region 6, of a logical lane (R190, R352). -/
def FrameHit.ok (h : FrameHit) : Bool := h.hit.inGroups 92 93 && decide (h.lane.toNat < 86)

/-- The TYPE codes of R285. -/
def rxTypes : List Byte := [0x11, 0x12, 0x20, 0x21, 0x30, 0x31, 0x40, 0x41]

/-- The message has the TYPE of its row, or one that R285 does not name (R293). -/
def Rx.fits (rx : Rx) (type : Byte) : Bool := rx.body.headD 0 == type || !rxTypes.contains (rx.body.headD 0)

/-- The pages that have a counter-clear register. -/
def cntClrPages : List Nat := [0, 1, 2, 3, 5, 9, 10, 11, 12, 13, 15, 16, 17, 18, 19, 20]

/-- A command as it can arrive. -/
def Instr.wf : Instr → Bool
  | .registerWrite _ _ _ => true
  | .spiRead _ _ hits => hits.all TabHit.readable
  | .spiWrite _ _ _ => true
  | .evtStatClear _ _ _ => true
  | .evtForce _ _ _ => true
  | .evtClassWrite _ _ _ => true
  | .evtEnWrite _ _ _ => true
  | .pageCtlWrite _ _ _ => true
  | .pageLock _ _ _ => true
  | .cntClr _ page _ => cntClrPages.contains page.toNat
  | .lbCfgWrite _ b _ => b.ok
  | .lbLeak b => b.ok
  | .nvProgramDone _ => true
  | .propose _ => true
  | .tpValidateDone => true
  | .confirm _ => true
  | .tpApply => true
  | .withdraw _ => true
  | .reject _ => true
  | .timeout => true
  | .geomPitchWrite _ _ => true
  | .load _ _ => true
  | .loadDone => true
  | .start _ _ => true
  | .cancel _ _ => true
  | .abort _ _ => true
  | .release _ _ => true
  | .resume _ _ => true
  | .primingEntry => true
  | .jobLevel => true
  | .exposingEntry hits => hits.all TabHit.ok
  | .stripeDone => true
  | .densBandParse hits _ _ => hits.all fun h => h.inGroups 68 71 || h.inGroups 72 87
  | .rasterParse _ hits => hits.all fun h => h.inGroups 88 89
  | .decodeResume eng _ => engineOk eng
  | .bitmapDecodeDone eng _ => engineOk eng
  | .jobFaultInfoClear _ _ => true
  | .bandEnqueue hits _ => hits.all fun h => h.inGroups 68 71
  | .pieceDispatch _ => true
  | .pieceDone eng _ => engineOk eng
  | .tileLate => true
  | .workspaceFault eng hit => engineOk eng && (hit.inGroups 60 67 || hit.inGroups 72 87)
  | .rastEngEnWrite _ _ _ => true
  | .rastCtlWrite _ _ => true
  | .rastProbeCmd _ _ => true
  | .rastProbeDone hits => hits.all fun h => h.inGroups 88 89
  | .doseFormation hits _ => hits.all fun h => h.inGroups 68 71 || h.inGroups 88 89
  | .tileHandoff => true
  | .corrCtlWrite _ _ => true
  | .corrProbeCmd _ _ => true
  | .corrProbeDone hits _ => hits.all fun h => h.inGroups 68 71 || h.inGroups 88 89
  | .sigCompare _ => true
  | .sigMisInfoClear _ _ => true
  | .sigCapCmd _ _ => true
  | .transitFire hits => hits.all TabHit.ok
  | .markerSend frames => frames.all FrameHit.ok
  | .statusRecord _ _ _ => true
  | .statusTimeout _ => true
  | .auxDown _ => true
  | .kill => true
  | .commandResend => true
  | .blnRemapCmd _ _ => true
  | .laneWakeDone phys => decide (phys.toNat < 96)
  | .blnCalCmd _ _ => true
  | .calDone _ taps resid eye => taps.length == 96 && resid.length == 96 && eye.length == 96
  | .blnLaneTapWrite _ _ => true
  | .setFail _ => true
  | .clearFail _ => true
  | .blnTestCtlWrite _ _ => true
  | .inj _ => true
  | .blnCtlWrite _ _ => true
  | .blnAuxWrite _ _ => true
  | .metSample _ _ _ _ => true
  | .sampleTimeout _ => true
  | .stripeArmed hits frames => hits.all TabHit.ok && frames.all FrameHit.ok
  | .startLate => true
  | .usePrimary _ => true
  | .trkSnap _ => true
  | .trkSnapDone => true
  | .trkConfigWrite _ _ _ => true
  | .move _ _ => true
  | .stop _ => true
  | .clearPend _ => true
  | .setPos _ _ => true
  | .motSnap _ _ => true
  | .motSnapDone => true
  | .tick => true
  | .motProfileWrite _ _ _ => true
  | .motCfgWrite _ _ => true
  | .camWrite _ _ _ _ => true
  | .swap _ => true
  | .deflectionIdle => true
  | .planCycle hits _ => hits.all fun h => h.inGroups 68 71
  | .report _ rx => rx.fits 0x30
  | .reportTimeout => true
  | .plan rx => rx.fits 0x31
  | .join _ rx => rx.fits 0x11
  | .joinSend => true
  | .grant rx => rx.fits 0x12
  | .timeReqSend => true
  | .timeReq _ rx _ => rx.fits 0x20
  | .timeRsp rx => rx.fits 0x21
  | .setpt rx => rx.fits 0x40
  | .halt rx => rx.fits 0x41
  | .linkDegraded lane => decide (lane.toNat < 6)
  | .cstLoss _ _ => true
  | .cstOrphan _ => true
  | .govConfigWrite _ reg _ => reg != 3
  | .cstCfgWrite _ _ => true
  | .rejoin _ => true
  | .cstSnap _ => true
  | .cstSnapDone => true
  | .generate _ _ _ => true
  | .generateDone => true
  | .adopt _ _ _ => true
  | .adoptDone => true
  | .topupHeld _ => true
  | .discardHeld _ => true
  | .ldgTailWrite _ _ => true
  | .ldgAreaWrite _ reg _ => reg != 3
  | .configRequest _ _ _ _ => true
  | .bar2Write off bytes => decide (1 ≤ bytes.length ∧ off.toNat + bytes.length ≤ 2 ^ 32)
  | .bar2Read off len => decide (1 ≤ len ∧ off.toNat + len ≤ 2 ^ 32)
  | .msixAccess _ off dws => off.toNat % 4 == 0 && decide (1 ≤ dws.length ∧ off.toNat + 4 * dws.length ≤ 2 ^ 14)
  | .unsupportedRequest _ hdr => hdr.length == 4
  | .poisonRx hdr => hdr.length == 4
  | .flr => true
  | .linkDown => true
  | .linkUp speed width => decide (1 ≤ speed.toNat ∧ speed.toNat ≤ 5) && [1, 2, 4, 8, 16].contains width.toNat
  | .d3hotEntry => true
  | .d0Return => true
  | .hostWinWrite _ _ => true
  | .ringCfgWrite _ _ reg _ => reg != 3
  | .ringStart _ _ _ => true
  | .ringStop _ _ => true
  | .doorbell _ _ => true
  | .descriptorFetch _ _ st words hits => ((st != .ok && st != .ecrc) || words.length == 16) && hits.all fun h => h.inGroups 90 91
  | .parkReread _ _ _ _ => true
  | .dmaBurst _ => true
  | .descriptorComplete _ => true
  | .waitTimeout _ => true
  | .ringiEvtWrite _ _ _ => true
  | .dmaErrInfoClear _ _ => true
  | .hostCplTmo _ _ _ => true
  | .sramZeroed => true
  | .zreadClear _ _ => true
  | .memRemapCmd _ _ => true
  | .memRemapDone => true
  | .dramRetCmd _ _ => true
  | .retireDone => true
  | .arbitration _ _ _ found => found.all fun l => l.hit.inGroups 90 91
  | .arbWrite _ reg _ => decide (reg.toNat ≤ 16)
  | .dramReady => true
  | .clkFail _ _ => true
  | .srcFail _ _ _ => true
  | .rcRestart => true
  | .rcLost => true
  | .srcUp _ _ _ => true
  | .sourceMove => true
  | .sourceChanged => true
  | .loopRelock => true
  | .islandSwitchDone _ => true
  | .selectXtal _ => true
  | .selectSys _ => true
  | .selectRc _ => true
  | .service _ => true
  | .holdExit _ => true
  | .svcCold _ => true
  | .svcWarm _ => true
  | .clkPwrWrite _ _ => true
  | .clkGateWrite _ _ _ => true
  | .clkCfgWrite _ _ _ => true
  | .powerOn => true
  | .perstN _ => true
  | .brownout => true
  | .tempSense _ => true
  | .xtalTimeout => true
  | .ready => true
  | .darkNFall => true
  | .darkNRise => true
  | .testCtlWrite _ _ => true
  | .testXingCfgWrite _ _ => true
  | .testDramDlyWrite _ _ => true
  | .testMetCtlWrite _ _ => true
  | .testMetStepWrite _ _ => true
  | .testLaneCntWrite _ _ => true
  | .testSigWrite _ _ => true
  | .testMonWrite _ _ => true
  | .flipSram _ => true
  | .flipDram _ => true
  | .readDram _ => true
  | .memDone _ => true
  | .jtagTapReset => true
  | .jtagInstruction _ _ => true
  | .almLoadCmd _ _ => true
  | .almLoadDone hits => hits.all fun h => h.inGroups 88 89
  | .registerRead _ _ hits => hits.all TabHit.readable
  | .hostCompletion _ _ _ _ _ => true
  | .vaux33Loss => true
  | .vaux33Return => true
  | .symbolLock lane => decide (lane.toNat < 6)
  | .checkerLock _ _ => true

end Sys2Proof
end

