-- ==== Sys2Proof/Machine/ReadReg.lean ====
section
/-!
DEFINITION. Sys2Proof/Machine/ReadReg.lean: what a read of each register word returns: the headers (R33, R425), the
registers that are functions of other state, and the stored words for the rest (the register table of each chapter).
-/

namespace Sys2Proof.Machine

/-- The entry that a slot of a ring log of `size` entries shows: the newest stands at (WR − 1) mod `size`. -/
def ringSlot {α : Type} (log : List α) (wr sel size : Nat) : Option α := log[(wr + 2 * size - 1 - sel % size) % size]?

/-! ### Headers (R33, R37, R45) -/

/-- PAGE_STAT. -/
def State.pageStat (s : State) (p : Nat) : Word :=
  pack [(4, b2n (s.mapAllows .spi p)), (3, b2n (s.mapAllows .pcie p)), (2, b2n (s.hdr p).lock),
    (1, b2n (s.blockGated p)), (0, b2n (s.summary p))]

/-- A header word of an assigned page. -/
def State.headerReg (s : State) (p o : Nat) : Word :=
  let h := s.hdr p
  match o with
  | 0x00 => pack [(16, pageType p), (0, p)]
  | 0x04 => 0x00010001
  | 0x08 => pack [(1, b2n h.alertEn), (0, b2n h.irqEn)]
  | 0x0C => s.pageStat p
  | 0x10 => h.stat
  | 0x14 => h.en
  | 0x1C => pack [(16, h.sel), (0, h.classOf p h.sel)]
  | 0x20 => pack [(0, b2n h.lock)]
  | _ => 0

/-! ### Computed registers of the pages -/

/-- CTRL (R64). -/
def State.readCtrl (s : State) (off : Nat) : Word :=
  let i := s.rf Reg.CTRL_NV_SEL 0 10
  let e := ringSlot s.evlog s.logWr (s.rf Reg.CTRL_LOG_SEL 0 8) 256
  if off = Reg.CTRL_DEVID_LO then Config.devIdLo
  else if off = Reg.CTRL_DEVID_HI then Config.devIdHi
  else if off = Reg.CTRL_NV_INFO then
    pack [(31, b2n (s.nvWorn i)), (30, b2n (decide (95000 ≤ s.nvc i))), (0, nvOff i)]
  else if off = Reg.CTRL_NV_COUNT then w32 (s.nvc i % 2 ^ 17)
  else if off = Reg.CTRL_LOG_WR then w32 s.logWr
  else if off = Reg.CTRL_LOG_E0 then e.elim 0 fun e => w32 e.time
  else if off = Reg.CTRL_LOG_E1 then e.elim 0 fun e => w32 (e.time / 2 ^ 32)
  else if off = Reg.CTRL_LOG_E2 then
    e.elim 0 fun e => pack [(16, e.ev.page), (8, e.ev.bit), (4, e.cls), (3, b2n e.forced)]
  else if off = Reg.CTRL_LOG_E3 then
    e.elim 0 fun e => pack [(16, e.detail), (7, b2n e.ctx.isSome), (0, e.ctx.getD 0)]
  else if off = Reg.TP_TIME_LEFT then w32 (s.tpLeft % 1024)
  else s.reg off

/-- CLK_STAT (R400). -/
def State.clkStat (s : State) : Word :=
  let c := s.clk
  pack [(31, b2n c.ready), (30, b2n s.writeOk), (29, b2n c.coast), (28, b2n c.hold), (27, b2n c.svcOnly), (26, b2n c.rcOk),
    (25, b2n c.xtalOk), (24, b2n c.sysOk), (23, b2n c.autoHeld), (20, c.mode), (18, s.rf Reg.CLK_PWR 0 2), (0, c.active)]

/-- CLK (R400). -/
def State.readClk (s : State) (off : Nat) : Word :=
  if off = Reg.CLK_STAT then s.clkStat
  else if off = Reg.CLK_HOLD then setBit (s.reg off) 31 s.clk.hold
  else s.reg off

/-- HOST_SUMw: the summaries of pages 32w to 32w + 31 (R330). -/
def State.hostSum (s : State) (w : Nat) : Word :=
  pack ((List.range 32).map fun j => (j, b2n (decide (32 * w + j < pageCount) && s.summary (32 * w + j))))

/-- HOST (R348). -/
def State.readHost (s : State) (off : Nat) : Word :=
  if off = Reg.HOST_LINK then pack [(31, b2n s.link.up), (20, s.link.speed), (0, s.link.width)]
  else if off = Reg.HOST_ID then 0x2620#16 ++ Config.vendorId
  else if Reg.HOST_SUM0 ≤ off ∧ off < Reg.HOST_SUM0 + 512 then s.hostSum ((off - Reg.HOST_SUM0) / 4)
  else s.reg off

/-- Rings in a state. -/
def State.ringsIn (s : State) (st : Nat) : Nat := (s.rings.filter fun r => r.2.st == st).length

/-- DMA (R350). -/
def State.readDma (s : State) (off : Nat) : Word :=
  if off = Reg.DMA_STAT then
    pack [(24, s.ringsIn 4), (16, s.ringsIn 3), (8, s.ringsIn 2), (0, s.ringsIn 5)]
  else if Reg.RING_BASE_LO ≤ off then
    let r := s.ring ((off - Reg.RING_BASE_LO) / 32 % 64)
    match off % 32 with
    | 0x14 => pack [(29, r.st), (28, b2n r.dbPend), (0, r.slot)]
    | 0x18 => w32 r.evt
    | 0x1C => pack [(24, r.errCode), (0, r.errSlot)]
    | _ => s.reg off
  else s.reg off

/-- MEM (R375). -/
def State.readMem (s : State) (off : Nat) : Word :=
  let g := s.rf Reg.MEM_GROUP_SEL 0 7
  let e := ringSlot s.sram.log s.sram.logWr (s.rf Reg.MEM_LOG_SEL 0 8) 256
  if off = Reg.MEM_STAT then pack [(31, b2n s.sram.zeroed)]
  else if off = Reg.MEM_GROUP_INFO then
    if g < 96 then pack [(8, groupRegion g), (0, sget 0 s.sram.used g)] else 0
  else if off = Reg.MEM_LOG_WR then w32 s.sram.logWr
  else if off = Reg.MEM_LOG_E0 then e.elim 0 fun e => w32 e.time
  else if off = Reg.MEM_LOG_E1 then
    e.elim 0 fun e => pack [(31, b2n e.dram), (28, e.kind), (24, e.source), (0, e.detail)]
  else if off = Reg.MEM_LOG_E2 then e.elim 0 fun e => w32 e.loc
  else if Reg.MEM_LB_CFG < off ∧ off < Reg.MEM_LB_CFG + 64 ∧ off % 8 = 4 then
    (s.bucket (.region (BitVec.ofNat 3 ((off - Reg.MEM_LB_CFG) / 8)))).stat
  else s.reg off

/-- The offset of DRAM_LB_STAT. -/
def dramLbStat : Nat := Reg.DRAM_LB_CFG + 4

/-- DRAM (R377). -/
def State.readDram (s : State) (off : Nat) : Word :=
  let e := sget 0 s.dram.retSpare (s.rf Reg.DRAM_RET_SEL 0 12)
  if off = Reg.DRAM_STAT then pack [(31, b2n s.dram.zread), (30, b2n s.dram.ready), (0, s.dram.poisonCount)]
  else if off = dramLbStat then (s.bucket .dram).stat
  else if off = Reg.DRAM_RET_USED then w32 s.dram.retUsed
  else if off = Reg.DRAM_RET_ENTRY then if e = 0 then 0 else pack [(31, 1), (0, e - 1)]
  else if Reg.ARB_STAT ≤ off ∧ off < Reg.ARB_STAT + 64 then
    let i := (off - Reg.ARB_STAT) / 4
    let x := s.arb.input i
    pack [(31, b2n x.req), (30, b2n (s.arb.owner == i + 1)), (16, x.turn), (0, x.grants % 65536)]
  else if off = Reg.ARB_GRANTS then w32 s.arb.number
  else s.reg off

/-- The perturbations that are armed, as TEST_STAT.ARMED orders them: crossings, DRAM delay, metrology, lanes, forced
signature, monitor (R403, R421). -/
def State.armedBits (s : State) : Nat :=
  if !s.testEn then 0
  else
    b2n (s.test.xing.any fun p => xingActs p.2) + 2 * b2n (!s.test.dly.isEmpty) +
      4 * b2n (s.rf Reg.TEST_MET_CTL 0 24 != 0 || s.reg Reg.TEST_MET_STEP != 0) + 8 * b2n (s.reg Reg.TEST_LANE_CNT != 0) +
      16 * b2n s.test.sigArmed + 32 * b2n (s.reg Reg.TEST_MON != 0)

/-- TEST (R421). TEST_XING_CFG and TEST_DRAM_DLY show the crossing and the input that are selected. -/
def State.readTest (s : State) (off : Nat) : Word :=
  if off = Reg.TEST_STAT then pack [(8, b2n s.testUnsafe), (0, s.armedBits)]
  else if off = Reg.TEST_XING_CFG then sget 0 s.test.xing (s.rf Reg.TEST_XING_SEL 0 3)
  else if off = Reg.TEST_DRAM_DLY then w32 (sget 0 s.test.dly (s.rf Reg.TEST_DRAM_SEL 0 4))
  else s.reg off

/-- GEOM (R28, R29). -/
def State.readGeom (s : State) (off : Nat) : Word :=
  if off = Reg.GEOM_VMAX then w32 (4 * s.rf Reg.GEOM_PITCH 0 11) else s.reg off

/-- JOB_QUEUE (R98). -/
def State.jobQueue (s : State) : Word :=
  pack [(31, b2n s.heldQ), (23, b2n s.exposing.isSome), (16, s.exposing.getD 0), (15, b2n s.priming.isSome),
    (8, s.priming.getD 0), (0, s.startQ.length)]

/-- JOB (R98). -/
def State.readJob (s : State) (off : Nat) : Word :=
  let x := s.ctx (s.rf Reg.JOB_CTX_SEL 0 7)
  if off = Reg.JOB_QUEUE then s.jobQueue
  else if Reg.JOB_STATE0 ≤ off ∧ off < Reg.JOB_STATE0 + 64 then
    let i := (off - Reg.JOB_STATE0) / 4
    pack ((List.range 8).map fun j => (4 * j, (s.ctx (8 * i + j)).st))
  else if off = Reg.JOB_CTX_TAG then w32 x.d.jobTag
  else if off = Reg.JOB_CTX_SIZE then w32 x.d.bands
  else if off = Reg.JOB_CTX_DENS then w32 x.prep.parsed
  else if off = Reg.JOB_CTX_RAST then w32 x.prep.band
  else s.reg off

/-- The bands of pieces outstanding: waiting in the queue or held by an engine (R123). DESIGN CHOICE (log entry 103): an
engine whose piece is complete and that holds its buffer for dose formation (R117) still counts, here and in RAST_STAT.BUSY. -/
def State.pieceBands (s : State) : List Nat :=
  ((s.form.queue.map Piece.tile) ++ s.form.engines.filterMap fun e => e.2.piece.map Piece.tile).map (· / 32)

/-- The least of a list, if it has one. -/
def leastOf : List Nat → Option Nat
  | [] => none
  | x :: xs => some (xs.foldl min x)

/-- RAST (R123). -/
def State.readRast (s : State) (off : Nat) : Word :=
  if off = Reg.RAST_STAT then
    pack [(16, min s.form.queue.length 65535), (8, s.enabledCount),
      (0, (s.form.engines.filter fun e => e.2.piece.isSome).length)]
  else if off = Reg.RAST_BAND then (leastOf s.pieceBands).elim 0 fun b => pack [(31, 1), (0, b)]
  else s.reg off

/-- The lowest band of the EXPOSING context with a tile not yet dose-formed (R142). DESIGN CHOICE (log entry 122): a tile sent
back for regeneration counts again, and an abandoned one counts as dose-formed. -/
def State.nextFormed (s : State) (e : Expo) : Nat :=
  let x := s.ctx e.ctx
  let bands := (List.range x.d.bands).map fun i => x.band0 + i
  (bands.find? fun b =>
    decide (e.enqueued ≤ b) || s.form.tiles.any fun t => t.1 / 32 == b && decide (t.2.stage < 3)).getD x.bandEnd

/-- CORR (R142). -/
def State.readCorr (s : State) (off : Nat) : Word :=
  if off = Reg.CORR_EXP then
    s.expo.elim 0 fun e => pack [(31, 1), (15, (s.ctx e.ctx).prep.parsed % 2 ^ 15), (0, s.nextFormed e % 2 ^ 15)]
  else if off = Reg.CORR_PRI then
    s.priming.elim 0 fun c => pack [(31, 1), (15, (s.ctx c).prep.parsed % 2 ^ 15)]
  else s.reg off

/-- The offset of SIG_LB_STAT. -/
def sigLbStat : Nat := Reg.SIG_LB_CFG + 4

/-- SIG (R160). -/
def State.readSig (s : State) (off : Nat) : Word := if off = sigLbStat then (s.bucket .sig).stat else s.reg off

/-- PASS (R186). -/
def State.readPass (s : State) (off : Nat) : Word :=
  if off = Reg.PASS_WIN then
    s.expo.elim 0 fun e => pack [(31, 1), (15, (e.admitted - 1) % 2 ^ 15), (0, e.low % 2 ^ 15)]
  else if off = Reg.PASS_FLASH then s.expo.elim 0 fun e => w32 ((s.ctx e.ctx).span % 65536)
  else s.reg off

/-- Beams of a state in the active almanac. -/
def State.activeCount (s : State) (st : Nat) : Nat := (s.alm.active.filter fun b => b.2 == st).length

/-- ALM_QUERY (R188). -/
def State.almQuery (s : State) : Word :=
  let b := s.rf Reg.ALM_QUERY_SEL 0 18
  let staged := if s.alm.bad.any fun p => p.1 == b / 4 then 2 else sget 0 s.alm.staged b
  pack [(5, b2n (s.reviving.contains b)), (4, b2n ((List.range 64).any fun i => s.killBeam i == some b)),
    (2, s.beamState b), (0, staged)]

/-- ALM_KILL_STAT: kills and revives that wait for their acknowledgement (R180, R188). DESIGN CHOICE (log entry 142): WAITING
saturates too. -/
def State.killStat (s : State) : Word :=
  let w := s.bln.cmds.filter fun c => c.op == 2 || c.op == 3
  pack [(31, b2n s.killsWaiting), (16, min w.length 127), (0, min ((w.map BCmd.sends).foldl max 0) 255)]

/-- ALM (R188). -/
def State.readAlm (s : State) (off : Nat) : Word :=
  let e := ringSlot s.alm.log s.alm.logWr (s.rf Reg.ALM_SUS_SEL 0 10) 1024
  if off = Reg.ALM_ACTIVE_TAG then setBit (s.reg off) 31 s.expo.isSome
  else if off = Reg.ALM_DEAD_CNT then w32 (s.activeCount 2 % 2 ^ 18)
  else if off = Reg.ALM_SUSPECT_CNT then w32 (s.activeCount 1 % 2 ^ 18)
  else if off = Reg.ALM_KILLED_CNT then w32 (s.activeCount 3 % 2 ^ 7)
  else if off = Reg.ALM_QUERY then s.almQuery
  else if off = Reg.ALM_KILL_STAT then s.killStat
  else if off = Reg.ALM_SUS_WR then w32 s.alm.logWr
  else if off = Reg.ALM_SUS_E0 then e.elim 0 fun e => pack [(31, b2n e.aborted), (24, e.ctx), (0, e.beam)]
  else if off = Reg.ALM_SUS_E1 then e.elim 0 fun e => w32 e.fires
  else if off = Reg.ALM_SUS_E2 then e.elim 0 fun e => w32 e.first
  else s.reg off

/-- The offset of BLN_LB_STAT. -/
def blnLbStat : Nat := Reg.BLN_LB_CFG + 4

/-- The lane that the registers per PHYS show. -/
def State.selPhys (s : State) : Nat := s.rf Reg.BLN_LANE_SEL 0 7

/-- BLN_LANE_STAT (R223). -/
def State.laneStat (s : State) : Word :=
  let p := s.selPhys
  let x := s.plane p
  if 96 ≤ p then 0
  else
    pack [(30, x.pwr), (29, b2n x.failed), (28, b2n (s.mapped p)), (27, b2n x.range), (0, (s.logicalOf p).getD 0)]

/-- BLN (R223). -/
def State.readBln (s : State) (off : Nat) : Word :=
  let p := s.selPhys
  let x := s.plane p
  let l := s.rf Reg.BLN_LANE_SEL 16 7
  if off = Reg.BLN_AUX then setFld (s.reg off) 4 4 s.bln.down
  else if off = Reg.BLN_LANE_STAT then s.laneStat
  else if off = Reg.BLN_LANE_TAP then if p < 96 then w32 (x.tap % 1024) else 0
  else if off = Reg.BLN_LANE_EYE then if p < 96 then pack [(16, x.eye), (0, x.resid)] else 0
  else if off = blnLbStat then if l < 86 then (s.bucket (.lane (BitVec.ofNat 7 l))).stat else 0
  else if Reg.BLN_MAP0 ≤ off ∧ off < Reg.BLN_MAP0 + 88 then
    let w := (off - Reg.BLN_MAP0) / 4
    pack ((List.range 4).map fun j => (8 * j, if 4 * w + j < 86 then s.mapOf (4 * w + j) else 0))
  else if Reg.BLN_FAIL0 ≤ off ∧ off < Reg.BLN_FAIL0 + 12 then
    let w := (off - Reg.BLN_FAIL0) / 4
    pack ((List.range 32).map fun i => (i, b2n (s.plane (32 * w + i)).failed))
  else if off = Reg.BLN_TEST_ERR then setBit (s.reg off) 31 s.bln.lock
  else if off = Reg.BLN_CMD_STAT then pack [(16, s.bln.nextSeq), (0, s.bln.ack)]
  else s.reg off

/-- TRK (R247). -/
def State.readTrk (s : State) (off : Nat) : Word :=
  let l := s.loop
  if off = Reg.TRK_STAT then
    pack [(31, b2n l.locked), (30, b2n s.armed), (29, b2n l.sec), (28, b2n (s.laneUp false)), (27, b2n (s.laneUp true)),
      (26, b2n l.overspeed), (0, l.cnt)]
  else if off = Reg.TRK_TRANSIT then w32 s.lastFired
  else s.reg off

/-- MOT (R270). MOT_VEL, MOT_ACC, MOT_DEC and MOT_JERK are stored by their write, which acts at the next tick (R253). -/
def State.readMot (s : State) (off : Nat) : Word :=
  let g := s.gen
  if off = Reg.MOT_STAT then
    pack [(31, b2n s.conductor), (30, b2n g.pend.isSome), (29, b2n g.axis), (28, b2n g.clamped), (27, b2n g.held),
      (26, b2n g.gov), (25, b2n g.stale), (0, g.st)]
  else if off = Reg.MOT_PEND_LO then g.pend.elim 0 fun t => w32i t.2
  else if off = Reg.MOT_PEND_HI then
    g.pend.elim 0 fun t => pack [(16, b2n t.1), (0, toBits 16 (t.2 / 2 ^ 32))]
  else s.reg off

/-- The value of a segment that a register shows: BASE + SEG in a list that starts at segment `first`. -/
def State.segShown (s : State) (first : Int) (l : List Nat) : Word :=
  let i := s.gov.base + (s.rf Reg.GOV_SEG_SEL 0 7 : Int) - first
  w32 (if 0 ≤ i then l.getD i.toNat noLimit else noLimit)

/-- GOV (R294). -/
def State.readGov (s : State) (off : Nat) : Word :=
  let b := s.rf Reg.GOV_BAND_SEL 0 15
  if off = Reg.GOV_STAT then
    pack [(31, b2n s.expo.isSome), (30, b2n (s.expo.any Expo.startHold)), (29, b2n (s.conductor && s.exposingAnywhere)),
      (0, s.gov.ceil)]
  else if off = Reg.GOV_BASE then w32i s.gov.base
  else if off = Reg.GOV_SEG_OWN then s.segShown s.gov.ownBase s.gov.own
  else if off = Reg.GOV_SEG_MIN then s.segShown s.gov.redBase s.gov.red
  else if off = Reg.GOV_BAND_PRED then w32 (min (sget 0 s.gov.pred b) (2 ^ 32 - 1))
  else if off = Reg.GOV_BAND_VEL then
    s.expo.elim 0 fun e =>
      let x := s.ctx e.ctx
      pack [(31, b2n (x.costed b)), (0, sget s.gov.vel0 s.gov.vels b)]
  else s.reg off

/-- CST (R296). -/
def State.readCst (s : State) (off : Nat) : Word :=
  let c := s.cst
  if off = Reg.CST_STAT then
    pack [(31, b2n (c.joined || s.role != 2)), (28, b2n (s.portUsed 0 && s.portUp 0)),
      (29, b2n (s.portUsed 1 && s.portUp 1)), (30, b2n (s.portUsed 2 && s.portUp 2)), (22, c.locks), (18, c.depth), (0, c.id)]
  else if off = Reg.CST_MEMBERS then w32 s.memberCount
  else s.reg off

/-- LDG (R321). -/
def State.readLdg (s : State) (off : Nat) : Word :=
  let c := s.rf Reg.LDG_CTX_SEL 0 7
  let x := (s.ctx c).side
  let count (f : Rec → Bool) : Word :=
    w32 (min (s.ledger.recs.filter fun r => r.ctx == c && f r).length (2 ^ 24 - 1))
  if off = Reg.LDG_HEAD then w32 s.ledger.head
  else if off = Reg.LDG_FREE then w32 s.ldgFree
  else if off = Reg.LDG_CTX_STAT then
    pack [(31, b2n x.overflow), (30, b2n x.topup), (29, b2n x.linkV), (24, x.genMax), (16, x.link)]
  else if off = Reg.LDG_CTX_OPEN then count fun r => r.st == 1 || r.st == 3
  else if off = Reg.LDG_CTX_HELD then count fun r => r.st == 2
  else s.reg off

/-- A block register word of a page. -/
def State.blockReg (s : State) (p off : Nat) : Word :=
  match nvIdx off with
  | some i => s.nvw i
  | none =>
    match p with
    | 0 => s.readCtrl off
    | 1 => s.readClk off
    | 2 => s.readHost off
    | 3 => s.readDma off
    | 4 => s.readMem off
    | 5 => s.readDram off
    | 6 => s.readTest off
    | 8 => s.readGeom off
    | 9 => s.readJob off
    | 10 => s.readRast off
    | 11 => s.readCorr off
    | 12 => s.readSig off
    | 13 => s.readPass off
    | 14 => s.readAlm off
    | 15 => s.readBln off
    | 16 => s.readTrk off
    | 17 => s.readMot off
    | 18 => s.readGov off
    | 19 => s.readCst off
    | 20 => s.readLdg off
    | _ => 0

/-- The word at a BAR0 offset as both parties read it: an unmapped page reads 0 (R33). -/
def State.readWord (s : State) (off : Nat) : Word :=
  let p := off / 0x1000
  if pageCount ≤ p then 0 else if off % 0x1000 < 0x40 then s.headerReg p (off % 0x1000) else s.blockReg p off

/-- The words that show an entry of the event, the memory or the suspect log. -/
def logWord (off : Nat) : Bool :=
  decide (Reg.CTRL_LOG_E0 ≤ off ∧ off ≤ Reg.CTRL_LOG_E3) || decide (Reg.MEM_LOG_E0 ≤ off ∧ off ≤ Reg.MEM_LOG_E2) ||
    decide (Reg.ALM_SUS_E0 ≤ off ∧ off ≤ Reg.ALM_SUS_E2)

/-- A read of a word that meets the stored bytes `hits`: every word of a log entry with an uncorrectable byte reads 0
(R359); ALM_QUERY meets the staged byte of its beam (R175). -/
def State.readMeeting (s : State) (off : Nat) (hits : List TabHit) : Word × State :=
  if logWord off then
    let h := s.tabHits (hits.filter fun b => b.hit.inGroups 90 91)
    (if h.1.isEmpty then s.readWord off else 0, h.2)
  else if off = Reg.ALM_QUERY then
    let j := s.rf Reg.ALM_QUERY_SEL 0 18 / 4
    let h := s.stagedBad (fun k => k == j) (hits.filter fun b => b.hit.inGroups 88 89 && b.alm == some (BitVec.ofNat 16 j))
    (h.2.readWord off, h.2)
  else (s.readWord off, s)

/-- A read under R35: the value returned, and the log entry or count it leaves; `hits` are the stored bytes with errors that
it meets. -/
def State.readAccess (s : State) (a : Acc) (off : Nat) (hits : List TabHit) : Word × State :=
  let p := off / 0x1000
  if !s.reaches a.party p then (0, s)
  else if !a.single then (0, s.logAcc a.party 0 (off + a.low.toNat))
  else if a.low ≠ 0 then (0, s.logAcc a.party 1 (off + a.low.toNat))
  else if pageCount ≤ p then (0, s)
  else if 0x40 ≤ off % 0x1000 && s.gated p then (0, s.bump Reg.CTRL_GATED_CNT)
  else s.readMeeting off hits

end Sys2Proof.Machine
end

