-- ==== Sys2Proof/Machine/RegWrite.lean ====
section
/-!
DEFINITION. Sys2Proof/Machine/RegWrite.lean: what an accepted write does at each register offset, so that REGISTER_WRITE and
SPI_WRITE reach every register, and what a command register does when its write loses a coincidence (R428).
-/

namespace Sys2Proof.Machine

/-- The header registers of a page (R33). -/
def headerWrite (a : Acc) (p o : Nat) (v : Word) (s : State) : State :=
  match o with
  | 0x08 => pageCtlAct p v s
  | 0x10 => evtStatAct a.tie p v s
  | 0x14 => evtEnAct p v s
  | 0x18 => evtForceAct a.party a.tie p v s
  | 0x1C => evtClassAct a.party p v s
  | 0x20 => pageLockAct p v s
  | _ => s

/-- CTRL (R64). -/
def writeCtrl (a : Acc) (off : Nat) (v : Word) (s : State) : State :=
  if off = Reg.TP_CMD + bankOf a.party then tpTiedAct a.party a.tie (fld v 0 3) s else s.writeRw off v

/-- CLK (R400). -/
def writeClk (party : Party) (off : Nat) (v : Word) (s : State) : State :=
  if off = Reg.CLK_CTL then clkCfgAct false v s
  else if off = Reg.CLK_SWITCH then clkCfgAct true v s
  else if off = Reg.CLK_CMD then clkCmdAct (fld v 0 3) s
  else if Reg.CLK_GATE ≤ off ∧ off ≤ Reg.CLK_DEEP_EN then clkGateAct ((off - Reg.CLK_GATE) / 4) v s
  else if off = Reg.CLK_PWR then clkPwrAct v s
  else if off = Reg.CLK_SVC then clkSvcAct party (fld v 0 2) s
  else s

/-- HOST (R348). -/
def writeHost (off : Nat) (v : Word) (s : State) : State := if off = Reg.HOST_WIN then hostWinAct v s else s

/-- DMA (R350). -/
def writeDma (t : Tie) (off : Nat) (v : Word) (s : State) : State :=
  let i := (off - Reg.RING_BASE_LO) / 32
  if off = Reg.DMA_FAIR then dmaFairAct v s
  else if off = Reg.DMA_ERR_INFO then dmaErrInfoAct v s
  else if off < Reg.RING_BASE_LO then s
  else
    match off % 32 with
    | 0x00 => ringCfgAct i 0 v s
    | 0x04 => ringCfgAct i 1 v s
    | 0x08 => ringCfgAct i 2 v s
    | 0x0C => if wbit v 0 then doorbellAct i s else s
    | 0x10 => ringCmdAct i v s
    | 0x18 => ringEvtAct t i v s
    | _ => s

/-- The bucket whose LB_CFG stands at an offset of MEM. -/
def regionOf (off : Nat) : BucketSel := .region (BitVec.ofNat 3 ((off - Reg.MEM_LB_CFG) / 8))

/-- MEM (R375). -/
def writeMem (off : Nat) (v : Word) (s : State) : State :=
  if off = Reg.MEM_REMAP_CMD then remapCmdAct v s
  else if Reg.MEM_LB_CFG ≤ off ∧ off < Reg.MEM_LB_CFG + 64 then
    if off % 8 = 0 then lbCfgAct (regionOf off) v s else s
  else s.writeRw off v

/-- DRAM (R377). -/
def writeDram (off : Nat) (v : Word) (s : State) : State :=
  if off = Reg.DRAM_STAT then zreadClearAct v s
  else if off = Reg.DRAM_LB_CFG then lbCfgAct .dram v s
  else if off = Reg.DRAM_RET_CMD then retireCmdAct v s
  else if off = Reg.ARB_CTL then arbCtlAct v s
  else if Reg.ARB_REQ0 ≤ off ∧ off ≤ Reg.ARB_REQ15 then arbReqAct ((off - Reg.ARB_REQ0) / 4) v s
  else s.writeRw off v

/-- TEST_LANE_CNT, TEST_MET_STEP, TEST_DRAM_SEL, TEST_MEM_ADDR and TEST_MEM_MASK are stored as written (R408, R411, R413). -/
def writeTestBlock (off : Nat) (v : Word) (s : State) : State :=
  if off = Reg.TEST_XING_SEL then xingSelAct v s
  else if off = Reg.TEST_XING_CFG then xingCfgAct v s
  else if off = Reg.TEST_DRAM_DLY then dramDlyAct v s
  else if off = Reg.TEST_MET_CTL then metCtlAct v s
  else if off = Reg.TEST_LANE_CFG then laneCfgAct v s
  else if off = Reg.TEST_SIG then testSigAct v s
  else if off = Reg.TEST_MON then testMonAct v s
  else if off = Reg.TEST_MEM_CMD then testMemAct (fld v 0 2) s
  else s.writeRw off v

/-- TEST (R402, R421). -/
def writeTest (party : Party) (off : Nat) (v : Word) (s : State) : State :=
  if off = Reg.TEST_CTL then testEnAct party v s else testWrite party off (writeTestBlock off v) s

/-- JOB (R98). -/
def writeJob (off : Nat) (v : Word) (s : State) : State :=
  if off = Reg.JOB_CMD then jobCmdAct v s
  else if off = Reg.JOB_FAULT_INFO then jobFaultInfoAct v s
  else s.writeRw off v

/-- RAST (R123). -/
def writeRast (off : Nat) (v : Word) (s : State) : State :=
  if off = Reg.RAST_CTL then rastCtlAct v s
  else if off = Reg.RAST_ENG_EN_LO then engEnAct false v s
  else if off = Reg.RAST_ENG_EN_HI then engEnAct true v s
  else if off = Reg.RAST_PROBE_CMD then rastProbeAct v s
  else s.writeRw off v

/-- CORR (R142). -/
def writeCorr (off : Nat) (v : Word) (s : State) : State :=
  if off = Reg.CORR_CTL then corrCtlAct v s
  else if off = Reg.CORR_PROBE_CMD then corrProbeAct v s
  else s.writeRw off v

/-- SIG_MIS_INFO.VALID, W1C (R160). -/
def sigMisInfoAct (v : Word) (s : State) : State :=
  if wbit v 31 then
    ((((s.setReg Reg.SIG_MIS_INFO 0).setReg Reg.SIG_MIS_CALC_LO 0).setReg Reg.SIG_MIS_CALC_HI 0).setReg Reg.SIG_MIS_EXP_LO
      0).setReg Reg.SIG_MIS_EXP_HI 0
  else s

/-- SIG (R160). -/
def writeSig (off : Nat) (v : Word) (s : State) : State :=
  if off = Reg.SIG_LB_CFG then lbCfgAct .sig v s
  else if off = Reg.SIG_MIS_INFO then sigMisInfoAct v s
  else if off = Reg.SIG_CAP_CMD then sigCapAct v s
  else s.writeRw off v

/-- PASS (R186): PASS_FAULT_INFO.VALID is W1C. -/
def writePass (off : Nat) (v : Word) (s : State) : State :=
  if off = Reg.PASS_FAULT_INFO then
    if wbit v 31 then ((s.setReg Reg.PASS_FAULT_INFO 0).setReg Reg.PASS_FAULT_X 0).setReg Reg.PASS_FAULT_Y 0 else s
  else s.writeRw off v

/-- ALM (R188). -/
def writeAlm (off : Nat) (v : Word) (s : State) : State :=
  if off = Reg.ALM_LOAD_CMD then almLoadCmdAct v s else s.writeRw off v

/-- BLN (R223). -/
def writeBln (off : Nat) (v : Word) (s : State) : State :=
  if off = Reg.BLN_CTL then blnCtlAct v s
  else if off = Reg.BLN_AUX then blnAuxAct v s
  else if off = Reg.BLN_LANE_TAP then laneTapAct v s
  else if off = Reg.BLN_LANE_CMD then laneCmdAct (fld v 0 2) s
  else if off = Reg.BLN_LB_CFG then lbCfgAct (.lane 0) v s
  else if off = Reg.BLN_REMAP_CMD then remapCmdLane v s
  else if off = Reg.BLN_CAL_CMD then calCmdAct v s
  else if off = Reg.BLN_TEST_CTL then testCtlAct v s
  else s.writeRw off v

/-- TRK (R247). -/
def writeTrk (off : Nat) (v : Word) (s : State) : State :=
  if off ≤ Reg.TRK_LOCK then trkConfigAct ((off - Reg.TRK_CFG) / 4) v s
  else if off = Reg.TRK_CMD then trkCmdAct v s
  else s.writeRw off v

/-- MOT (R270). -/
def writeMot (off : Nat) (v : Word) (s : State) : State :=
  if off = Reg.MOT_CFG then motCfgAct v s
  else if off = Reg.MOT_CMD then motCmdAct v s
  else if Reg.MOT_VEL ≤ off ∧ off ≤ Reg.MOT_JERK then profileAct ((off - Reg.MOT_VEL) / 4) v s
  else if off = Reg.CAM_CTL then if wbit v 1 then swapAct s else s
  else if Reg.CAM1_0 ≤ off then camWriteAct true ((off - Reg.CAM1_0) / 4) v s
  else if Reg.CAM0_0 ≤ off then camWriteAct false ((off - Reg.CAM0_0) / 4) v s
  else s.writeRw off v

/-- GOV (R294). -/
def writeGov (off : Nat) (v : Word) (s : State) : State :=
  if off ≤ Reg.GOV_CREEP then govConfigAct ((off - Reg.GOV_CTL) / 4) v s else s.writeRw off v

/-- CST (R296). -/
def writeCst (off : Nat) (v : Word) (s : State) : State :=
  if off = Reg.CST_CFG then cstCfgAct v s else if off = Reg.CST_CMD then cstCmdAct v s else s.writeRw off v

/-- LDG (R321). -/
def writeLdg (off : Nat) (v : Word) (s : State) : State :=
  if off ≤ Reg.LDG_CFG then ldgAreaAct ((off - Reg.LDG_BASE_LO) / 4) v s
  else if off = Reg.LDG_TAIL then ldgTailAct v s
  else if off = Reg.LDG_CMD then ldgCmdAct v s
  else s.writeRw off v

/-- A block register of a page that its table lists. -/
def blockWrite (a : Acc) (p off : Nat) (v : Word) (s : State) : State :=
  match p with
  | 0 => writeCtrl a off v s
  | 1 => writeClk a.party off v s
  | 2 => writeHost off v s
  | 3 => writeDma a.tie off v s
  | 4 => writeMem off v s
  | 5 => writeDram off v s
  | 6 => writeTest a.party off v s
  | 7 => (nvIdx off).elim s fun i => s.nvWrite i v
  | 8 => if off = Reg.GEOM_PITCH then geomPitchAct v s else s
  | 9 => writeJob off v s
  | 10 => writeRast off v s
  | 11 => writeCorr off v s
  | 12 => writeSig off v s
  | 13 => writePass off v s
  | 14 => writeAlm off v s
  | 15 => writeBln off v s
  | 16 => writeTrk off v s
  | 17 => writeMot off v s
  | 18 => writeGov off v s
  | 19 => writeCst off v s
  | 20 => writeLdg off v s
  | _ => s

/-- A register that a block's table lists, with the bits it stores or the command it takes; other offsets are reserved and
a write there changes nothing (R8). -/
def listed (off : Nat) : Bool := (regRow off).isSome

/-- An accepted write of `v` at a BAR0 offset. -/
def regWriteAct (a : Acc) (off : Nat) (v : Word) (s : State) : State :=
  let p := off / 0x1000
  if off % 0x1000 < 0x40 then headerWrite a p (off % 0x1000) v s
  else if ((cntClrOf p).map Prod.fst) = some off then cntClrAct p v s
  else if listed off then blockWrite a p off v s
  else s

/-! ### Writes of both parties in one cycle (R61, R428) -/

/-- The command register of a ring. -/
def isRingCmd (off : Nat) : Bool := off / 0x1000 == 3 && Reg.RING_BASE_LO ≤ off && off % 32 == 0x10

/-- The doorbell of a ring. -/
def isRingDb (off : Nat) : Bool := off / 0x1000 == 3 && Reg.RING_BASE_LO ≤ off && off % 32 == 0x0C

/-- EVT_FORCE of a page. -/
def isForce (off : Nat) : Bool := off % 0x1000 == 0x18

/-- A register with a write-only command field: of coincident writes of both parties to it only the SPI one acts (R428). Beside
it EVT_CLASS and BLN_TEST_CTL have fields of other access. -/
def isCommand (off : Nat) : Bool :=
  isRingCmd off || isRingDb off || off % 0x1000 == 0x18 || off % 0x1000 == 0x1C || (cntClrOf (off / 0x1000)).map Prod.fst == some off ||
    [Reg.JOB_CMD, Reg.MOT_CMD, Reg.LDG_CMD, Reg.BLN_LANE_CMD, Reg.BLN_REMAP_CMD, Reg.BLN_CAL_CMD, Reg.TEST_MEM_CMD,
      Reg.CLK_CMD, Reg.CLK_SVC, Reg.MEM_REMAP_CMD, Reg.DRAM_RET_CMD, Reg.RAST_PROBE_CMD, Reg.CORR_PROBE_CMD,
      Reg.SIG_CAP_CMD, Reg.ALM_LOAD_CMD, Reg.TRK_CMD, Reg.CST_CMD, Reg.BLN_TEST_CTL].contains off

/-- A write of BLN_TEST_CTL whose INJ R428 drops: BLN_IGNORED where it was 1; the other fields are written. -/
def testCtlLost (v : Word) (s : State) : State :=
  testCtlAct (v &&& 0x7FFFFFFF#32) (if wbit v 31 then s.raise Ev.BLN_IGNORED (offDetail Reg.BLN_TEST_CTL) else s)

/-- INJ = 1 in a write of BLN_TEST_CTL that R428 drops; the write still clears the count (R218). -/
def injLost (s : State) : State :=
  (s.raise Ev.BLN_IGNORED (offDetail Reg.BLN_TEST_CTL)).setReg Reg.BLN_TEST_ERR 0

/-- A command that R428 drops: the IGNORED event of its block, where the chapter names one, and what the fields of the
register that are no commands do. -/
def regWriteLost (party : Party) (off : Nat) (v : Word) (s : State) : State :=
  if off = Reg.JOB_CMD then s.jobIgnored (fld v 0 3) (fld v 8 7)
  else if off = Reg.MOT_CMD then s.raise Ev.MOT_IGNORED (fld v 0 3)
  else if off = Reg.LDG_CMD then s.ldgIgnored off
  else if off = Reg.BLN_LANE_CMD ∨ off = Reg.BLN_REMAP_CMD ∨ off = Reg.BLN_CAL_CMD then s.raise Ev.BLN_IGNORED (offDetail off)
  else if off = Reg.TEST_MEM_CMD then testWrite party off (fun s => s.testIgnored off) s
  else if off = Reg.BLN_TEST_CTL then testCtlLost v s
  else if off % 0x1000 = 0x1C then evtClassAct party (off / 0x1000) (v &&& 0x7FFFFFFF#32) s
  else if isRingCmd off then s.raise Ev.DMA_IGNORED ((off - Reg.RING_BASE_LO) / 32)
  else s

/-- The access of the other party in the same cycle. -/
def otherAcc (a : Acc) : Acc := ⟨otherParty a.party, true, 0, a.tie⟩

/-- Writes of both parties to one register in one cycle (R428), each judged against the state before: PCIe acts first and
SPI second; of a command field only SPI acts, and the IGNORED event of the PCIe write comes first. Two writes of 1 to
CAM_CTL.SWAP, a W1S bit that starts an action, have the result of one (R265). A write of EVT_FORCE of which the other party's
is refused comes second: the real event of the refusal stands for a forced one of the cycle (R43). -/
def State.writeBoth (s : State) (a : Acc) (off : Nat) (act lost : State → State) (v : Word) : State :=
  let b := otherAcc a
  let ja := s.judge a off
  let jb := s.judge b off
  let clash : Bool := isCommand off && ja == .accepted && jb == .accepted
  let actB := if clash && b.party == .pcie then regWriteLost .pcie off v else regWriteAct b off v
  let once : Bool := off == Reg.CAM_CTL && ja == .accepted && jb == .accepted && wbit v 1
  let actA := if once then id else if clash && a.party == .pcie then lost else act
  let first : Bool := if isForce off && ja != jb then ja != .accepted else a.party == .pcie
  if first then (s.decided ja a off actA).decided jb b off actB
  else (s.decided jb b off actB).decided ja a off actA

/-- A write under R35 and what falls in its cycle: `lost` is what a command field does with a PCIe write that loses. -/
def State.writeAccess (s : State) (a : Acc) (off : Nat) (act lost : State → State) : State :=
  let s1 := s.sameCycle a.tie
  match a.tie with
  | .both v | .bothDevice v => s1.writeBoth a off act lost v
  | _ => s1.decided (s1.judge a off) a off act

/-- Two-party commands of both parties in one cycle, each judged against the state before (R61). -/
def State.tpTwo (s : State) (a : Acc) (cmd other : Nat) : State :=
  let off := Reg.TP_CMD + bankOf a.party
  let b := otherAcc a
  let offB := Reg.TP_CMD + bankOf b.party
  if s.judge a off = .accepted ∧ s.judge b offB = .accepted then tpBothTied a.party a.tie cmd other s
  else (s.decided (s.judge a off) a off (tpTiedAct a.party a.tie cmd)).decided (s.judge b offB) b offB
    (tpTiedAct b.party a.tie other)

/-- A two-party command, and the one of the other party where it falls in the same cycle (R61). -/
def State.tpAccess (s : State) (a : Acc) (cmd : Nat) : State :=
  let s1 := s.sameCycle a.tie
  match a.tie with
  | .both v | .bothDevice v => s1.tpTwo a cmd (fld v 0 3)
  | t =>
    let off := Reg.TP_CMD + bankOf a.party
    s1.decided (s1.judge a off) a off (tpTiedAct a.party t cmd)

/-- A write of a party to any BAR0 offset (R35). -/
def anyWrite (a : Acc) (off : Nat) (v : Word) (s : State) : State :=
  if off = Reg.TP_CMD + bankOf a.party then s.tpAccess a (fld v 0 3)
  else s.writeAccess a off (regWriteAct a off v) (regWriteLost a.party off v)

end Sys2Proof.Machine
end

