-- ==== Sys2Proof/Machine/Operands.lean ====
section
/-!
DEFINITION. Sys2Proof/Machine/Operands.lean: the forms in which a command reaches a register (BAR0 word, SPI transaction,
register row), the page of an event command, and the shape that every meaning has.
-/

namespace Sys2Proof.Machine

/-- The answer of a command: its effect, then the class actions that are due (R43, log entry 17). -/
def finish (s : State) : Host.Outcome State Fault Refusal := .next s.settle

/-- A command of a page's block happens only while the block runs (R393, R394); else nothing does (log entry 3). -/
def onPage (p : Nat) (act : State → State) (s : State) : Host.Outcome State Fault Refusal :=
  finish (if s.live p then act s else s)

/-- A command that goes on while its block is gated happens while islands 0 to 7 are out of reset. -/
def onMain (act : State → State) (s : State) : Host.Outcome State Fault Refusal := finish (if s.mainUp then act s else s)

/-- A command of the service island happens only while it has a supply (R381, R438). -/
def onService (act : State → State) (s : State) : Host.Outcome State Fault Refusal := finish (if s.svcUp then act s else s)

/-- A command whose operands are checked first: one whose operands nothing can deliver never arrives, and the model lets it
do nothing (log entry 100). -/
def checked (ok : Bool) (run : State → Host.Outcome State Fault Refusal) (s : State) : Host.Outcome State Fault Refusal :=
  if ok then run s else finish s

/-- The row of one register: a write under R35 that acts, or, where it is the one that R428 drops, takes `lost`. -/
def rowWrite (a : Acc) (off : Nat) (act lost : State → State) (s : State) : Host.Outcome State Fault Refusal :=
  finish (s.writeAccess a off act lost)

/-- The row of a register that is no command field: writes that coincide act one after the other (R428). -/
def fieldWrite (a : Acc) (off : Nat) (act : State → State) (s : State) : Host.Outcome State Fault Refusal :=
  rowWrite a off act act s

/-- The row of a command register whose block names no IGNORED event. -/
def cmdWrite (a : Acc) (off : Nat) (act : State → State) (s : State) : Host.Outcome State Fault Refusal :=
  rowWrite a off act id s

/-- The offset of a header register of a page. -/
def hdrOff (page : Nat) (o : Nat) : Nat := 0x1000 * page + o

/-! ### SPI transactions (R39, R452) -/

/-- The access that an SPI transaction makes. -/
def spiAcc (addr : BitVec 24) : Acc := ⟨.spi, true, addr.extractLsb' 0 2, .alone⟩

/-- The word offset that an SPI address names. -/
def spiOff (addr : BitVec 24) : Nat := addr.toNat / 4 * 4

/-- The island that serves the word at an offset: headers but CLK's belong to the control island (R426). -/
def servedBy (off : Nat) : Nat :=
  if off % 0x1000 < 0x40 ∧ off / 0x1000 ≠ 1 then 0 else pageIsland (off / 0x1000)

/-- The t_RA that a read needs, in ns (R452). -/
def State.raNeeded (s : State) (off : Nat) : Nat := if s.islandSwitching (servedBy off) then 10000 else 1000

/-- An SPI read: zeros and no other effect when t_RA is too short. -/
def spiReadAct (addr : BitVec 24) (tRa : Nat) (hits : List TabHit) (s : State) : State :=
  if tRa < s.raNeeded (spiOff addr) then s.sdoBrings 0
  else
    let r := s.readAccess (spiAcc addr) (spiOff addr) hits
    r.2.sdoBrings r.1

/-- An SPI write acts at the 64th clock; one cut short is logged with kind 6 SPI_SHORT. DESIGN CHOICE (log entry 27): where
CS_N rises before the command byte and the 24 address bits are complete, R39 and R36 do not say what OFFSET is logged;
the model logs the whole address operand. -/
def spiWriteAct (addr : BitVec 24) (v : Word) (clocks : Nat) (s : State) : State :=
  if 64 ≤ clocks then anyWrite (spiAcc addr) (spiOff addr) v s
  else if s.reaches .spi (addr.toNat / 0x1000) then s.logAcc .spi 6 addr.toNat
  else s

/-! ### BAR0 reads (R34, R35, R427) -/

/-- A BAR0 read: the completion carries the word. -/
def bar0ReadAct (a : Acc) (off : Nat) (hits : List TabHit) (s : State) : State :=
  let b : Acc := { a with party := .pcie }
  if !s.mainUp then s
  else if !s.memOn then s.hostMiss false
  else
    let r := s.readAccess b off hits
    r.2.completes fun s => { s with cplData := r.1 }

end Sys2Proof.Machine
end

