-- ==== Sys2Proof/Machine/Flags.lean ====
section
/-!
DEFINITION. Sys2Proof/Machine/Flags.lean: the levels of the output pins, which are functions of the state (R44, R441, R442,
R448, R449).
-/

namespace Sys2Proof.Machine

/-- TRIP_N is low (R448): from a reset until READY, in dark hold, after BROWNOUT, in thermal shutdown, and while a page holds
a set bit of class Device-fatal. Without any supply the pin is not driven, and the model takes
the same for the two pins below (DESIGN CHOICE, log entry 116). -/
def State.tripLow (s : State) : Bool :=
  s.svcUp && (!s.clk.ready || s.clk.hold || s.clk.svcOnly || s.pins.shutdown || s.fatalBit)

/-- A page drives SVC_ALERT_N (R44): a set bit of class 3 or 4, or an enabled one with ALERT_EN. -/
def State.pageAlert (s : State) (p : Nat) : Bool :=
  let h := s.hdr p
  h.anyClass p (fun c => decide (3 ≤ c)) || ((h.stat &&& h.en) != 0 && h.alertEn)

/-- SVC_ALERT_N is low (R449). -/
def State.alertLow (s : State) : Bool := s.svcUp && (s.clk.svcOnly || (List.range pageCount).any s.pageAlert)

/-- THERM_N is low (R441, R442). -/
def State.thermLow (s : State) : Bool := s.svcUp && (s.pins.thermHot || s.pins.shutdown)

end Sys2Proof.Machine
end

