-- ==== Sys2Proof/Machine/Clocks.lean ====
section
/-!
DEFINITION. Sys2Proof/Machine/Clocks.lean: one meaning per command of clock sources, islands, modes, resets, supplies and interlock pins (chapters 15, 18).
-/

namespace Sys2Proof.Machine

/-- CLK_FAIL (R386). -/
def execClkFail (kind : TripKind) (meas : BitVec 16) (s : State) : Host.Outcome State Fault Refusal :=
  onService (clkFailAct kind meas.toNat) s

/-- SRC_FAIL (R390). -/
def execSrcFail (src : Src) (kind : TripKind) (meas : BitVec 16) (s : State) : Host.Outcome State Fault Refusal :=
  onService (srcFailAct (srcNum src) kind meas.toNat) s

/-- RC_RESTART (R389). -/
def execRcRestart (s : State) : Host.Outcome State Fault Refusal :=
  onService rcRestartAct s

/-- RC_LOST (R389). -/
def execRcLost (s : State) : Host.Outcome State Fault Refusal :=
  onService rcLostAct s

/-- SRC_UP (R384). -/
def execSrcUp (src : Src) (coarse : BitVec 12) (fine : BitVec 16) (s : State) : Host.Outcome State Fault Refusal :=
  onService (srcUpAct src coarse.toNat fine.toNat) s

/-- SOURCE_MOVE (R385). -/
def execSourceMove (s : State) : Host.Outcome State Fault Refusal :=
  onService sourceMoveAct s

/-- SOURCE_CHANGED (R385). -/
def execSourceChanged (s : State) : Host.Outcome State Fault Refusal :=
  onService sourceChangedAct s

/-- LOOP_RELOCK (R386). -/
def execLoopRelock (s : State) : Host.Outcome State Fault Refusal :=
  onService loopRelockAct s

/-- ISLAND_SWITCH_DONE (R391). -/
def execIslandSwitchDone (island : BitVec 3) (s : State) : Host.Outcome State Fault Refusal :=
  onService (islandSwitchAct island.toNat) s

/-- SELECT_XTAL (R385). -/
def execSelectXtal (a : Acc) (s : State) : Host.Outcome State Fault Refusal :=
  cmdWrite a Reg.CLK_CMD (selectAct 1) s

/-- SELECT_SYS (R385). -/
def execSelectSys (a : Acc) (s : State) : Host.Outcome State Fault Refusal :=
  cmdWrite a Reg.CLK_CMD (selectAct 2) s

/-- SELECT_RC (R385). -/
def execSelectRc (a : Acc) (s : State) : Host.Outcome State Fault Refusal :=
  cmdWrite a Reg.CLK_CMD (selectAct 0) s

/-- SERVICE (R392). -/
def execService (a : Acc) (s : State) : Host.Outcome State Fault Refusal :=
  cmdWrite a Reg.CLK_CMD serviceAct s

/-- HOLD_EXIT (R395). -/
def execHoldExit (a : Acc) (s : State) : Host.Outcome State Fault Refusal :=
  cmdWrite a Reg.CLK_CMD holdExitAct s

/-- SVC_COLD (R396). -/
def execSvcCold (a : Acc) (s : State) : Host.Outcome State Fault Refusal :=
  cmdWrite a Reg.CLK_SVC (clkSvcAct a.party 1) s

/-- SVC_WARM (R397). -/
def execSvcWarm (a : Acc) (s : State) : Host.Outcome State Fault Refusal :=
  cmdWrite a Reg.CLK_SVC (clkSvcAct a.party 2) s

/-- CLK_PWR_WRITE (R394). -/
def execClkPwrWrite (a : Acc) (v : Word) (s : State) : Host.Outcome State Fault Refusal :=
  fieldWrite a Reg.CLK_PWR (clkPwrAct v) s

/-- CLK_GATE_WRITE (R393). -/
def execClkGateWrite (a : Acc) (set : BitVec 2) (v : Word) (s : State) : Host.Outcome State Fault Refusal :=
  fieldWrite a (gateOff set.toNat) (clkGateAct set.toNat v) s

/-- CLK_CFG_WRITE (R400). -/
def execClkCfgWrite (a : Acc) (switchReg : Bool) (v : Word) (s : State) : Host.Outcome State Fault Refusal :=
  fieldWrite a (if switchReg then Reg.CLK_SWITCH else Reg.CLK_CTL) (clkCfgAct switchReg v) s

/-- POWER_ON (R436). -/
def execPowerOn (s : State) : Host.Outcome State Fault Refusal :=
  finish (powerOnAct s)

/-- PERST_N (R396). -/
def execPerstN (level : Bool) (s : State) : Host.Outcome State Fault Refusal :=
  finish (perstAct level s)

/-- BROWNOUT (R398). -/
def execBrownout (s : State) : Host.Outcome State Fault Refusal :=
  finish (brownoutAct s)

/-- TEMP_SENSE (R441). -/
def execTempSense (hottest : BitVec 8) (s : State) : Host.Outcome State Fault Refusal :=
  finish (tempAct hottest.toNat s)

/-- XTAL_TIMEOUT (R399). -/
def execXtalTimeout (s : State) : Host.Outcome State Fault Refusal :=
  onService xtalTimeoutAct s

/-- READY (R399). -/
def execReady (s : State) : Host.Outcome State Fault Refusal :=
  onService readyAct s

/-- DARK_N_FALL (R446). -/
def execDarkNFall (s : State) : Host.Outcome State Fault Refusal :=
  finish (darkEdgeAct false s)

/-- DARK_N_RISE (R446). -/
def execDarkNRise (s : State) : Host.Outcome State Fault Refusal :=
  finish (darkEdgeAct true s)

/-- VAUX33_LOSS (R438). -/
def execVaux33Loss (s : State) : Host.Outcome State Fault Refusal :=
  finish (auxLossAct s)

/-- VAUX33_RETURN (R438). -/
def execVaux33Return (s : State) : Host.Outcome State Fault Refusal :=
  finish (auxReturnAct s)

end Sys2Proof.Machine
end

