-- ==== Sys2Proof/Machine/Control.lean ====
section
/-!
DEFINITION. Sys2Proof/Machine/Control.lean: one meaning per command of register accesses, page headers, leaky buckets, persistent words, the two-party protocol and the pitch (chapters 01, 02, 17).
-/

namespace Sys2Proof.Machine

/-- The offset of a page's counter-clear register. -/
def cntClrOff (p : Nat) : Nat := ((cntClrOf p).map Prod.fst).getD 0

/-- The page that holds a bucket. -/
def bucketPage : BucketSel → Nat
  | .sig => 12
  | .lane _ => 15
  | .region _ => 4
  | .dram => 5

/-- REGISTER_WRITE (R35). -/
def execRegisterWrite (a : Acc) (word : BitVec 22) (v : Word) (s : State) : Host.Outcome State Fault Refusal :=
  finish (anyWrite a (4 * word.toNat) v s)

/-- SPI_READ (R39). -/
def execSpiRead (addr : BitVec 24) (tRa : Nat) (hits : List TabHit) (s : State) : Host.Outcome State Fault Refusal :=
  checked (Instr.wf (.spiRead addr tRa hits)) (fun s => finish (spiReadAct addr tRa hits s)) s

/-- SPI_WRITE (R39). -/
def execSpiWrite (addr : BitVec 24) (v : Word) (clocks : Nat) (s : State) : Host.Outcome State Fault Refusal :=
  finish (spiWriteAct addr v clocks s)

/-- REGISTER_READ (R35). -/
def execRegisterRead (a : Acc) (word : BitVec 22) (hits : List TabHit) (s : State) : Host.Outcome State Fault Refusal :=
  checked (Instr.wf (.registerRead a word hits)) (fun s => finish (bar0ReadAct a (4 * word.toNat) hits s)) s

/-- EVT_STAT_CLEAR (R46). -/
def execEvtStatClear (a : Acc) (page : PageNo) (v : Word) (s : State) : Host.Outcome State Fault Refusal :=
  fieldWrite a (hdrOff page.toNat 0x10) (evtStatAct a.tie page.toNat v) s

/-- EVT_FORCE (R43). -/
def execEvtForce (a : Acc) (page : PageNo) (v : Word) (s : State) : Host.Outcome State Fault Refusal :=
  cmdWrite a (hdrOff page.toNat 0x18) (evtForceAct a.party a.tie page.toNat v) s

/-- EVT_CLASS_WRITE (R45). -/
def execEvtClassWrite (a : Acc) (page : PageNo) (v : Word) (s : State) : Host.Outcome State Fault Refusal :=
  rowWrite a (hdrOff page.toNat 0x1C) (evtClassAct a.party page.toNat v)
    (evtClassAct a.party page.toNat (v &&& 0x7FFFFFFF#32)) s

/-- EVT_EN_WRITE (R331). -/
def execEvtEnWrite (a : Acc) (page : PageNo) (v : Word) (s : State) : Host.Outcome State Fault Refusal :=
  fieldWrite a (hdrOff page.toNat 0x14) (evtEnAct page.toNat v) s

/-- PAGE_CTL_WRITE (R331). -/
def execPageCtlWrite (a : Acc) (page : PageNo) (v : Word) (s : State) : Host.Outcome State Fault Refusal :=
  fieldWrite a (hdrOff page.toNat 0x08) (pageCtlAct page.toNat v) s

/-- PAGE_LOCK (R38). -/
def execPageLock (a : Acc) (page : PageNo) (v : Word) (s : State) : Host.Outcome State Fault Refusal :=
  fieldWrite a (hdrOff page.toNat 0x20) (pageLockAct page.toNat v) s

/-- CNT_CLR (R64). -/
def execCntClr (a : Acc) (page : PageNo) (v : Word) (s : State) : Host.Outcome State Fault Refusal :=
  checked (Instr.wf (.cntClr a page v)) (cmdWrite a (cntClrOff page.toNat) (cntClrAct page.toNat v)) s

/-- LB_CFG_WRITE (R48). -/
def execLbCfgWrite (a : Acc) (b : BucketSel) (v : Word) (s : State) : Host.Outcome State Fault Refusal :=
  checked (Instr.wf (.lbCfgWrite a b v)) (fieldWrite a (bucketCfg b) (lbCfgAct b v)) s

/-- LB_LEAK (R48). -/
def execLbLeak (b : BucketSel) (s : State) : Host.Outcome State Fault Refusal :=
  checked (Instr.wf (.lbLeak b)) (onPage (bucketPage b) (lbLeakAct b)) s

/-- NV_PROGRAM_DONE (R50). -/
def execNvProgramDone (idx : BitVec 10) (s : State) : Host.Outcome State Fault Refusal :=
  onService (nvProgramAct idx.toNat) s

/-- PROPOSE (R56). -/
def execPropose (a : Acc) (s : State) : Host.Outcome State Fault Refusal :=
  finish (s.tpAccess a 1)

/-- WITHDRAW (R60). -/
def execWithdraw (a : Acc) (s : State) : Host.Outcome State Fault Refusal :=
  finish (s.tpAccess a 2)

/-- CONFIRM (R56). -/
def execConfirm (a : Acc) (s : State) : Host.Outcome State Fault Refusal :=
  finish (s.tpAccess a 3)

/-- REJECT (R60). -/
def execReject (a : Acc) (s : State) : Host.Outcome State Fault Refusal :=
  finish (s.tpAccess a 4)

/-- TP_VALIDATE_DONE (R58). -/
def execTpValidateDone (s : State) : Host.Outcome State Fault Refusal :=
  onPage 0 tpValidateAct s

/-- TP_APPLY (R60). -/
def execTpApply (s : State) : Host.Outcome State Fault Refusal :=
  onPage 0 tpApplyAct s

/-- TIMEOUT (R60). -/
def execTimeout (s : State) : Host.Outcome State Fault Refusal :=
  onPage 0 tpTimeoutAct s

/-- GEOM_PITCH_WRITE (R12). -/
def execGeomPitchWrite (a : Acc) (v : Word) (s : State) : Host.Outcome State Fault Refusal :=
  fieldWrite a Reg.GEOM_PITCH (geomPitchAct v) s

end Sys2Proof.Machine
end

