-- ==== Sys2Proof/Machine/Forming.lean ====
section
/-!
DEFINITION. Sys2Proof/Machine/Forming.lean: one meaning per command of the density pass, the rasterizer, dose formation and signatures (chapters 03 to 06).
-/

namespace Sys2Proof.Machine

/-- DENS_BAND_PARSE (R130). -/
def execDensBandParse (hits : List SramHit) (row : BitVec 16) (gran : Word) (s : State) :
    Host.Outcome State Fault Refusal :=
  checked (Instr.wf (.densBandParse hits row gran)) (onPage 11 (densParseAct hits row.toNat gran.toNat)) s

/-- RASTER_PARSE (R102). -/
def execRasterParse (full : Bool) (hits : List SramHit) (s : State) : Host.Outcome State Fault Refusal :=
  checked (Instr.wf (.rasterParse full hits)) (onPage 10 (rasterParseAct full hits)) s

/-- DECODE_RESUME (R93). -/
def execDecodeResume (eng : BitVec 6) (room : Nat) (s : State) : Host.Outcome State Fault Refusal :=
  checked (Instr.wf (.decodeResume eng room)) (onPage 10 (decodeResumeAct eng.toNat room)) s

/-- BITMAP_DECODE_DONE (R92). -/
def execBitmapDecodeDone (eng : BitVec 6) (room : Nat) (s : State) : Host.Outcome State Fault Refusal :=
  checked (Instr.wf (.bitmapDecodeDone eng room)) (onPage 10 (decodeDoneAct eng.toNat room)) s

/-- BAND_ENQUEUE (R116). -/
def execBandEnqueue (hits : List SramHit) (row : BitVec 16) (s : State) : Host.Outcome State Fault Refusal :=
  checked (Instr.wf (.bandEnqueue hits row)) (onPage 10 (bandEnqueueAct hits row.toNat)) s

/-- PIECE_DISPATCH (R116). -/
def execPieceDispatch (room : Nat) (s : State) : Host.Outcome State Fault Refusal :=
  onPage 10 (pieceDispatchAct room) s

/-- PIECE_DONE (R117). -/
def execPieceDone (eng : BitVec 6) (clocks : BitVec 32) (s : State) : Host.Outcome State Fault Refusal :=
  checked (Instr.wf (.pieceDone eng clocks)) (onPage 10 (pieceDoneAct eng.toNat clocks.toNat)) s

/-- TILE_LATE (R118). -/
def execTileLate (s : State) : Host.Outcome State Fault Refusal :=
  onPage 10 lateTilesAct s

/-- WORKSPACE_FAULT (R119). -/
def execWorkspaceFault (eng : BitVec 6) (hit : SramHit) (s : State) : Host.Outcome State Fault Refusal :=
  checked (Instr.wf (.workspaceFault eng hit)) (onPage 10 (workspaceAct eng.toNat hit)) s

/-- RAST_ENG_EN_WRITE (R120). -/
def execRastEngEnWrite (a : Acc) (hi : Bool) (v : Word) (s : State) : Host.Outcome State Fault Refusal :=
  fieldWrite a (if hi then Reg.RAST_ENG_EN_HI else Reg.RAST_ENG_EN_LO) (engEnAct hi v) s

/-- RAST_CTL_WRITE (R121). -/
def execRastCtlWrite (a : Acc) (v : Word) (s : State) : Host.Outcome State Fault Refusal :=
  fieldWrite a Reg.RAST_CTL (rastCtlAct v) s

/-- RAST_PROBE_CMD (R122). -/
def execRastProbeCmd (a : Acc) (v : Word) (s : State) : Host.Outcome State Fault Refusal :=
  cmdWrite a Reg.RAST_PROBE_CMD (rastProbeAct v) s

/-- RAST_PROBE_DONE (R122). -/
def execRastProbeDone (hits : List SramHit) (s : State) : Host.Outcome State Fault Refusal :=
  checked (Instr.wf (.rastProbeDone hits)) (onPage 10 (probeDoneAct Reg.RAST_PROBE_STAT Ev.RAST_PROBE_DONE hits 0)) s

/-- DOSE_FORMATION (R132). -/
def execDoseFormation (hits : List SramHit) (row : BitVec 16) (s : State) : Host.Outcome State Fault Refusal :=
  checked (Instr.wf (.doseFormation hits row)) (onPage 11 (doseFormAct hits row.toNat)) s

/-- TILE_HANDOFF (R137). -/
def execTileHandoff (s : State) : Host.Outcome State Fault Refusal :=
  onPage 11 handoffAct s

/-- CORR_CTL_WRITE (R140). -/
def execCorrCtlWrite (a : Acc) (v : Word) (s : State) : Host.Outcome State Fault Refusal :=
  fieldWrite a Reg.CORR_CTL (corrCtlAct v) s

/-- CORR_PROBE_CMD (R141). -/
def execCorrProbeCmd (a : Acc) (v : Word) (s : State) : Host.Outcome State Fault Refusal :=
  cmdWrite a Reg.CORR_PROBE_CMD (corrProbeAct v) s

/-- CORR_PROBE_DONE (R141). -/
def execCorrProbeDone (hits : List SramHit) (row : BitVec 16) (s : State) : Host.Outcome State Fault Refusal :=
  checked (Instr.wf (.corrProbeDone hits row))
    (onPage 11 (probeDoneAct Reg.CORR_PROBE_STAT Ev.CORR_PROBE_DONE hits row.toNat)) s

/-- SIG_COMPARE (R151). -/
def execSigCompare (tile : BitVec 20) (s : State) : Host.Outcome State Fault Refusal :=
  onPage 12 (sigCompareAct tile.toNat) s

/-- SIG_MIS_INFO_CLEAR (R160). -/
def execSigMisInfoClear (a : Acc) (v : Word) (s : State) : Host.Outcome State Fault Refusal :=
  fieldWrite a Reg.SIG_MIS_INFO (sigMisInfoAct v) s

/-- SIG_CAP_CMD (R158). -/
def execSigCapCmd (a : Acc) (v : Word) (s : State) : Host.Outcome State Fault Refusal :=
  cmdWrite a Reg.SIG_CAP_CMD (sigCapAct v) s

/-- ALM_LOAD_CMD (R173). -/
def execAlmLoadCmd (a : Acc) (v : Word) (s : State) : Host.Outcome State Fault Refusal :=
  cmdWrite a Reg.ALM_LOAD_CMD (almLoadCmdAct v) s

/-- ALM_LOAD_DONE (R173). -/
def execAlmLoadDone (hits : List SramHit) (s : State) : Host.Outcome State Fault Refusal :=
  checked (Instr.wf (.almLoadDone hits)) (onPage 14 (almLoadDoneAct hits)) s

end Sys2Proof.Machine
end

