-- ==== Sys2Proof/Machine/HostCmds.lean ====
section
/-!
DEFINITION. Sys2Proof/Machine/HostCmds.lean: one meaning per command of the PCIe function, BAR2, MSI-X and the DMA rings (chapter 13).
-/

namespace Sys2Proof.Machine

/-- The offset of a register of ring `i` (R350). -/
def ringOff (i o : Nat) : Nat := Reg.RING_BASE_LO + 32 * i + o

/-- CONFIG_REQUEST (R325). -/
def execConfigRequest (write : Bool) (dw : BitVec 10) (v : Word) (be : BitVec 4)
    (s : State) : Host.Outcome State Fault Refusal :=
  onPage 2 (configAct write dw.toNat v be) s

/-- BAR2_WRITE (R329). -/
def execBar2Write (off : BitVec 32) (bytes : List (Option Byte)) (s : State) : Host.Outcome State Fault Refusal :=
  checked (Instr.wf (.bar2Write off bytes)) (onPage 2 (bar2WriteAct off.toNat bytes)) s

/-- BAR2_READ (R329). -/
def execBar2Read (off : BitVec 32) (len : Nat) (s : State) : Host.Outcome State Fault Refusal :=
  checked (Instr.wf (.bar2Read off len)) (onPage 2 (bar2ReadAct off.toNat len)) s

/-- MSIX_ACCESS (R327). -/
def execMsixAccess (write : Bool) (off : BitVec 14) (dws : List Word) (s : State) : Host.Outcome State Fault Refusal :=
  checked (Instr.wf (.msixAccess write off dws)) (onPage 2 (msixAct write off.toNat dws)) s

/-- UNSUPPORTED_REQUEST (R324). -/
def execUnsupportedRequest (kind : Unsupported) (hdr : List Word) (s : State) : Host.Outcome State Fault Refusal :=
  checked (Instr.wf (.unsupportedRequest kind hdr)) (onPage 2 (unsupportedAct kind hdr)) s

/-- POISON_RX (R324). -/
def execPoisonRx (hdr : List Word) (s : State) : Host.Outcome State Fault Refusal :=
  checked (Instr.wf (.poisonRx hdr)) (onPage 2 (poisonRxAct hdr)) s

/-- FLR (R332). -/
def execFlr (s : State) : Host.Outcome State Fault Refusal :=
  onPage 2 flrAct s

/-- LINK_DOWN (R332). -/
def execLinkDown (s : State) : Host.Outcome State Fault Refusal :=
  onPage 2 linkDownAct s

/-- LINK_UP (R349). -/
def execLinkUp (speed : BitVec 3) (width : BitVec 5) (s : State) : Host.Outcome State Fault Refusal :=
  checked (Instr.wf (.linkUp speed width)) (onPage 2 (linkUpAct speed.toNat width.toNat)) s

/-- D3HOT_ENTRY (R333). -/
def execD3hotEntry (s : State) : Host.Outcome State Fault Refusal :=
  onPage 2 d3Act s

/-- D0_RETURN (R333). -/
def execD0Return (s : State) : Host.Outcome State Fault Refusal :=
  onPage 2 d0Act s

/-- HOST_WIN_WRITE (R328). -/
def execHostWinWrite (a : Acc) (v : Word) (s : State) : Host.Outcome State Fault Refusal :=
  fieldWrite a Reg.HOST_WIN (hostWinAct v) s

/-- RING_CFG_WRITE (R350). -/
def execRingCfgWrite (a : Acc) (ring : BitVec 6) (reg : BitVec 2) (v : Word)
    (s : State) : Host.Outcome State Fault Refusal :=
  checked (Instr.wf (.ringCfgWrite a ring reg v)) (fieldWrite a (ringOff ring.toNat (4 * reg.toNat)) (ringCfgAct ring.toNat reg.toNat v)) s

/-- RING_START (R339). -/
def execRingStart (a : Acc) (ring : BitVec 6) (slot : BitVec 16) (s : State) : Host.Outcome State Fault Refusal :=
  rowWrite a (ringOff ring.toNat 0x10) (ringStartAct ring.toNat slot.toNat) (fun s => s.raise Ev.DMA_IGNORED ring.toNat) s

/-- RING_STOP (R339). -/
def execRingStop (a : Acc) (ring : BitVec 6) (s : State) : Host.Outcome State Fault Refusal :=
  rowWrite a (ringOff ring.toNat 0x10) (ringStopAct ring.toNat) (fun s => s.raise Ev.DMA_IGNORED ring.toNat) s

/-- DOORBELL (R346). -/
def execDoorbell (a : Acc) (ring : BitVec 6) (s : State) : Host.Outcome State Fault Refusal :=
  cmdWrite a (ringOff ring.toNat 0x0C) (doorbellAct ring.toNat) s

/-- DESCRIPTOR_FETCH (R342). -/
def execDescriptorFetch (ring : BitVec 6) (late : Bool) (st : Cpl) (words : List Word) (hits : List SramHit)
    (s : State) : Host.Outcome State Fault Refusal :=
  checked (Instr.wf (.descriptorFetch ring late st words hits))
    (onPage 3 (cplTaken (fun st => descriptorFetchAct ring.toNat late st words hits) st)) s

/-- PARK_REREAD (R345). -/
def execParkReread (ring : BitVec 6) (late : Bool) (st : Cpl) (w0 : Word) (s : State) : Host.Outcome State Fault Refusal :=
  onPage 3 (cplTaken (fun st => parkRereadAct ring.toNat late st w0) st) s

/-- DMA_BURST (R337). -/
def execDmaBurst (chan : BitVec 4) (s : State) : Host.Outcome State Fault Refusal :=
  onPage 3 (dmaBurstAct chan.toNat) s

/-- HOST_COMPLETION (R347). -/
def execHostCompletion (ring : BitVec 6) (late : Bool) (pos : Nat) (st : Cpl) (data : List Byte)
    (s : State) : Host.Outcome State Fault Refusal :=
  onPage 3 (cplTaken (fun st => hostCompletionAct ring.toNat late pos st data) st) s

/-- DESCRIPTOR_COMPLETE (R344). -/
def execDescriptorComplete (ring : BitVec 6) (s : State) : Host.Outcome State Fault Refusal :=
  onPage 3 (descriptorCompleteAct ring.toNat) s

/-- WAIT_TIMEOUT (R343). -/
def execWaitTimeout (ring : BitVec 6) (s : State) : Host.Outcome State Fault Refusal :=
  onPage 3 (waitTimeoutAct ring.toNat) s

/-- RINGI_EVT_WRITE (R344). -/
def execRingiEvtWrite (a : Acc) (ring : BitVec 6) (v : Word) (s : State) : Host.Outcome State Fault Refusal :=
  fieldWrite a (ringOff ring.toNat 0x18) (ringEvtAct a.tie ring.toNat v) s

/-- DMA_ERR_INFO_CLEAR (R350). -/
def execDmaErrInfoClear (a : Acc) (v : Word) (s : State) : Host.Outcome State Fault Refusal :=
  fieldWrite a Reg.DMA_ERR_INFO (dmaErrInfoAct v) s

/-- HOST_CPL_TMO (R347). -/
def execHostCplTmo (ring : BitVec 6) (late : Bool) (pos : Option Nat) (s : State) : Host.Outcome State Fault Refusal :=
  onPage 3 (hostCplTmoAct ring.toNat late pos) s

end Sys2Proof.Machine
end

