-- ==== Sys2Proof/Machine/Jobs.lean ====
section
/-!
DEFINITION. Sys2Proof/Machine/Jobs.lean: one meaning per command of job contexts and the life of a stripe (chapter 03).
-/

namespace Sys2Proof.Machine

/-- LOAD (R69). -/
def execLoad (a : Acc) (ctx : BitVec 7) (s : State) : Host.Outcome State Fault Refusal :=
  rowWrite a Reg.JOB_CMD (loadAct ctx.toNat) (fun s => s.jobIgnored 1 ctx.toNat) s

/-- START (R71). -/
def execStart (a : Acc) (ctx : BitVec 7) (s : State) : Host.Outcome State Fault Refusal :=
  rowWrite a Reg.JOB_CMD (startAct ctx.toNat) (fun s => s.jobIgnored 2 ctx.toNat) s

/-- CANCEL (R71). -/
def execCancel (a : Acc) (ctx : BitVec 7) (s : State) : Host.Outcome State Fault Refusal :=
  rowWrite a Reg.JOB_CMD (cancelAct ctx.toNat) (fun s => s.jobIgnored 3 ctx.toNat) s

/-- ABORT (R71). -/
def execAbort (a : Acc) (ctx : BitVec 7) (s : State) : Host.Outcome State Fault Refusal :=
  rowWrite a Reg.JOB_CMD (abortAct ctx.toNat) (fun s => s.jobIgnored 4 ctx.toNat) s

/-- RELEASE (R77). -/
def execRelease (a : Acc) (ctx : BitVec 7) (s : State) : Host.Outcome State Fault Refusal :=
  rowWrite a Reg.JOB_CMD (releaseAct ctx.toNat) (fun s => s.jobIgnored 5 ctx.toNat) s

/-- RESUME (R76). -/
def execResume (a : Acc) (ctx : BitVec 7) (s : State) : Host.Outcome State Fault Refusal :=
  rowWrite a Reg.JOB_CMD (resumeAct ctx.toNat) (fun s => s.jobIgnored 6 ctx.toNat) s

/-- LOAD_DONE (R69). -/
def execLoadDone (s : State) : Host.Outcome State Fault Refusal :=
  onPage 9 loadDoneAct s

/-- PRIMING_ENTRY (R73). -/
def execPrimingEntry (s : State) : Host.Outcome State Fault Refusal :=
  onPage 9 primingEntryAct s

/-- JOB_LEVEL (R71). -/
def execJobLevel (s : State) : Host.Outcome State Fault Refusal :=
  onPage 9 jobLevelAct s

/-- EXPOSING_ENTRY (R74). -/
def execExposingEntry (hits : List TabHit) (s : State) : Host.Outcome State Fault Refusal :=
  checked (Instr.wf (.exposingEntry hits)) (onPage 9 (exposingEntryAct hits)) s

/-- STRIPE_DONE (R75). -/
def execStripeDone (s : State) : Host.Outcome State Fault Refusal :=
  onPage 9 stripeDoneAct s

/-- JOB_FAULT_INFO_CLEAR (R98). -/
def execJobFaultInfoClear (a : Acc) (v : Word) (s : State) : Host.Outcome State Fault Refusal :=
  fieldWrite a Reg.JOB_FAULT_INFO (jobFaultInfoAct v) s

end Sys2Proof.Machine
end

