-- ==== Sys2Proof/Machine/Lanes.lean ====
section
/-!
DEFINITION. Sys2Proof/Machine/Lanes.lean: one meaning per command of beam lanes, markers, the blanker command and status path, kills (chapters 07 to 09).
-/

namespace Sys2Proof.Machine

/-- TRANSIT_FIRE (R234). -/
def execTransitFire (hits : List TabHit) (s : State) : Host.Outcome State Fault Refusal :=
  checked (Instr.wf (.transitFire hits)) (onPage 16 (transitFireAct hits)) s

/-- MARKER_SEND (R197). -/
def execMarkerSend (frames : List FrameHit) (s : State) : Host.Outcome State Fault Refusal :=
  checked (Instr.wf (.markerSend frames)) (onPage 15 (markerSendAct frames)) s

/-- STATUS_RECORD (R209). -/
def execStatusRecord (lane : BitVec 2) (body : List Byte) (crc : Word) (s : State) : Host.Outcome State Fault Refusal :=
  checked (Instr.wf (.statusRecord lane body crc)) (onPage 15 (statusRecordAct lane.toNat body crc)) s

/-- STATUS_TIMEOUT (R209). -/
def execStatusTimeout (n : BitVec 32) (s : State) : Host.Outcome State Fault Refusal :=
  onPage 15 (statusTimeoutAct n.toNat) s

/-- AUX_DOWN (R211). -/
def execAuxDown (lane : BitVec 2) (s : State) : Host.Outcome State Fault Refusal :=
  onPage 15 (auxDownAct lane.toNat) s

/-- KILL (R180). -/
def execKill (s : State) : Host.Outcome State Fault Refusal :=
  onPage 15 State.sendQueued s

/-- COMMAND_RESEND (R205). -/
def execCommandResend (s : State) : Host.Outcome State Fault Refusal :=
  onPage 15 resendAct s

/-- BLN_REMAP_CMD (R213). -/
def execBlnRemapCmd (a : Acc) (v : Word) (s : State) : Host.Outcome State Fault Refusal :=
  rowWrite a Reg.BLN_REMAP_CMD (remapCmdLane v) (fun s => s.raise Ev.BLN_IGNORED (offDetail Reg.BLN_REMAP_CMD)) s

/-- LANE_WAKE_DONE (R220). -/
def execLaneWakeDone (phys : BitVec 7) (s : State) : Host.Outcome State Fault Refusal :=
  checked (Instr.wf (.laneWakeDone phys)) (onPage 15 (laneWakeAct phys.toNat)) s

/-- BLN_CAL_CMD (R216). -/
def execBlnCalCmd (a : Acc) (v : Word) (s : State) : Host.Outcome State Fault Refusal :=
  rowWrite a Reg.BLN_CAL_CMD (calCmdAct v) (fun s => s.raise Ev.BLN_IGNORED (offDetail Reg.BLN_CAL_CMD)) s

/-- CAL_DONE (R216). -/
def execCalDone (ok : Bool) (taps : List (BitVec 16)) (resid : List (BitVec 10)) (eye : List (BitVec 7))
    (s : State) : Host.Outcome State Fault Refusal :=
  checked (Instr.wf (.calDone ok taps resid eye)) (onPage 15 (calEndAct ok (taps.map BitVec.toNat) (resid.map BitVec.toNat) (eye.map BitVec.toNat))) s

/-- BLN_LANE_TAP_WRITE (R215). -/
def execBlnLaneTapWrite (a : Acc) (v : Word) (s : State) : Host.Outcome State Fault Refusal :=
  fieldWrite a Reg.BLN_LANE_TAP (laneTapAct v) s

/-- SET_FAIL (R223). -/
def execSetFail (a : Acc) (s : State) : Host.Outcome State Fault Refusal :=
  rowWrite a Reg.BLN_LANE_CMD (laneCmdAct 1) (fun s => s.raise Ev.BLN_IGNORED (offDetail Reg.BLN_LANE_CMD)) s

/-- CLEAR_FAIL (R214). -/
def execClearFail (a : Acc) (s : State) : Host.Outcome State Fault Refusal :=
  rowWrite a Reg.BLN_LANE_CMD (laneCmdAct 2) (fun s => s.raise Ev.BLN_IGNORED (offDetail Reg.BLN_LANE_CMD)) s

/-- BLN_TEST_CTL_WRITE (R218). -/
def execBlnTestCtlWrite (a : Acc) (v : Word) (s : State) : Host.Outcome State Fault Refusal :=
  rowWrite a Reg.BLN_TEST_CTL (testCtlAct v) (testCtlLost v) s

/-- INJ (R218). -/
def execInj (a : Acc) (s : State) : Host.Outcome State Fault Refusal :=
  rowWrite a Reg.BLN_TEST_CTL injAct injLost s

/-- CHECKER_LOCK (R218). -/
def execCheckerLock (lock : Bool) (errors : Nat) (s : State) : Host.Outcome State Fault Refusal :=
  onPage 15 (checkerAct lock errors) s

/-- BLN_CTL_WRITE (R222). -/
def execBlnCtlWrite (a : Acc) (v : Word) (s : State) : Host.Outcome State Fault Refusal :=
  fieldWrite a Reg.BLN_CTL (blnCtlAct v) s

/-- BLN_AUX_WRITE (R222). -/
def execBlnAuxWrite (a : Acc) (v : Word) (s : State) : Host.Outcome State Fault Refusal :=
  fieldWrite a Reg.BLN_AUX (blnAuxAct v) s

end Sys2Proof.Machine
end

