-- ==== Sys2Proof/Machine/LedgerCmds.lean ====
section
/-!
DEFINITION. Sys2Proof/Machine/LedgerCmds.lean: one meaning per command of the repair ledger and top-ups (chapter 12).
-/

namespace Sys2Proof.Machine

/-- GENERATE (R310). -/
def execGenerate (a : Acc) (src : BitVec 7) (target : BitVec 7) (s : State) : Host.Outcome State Fault Refusal :=
  rowWrite a Reg.LDG_CMD (generateAct src.toNat target.toNat) (fun s => s.ldgIgnored Reg.LDG_CMD) s

/-- GENERATE_DONE (R310). -/
def execGenerateDone (s : State) : Host.Outcome State Fault Refusal :=
  onPage 20 generateDoneAct s

/-- ADOPT (R317). -/
def execAdopt (a : Acc) (src : BitVec 7) (target : BitVec 7) (s : State) : Host.Outcome State Fault Refusal :=
  rowWrite a Reg.LDG_CMD (adoptAct src.toNat target.toNat) (fun s => s.ldgIgnored Reg.LDG_CMD) s

/-- ADOPT_DONE (R317). -/
def execAdoptDone (s : State) : Host.Outcome State Fault Refusal :=
  onPage 20 adoptDoneAct s

/-- TOPUP_HELD (R316). -/
def execTopupHeld (a : Acc) (s : State) : Host.Outcome State Fault Refusal :=
  rowWrite a Reg.LDG_CMD (heldAct false) (fun s => s.ldgIgnored Reg.LDG_CMD) s

/-- DISCARD_HELD (R316). -/
def execDiscardHeld (a : Acc) (s : State) : Host.Outcome State Fault Refusal :=
  rowWrite a Reg.LDG_CMD (heldAct true) (fun s => s.ldgIgnored Reg.LDG_CMD) s

/-- LDG_TAIL_WRITE (R320). -/
def execLdgTailWrite (a : Acc) (v : Word) (s : State) : Host.Outcome State Fault Refusal :=
  fieldWrite a Reg.LDG_TAIL (ldgTailAct v) s

/-- LDG_AREA_WRITE (R299). -/
def execLdgAreaWrite (a : Acc) (reg : BitVec 2) (v : Word) (s : State) : Host.Outcome State Fault Refusal :=
  checked (Instr.wf (.ldgAreaWrite a reg v)) (fieldWrite a (Reg.LDG_BASE_LO + 4 * reg.toNat) (ldgAreaAct reg.toNat v)) s

end Sys2Proof.Machine
end

