-- ==== Sys2Proof/Machine/Memories.lean ====
section
/-!
DEFINITION. Sys2Proof/Machine/Memories.lean: one meaning per command of SRAM, DRAM and the port arbiter (chapter 14).
-/

namespace Sys2Proof.Machine

/-- The offset of ARB_REQi, or of ARB_CTL for 16. -/
def arbOff (i : Nat) : Nat := if i = 16 then Reg.ARB_CTL else Reg.ARB_REQ0 + 4 * i

/-- A write of ARB_REQi, or of ARB_CTL for 16 (R374, R377). -/
def arbRowAct (i : Nat) (v : Word) (s : State) : State := if i = 16 then arbCtlAct v s else arbReqAct i v s

/-- SRAM_ZEROED (R357). -/
def execSramZeroed (s : State) : Host.Outcome State Fault Refusal :=
  onPage 4 zeroedAct s

/-- ZREAD_CLEAR (R366). -/
def execZreadClear (a : Acc) (v : Word) (s : State) : Host.Outcome State Fault Refusal :=
  fieldWrite a Reg.DRAM_STAT (zreadClearAct v) s

/-- MEM_REMAP_CMD (R358). -/
def execMemRemapCmd (a : Acc) (v : Word) (s : State) : Host.Outcome State Fault Refusal :=
  cmdWrite a Reg.MEM_REMAP_CMD (remapCmdAct v) s

/-- MEM_REMAP_DONE (R358). -/
def execMemRemapDone (s : State) : Host.Outcome State Fault Refusal :=
  onPage 4 remapDoneAct s

/-- DRAM_RET_CMD (R368). -/
def execDramRetCmd (a : Acc) (v : Word) (s : State) : Host.Outcome State Fault Refusal :=
  cmdWrite a Reg.DRAM_RET_CMD (retireCmdAct v) s

/-- RETIRE_DONE (R368). -/
def execRetireDone (s : State) : Host.Outcome State Fault Refusal :=
  onPage 5 retireDoneAct s

/-- ARBITRATION (R371). -/
def execArbitration (raised : BitVec 16) (issued : BitVec 9) (dropped : Bool) (found : List Lookup) (s : State) :
    Host.Outcome State Fault Refusal :=
  checked (Instr.wf (.arbitration raised issued dropped found))
    (onPage 5 (arbitrate raised.toNat issued.toNat dropped found)) s

/-- ARB_WRITE (R374). -/
def execArbWrite (a : Acc) (reg : BitVec 5) (v : Word) (s : State) : Host.Outcome State Fault Refusal :=
  checked (Instr.wf (.arbWrite a reg v)) (fieldWrite a (arbOff reg.toNat) (arbRowAct reg.toNat v)) s

/-- DRAM_READY (R399). -/
def execDramReady (s : State) : Host.Outcome State Fault Refusal :=
  onPage 5 dramInitAct s

end Sys2Proof.Machine
end

