-- ==== Sys2Proof/Machine/Motion.lean ====
section
/-!
DEFINITION. Sys2Proof/Machine/Motion.lean: one meaning per command of metrology, transit timing, the trajectory generator and the cams (chapters 09, 10).
-/

namespace Sys2Proof.Machine

/-- MET_SAMPLE (R229). -/
def execMetSample (second : Bool) (com : BitVec 64) (body : List Byte) (crc : Word)
    (s : State) : Host.Outcome State Fault Refusal :=
  checked (Instr.wf (.metSample second com body crc)) (onPage 16 (metSampleAct second com.toNat body crc)) s

/-- SAMPLE_TIMEOUT (R231). -/
def execSampleTimeout (second : Bool) (s : State) : Host.Outcome State Fault Refusal :=
  onPage 16 (sampleTimeoutAct second) s

/-- STRIPE_ARMED (R241). -/
def execStripeArmed (hits : List TabHit) (frames : List FrameHit) (s : State) : Host.Outcome State Fault Refusal :=
  checked (Instr.wf (.stripeArmed hits frames)) (onPage 16 (stripeArmedAct hits frames)) s

/-- START_LATE (R242). -/
def execStartLate (s : State) : Host.Outcome State Fault Refusal :=
  onPage 16 startLateAct s

/-- USE_PRIMARY (R233). -/
def execUsePrimary (a : Acc) (s : State) : Host.Outcome State Fault Refusal :=
  cmdWrite a Reg.TRK_CMD usePrimaryAct s

/-- TRK_SNAP (R246). -/
def execTrkSnap (a : Acc) (s : State) : Host.Outcome State Fault Refusal :=
  cmdWrite a Reg.TRK_CMD trkSnapAct s

/-- TRK_SNAP_DONE (R246). -/
def execTrkSnapDone (s : State) : Host.Outcome State Fault Refusal :=
  onPage 16 (fun s => s.resultFinish Reg.TRK_SNAP_STAT Ev.TRK_SNAP_DONE s.exposing) s

/-- TRK_CONFIG_WRITE (R246). -/
def execTrkConfigWrite (a : Acc) (reg : BitVec 2) (v : Word) (s : State) : Host.Outcome State Fault Refusal :=
  fieldWrite a (Reg.TRK_CFG + 4 * reg.toNat) (trkConfigAct reg.toNat v) s

/-- MOVE (R252). -/
def execMove (a : Acc) (axis : Bool) (s : State) : Host.Outcome State Fault Refusal :=
  rowWrite a Reg.MOT_CMD (moveAct axis) (fun s => s.raise Ev.MOT_IGNORED 1) s

/-- STOP (R256). -/
def execStop (a : Acc) (s : State) : Host.Outcome State Fault Refusal :=
  rowWrite a Reg.MOT_CMD stopAct (fun s => s.raise Ev.MOT_IGNORED 2) s

/-- CLEAR_PEND (R256). -/
def execClearPend (a : Acc) (s : State) : Host.Outcome State Fault Refusal :=
  rowWrite a Reg.MOT_CMD clearPendAct (fun s => s.raise Ev.MOT_IGNORED 3) s

/-- SET_POS (R261). -/
def execSetPos (a : Acc) (axis : Bool) (s : State) : Host.Outcome State Fault Refusal :=
  rowWrite a Reg.MOT_CMD (setPosAct axis) (fun s => s.raise Ev.MOT_IGNORED 4) s

/-- MOT_SNAP (R269). -/
def execMotSnap (a : Acc) (axis : Bool) (s : State) : Host.Outcome State Fault Refusal :=
  rowWrite a Reg.MOT_CMD (motSnapAct axis) (fun s => s.raise Ev.MOT_IGNORED 5) s

/-- MOT_SNAP_DONE (R269). -/
def execMotSnapDone (s : State) : Host.Outcome State Fault Refusal :=
  onPage 17 (fun s => s.resultFinish Reg.MOT_SNAP_STAT Ev.MOT_SNAP_DONE none) s

/-- TICK (R250). -/
def execTick (s : State) : Host.Outcome State Fault Refusal :=
  onPage 17 tickAct s

/-- MOT_PROFILE_WRITE (R257). -/
def execMotProfileWrite (a : Acc) (reg : BitVec 2) (v : Word) (s : State) : Host.Outcome State Fault Refusal :=
  fieldWrite a (profOff reg.toNat) (profileAct reg.toNat v) s

/-- MOT_CFG_WRITE (R269). -/
def execMotCfgWrite (a : Acc) (v : Word) (s : State) : Host.Outcome State Fault Refusal :=
  fieldWrite a Reg.MOT_CFG (motCfgAct v) s

/-- CAM_WRITE (R265). -/
def execCamWrite (a : Acc) (bank : Bool) (k : BitVec 8) (v : Word) (s : State) : Host.Outcome State Fault Refusal :=
  fieldWrite a ((if bank then Reg.CAM1_0 else Reg.CAM0_0) + 4 * k.toNat) (camWriteAct bank k.toNat v) s

/-- SWAP (R265). -/
def execSwap (a : Acc) (s : State) : Host.Outcome State Fault Refusal :=
  fieldWrite a Reg.CAM_CTL swapAct s

/-- DEFLECTION_IDLE (R267). -/
def execDeflectionIdle (s : State) : Host.Outcome State Fault Refusal :=
  onPage 17 deflectionIdleAct s

end Sys2Proof.Machine
end

