-- ==== Sys2Proof/Machine/Boundary.lean ====
section
/-!
DEFINITION. Sys2Proof/Machine/Boundary.lean: the TAP: its instruction and data registers, the boundary register and the pins
that follow it (chapter 16, R418 to R420).
-/

namespace Sys2Proof.Machine

/-- A ball, or a pair of balls, with a cell of the boundary register (R419, R445, R460). -/
inductive Ball where
  | sck
  | csN
  | sdi
  | sdo
  | alertN
  | perstN
  | darkN
  | tripN
  | thermN
  | beamTx (p : Nat)
  | auxTx (i : Nat)
  | auxRx (i : Nat)
  | pcieTx (i : Nat)
  | pcieRx (i : Nat)
  | sysref
  | refclk
  deriving DecidableEq, Repr

/-- The cells (R419). Their order in the chain is the model's (log entry 53). -/
def boundaryCells : List Ball :=
  [.sck, .csN, .sdi, .sdo, .alertN, .perstN, .darkN, .tripN, .thermN] ++ (List.range 96).map .beamTx ++
    (List.range 16).map .auxTx ++ (List.range 16).map .auxRx ++ (List.range 16).map .pcieTx ++ (List.range 16).map .pcieRx ++
    [.sysref, .refclk]

/-- The cell can only observe: its ball drives into the device (R419, R445). -/
def Ball.observes : Ball → Bool
  | .sck | .csN | .sdi | .perstN | .darkN | .auxRx _ | .pcieRx _ | .sysref | .refclk => true
  | _ => false

/-- The level of a ball as the core drives it or the board drives it, where the state shows it. -/
def State.coreLevel (s : State) : Ball → Option Bool
  | .alertN => some (!s.alertLow)
  | .perstN => some s.pins.perstN
  | .darkN => some s.pins.darkN
  | .tripN => some (!s.tripLow)
  | .thermN => some (!s.thermLow)
  | _ => none

/-- The level that the device gives an output ball: while a driving instruction is loaded, that of its cell, and none under
HIGHZ (R420). -/
def State.outLevel (s : State) (b : Ball) : Option Bool :=
  if b.observes || s.tap == 6 then none
  else if jtagDrives s.tap then s.bsr[boundaryCells.idxOf b]?
  else s.coreLevel b

/-- What the boundary register captures: the levels at the balls. One that the state does not show is free. -/
def State.captureCells (s : State) : List Bool × State :=
  (boundaryCells.zipIdx.map fun p => (s.coreLevel p.1).getD (Config.freeBit (s.draws + p.2)),
    { s with draws := s.draws + boundaryCells.length })

/-- The word that IDCODE shifts out (R418). -/
def idcode : Word := 0x1#4 ++ 0x2620#16 ++ Config.jedecId ++ 1#1

/-- The instruction selects the boundary register; the others select IDCODE or the bypass register (R418). -/
def selectsBoundary (op : Byte) : Bool := op == 0 || op == 2 || op == 3 || op == 4

/-- A scan of the selected data register: it captures, `bits` are shifted in behind what it holds, which leaves at TDO, and
the boundary register is updated (R418, R419). -/
def State.scanDr (s : State) (bits : List Bool) : State :=
  let shift (held : List Bool) : List Bool × List Bool := ((held ++ bits).take bits.length, (held ++ bits).drop bits.length)
  if selectsBoundary s.tap then
    let c := s.captureCells
    { c.2 with tdo := (shift c.1).1, bsr := (shift c.1).2 }
  else if s.tap = 1 then { s with tdo := (shift ((List.range 32).map fun i => idcode.getLsbD i)).1 }
  else { s with tdo := (shift [false]).1 }

/-- An instruction is loaded, and a data scan may follow under it. A driving one raises JTAG_EXTEST (R420). A command that
carries a scan and the instruction already loaded, be it IDCODE after a TAP reset, is a data scan alone (log entry 15). -/
def jtagAct (op : Byte) (scan : Option (List Bool)) (s : State) : State :=
  let s1 : State := { s with tap := op }
  let s2 := scan.elim s1 s1.scanDr
  let loads : Bool := scan.isNone || op != s.tap
  if loads && jtagDrives op && s.mainUp then s2.raise Ev.TEST_JTAG_EXTEST op.toNat else s2

/-- The TAP resets to IDCODE. -/
def jtagResetAct (s : State) : State := { s with tap := 1 }

end Sys2Proof.Machine
end

