-- ==== Sys2Proof/Machine/TestUnit.lean ====
section
/-!
DEFINITION. Sys2Proof/Machine/TestUnit.lean: one meaning per command of the test enable, perturbations, test memory operations and the TAP (chapter 16).
-/

namespace Sys2Proof.Machine

/-- TEST_CTL_WRITE (R402). -/
def execTestCtlWrite (a : Acc) (v : Word) (s : State) : Host.Outcome State Fault Refusal :=
  fieldWrite a Reg.TEST_CTL (testEnAct a.party v) s

/-- TEST_XING_CFG_WRITE (R404). -/
def execTestXingCfgWrite (a : Acc) (v : Word) (s : State) : Host.Outcome State Fault Refusal :=
  fieldWrite a Reg.TEST_XING_CFG (testWrite a.party Reg.TEST_XING_CFG (xingCfgAct v)) s

/-- TEST_DRAM_DLY_WRITE (R406). -/
def execTestDramDlyWrite (a : Acc) (v : Word) (s : State) : Host.Outcome State Fault Refusal :=
  fieldWrite a Reg.TEST_DRAM_DLY (testWrite a.party Reg.TEST_DRAM_DLY (dramDlyAct v)) s

/-- TEST_MET_CTL_WRITE (R407). -/
def execTestMetCtlWrite (a : Acc) (v : Word) (s : State) : Host.Outcome State Fault Refusal :=
  fieldWrite a Reg.TEST_MET_CTL (testWrite a.party Reg.TEST_MET_CTL (metCtlAct v)) s

/-- TEST_MET_STEP_WRITE (R408). -/
def execTestMetStepWrite (a : Acc) (v : Word) (s : State) : Host.Outcome State Fault Refusal :=
  fieldWrite a Reg.TEST_MET_STEP (testWrite a.party Reg.TEST_MET_STEP (fun s => s.writeRw Reg.TEST_MET_STEP v)) s

/-- TEST_LANE_CNT_WRITE (R411). -/
def execTestLaneCntWrite (a : Acc) (v : Word) (s : State) : Host.Outcome State Fault Refusal :=
  fieldWrite a Reg.TEST_LANE_CNT (testWrite a.party Reg.TEST_LANE_CNT (fun s => s.writeRw Reg.TEST_LANE_CNT v)) s

/-- TEST_SIG_WRITE (R415). -/
def execTestSigWrite (a : Acc) (v : Word) (s : State) : Host.Outcome State Fault Refusal :=
  fieldWrite a Reg.TEST_SIG (testWrite a.party Reg.TEST_SIG (testSigAct v)) s

/-- TEST_MON_WRITE (R416). -/
def execTestMonWrite (a : Acc) (v : Word) (s : State) : Host.Outcome State Fault Refusal :=
  fieldWrite a Reg.TEST_MON (testWrite a.party Reg.TEST_MON (testMonAct v)) s

/-- FLIP_SRAM (R413). -/
def execFlipSram (a : Acc) (s : State) : Host.Outcome State Fault Refusal :=
  rowWrite a Reg.TEST_MEM_CMD (testWrite a.party Reg.TEST_MEM_CMD (testMemAct 1)) (testWrite a.party Reg.TEST_MEM_CMD fun s => s.testIgnored Reg.TEST_MEM_CMD) s

/-- FLIP_DRAM (R413). -/
def execFlipDram (a : Acc) (s : State) : Host.Outcome State Fault Refusal :=
  rowWrite a Reg.TEST_MEM_CMD (testWrite a.party Reg.TEST_MEM_CMD (testMemAct 2)) (testWrite a.party Reg.TEST_MEM_CMD fun s => s.testIgnored Reg.TEST_MEM_CMD) s

/-- READ_DRAM (R413). -/
def execReadDram (a : Acc) (s : State) : Host.Outcome State Fault Refusal :=
  rowWrite a Reg.TEST_MEM_CMD (testWrite a.party Reg.TEST_MEM_CMD (testMemAct 3)) (testWrite a.party Reg.TEST_MEM_CMD fun s => s.testIgnored Reg.TEST_MEM_CMD) s

/-- MEM_DONE (R414): a memory command that has started completes though the TEST block is gated meanwhile (R403). -/
def execMemDone (written : Bool) (s : State) : Host.Outcome State Fault Refusal :=
  onMain (memDoneAct written) s

/-- JTAG_TAP_RESET (R418); the TAP runs from the service rail (R444). -/
def execJtagTapReset (s : State) : Host.Outcome State Fault Refusal :=
  onService jtagResetAct s

/-- JTAG_INSTRUCTION (R418 to R420). -/
def execJtagInstruction (op : Byte) (scan : Option (List Bool)) (s : State) : Host.Outcome State Fault Refusal :=
  onService (jtagAct op scan) s

end Sys2Proof.Machine
end

