-- ==== Sys2Proof/Machine/Tree.lean ====
section
/-!
DEFINITION. Sys2Proof/Machine/Tree.lean: one meaning per command of the rate governor and constellations (chapter 11).
-/

namespace Sys2Proof.Machine

/-- PLAN_CYCLE (R288). -/
def execPlanCycle (hits : List SramHit) (row : BitVec 16) (s : State) : Host.Outcome State Fault Refusal :=
  checked (Instr.wf (.planCycle hits row)) (onPage 18 (planCycleAct hits row.toNat)) s

/-- REPORT (R288). -/
def execReport (port : Bool) (rx : Rx) (s : State) : Host.Outcome State Fault Refusal :=
  checked (Instr.wf (.report port rx)) (onPage 19 (reportAct port rx)) s

/-- REPORT_TIMEOUT (R288). -/
def execReportTimeout (s : State) : Host.Outcome State Fault Refusal :=
  onPage 18 reportTimeoutAct s

/-- PLAN (R288). -/
def execPlan (rx : Rx) (s : State) : Host.Outcome State Fault Refusal :=
  checked (Instr.wf (.plan rx)) (onPage 19 (planAct rx)) s

/-- JOIN (R287). -/
def execJoin (port : Bool) (rx : Rx) (s : State) : Host.Outcome State Fault Refusal :=
  checked (Instr.wf (.join port rx)) (onPage 19 (joinAct port rx)) s

/-- JOIN_SEND (R287). -/
def execJoinSend (s : State) : Host.Outcome State Fault Refusal :=
  onPage 19 joinSendAct s

/-- GRANT (R287). -/
def execGrant (rx : Rx) (s : State) : Host.Outcome State Fault Refusal :=
  checked (Instr.wf (.grant rx)) (onPage 19 (grantAct rx)) s

/-- TIME_REQ_SEND (R289). -/
def execTimeReqSend (s : State) : Host.Outcome State Fault Refusal :=
  onPage 19 timeReqSendAct s

/-- TIME_REQ (R289). -/
def execTimeReq (port : Bool) (rx : Rx) (turn : BitVec 16) (s : State) : Host.Outcome State Fault Refusal :=
  checked (Instr.wf (.timeReq port rx turn)) (onPage 19 (timeReqAct port rx turn.toNat)) s

/-- TIME_RSP (R289). -/
def execTimeRsp (rx : Rx) (s : State) : Host.Outcome State Fault Refusal :=
  checked (Instr.wf (.timeRsp rx)) (onPage 19 (timeRspAct rx)) s

/-- SETPT (R291). -/
def execSetpt (rx : Rx) (s : State) : Host.Outcome State Fault Refusal :=
  checked (Instr.wf (.setpt rx)) (onPage 19 (setptAct rx)) s

/-- HALT (R292). -/
def execHalt (rx : Rx) (s : State) : Host.Outcome State Fault Refusal :=
  checked (Instr.wf (.halt rx)) (onPage 19 (haltAct rx)) s

/-- LINK_DEGRADED (R293). -/
def execLinkDegraded (lane : BitVec 3) (s : State) : Host.Outcome State Fault Refusal :=
  checked (Instr.wf (.linkDegraded lane)) (onPage 19 (linkDegradedAct lane.toNat)) s

/-- CST_LOSS (R293). -/
def execCstLoss (port : Bool) (lanes : Bool) (s : State) : Host.Outcome State Fault Refusal :=
  onPage 19 (lossAct port lanes) s

/-- CST_ORPHAN (R293). -/
def execCstOrphan (lanes : Bool) (s : State) : Host.Outcome State Fault Refusal :=
  onPage 19 (orphanAct lanes) s

/-- GOV_CONFIG_WRITE (R278). -/
def execGovConfigWrite (a : Acc) (reg : BitVec 2) (v : Word) (s : State) : Host.Outcome State Fault Refusal :=
  checked (Instr.wf (.govConfigWrite a reg v)) (fieldWrite a (Reg.GOV_CTL + 4 * reg.toNat) (govConfigAct reg.toNat v)) s

/-- CST_CFG_WRITE (R284). -/
def execCstCfgWrite (a : Acc) (v : Word) (s : State) : Host.Outcome State Fault Refusal :=
  fieldWrite a Reg.CST_CFG (cstCfgAct v) s

/-- REJOIN (R287). -/
def execRejoin (a : Acc) (s : State) : Host.Outcome State Fault Refusal :=
  cmdWrite a Reg.CST_CMD rejoinAct s

/-- CST_SNAP (R296). -/
def execCstSnap (a : Acc) (s : State) : Host.Outcome State Fault Refusal :=
  cmdWrite a Reg.CST_CMD cstSnapAct s

/-- CST_SNAP_DONE (R296). -/
def execCstSnapDone (s : State) : Host.Outcome State Fault Refusal :=
  onPage 19 (fun s => s.resultFinish Reg.CST_SNAP_STAT Ev.CST_SNAP_DONE none) s

/-- SYMBOL_LOCK (R293). -/
def execSymbolLock (lane : BitVec 3) (s : State) : Host.Outcome State Fault Refusal :=
  checked (Instr.wf (.symbolLock lane)) (onPage 19 (symbolLockAct lane.toNat)) s

end Sys2Proof.Machine
end

