-- ==== Sys2Proof/Machine/Dispatch.lean ====
section
/-!
DEFINITION. Sys2Proof/Machine/Dispatch.lean: one arm per command, each a direct call of its meaning.
-/

namespace Sys2Proof.Machine

def exec (i : Instr) (s : State) : Host.Outcome State Fault Refusal :=
  match i with
  | .registerWrite a word v => Sys2Proof.Machine.execRegisterWrite a word v s
  | .spiRead addr tRa hits => Sys2Proof.Machine.execSpiRead addr tRa hits s
  | .spiWrite addr v clocks => Sys2Proof.Machine.execSpiWrite addr v clocks s
  | .evtStatClear a page v => Sys2Proof.Machine.execEvtStatClear a page v s
  | .evtForce a page v => Sys2Proof.Machine.execEvtForce a page v s
  | .evtClassWrite a page v => Sys2Proof.Machine.execEvtClassWrite a page v s
  | .evtEnWrite a page v => Sys2Proof.Machine.execEvtEnWrite a page v s
  | .pageCtlWrite a page v => Sys2Proof.Machine.execPageCtlWrite a page v s
  | .pageLock a page v => Sys2Proof.Machine.execPageLock a page v s
  | .cntClr a page v => Sys2Proof.Machine.execCntClr a page v s
  | .lbCfgWrite a b v => Sys2Proof.Machine.execLbCfgWrite a b v s
  | .lbLeak b => Sys2Proof.Machine.execLbLeak b s
  | .nvProgramDone idx => Sys2Proof.Machine.execNvProgramDone idx s
  | .propose a => Sys2Proof.Machine.execPropose a s
  | .tpValidateDone => Sys2Proof.Machine.execTpValidateDone s
  | .confirm a => Sys2Proof.Machine.execConfirm a s
  | .tpApply => Sys2Proof.Machine.execTpApply s
  | .withdraw a => Sys2Proof.Machine.execWithdraw a s
  | .reject a => Sys2Proof.Machine.execReject a s
  | .timeout => Sys2Proof.Machine.execTimeout s
  | .geomPitchWrite a v => Sys2Proof.Machine.execGeomPitchWrite a v s
  | .load a ctx => Sys2Proof.Machine.execLoad a ctx s
  | .loadDone => Sys2Proof.Machine.execLoadDone s
  | .start a ctx => Sys2Proof.Machine.execStart a ctx s
  | .cancel a ctx => Sys2Proof.Machine.execCancel a ctx s
  | .abort a ctx => Sys2Proof.Machine.execAbort a ctx s
  | .release a ctx => Sys2Proof.Machine.execRelease a ctx s
  | .resume a ctx => Sys2Proof.Machine.execResume a ctx s
  | .primingEntry => Sys2Proof.Machine.execPrimingEntry s
  | .jobLevel => Sys2Proof.Machine.execJobLevel s
  | .exposingEntry hits => Sys2Proof.Machine.execExposingEntry hits s
  | .stripeDone => Sys2Proof.Machine.execStripeDone s
  | .densBandParse hits row gran => Sys2Proof.Machine.execDensBandParse hits row gran s
  | .rasterParse full hits => Sys2Proof.Machine.execRasterParse full hits s
  | .decodeResume eng room => Sys2Proof.Machine.execDecodeResume eng room s
  | .bitmapDecodeDone eng room => Sys2Proof.Machine.execBitmapDecodeDone eng room s
  | .jobFaultInfoClear a v => Sys2Proof.Machine.execJobFaultInfoClear a v s
  | .bandEnqueue hits row => Sys2Proof.Machine.execBandEnqueue hits row s
  | .pieceDispatch room => Sys2Proof.Machine.execPieceDispatch room s
  | .pieceDone eng clocks => Sys2Proof.Machine.execPieceDone eng clocks s
  | .tileLate => Sys2Proof.Machine.execTileLate s
  | .workspaceFault eng hit => Sys2Proof.Machine.execWorkspaceFault eng hit s
  | .rastEngEnWrite a hi v => Sys2Proof.Machine.execRastEngEnWrite a hi v s
  | .rastCtlWrite a v => Sys2Proof.Machine.execRastCtlWrite a v s
  | .rastProbeCmd a v => Sys2Proof.Machine.execRastProbeCmd a v s
  | .rastProbeDone hits => Sys2Proof.Machine.execRastProbeDone hits s
  | .doseFormation hits row => Sys2Proof.Machine.execDoseFormation hits row s
  | .tileHandoff => Sys2Proof.Machine.execTileHandoff s
  | .corrCtlWrite a v => Sys2Proof.Machine.execCorrCtlWrite a v s
  | .corrProbeCmd a v => Sys2Proof.Machine.execCorrProbeCmd a v s
  | .corrProbeDone hits row => Sys2Proof.Machine.execCorrProbeDone hits row s
  | .sigCompare tile => Sys2Proof.Machine.execSigCompare tile s
  | .sigMisInfoClear a v => Sys2Proof.Machine.execSigMisInfoClear a v s
  | .sigCapCmd a v => Sys2Proof.Machine.execSigCapCmd a v s
  | .transitFire hits => Sys2Proof.Machine.execTransitFire hits s
  | .markerSend frames => Sys2Proof.Machine.execMarkerSend frames s
  | .statusRecord lane body crc => Sys2Proof.Machine.execStatusRecord lane body crc s
  | .statusTimeout n => Sys2Proof.Machine.execStatusTimeout n s
  | .auxDown lane => Sys2Proof.Machine.execAuxDown lane s
  | .kill => Sys2Proof.Machine.execKill s
  | .commandResend => Sys2Proof.Machine.execCommandResend s
  | .blnRemapCmd a v => Sys2Proof.Machine.execBlnRemapCmd a v s
  | .laneWakeDone phys => Sys2Proof.Machine.execLaneWakeDone phys s
  | .blnCalCmd a v => Sys2Proof.Machine.execBlnCalCmd a v s
  | .calDone ok taps resid eye => Sys2Proof.Machine.execCalDone ok taps resid eye s
  | .blnLaneTapWrite a v => Sys2Proof.Machine.execBlnLaneTapWrite a v s
  | .setFail a => Sys2Proof.Machine.execSetFail a s
  | .clearFail a => Sys2Proof.Machine.execClearFail a s
  | .blnTestCtlWrite a v => Sys2Proof.Machine.execBlnTestCtlWrite a v s
  | .inj a => Sys2Proof.Machine.execInj a s
  | .blnCtlWrite a v => Sys2Proof.Machine.execBlnCtlWrite a v s
  | .blnAuxWrite a v => Sys2Proof.Machine.execBlnAuxWrite a v s
  | .metSample second com body crc => Sys2Proof.Machine.execMetSample second com body crc s
  | .sampleTimeout second => Sys2Proof.Machine.execSampleTimeout second s
  | .stripeArmed hits frames => Sys2Proof.Machine.execStripeArmed hits frames s
  | .startLate => Sys2Proof.Machine.execStartLate s
  | .usePrimary a => Sys2Proof.Machine.execUsePrimary a s
  | .trkSnap a => Sys2Proof.Machine.execTrkSnap a s
  | .trkSnapDone => Sys2Proof.Machine.execTrkSnapDone s
  | .trkConfigWrite a reg v => Sys2Proof.Machine.execTrkConfigWrite a reg v s
  | .move a axis => Sys2Proof.Machine.execMove a axis s
  | .stop a => Sys2Proof.Machine.execStop a s
  | .clearPend a => Sys2Proof.Machine.execClearPend a s
  | .setPos a axis => Sys2Proof.Machine.execSetPos a axis s
  | .motSnap a axis => Sys2Proof.Machine.execMotSnap a axis s
  | .motSnapDone => Sys2Proof.Machine.execMotSnapDone s
  | .tick => Sys2Proof.Machine.execTick s
  | .motProfileWrite a reg v => Sys2Proof.Machine.execMotProfileWrite a reg v s
  | .motCfgWrite a v => Sys2Proof.Machine.execMotCfgWrite a v s
  | .camWrite a bank k v => Sys2Proof.Machine.execCamWrite a bank k v s
  | .swap a => Sys2Proof.Machine.execSwap a s
  | .deflectionIdle => Sys2Proof.Machine.execDeflectionIdle s
  | .planCycle hits row => Sys2Proof.Machine.execPlanCycle hits row s
  | .report port rx => Sys2Proof.Machine.execReport port rx s
  | .reportTimeout => Sys2Proof.Machine.execReportTimeout s
  | .plan rx => Sys2Proof.Machine.execPlan rx s
  | .join port rx => Sys2Proof.Machine.execJoin port rx s
  | .joinSend => Sys2Proof.Machine.execJoinSend s
  | .grant rx => Sys2Proof.Machine.execGrant rx s
  | .timeReqSend => Sys2Proof.Machine.execTimeReqSend s
  | .timeReq port rx turn => Sys2Proof.Machine.execTimeReq port rx turn s
  | .timeRsp rx => Sys2Proof.Machine.execTimeRsp rx s
  | .setpt rx => Sys2Proof.Machine.execSetpt rx s
  | .halt rx => Sys2Proof.Machine.execHalt rx s
  | .linkDegraded lane => Sys2Proof.Machine.execLinkDegraded lane s
  | .cstLoss port lanes => Sys2Proof.Machine.execCstLoss port lanes s
  | .cstOrphan lanes => Sys2Proof.Machine.execCstOrphan lanes s
  | .govConfigWrite a reg v => Sys2Proof.Machine.execGovConfigWrite a reg v s
  | .cstCfgWrite a v => Sys2Proof.Machine.execCstCfgWrite a v s
  | .rejoin a => Sys2Proof.Machine.execRejoin a s
  | .cstSnap a => Sys2Proof.Machine.execCstSnap a s
  | .cstSnapDone => Sys2Proof.Machine.execCstSnapDone s
  | .generate a src target => Sys2Proof.Machine.execGenerate a src target s
  | .generateDone => Sys2Proof.Machine.execGenerateDone s
  | .adopt a src target => Sys2Proof.Machine.execAdopt a src target s
  | .adoptDone => Sys2Proof.Machine.execAdoptDone s
  | .topupHeld a => Sys2Proof.Machine.execTopupHeld a s
  | .discardHeld a => Sys2Proof.Machine.execDiscardHeld a s
  | .ldgTailWrite a v => Sys2Proof.Machine.execLdgTailWrite a v s
  | .ldgAreaWrite a reg v => Sys2Proof.Machine.execLdgAreaWrite a reg v s
  | .configRequest write dw v be => Sys2Proof.Machine.execConfigRequest write dw v be s
  | .bar2Write off bytes => Sys2Proof.Machine.execBar2Write off bytes s
  | .bar2Read off len => Sys2Proof.Machine.execBar2Read off len s
  | .msixAccess write off dws => Sys2Proof.Machine.execMsixAccess write off dws s
  | .unsupportedRequest kind hdr => Sys2Proof.Machine.execUnsupportedRequest kind hdr s
  | .poisonRx hdr => Sys2Proof.Machine.execPoisonRx hdr s
  | .flr => Sys2Proof.Machine.execFlr s
  | .linkDown => Sys2Proof.Machine.execLinkDown s
  | .linkUp speed width => Sys2Proof.Machine.execLinkUp speed width s
  | .d3hotEntry => Sys2Proof.Machine.execD3hotEntry s
  | .d0Return => Sys2Proof.Machine.execD0Return s
  | .hostWinWrite a v => Sys2Proof.Machine.execHostWinWrite a v s
  | .ringCfgWrite a ring reg v => Sys2Proof.Machine.execRingCfgWrite a ring reg v s
  | .ringStart a ring slot => Sys2Proof.Machine.execRingStart a ring slot s
  | .ringStop a ring => Sys2Proof.Machine.execRingStop a ring s
  | .doorbell a ring => Sys2Proof.Machine.execDoorbell a ring s
  | .descriptorFetch ring late st words hits => Sys2Proof.Machine.execDescriptorFetch ring late st words hits s
  | .parkReread ring late st w0 => Sys2Proof.Machine.execParkReread ring late st w0 s
  | .dmaBurst chan => Sys2Proof.Machine.execDmaBurst chan s
  | .descriptorComplete ring => Sys2Proof.Machine.execDescriptorComplete ring s
  | .waitTimeout ring => Sys2Proof.Machine.execWaitTimeout ring s
  | .ringiEvtWrite a ring v => Sys2Proof.Machine.execRingiEvtWrite a ring v s
  | .dmaErrInfoClear a v => Sys2Proof.Machine.execDmaErrInfoClear a v s
  | .hostCplTmo ring late pos => Sys2Proof.Machine.execHostCplTmo ring late pos s
  | .sramZeroed => Sys2Proof.Machine.execSramZeroed s
  | .zreadClear a v => Sys2Proof.Machine.execZreadClear a v s
  | .memRemapCmd a v => Sys2Proof.Machine.execMemRemapCmd a v s
  | .memRemapDone => Sys2Proof.Machine.execMemRemapDone s
  | .dramRetCmd a v => Sys2Proof.Machine.execDramRetCmd a v s
  | .retireDone => Sys2Proof.Machine.execRetireDone s
  | .arbitration raised issued dropped found => Sys2Proof.Machine.execArbitration raised issued dropped found s
  | .arbWrite a reg v => Sys2Proof.Machine.execArbWrite a reg v s
  | .dramReady => Sys2Proof.Machine.execDramReady s
  | .clkFail kind meas => Sys2Proof.Machine.execClkFail kind meas s
  | .srcFail src kind meas => Sys2Proof.Machine.execSrcFail src kind meas s
  | .rcRestart => Sys2Proof.Machine.execRcRestart s
  | .rcLost => Sys2Proof.Machine.execRcLost s
  | .srcUp src coarse fine => Sys2Proof.Machine.execSrcUp src coarse fine s
  | .sourceMove => Sys2Proof.Machine.execSourceMove s
  | .sourceChanged => Sys2Proof.Machine.execSourceChanged s
  | .loopRelock => Sys2Proof.Machine.execLoopRelock s
  | .islandSwitchDone island => Sys2Proof.Machine.execIslandSwitchDone island s
  | .selectXtal a => Sys2Proof.Machine.execSelectXtal a s
  | .selectSys a => Sys2Proof.Machine.execSelectSys a s
  | .selectRc a => Sys2Proof.Machine.execSelectRc a s
  | .service a => Sys2Proof.Machine.execService a s
  | .holdExit a => Sys2Proof.Machine.execHoldExit a s
  | .svcCold a => Sys2Proof.Machine.execSvcCold a s
  | .svcWarm a => Sys2Proof.Machine.execSvcWarm a s
  | .clkPwrWrite a v => Sys2Proof.Machine.execClkPwrWrite a v s
  | .clkGateWrite a set v => Sys2Proof.Machine.execClkGateWrite a set v s
  | .clkCfgWrite a switchReg v => Sys2Proof.Machine.execClkCfgWrite a switchReg v s
  | .powerOn => Sys2Proof.Machine.execPowerOn s
  | .perstN level => Sys2Proof.Machine.execPerstN level s
  | .brownout => Sys2Proof.Machine.execBrownout s
  | .tempSense hottest => Sys2Proof.Machine.execTempSense hottest s
  | .xtalTimeout => Sys2Proof.Machine.execXtalTimeout s
  | .ready => Sys2Proof.Machine.execReady s
  | .darkNFall => Sys2Proof.Machine.execDarkNFall s
  | .darkNRise => Sys2Proof.Machine.execDarkNRise s
  | .testCtlWrite a v => Sys2Proof.Machine.execTestCtlWrite a v s
  | .testXingCfgWrite a v => Sys2Proof.Machine.execTestXingCfgWrite a v s
  | .testDramDlyWrite a v => Sys2Proof.Machine.execTestDramDlyWrite a v s
  | .testMetCtlWrite a v => Sys2Proof.Machine.execTestMetCtlWrite a v s
  | .testMetStepWrite a v => Sys2Proof.Machine.execTestMetStepWrite a v s
  | .testLaneCntWrite a v => Sys2Proof.Machine.execTestLaneCntWrite a v s
  | .testSigWrite a v => Sys2Proof.Machine.execTestSigWrite a v s
  | .testMonWrite a v => Sys2Proof.Machine.execTestMonWrite a v s
  | .flipSram a => Sys2Proof.Machine.execFlipSram a s
  | .flipDram a => Sys2Proof.Machine.execFlipDram a s
  | .readDram a => Sys2Proof.Machine.execReadDram a s
  | .memDone written => Sys2Proof.Machine.execMemDone written s
  | .jtagTapReset => Sys2Proof.Machine.execJtagTapReset s
  | .jtagInstruction op scan => Sys2Proof.Machine.execJtagInstruction op scan s
  | .almLoadCmd a v => Sys2Proof.Machine.execAlmLoadCmd a v s
  | .almLoadDone hits => Sys2Proof.Machine.execAlmLoadDone hits s
  | .registerRead a word hits => Sys2Proof.Machine.execRegisterRead a word hits s
  | .hostCompletion ring late pos st data => Sys2Proof.Machine.execHostCompletion ring late pos st data s
  | .vaux33Loss => Sys2Proof.Machine.execVaux33Loss s
  | .vaux33Return => Sys2Proof.Machine.execVaux33Return s
  | .symbolLock lane => Sys2Proof.Machine.execSymbolLock lane s
  | .checkerLock lock errors => Sys2Proof.Machine.execCheckerLock lock errors s

end Sys2Proof.Machine
end

