-- ==== Sys2Proof/Machine/Step.lean ====
section
/-!
DEFINITION. Sys2Proof/Machine/Step.lean: one step: the command at the front of the queue, or one idle cycle.
-/

namespace Sys2Proof.Machine

/-- Take the front command and run it with the queue's rest. On an empty queue the block idles: one motion-island cycle of
device time passes (log entry 2). -/
def step (s : State) : Host.Outcome State Fault Refusal :=
  match s.pending with
  | [] => finish (motionCycle s.controlCycle)
  | c :: rest => exec c { s with pending := rest }

/-- Put the command that a table word spells at the front of the queue; no word spells one. -/
def State.withFetchWord (s : State) (nbits w : Nat) : State :=
  match decodeTableWord nbits w with
  | none => s
  | some c => { s with pending := c :: s.pending }

end Sys2Proof.Machine
end

