-- ==== Sys2Proof/Safety.lean ====
section
/-!
DEFINITION. Sys2Proof/Safety.lean: what the claims call a settled state, a well-formed memory and a safe interlock.
-/

namespace Sys2Proof.Machine

/-- What holds at the end of every command: no class action is outstanding, blocks stay ungated only for a running stripe
(R393), the test enable is clear whenever the TEST block is gated (R403), and the next command opens a cycle of its own
(log entry 1). -/
def State.Settled (s : State) : Prop :=
  s.due = [] ∧ (s.running = false → s.clk.ungated = 0) ∧ (s.testEn = true → s.blockGated 6 = false) ∧
    s.cyc.same = false ∧ s.cyc.incsNow = [] ∧ s.cyc.seen = s.seenNow

/-- DRAM is in the canonical form of a memory of bytes. -/
def State.DramWf (s : State) : Prop := Memory.wf s.dram.data = true

/-- A state in which the end of a command has nothing to do. -/
def State.Quiet (s : State) : Prop :=
  s.Settled ∧ s.bar2Wait = [] ∧ (∀ p ∈ s.rings, p.2.bursts = []) ∧ s.ledger.fresh = [] ∧ s.ledger.topping = [] ∧
    s.link.held = []

/-- A command ran and left a next state. -/
def Runs (c : Instr) (s t : State) : Prop := exec c s = .next t

end Sys2Proof.Machine
end

