-- ==== Sys2Proof/Certificates/Slice0/Obligations.lean ====
section
/-!
DEFINITION. Sys2Proof/Certificates/Slice0/Obligations.lean: the statements for the provers. A statement that names an act of
the model (an operation, `settle`) says that the command leaves exactly that state; what each operation is stands in its
definition, and what `settle` does to a state with nothing due is a statement of its own.
-/

open Sys2Proof Sys2Proof.Machine

namespace Sys2Proof.Machine

/-- A register write of `a` at `off` passes every check of R35 and is alone in its cycle. -/
def Taken (a : Acc) (off : Nat) (s : State) : Prop := s.judge a off = .accepted ∧ a.tie = .alone

/-- A message arrives whole on a port that the role uses: its check and TYPE are right and its SEQ is new there, after
which the port keeps `w` of the SEQs taken (R285, R293). -/
abbrev Arrives (s : State) (p : Nat) (type : Byte) (rx : Rx) (w : Nat × Nat) : Prop :=
  s.portUsed p = true ∧ s.auxCorrupts (rx.lane p) = false ∧ crcGood rx.body rx.crc = true ∧ rx.body.headD 0 = type ∧
  seqTaken (sget (0, 0) s.cst.rx p).1 (sget (0, 0) s.cst.rx p).2 rx.seq = some w

/-- The state after the SEQ of an arriving message is taken. -/
def State.took (s : State) (p : Nat) (w : Nat × Nat) : State :=
  { s with cst := { s.cst with rx := sput (0, 0) s.cst.rx p w } }

end Sys2Proof.Machine

/-- REGISTER_READ and SPI_READ answer with the word and change nothing else (it rests on R35, R39, R359, R420, R425,
R427, R452). The model's own: log entry 13 (configuration space, free headers), PRESUMED; log entry 93 (which t_RA),
DEDUCED; log entry 136 (reads while JTAG drives), DESIGN CHOICE. -/
def Obligations.ReadsReturnTheWord : Prop :=
  (∀ (s : State) (a : Acc) (w : BitVec 22) (hits : List TabHit), hits.all TabHit.readable = true → s.mainUp = true →
    (s.memOn = false → exec (.registerRead a w hits) s = .next (State.settle (s.hostMiss false))) ∧
    (s.memOn = true → a.single = true → a.low = 0 → 4 * w.toNat / 0x1000 < 21 →
      (4 * w.toNat % 0x1000 < 0x40 ∨ s.gated (4 * w.toNat / 0x1000) = false →
        let r := s.readMeeting (4 * w.toNat) hits
        exec (.registerRead a w hits) s = .next (State.settle (r.2.completes fun t => { t with cplData := r.1 }))) ∧
      (0x40 ≤ 4 * w.toNat % 0x1000 → s.gated (4 * w.toNat / 0x1000) = true →
        exec (.registerRead a w hits) s = .next (State.settle ((s.bump Reg.CTRL_GATED_CNT).completes fun t => { t with cplData := 0 })))) ∧
    (s.memOn = true → a.single = true → a.low = 0 → 21 ≤ 4 * w.toNat / 0x1000 →
      exec (.registerRead a w hits) s = .next (State.settle (s.completes fun t => { t with cplData := 0 })))) ∧
  (∀ (s : State) (a : Acc) (w : BitVec 22) (hits : List TabHit), s.mainUp = false →
    exec (.registerRead a w hits) s = .next s.settle) ∧
  (∀ (s : State) (addr : BitVec 24) (tRa : Nat) (hits : List TabHit), hits.all TabHit.readable = true →
    let page := addr.toNat / 0x1000
    let answers (t : State) : Prop := exec (.spiRead addr tRa hits) s = .next t.settle
    (tRa < s.raNeeded (addr.toNat / 4 * 4) → answers (s.sdoBrings 0)) ∧
    (s.raNeeded (addr.toNat / 4 * 4) ≤ tRa →
      (s.reaches .spi page = false → answers (s.sdoBrings 0)) ∧
      (s.reaches .spi page = true → addr.toNat % 4 ≠ 0 →
        answers ((s.logAcc .spi 1 addr.toNat).sdoBrings 0)) ∧
      (s.reaches .spi page = true → addr.toNat % 4 = 0 → 21 ≤ page → answers (s.sdoBrings 0)) ∧
      (s.reaches .spi page = true → addr.toNat % 4 = 0 → page < 21 →
        (0x40 ≤ addr.toNat % 0x1000 → s.gated page = true →
          answers ((s.bump Reg.CTRL_GATED_CNT).sdoBrings 0)) ∧
        (addr.toNat % 0x1000 < 0x40 ∨ s.gated page = false →
          let r := s.readMeeting addr.toNat hits
          answers (r.2.sdoBrings r.1))))) ∧
  (∀ (s : State) (off : Nat) (hits : List TabHit),
    (logWord off = false → off ≠ Reg.ALM_QUERY → s.readMeeting off hits = (s.readWord off, s)) ∧
    (logWord off = true → hits = [] → s.readMeeting off hits = (s.readWord off, s)) ∧
    (logWord off = true → (s.tabHits (hits.filter fun b => b.hit.inGroups 90 91)).1 ≠ [] → (s.readMeeting off hits).1 = 0)) ∧
  (∀ (s : State) (f : State → State) (w : Word),
    (s.tap ∉ [0, 3, 4, 5, 6] → s.completes f = f s ∧ s.sdoBrings w = { s with spiData := w }) ∧
    (s.tap ∈ [0, 3, 4, 5, 6] → s.completes f = s) ∧
    (s.tap ∈ [0, 3, 4, 5] →
      s.sdoBrings w = { s with spiData := if s.bsr.getD sdoCell false then 0xFFFFFFFF else 0 }) ∧
    (s.tap = 6 → s.sdoBrings w = { s with spiData := Config.freeWord s.draws, draws := s.draws + 1 }))

/-- A register write is checked in the order of R35; a plain register takes its RW bits (it rests on R33, R34, R35,
R36, R37, R38, R39, R427, R428). The model's own: log entries 1 (one queue, what falls into one cycle), 27 (an SPI
write of fewer than 32 clocks), DESIGN CHOICE; log entry 13 (configuration space, free headers), PRESUMED; log entry
102 (accesses to CLK in reset), DEDUCED. -/
def Obligations.WritesFollowTheChecks : Prop :=
  (∀ (s : State) (a : Acc) (w : BitVec 22) (v : Word), (∀ v', a.tie ≠ .both v' ∧ a.tie ≠ .bothDevice v') →
    let off := 4 * w.toNat
    let page := off / 0x1000
    let u := s.sameCycle a.tie
    let answers (t : State) : Prop :=
      exec (.registerWrite a w v) s = .next t.settle
    let logs (k : Nat) : Prop := answers (u.logAcc a.party k (off + a.low.toNat))
    (s.reaches a.party page = false →
      (a.party = .spi ∨ s.mainUp = false → answers u) ∧
      (a.party = .pcie → s.mainUp = true → answers (u.hostMiss true))) ∧
    (s.reaches a.party page = true →
      (a.single = false → logs 0) ∧
      (a.single = true →
        (a.low ≠ 0 → logs 1) ∧
        (a.low = 0 →
          (21 ≤ page → logs 2) ∧
          (page < 21 →
            (0x40 ≤ off % 0x1000 ∧ s.gated page = true →
              answers (u.bump Reg.CTRL_GATED_CNT)) ∧
            (¬ (0x40 ≤ off % 0x1000 ∧ s.gated page = true) →
              (s.mapAllows a.party page = false ∧ inBank a.party off = false ∧ off % 0x1000 ≠ 0x10 → logs 3) ∧
              (s.mapAllows a.party page = true ∨ inBank a.party off = true ∨ off % 0x1000 = 0x10 →
                (inBank (otherParty a.party) off = true → logs 3) ∧
                (inBank (otherParty a.party) off = false →
                  ((s.hdr page).lock = true ∧ lockGuards a.party off = true → logs 4) ∧
                  (¬ ((s.hdr page).lock = true ∧ lockGuards a.party off = true) →
                    (isDp off = true → logs 5) ∧
                    (isDp off = false → ((nvIdx off).any fun i => s.nvWorn i) = true → logs 7)))))))))) ∧
  (∀ (s : State) (a : Acc) (w : BitVec 22) (v : Word), Taken a (4 * w.toNat) s →
    4 * w.toNat ∈ [Reg.JOB_DESC_LO, Reg.RAST_PROBE_X, Reg.CORR_PROBE_X, Reg.PASS_CTL, Reg.TRK_FE, Reg.MOT_TGT_LO,
      Reg.LDG_ARG, Reg.GOV_BAND_SEL] →
    exec (.registerWrite a w v) s = .next (State.settle (s.writeRw (4 * w.toNat) v))) ∧
  (∀ (s : State) (w : BitVec 22) (v v' : Word),
    s.judge ⟨.pcie, true, 0, .both v'⟩ (4 * w.toNat) = .accepted → s.judge ⟨.spi, true, 0, .both v'⟩ (4 * w.toNat) = .accepted →
    4 * w.toNat ∈ [Reg.JOB_DESC_LO, Reg.RAST_PROBE_X, Reg.PASS_CTL, Reg.TRK_FE, Reg.LDG_ARG] →
    exec (.registerWrite ⟨.pcie, true, 0, .both v'⟩ w v) s =
      .next (State.settle ((s.writeRw (4 * w.toNat) v).writeRw (4 * w.toNat) v'))) ∧
  (∀ (s : State) (addr : BitVec 24) (v : Word) (clocks : Nat),
    (64 ≤ clocks → Taken ⟨.spi, true, 0, .alone⟩ addr.toNat s → addr.toNat ∈ [Reg.JOB_DESC_LO, Reg.LDG_ARG, Reg.TRK_FE] →
      exec (.spiWrite addr v clocks) s = .next (State.settle (s.writeRw addr.toNat v))) ∧
    (clocks < 64 → s.reaches .spi (addr.toNat / 0x1000) = true →
      exec (.spiWrite addr v clocks) s = .next (State.settle (s.logAcc .spi 6 addr.toNat))) ∧
    (clocks < 64 → s.reaches .spi (addr.toNat / 0x1000) = false → exec (.spiWrite addr v clocks) s = .next s.settle)) ∧
  (∀ (s : State) (addr : BitVec 24) (v : Word) (clocks : Nat), 64 ≤ clocks →
    let a : Acc := ⟨.spi, true, addr.extractLsb' 0 2, .alone⟩
    let page := addr.toNat / 0x1000
    let answers (t : State) : Prop := exec (.spiWrite addr v clocks) s = .next t.settle
    let logs (k : Nat) : Prop := answers (s.logAcc .spi k addr.toNat)
    exec (.spiWrite addr v clocks) s = exec (.registerWrite a (addr.extractLsb' 2 22) v) s ∧
    (s.reaches .spi page = false → answers s) ∧
    (s.reaches .spi page = true →
      (a.low ≠ 0 → logs 1) ∧
      (a.low = 0 → 21 ≤ page → logs 2) ∧
      (a.low = 0 → page < 21 → 0x40 ≤ addr.toNat % 0x1000 → s.gated page = true → answers (s.bump Reg.CTRL_GATED_CNT)) ∧
      (a.low = 0 → page < 21 → addr.toNat % 0x1000 < 0x40 ∨ s.gated page = false →
        (s.mapAllows .spi page = false → inBank .spi addr.toNat = false → addr.toNat % 0x1000 ≠ 0x10 → logs 3) ∧
        (s.mapAllows .spi page = true ∨ inBank .spi addr.toNat = true ∨ addr.toNat % 0x1000 = 0x10 →
          (inBank .pcie addr.toNat = true → logs 3) ∧
          (inBank .pcie addr.toNat = false →
            ((s.hdr page).lock = true → lockGuards .spi addr.toNat = true → logs 4) ∧
            ((s.hdr page).lock = false ∨ lockGuards .spi addr.toNat = false →
              (isDp addr.toNat = true → logs 5) ∧
              (isDp addr.toNat = false → ((nvIdx addr.toNat).any fun i => s.nvWorn i) = true → logs 7)))))))

/-- EVT_STAT_CLEAR, EVT_EN_WRITE, PAGE_CTL_WRITE, PAGE_LOCK, EVT_FORCE and EVT_CLASS_WRITE (it rests on R33, R38, R43,
R46, R331, R428). The model's own: log entries 1 (one queue, what falls into one cycle), 7 (free values), 22 (the
context of a forced event), 23 (the order of forced events), DESIGN CHOICE. -/
def Obligations.HeaderCommandsChangeTheirHeader : Prop :=
  (∀ (s : State) (a : Acc) (p : PageNo) (v : Word),
    (Taken a (0x1000 * p.toNat + 0x10) s →
      exec (.evtStatClear a p v) s =
        .next (State.settle (s.changeHdr p.toNat fun h => { h with stat := h.stat &&& ~~~ v }))) ∧
    (s.judge a (0x1000 * p.toNat + 0x10) = .accepted → a.tie = .device →
      ∃ t : State, exec (.evtStatClear a p v) s = .next t.settle ∧
        (t.hdr p.toNat).stat = (s.hdr p.toNat).stat &&& ~~~ (v &&& ~~~ s.tiedBits .device p.toNat)) ∧
    (∀ b < 32, wbit (s.tiedBits .device p.toNat) b = s.recent.any fun o => decide (o.ev = ⟨p.toNat, b⟩)) ∧
    (Taken a (0x1000 * p.toNat + 0x14) s →
      exec (.evtEnWrite a p v) s = .next (State.settle (s.changeHdr p.toNat fun h => { h with en := v }))) ∧
    (Taken a (0x1000 * p.toNat + 0x08) s →
      exec (.pageCtlWrite a p v) s =
        .next (State.settle (s.changeHdr p.toNat fun h => { h with irqEn := wbit v 0, alertEn := wbit v 1 }))) ∧
    (Taken a (0x1000 * p.toNat + 0x20) s →
      exec (.pageLock a p v) s =
        .next (State.settle (s.setHdr p.toNat { s.hdr p.toNat with lock := (s.hdr p.toNat).lock || wbit v 0 })))) ∧
  (∀ (s : State) (a : Acc) (p : PageNo) (v : Word), Taken a (0x1000 * p.toNat + 0x18) s →
    (s.testEn = true →
      exec (.evtForce a p v) s =
        .next (State.settle ((List.range (evtTable p.toNat).length).foldl
          (fun (u : State) b =>
            if wbit v b then
              ({ u with draws := u.draws + 1 } : State).raiseAs true ⟨p.toNat, b⟩ (fld (Config.freeWord u.draws) 0 16)
                (s.forcedCtx ⟨p.toNat, b⟩)
            else u) s))) ∧
    (s.testEn = false →
      exec (.evtForce a p v) s =
        .next (State.settle (s.logAcc a.party 3 (0x1000 * p.toNat + 0x18))))) ∧
  (∀ (s : State) (a : Acc) (p : PageNo) (b : Nat), b < (evtTable p.toNat).length → b < 32 → s.testEn = true →
    s.judge a (0x1000 * p.toNat + 0x18) = .accepted →
    (a.tie = .device →
      (s.tiedReal .device ⟨p.toNat, b⟩ = s.recent.any fun o => decide (o.ev = ⟨p.toNat, b⟩) && !o.forced) ∧
      (s.tiedReal .device ⟨p.toNat, b⟩ = true →
        exec (.evtForce a p (BitVec.twoPow 32 b)) s = .next (State.settle (s.sameCycle .device)))) ∧
    (∀ v k, p = 0 → a.tie = .both v → s.judge (otherAcc a) 0x18 = .logged k →
      (⟨0, b⟩ : EvId) = (if k = 3 ∨ k = 4 then Ev.CTRL_ACCESS_DENIED else if k = 5 then Ev.CTRL_DP_DIRECT
        else if k = 7 then Ev.CTRL_NV_WORN else Ev.CTRL_ACCESS_ERR) → s.mainUp = true →
      exec (.evtForce a p (BitVec.twoPow 32 b)) s = .next (State.settle (s.logAcc (otherParty a.party) k 0x18)))) ∧
  (∀ (s : State) (a : Acc) (p : PageNo) (v : Word), Taken a (0x1000 * p.toNat + 0x1C) s →
    let s1 := s.changeHdr p.toNat fun h => { h with sel := fld v 16 5 }
    let refused : Prop :=
      exec (.evtClassWrite a p v) s = .next (State.settle (s1.logAcc a.party 3 (0x1000 * p.toNat + 0x1C)))
    (wbit v 31 = false → exec (.evtClassWrite a p v) s = .next s1.settle) ∧
    (wbit v 31 = true → evtInfo p.toNat (fld v 16 5) = none → refused) ∧
    (∀ d fl, wbit v 31 = true → evtInfo p.toNat (fld v 16 5) = some (d, fl) →
      (3 < fld v 0 3 ∨ fld v 0 3 < fl → refused) ∧
      (fl ≤ fld v 0 3 → fld v 0 3 ≤ 3 →
        exec (.evtClassWrite a p v) s =
          .next (State.settle (s1.changeHdr p.toNat fun h => { h with cls := sput d h.cls (fld v 16 5) (fld v 0 3) }))))) ∧
  (∀ (s : State) (p : PageNo) (v v' : Word), s.judge ⟨.pcie, true, 0, .both v'⟩ (0x1000 * p.toNat + 0x1C) = .accepted →
    s.judge ⟨.spi, true, 0, .both v'⟩ (0x1000 * p.toNat + 0x1C) = .accepted →
    exec (.evtClassWrite ⟨.pcie, true, 0, .both v'⟩ p v) s =
      .next (State.settle (evtClassAct .spi p.toNat v' (s.changeHdr p.toNat fun h => { h with sel := fld v 16 5 }))))

/-- CNT_CLR and NV_PROGRAM_DONE (it rests on R50, R64). The model's own: log entry 101 (NV_WEAR in reset), DESIGN
CHOICE. -/
def Obligations.CountersClearAndWordsProgram : Prop :=
  (∀ (s : State) (a : Acc) (p : PageNo) (v : Word) (off : Nat) (regs : List (Nat × Nat)),
    cntClrOf p.toNat = some (off, regs) → Taken a off s →
    exec (.cntClr a p v) s =
      .next (State.settle (regs.foldl (fun t r => if wbit v r.1 then t.setReg r.2 0 else t) s))) ∧
  (∀ (s : State) (i : BitVec 10), s.svcUp = true →
    let t : State :=
      { s with nvCount := sput 0 s.nvCount i.toNat (s.nvc i.toNat + 1), nvSlot := sput false s.nvSlot i.toNat false }
    (s.nvPending i.toNat = false → exec (.nvProgramDone i) s = .next s.settle) ∧
    (s.nvPending i.toNat = true →
      t.nvc i.toNat = s.nvc i.toNat + 1 ∧ t.nvPending i.toNat = false ∧
      (s.nvc i.toNat + 1 ≠ 95000 ∨ s.mainUp = false → exec (.nvProgramDone i) s = .next t.settle) ∧
      (s.nvc i.toNat + 1 = 95000 → s.mainUp = true →
        exec (.nvProgramDone i) s = .next (State.settle (t.raise Ev.CTRL_NV_WEAR i.toNat)))))

/-- PROPOSE, WITHDRAW, CONFIRM, REJECT and TIMEOUT (it rests on R56, R59, R60, R61). The model's own: log entry 1 (one
queue, what falls into one cycle), DESIGN CHOICE. -/
def Obligations.TwoPartyCommandsMoveTheProposal : Prop :=
  (∀ (s : State) (a : Acc) (v : Word) (c : Nat) (i : Instr), a.tie = .both v →
    s.judge a (Reg.TP_CMD + bankOf a.party) = .accepted →
    s.judge (otherAcc a) (Reg.TP_CMD + bankOf (otherParty a.party)) = .accepted →
    (c, i) ∈ [(1, Instr.propose a), (2, .withdraw a), (3, .confirm a), (4, .reject a)] →
    let me := a.party
    let it := otherParty a.party
    let d := fld v 0 3
    let answers (t : State) : Prop := exec i s = .next t.settle
    let proposed (p : Party) : State := { s with tp := { s.tp with phase := .validating, proposer := p } }
    let judged (p : Party) (n : Nat) : State := if n = 3 then s.tpConfirm p else s.tpEnds 7 s.tp.pairs.length
    let neither := tpIgnored it d (tpIgnored me c s)
    (s.tp.phase = .none →
      (c = 1 → d = 1 → answers (tpIgnored .pcie 1 (proposed .spi))) ∧
      (c = 1 → d ≠ 1 → answers (tpIgnored it d (proposed me))) ∧
      (c ≠ 1 → d = 1 → answers (tpIgnored me c (proposed it))) ∧
      (c ≠ 1 → d ≠ 1 → answers neither)) ∧
    (s.tp.phase = .pending → s.tp.proposer = me →
      (c = 2 → answers (tpIgnored it d (s.tpEnds 6 s.tp.pairs.length))) ∧
      (c ≠ 2 → d = 3 ∨ d = 4 → answers (tpIgnored me c (judged it d))) ∧
      (c ≠ 2 → d ≠ 3 → d ≠ 4 → answers neither)) ∧
    (s.tp.phase = .pending → s.tp.proposer = it →
      (d = 2 → answers (tpIgnored me c (s.tpEnds 6 s.tp.pairs.length))) ∧
      (d ≠ 2 → c = 3 ∨ c = 4 → answers (tpIgnored it d (judged me c))) ∧
      (d ≠ 2 → c ≠ 3 → c ≠ 4 → answers neither)) ∧
    (s.tp.phase = .validating ∨ s.tp.phase = .confirmed → answers neither)) ∧
  (∀ (s : State) (a : Acc) (c : Nat) (i : Instr), s.judge a (Reg.TP_CMD + bankOf a.party) = .accepted →
    (c, i) ∈ [(1, Instr.propose a), (2, .withdraw a), (3, .confirm a), (4, .reject a)] →
    let u := s.sameCycle .device
    (s.recent.any fun o => !o.forced && (o.ev = Ev.CTRL_TP_DONE || o.ev = Ev.CTRL_TP_PROPOSED)) = true →
    (a.tie = .device → exec i s = .next (State.settle (tpIgnored a.party c u))) ∧
    (∀ v, a.tie = .bothDevice v → s.judge (otherAcc a) (Reg.TP_CMD + bankOf (otherParty a.party)) = .accepted →
      exec i s = .next (State.settle (tpIgnored (otherParty a.party) (fld v 0 3) (tpIgnored a.party c u))))) ∧
  (∀ (s : State) (a : Acc) (w : BitVec 22) (v : Word), 4 * w.toNat = Reg.TP_CMD + bankOf a.party →
    (∀ c i, (c, i) ∈ [(1, Instr.propose a), (2, .withdraw a), (3, .confirm a), (4, .reject a)] → fld v 0 3 = c →
      exec (.registerWrite a w v) s = exec i s) ∧
    (fld v 0 3 ∉ [1, 2, 3, 4] → Taken a (4 * w.toNat) s →
      exec (.registerWrite a w v) s =
        .next (State.settle (s.raise Ev.CTRL_TP_IGNORED (2 ^ 15 * partyBit a.party + fld v 0 3))))) ∧
  ∀ (s : State) (a : Acc), Taken a (Reg.TP_CMD + bankOf a.party) s →
    let ends (code : Nat) : State :=
      ((({ s with tp := { s.tp with phase := .none } } : State).setReg Reg.TP_NONCE 0).resDone Reg.TP_STATUS
        [(27, partyBit s.tp.proposer), (20, code), (16, s.tp.pairs.length)]).raise Ev.CTRL_TP_DONE
        (2 ^ 15 * partyBit s.tp.proposer + code)
    let ignored (n : Nat) : State := s.raise Ev.CTRL_TP_IGNORED (2 ^ 15 * partyBit a.party + n)
    (s.tp.phase = .none →
      exec (.propose a) s =
        .next (State.settle { s with tp := { s.tp with phase := .validating, proposer := a.party } }) ∧
      exec (.withdraw a) s = .next (State.settle (ignored 2)) ∧
      exec (.confirm a) s = .next (State.settle (ignored 3)) ∧
      exec (.reject a) s = .next (State.settle (ignored 4))) ∧
    (s.tp.phase = .pending →
      exec (.propose a) s = .next (State.settle (ignored 1)) ∧
      (s.tp.proposer = a.party →
        exec (.withdraw a) s = .next (State.settle (ends 6)) ∧
        exec (.confirm a) s = .next (State.settle (ignored 3)) ∧
        exec (.reject a) s = .next (State.settle (ignored 4))) ∧
      (s.tp.proposer ≠ a.party →
        exec (.withdraw a) s = .next (State.settle (ignored 2)) ∧
        exec (.reject a) s = .next (State.settle (ends 7)) ∧
        (s.reg (Reg.TP_CONF_NONCE + bankOf a.party) = s.reg Reg.TP_NONCE →
          s.reg (Reg.TP_CONF_DIGEST + bankOf a.party) = tpDigest s.tp.pairs →
          exec (.confirm a) s =
            .next (State.settle { s with tp := { s.tp with phase := .confirmed, left := s.tpLeft } })) ∧
        (s.reg (Reg.TP_CONF_NONCE + bankOf a.party) ≠ s.reg Reg.TP_NONCE ∨
          s.reg (Reg.TP_CONF_DIGEST + bankOf a.party) ≠ tpDigest s.tp.pairs →
          exec (.confirm a) s = .next (State.settle (ends 5)))) ∧
      (s.live 0 = true → exec .timeout s = .next (State.settle (ends 4)))) ∧
    (s.tp.phase = .validating ∨ s.tp.phase = .confirmed →
      exec (.propose a) s = .next (State.settle (ignored 1)) ∧
      exec (.withdraw a) s = .next (State.settle (ignored 2)) ∧
      exec (.confirm a) s = .next (State.settle (ignored 3)) ∧
      exec (.reject a) s = .next (State.settle (ignored 4))) ∧
    (s.live 0 = true → s.tp.phase ≠ .pending → exec .timeout s = .next s.settle)

/-- TP_VALIDATE_DONE and TP_APPLY (it rests on R56, R58, R60, R180, R261). The model's own: log entries 7 (free
values), 24 (CTRL_BEHAV proposed as it is), 79 (KILL, and markers while the lanes are idle), 111 (KILL_ABORT once for
each word), 112 (a beam moved between kill words), DESIGN CHOICE; log entries 61 (which pairs are kept), 89 (TRAVEL
once outside), DEDUCED. -/
def Obligations.ProposalsAreValidatedAndApplied : Prop :=
  (∀ s : State, s.live 0 = true → s.tp.phase = .validating →
    let p := s.tp.proposer
    let count := s.rf (Reg.TP_COUNT + bankOf p) 0 4
    let code := tpCheck count (s.bankPairs p)
    (code ≠ 0 → exec .tpValidateDone s = .next (State.settle (s.tpEnds code count))) ∧
    (code = 0 → ∃ t : State, exec .tpValidateDone s = .next (State.settle (t.raise Ev.CTRL_TP_PROPOSED (2 ^ 15 * partyBit p))) ∧
      t.tp = ⟨.pending, p, s.bankPairs p, s.ctl, 0⟩ ∧ t.reg Reg.TP_NONCE ≠ 0 ∧ t.nv = s.nv ∧ t.dram = s.dram ∧
      t.ctxs = s.ctxs ∧ t.clk = s.clk)) ∧
  (∀ s : State, s.live 0 = true →
    (s.tp.phase ≠ .validating → exec .tpValidateDone s = .next s.settle) ∧
    (s.tp.phase ≠ .confirmed → exec .tpApply s = .next s.settle)) ∧
  (∀ s : State, s.live 0 = true → s.tp.phase = .confirmed →
    let worn := (s.tp.pairs.any fun q => (nvIdx q.1).any fun i => s.nvWorn i)
    (s.tpRefused = true → exec .tpApply s = .next (State.settle (s.tpEnds 8 s.tp.pairs.length))) ∧
    (s.tpRefused = false → worn = true → exec .tpApply s = .next (State.settle (s.tpEnds 9 s.tp.pairs.length))) ∧
    (s.tpRefused = false → worn = false →
      let t := s.tp.pairs.foldl
        (fun (u : State) q =>
          match nvIdx q.1 with
          | some i => u.nvWrite i q.2
          | none => u) s
      exec .tpApply s =
        .next (State.settle (((t.killsApplied fun k => s.killBeam k).travelCheck).tpEnds 0 s.tp.pairs.length)))) ∧
  (∀ (s : State) (code count : Nat), (s.tpEnds code count).nv = s.nv ∧ (s.tpEnds code count).nvSlot = s.nvSlot)

/-- GEOM_PITCH_WRITE takes 320 to 1280 while no stripe runs (it rests on R11, R12, R28, R30). The model's own: log
entries 7 (free values), 26 (the order of the two events), DESIGN CHOICE. -/
def Obligations.PitchKeepsItsRange : Prop :=
  ∀ (s : State) (a : Acc) (v : Word), Taken a Reg.GEOM_PITCH s →
    (320 ≤ fld v 0 11 → fld v 0 11 ≤ 1280 → s.running = false →
      exec (.geomPitchWrite a v) s = .next (State.settle (s.writeRw Reg.GEOM_PITCH v).speedCheck)) ∧
    (320 ≤ fld v 0 11 → fld v 0 11 ≤ 1280 → s.running = true →
      exec (.geomPitchWrite a v) s = .next (State.settle (s.raiseOpen Ev.GEOM_PITCH_BUSY))) ∧
    (fld v 0 11 < 320 ∨ 1280 < fld v 0 11 → s.running = false →
      exec (.geomPitchWrite a v) s = .next (State.settle (s.raiseOpen Ev.GEOM_PITCH_RANGE))) ∧
    (fld v 0 11 < 320 ∨ 1280 < fld v 0 11 → s.running = true →
      exec (.geomPitchWrite a v) s =
        .next (State.settle ((s.raiseOpen Ev.GEOM_PITCH_RANGE).raiseOpen Ev.GEOM_PITCH_BUSY)))

/-- LOAD, START, CANCEL, ABORT, RELEASE and RESUME act in the states that R71 gives them (it rests on R71, R72, R77,
R98, R305, R314, R317, R428). The model's own: log entries 1 (one queue, what falls into one cycle), 82 (LDG_CMD with
several outcomes), 115 (the source of an ADOPT released), DESIGN CHOICE. -/
def Obligations.JobCommandsMoveTheContext : Prop :=
  ∀ (s : State) (a : Acc) (c : BitVec 7), Taken a Reg.JOB_CMD s →
    let x := s.ctx c.toNat
    let ignored (op : Nat) : State := State.settle (s.raiseCtx Ev.JOB_IGNORED op c.toNat)
    (x.st = 0 ∧ s.loadingAny = false →
      exec (.load a c) s = .next (State.settle ((s.resStart Reg.JOB_RESULT).setCtx c.toNat
        { Ctx.reset with
          st := 1, descAddr := (s.reg Reg.JOB_DESC_LO).toNat + 2 ^ 32 * (s.reg Reg.JOB_DESC_HI).toNat }))) ∧
    (x.st ≠ 0 ∨ s.loadingAny = true → exec (.load a c) s = .next (ignored 1)) ∧
    (x.st = 2 ∧ s.heldBack c.toNat = false →
      exec (.start a c) s =
        .next (State.settle { s.setCtx c.toNat { x with st := 3 } with startQ := s.startQ ++ [c.toNat] })) ∧
    (x.st ≠ 2 ∨ s.heldBack c.toNat = true → exec (.start a c) s = .next (ignored 2)) ∧
    (x.st = 3 →
      exec (.cancel a c) s =
        .next (State.settle
          { s.setCtx c.toNat { x with st := 2 } with startQ := s.startQ.filter fun k => k != c.toNat })) ∧
    (x.st = 4 →
      exec (.cancel a c) s =
        .next (State.settle
          (((s.endForm c.toNat).setCtx c.toNat { x with st := 2, prep := Prep.reset }).lanePower))) ∧
    (x.st ≠ 3 → x.st ≠ 4 → exec (.cancel a c) s = .next (ignored 3)) ∧
    (∀ e, s.expo = some e →
      (e.ctx = c.toNat → exec (.abort a c) s = .next (State.settle (s.abortExposing e none))) ∧
      (e.ctx ≠ c.toNat → exec (.abort a c) s = .next (ignored 4))) ∧
    (s.expo = none → exec (.abort a c) s = .next (ignored 4)) ∧
    (x.st = 2 ∧ s.heldBack c.toNat = false ∧ x.side.topup = false →
      exec (.release a c) s = .next (State.settle (((s.adoptEarly c.toNat).agedRecs c.toNat).setCtx c.toNat Ctx.reset))) ∧
    (x.st = 2 ∧ s.heldBack c.toNat = false ∧ x.side.topup = true →
      exec (.release a c) s = .next (State.settle (((s.reopenRecords c.toNat).agedRecs c.toNat).setCtx c.toNat Ctx.reset))) ∧
    ((x.st = 6 ∨ x.st = 7) ∧ s.holdsOpen c.toNat = false →
      exec (.release a c) s = .next (State.settle (((s.adoptEarly c.toNat).agedRecs c.toNat).setCtx c.toNat Ctx.reset))) ∧
    ((x.st = 6 ∨ x.st = 7) ∧ s.holdsOpen c.toNat = true → exec (.release a c) s = .next (ignored 5)) ∧
    (x.st ∉ [2, 6, 7] ∨ x.st = 2 ∧ s.heldBack c.toNat = true → exec (.release a c) s = .next (ignored 5)) ∧
    (s.heldQ = true → exec (.resume a c) s = .next (State.settle { s with heldQ := false })) ∧
    (s.heldQ = false → exec (.resume a c) s = .next (ignored 6)) ∧
    (∀ (w : BitVec 22) (v : Word), 4 * w.toNat = Reg.JOB_CMD → fld v 8 7 = c.toNat →
      exec (.registerWrite a w v) s = .next (State.settle (jobCmdAct v s)) ∧
      (fld v 0 3 = 1 → exec (.registerWrite a w v) s = exec (.load a c) s) ∧
      (fld v 0 3 = 2 → exec (.registerWrite a w v) s = exec (.start a c) s) ∧
      (fld v 0 3 = 3 → exec (.registerWrite a w v) s = exec (.cancel a c) s) ∧
      (fld v 0 3 = 4 → exec (.registerWrite a w v) s = exec (.abort a c) s) ∧
      (fld v 0 3 = 5 → exec (.registerWrite a w v) s = exec (.release a c) s) ∧
      (fld v 0 3 = 6 → exec (.registerWrite a w v) s = exec (.resume a c) s) ∧
      (fld v 0 3 = 0 ∨ fld v 0 3 = 7 → exec (.registerWrite a w v) s = .next (ignored (fld v 0 3)))) ∧
    (∀ (w : BitVec 22) (p q : Word), 4 * w.toNat = Reg.JOB_CMD →
      s.judge ⟨.pcie, true, 0, .both q⟩ Reg.JOB_CMD = .accepted → s.judge ⟨.spi, true, 0, .both q⟩ Reg.JOB_CMD = .accepted →
      let both : State := jobCmdAct q (s.raiseCtx Ev.JOB_IGNORED (fld p 0 3) (fld p 8 7))
      exec (.registerWrite ⟨.pcie, true, 0, .both q⟩ w p) s = .next both.settle ∧
      exec (.registerWrite ⟨.spi, true, 0, .both p⟩ w q) s = .next both.settle)

/-- LOAD_DONE: the checks of R69 in their order (it rests on R68, R69, R354). The model's own: log entries 29 (the
detail of a LOAD that passes), 30 (a descriptor beyond the DRAM), 132 (which bytes are overwritten), DESIGN CHOICE. -/
def Obligations.LoadIsCheckedInOrder : Prop :=
  (∀ (s : State) (c : Nat) (x : Ctx), s.live 9 = true →
    (s.ctxs.find? fun p => p.2.st == 1 && s.genTarget != some p.1) = some (c, x) →
    let answers (t : State) : Prop := exec .loadDone s = .next t.settle
    let r := s.dramRead 4 x.descAddr 128
    (s.sram.zeroed = false → answers s) ∧
    (s.sram.zeroed = true → 2 ^ 35 < x.descAddr + 128 → answers (s.loadEnds c 7 0)) ∧
    (s.sram.zeroed = true → x.descAddr + 128 ≤ 2 ^ 35 →
      (r.1 = none → answers (r.2.loadEnds c 7 0)) ∧
      (∀ d, r.1 = some d →
        (∀ o, descChecks s.level d = some o → answers (r.2.loadEnds c o.1 o.2)) ∧
        (descChecks s.level d = none →
          let r1 := r.2.dramRead 4 (descPair d 0x30) 128
          let r2 := r1.2.dramRead 4 (descPair d 0x38) 3072
          let r3 := r2.2.dramRead 4 (descPair d 0x40) 2176
          (r1.1 = none → answers (r3.2.loadEnds c 7 0x30)) ∧
          (r1.1 ≠ none → r2.1 = none → answers (r3.2.loadEnds c 7 0x38)) ∧
          (r1.1 ≠ none → r2.1 ≠ none → r3.1 = none → answers (r3.2.loadEnds c 7 0x40)) ∧
          (∀ xf dose pass, r1.1 = some xf → r2.1 = some dose → r3.1 = some pass →
            (xformOk (descOf d).bands xf = false → answers (r3.2.loadEnds c 6 0x30)) ∧
            (xformOk (descOf d).bands xf = true → doseOk dose = false → answers (r3.2.loadEnds c 6 0x38)) ∧
            (xformOk (descOf d).bands xf = true → doseOk dose = true → passOk pass = false →
              answers (r3.2.loadEnds c 6 0x40)) ∧
            (xformOk (descOf d).bands xf = true → doseOk dose = true → passOk pass = true →
              answers (((r3.2.setCtx c
                { Ctx.reset with
                  st := 2, d := descOf d, xf := xf, dose := dose, pass := pass,
                  side := { LdgSide.reset with genMax := 1, y0s := (descOf d).y0 } }).rewrites 4).loadEnds c 0 0))))))) ∧
  (∀ (s : State) (c code detail : Nat),
    let freed := if code = 0 then s else s.setCtx c Ctx.reset
    s.loadEnds c code detail =
      ((freed.setReg Reg.JOB_RESULT_DETAIL (w32 detail)).resDone Reg.JOB_RESULT [(24, c), (20, code)]).raiseCtx
        Ev.JOB_LOAD_DONE code c ∧
    (c < 128 → code < 16 →
      fld ((s.loadEnds c code detail).reg Reg.JOB_RESULT) 31 1 = 1 ∧
      fld ((s.loadEnds c code detail).reg Reg.JOB_RESULT) 24 7 = c ∧
      fld ((s.loadEnds c code detail).reg Reg.JOB_RESULT) 20 4 = code)) ∧
  (∀ (level : Nat) (d : List Byte),
    (tabWord d 0 % 256 ≠ 1 → descChecks level d = some (1, 0)) ∧
    (tabWord d 0 % 256 = 1 → nfld (tabWord d 0) 8 8 ≠ level → descChecks level d = some (2, 0)) ∧
    (tabWord d 0 % 256 = 1 → nfld (tabWord d 0) 8 8 = level → tabWord d 0x08 % 2 ^ 15 = 0 →
      descChecks level d = some (3, 0x08)))

/-- PRIMING_ENTRY takes the head of the start queue; JOB_LEVEL sends back one of another level (it rests on R71, R73,
R185, R218, R311, R318). -/
def Obligations.StripesEnterPrimingInOrder : Prop :=
  (∀ s : State, s.live 9 = true → s.startQ = [] →
    exec .primingEntry s = .next s.settle ∧ exec .jobLevel s = .next s.settle) ∧
  ∀ (s : State) (c : Nat) (rest : List Nat), s.live 9 = true → s.startQ = c :: rest →
    let x := s.ctx c
    ((s.priming.isSome = true ∨ s.heldQ = true ∨ s.rf Reg.CLK_PWR 0 2 ≠ 0 ∨ x.d.level ≠ s.level) →
      exec .primingEntry s = .next s.settle) ∧
    (s.priming = none → s.heldQ = false → s.rf Reg.CLK_PWR 0 2 = 0 → x.d.level = s.level →
      let p := if x.side.topup then { s.sample with stagger := (s.ctx x.side.link).side.stagger } else s.sample
      let t0 := ({ s with startQ := rest } : State).setCtx c
        { x with
          st := 4, samp := p, prep := Prep.reset,
          side := if x.side.topup then { x.side with pitch := p.pitch, stagger := p.stagger }
            else { x.side with pitch := p.pitch, stagger := p.stagger, placed := false, y0s := x.d.y0 } }
      let test : Bool := s.rf Reg.BLN_TEST_CTL 0 2 ≠ 0 && s.mapped (s.rf Reg.BLN_TEST_CTL 16 7)
      let t := if test then t0.endTest else t0.lanePower
      let t1 := if t.ldgFree ≤ t.rf Reg.LDG_CFG 0 16 then t.raise Ev.LDG_LEDGER_LOW (t.ldgFree % 65536) else t
      let other : Bool := x.side.topup && s.sample.pitch != (s.ctx x.side.link).side.pitch
      (other = false → exec .primingEntry s = .next t1.settle) ∧
      (other = true → exec .primingEntry s = .next (State.settle (t1.raiseCtx Ev.LDG_TOPUP_MISMATCH 0 c)))) ∧
    (x.d.level = s.level → exec .jobLevel s = .next s.settle) ∧
    (x.d.level ≠ s.level →
      exec .jobLevel s =
        .next (State.settle
          ((({ s with startQ := rest } : State).setCtx c { x with st := 2 }).raiseCtx Ev.JOB_LEVEL x.d.level c)))

/-- EXPOSING_ENTRY, STRIPE_DONE and JOB_FAULT_INFO_CLEAR (it rests on R74, R75, R76, R98, R163, R174, R300, R354). The
model's own: log entries 72 (VALID clears the capture), 132 (which bytes are overwritten), DESIGN CHOICE; log entries
81 (a bad staged almanac), 98 (the reference of the retreat), DEDUCED. -/
def Obligations.StripesExposeAndEnd : Prop :=
  (∀ (s0 : State) (c : Nat) (hits : List TabHit), hits.all TabHit.ok = true → s0.live 9 = true → s0.priming = some c →
    (s0.expo.isSome = true ∨ s0.killsWaiting = true ∨ s0.clk.hold = true ∨ s0.writeOk = false ∨ s0.pins.darkN = false →
      exec (.exposingEntry hits) s0 = .next s0.settle) ∧
    (s0.expo = none → s0.killsWaiting = false → s0.clk.hold = false → s0.writeOk = true → s0.pins.darkN = true →
      let bad := (s0.stagedBad (fun _ => true) hits).1
      let s := (s0.stagedBad (fun _ => true) hits).2
      let alm := s.entryAlm (bad.filterMap fun b => b.alm.map BitVec.toNat)
      let um := umaxOf alm
      let s1 := ({ s with alm := { s.alm with active := alm } } : State).rewrites 4
      let s2 := (s1.setReg Reg.ALM_ACTIVE_TAG (w32 (s.rf Reg.ALM_STAGED_TAG 0 16))).setReg Reg.ALM_HEAL_STAT
        (pack [(31, 1), (16, um.1), (0, um.2)])
      let s3 := s2.writeSnap (s.sourceOf c) (s.ctx c).gen (deadPasses alm)
      let pl := s3.place c
      let s4 : State :=
        { pl.2.2.setCtxSt c 5 with
          expo := some (pl.2.2.newExpo c pl.1 pl.2.1), gov := { s.gov with pred := [], vels := [] } }
      let s5 := (List.range (min 40 (s.ctx c).d.bands)).foldl
        (fun (a : State) i => a.admitBand c ((s.ctx c).band0 + i)) s4
      let s6 := (if s5.bln.cal then s5.calDone 3 else s5.lanePower).checkStartHold
      let s7 := if (s.ctx c).d.heal < um.1 then s6.raiseCtx Ev.ALM_HEAL_SHORT um.1 c else s6
      exec (.exposingEntry hits) s0 = .next (State.settle (s7.tabFaults c bad)))) ∧
  (∀ (s : State) (e : Expo), s.live 9 = true → s.expo = some e →
    let c := e.ctx
    let busy : Bool := (s.markers.any fun m => m.ctx == c) || (s.awaits.any fun w => w.ctx == c)
    (e.fired ≠ some (s.ctx c).lastTransit ∨ busy = true → exec .stripeDone s = .next s.settle) ∧
    (e.fired = some (s.ctx c).lastTransit → busy = false →
      let t := (s.endLateRun.endHoldRun.endForm c).leaveExposing c 6
      exec .stripeDone s =
        .next (State.settle (((if (s.ctx c).side.topup then t.topLater c else t).suspectLog c false e.suspects).raiseCtx
          Ev.JOB_STRIPE_DONE 0 c)))) ∧
  (∀ (s : State) (c st : Nat), (s.leaveExposing c st).expo = none ∧ (s.leaveExposing c st).loop.xerr = 0 ∧
    (st ≠ 0 → ((s.leaveExposing c st).ctx c).st = st)) ∧
  (∀ (s : State) (a : Acc) (v : Word), Taken a Reg.JOB_FAULT_INFO s →
    (wbit v 31 = true →
      exec (.jobFaultInfoClear a v) s =
        .next (State.settle
          (((s.setReg Reg.JOB_FAULT_INFO 0).setReg Reg.JOB_FAULT_BAND 0).setReg Reg.JOB_FAULT_GRAN 0))) ∧
    (wbit v 31 = false → exec (.jobFaultInfoClear a v) s = .next s.settle))

/-- DENS_BAND_PARSE and RASTER_PARSE (it rests on R78, R81, R83, R94, R97, R131, R354, R359, R469). The model's own:
log entries 34 (regenerated tiles first), 37 (a record past its list), 92 (room as an operand), 132 (which bytes are
overwritten), DESIGN CHOICE; log entry 62 (touching a tile), DEDUCED. -/
def Obligations.ParsersTakeOneListOrRecord : Prop :=
  (∀ (s : State) (hits : List SramHit) (row : BitVec 16) (gran : Word), Instr.wf (.densBandParse hits row gran) = true → s.live 11 = true →
    (s.parseTarget = none → exec (.densBandParse hits row gran) s = .next s.settle) ∧
    (∀ c, s.parseTarget = some c →
      let h := s.sramHits hits
      let again := h.2.refetch (s.sourceOf c) gran.toNat (h.1.filter fun x => groupRegion x.group.toNat == 3)
      let maps := h.1.filter fun x => groupRegion x.group.toNat != 3
      let u := again.2
      let b := (s.ctx c).prep.parsed
      let dir := u.parseDir 0 (s.sourceOf c) b
      let g := s.geom (s.sourceOf c)
      let e := dirEntry g b
      let r := dir.2.parseList 0 (s.sourceOf c) b e.off (e.off + e.len) e.count (e.len + 1) e.off 0
      (∀ line, again.1 = some line → exec (.densBandParse hits row gran) s = .next (State.settle (u.geomMemFault c b line))) ∧
      (again.1 = none → maps ≠ [] →
        exec (.densBandParse hits row gran) s = .next (State.settle (maps.foldl
          (fun (v : State) x =>
            if groupRegion x.group.toNat = 4 then v.raiseCtx Ev.MEM_TABLE_FAULT x.group.toNat c
            else v.raiseCtx Ev.CORR_MAP_FAULT row.toNat c) u))) ∧
      (again.1 = none → maps = [] →
        (∀ code gran, dir.1 = .fault code gran →
          exec (.densBandParse hits row gran) s = .next (State.settle (dir.2.recordFault c 0 code b gran))) ∧
        (∀ line, dir.1 = .mem line → exec (.densBandParse hits row gran) s = .next (State.settle (dir.2.geomMemFault c b line))) ∧
        (∀ off, dir.1 = .ok off →
          (∀ code gran, r.1 = .fault code gran →
            exec (.densBandParse hits row gran) s = .next (State.settle (r.2.recordFault c 0 code b gran))) ∧
          (∀ line, r.1 = .mem line → exec (.densBandParse hits row gran) s = .next (State.settle (r.2.geomMemFault c b line))) ∧
          (∀ nxt, r.1 = .ok nxt →
            let x := r.2.ctx c
            let bands := r.2.srcBands c
            let g' := r.2.geom (r.2.sourceOf c)
            exec (.densBandParse hits row gran) s = .next (State.settle ((((r.2.setCtx c
              { x with prep := { x.prep with
                  parsed := b + 1,
                  dens := (bandGrans g' b).foldl (fun m gr => densAdd bands g' gr m) x.prep.dens,
                  cost := (bandGrans g' b).foldl
                    (fun m gr => costAdd bands x.samp.wPrim x.samp.wEdge x.samp.wByte g' gr m)
                    x.prep.cost } }).rewrites 2).rewrites 3).checkStartHold))))))) ∧
  (∀ (s0 : State) (c : Nat) (hits : List SramHit), Instr.wf (.rasterParse true hits) = true → s0.live 10 = true →
    s0.exposing = some c →
    let s := (s0.meets hits c 0).2
    let src := s.sourceOf c
    let p := (s.ctx c).prep
    let answers (t : State) : Prop := exec (.rasterParse false hits) s0 = .next t.settle
    let put (t : State) (q : Prep) : Prop := answers (t.setCtx c { t.ctx c with prep := q })
    exec (.rasterParse true hits) s0 = .next s.settle ∧
    ((s0.meets hits c 0).1 = false → answers s) ∧
    ((s0.meets hits c 0).1 = true → (∀ q qs, p.again = q :: qs → answers (s.parseAgain c q.1 q.2)) ∧
      (p.again = [] →
        (s.srcBands c ≤ p.band → answers s) ∧
        (p.band < s.srcBands c →
          (p.inside = false → ∀ off, (s.parseDir 1 src p.band).1 = .ok off →
            let e := dirEntry (s.geom src) p.band
            let t := (s.parseDir 1 src p.band).2
            (e.len ≠ 0 → put t { p with inside := true, gran := off, count := 0 }) ∧
            (e.len = 0 → e.count = 0 → put t { p with band := p.band + 1 }) ∧
            (e.len = 0 → e.count ≠ 0 → answers (t.recordFault c 1 8 p.band e.off))) ∧
          (p.inside = false →
            let dir := s.parseDir 1 src p.band
            (∀ code gran, dir.1 = .fault code gran → answers (dir.2.recordFault c 1 code p.band gran)) ∧
            (∀ line, dir.1 = .mem line → answers (dir.2.geomMemFault c p.band line))) ∧
          (p.inside = true →
            let e := dirEntry (s.geom src) p.band
            let r := s.parseRecord 1 src p.band e.off (e.off + e.len) p.gran
            let filed := r.2.fileRec c p.gran fun t => !r.2.isFinalTile t
            let q := (filed.ctx c).prep
            (∀ nxt, r.1 = .ok nxt →
              (nxt < e.off + e.len → put filed { q with gran := nxt, count := q.count + 1 }) ∧
              (e.off + e.len ≤ nxt → p.count + 1 = e.count →
                put filed { q with inside := false, band := p.band + 1, gran := 0, count := 0 }) ∧
              (e.off + e.len ≤ nxt → p.count + 1 ≠ e.count → answers (filed.recordFault c 1 8 p.band e.off))) ∧
            (∀ code gran, r.1 = .fault code gran → answers (r.2.recordFault c 1 code p.band gran)) ∧
            (∀ line, r.1 = .mem line → answers (r.2.geomMemFault c p.band line))))))) ∧
  (∀ (s : State) (c gran : Nat) (want : Nat → Bool),
    let g := s.geom (s.sourceOf c)
    (recDens g gran = true → s.fileRec c gran want = s) ∧
    (recDens g gran = false → ∃ x, s.fileRec c gran want = (s.setCtx c x).rewrites 3) ∧
    (recDens g gran = false →
      let r := presented (s.xformTab (s.sourceOf c)) g gran
      ∀ tile, (s.fileRec c gran want).bucketOf c tile =
        if tile ∈ (r.tiles (s.srcBands c)).filter want then s.bucketOf c tile ++ [r] else s.bucketOf c tile))

/-- BAND_ENQUEUE, PIECE_DISPATCH, DECODE_RESUME and BITMAP_DECODE_DONE (it rests on R92, R93, R116, R117, R354, R359).
The model's own: log entries 35 (the pieces of a split tile), 92 (room as an operand), 132 (which bytes are
overwritten), 133 (a buffer that fills exactly), DESIGN CHOICE. -/
def Obligations.PiecesPassThroughTheEngines : Prop :=
  (∀ (s0 : State) (e : Expo) (hits : List SramHit) (row : BitVec 16), Instr.wf (.bandEnqueue hits row) = true → s0.live 10 = true →
    s0.expo = some e →
    let m := s0.meets hits e.ctx row.toNat
    let s := m.2
    let x := s.ctx e.ctx
    let b := e.enqueued
    (m.1 = false ∨ e.admitted ≤ b ∨ x.prep.parsed ≤ b → exec (.bandEnqueue hits row) s0 = .next s.settle) ∧
    (m.1 = true → b < e.admitted → b < x.prep.parsed →
      let ord := queueOrder (fun t => (tileCosts x.prep.cost t b).sum) ((List.range 32).filter fun t => e.low ≤ b && !s.isFinal t b)
      let t : State := ord.foldl (fun (a : State) t =>
        let a1 := a.startAttempt (32 * b + t) false (x.splits t b) false
        { a1 with form := { a1.form with queue := a1.form.queue ++ tilePieces (32 * b + t) (x.splits t b) } }) s
      exec (.bandEnqueue hits row) s0 = .next (State.settle { t with expo := some { e with enqueued := b + 1 } }))) ∧
  (∀ (s : State) (e : Expo) (p : Piece) (ps : List Piece) (room : Nat), s.live 10 = true → s.expo = some e →
    s.form.queue = p :: ps →
    let on := s.form.engOn ||| s.enginesOn
    let first := (List.range 48).find? fun i => s.enginesOn.testBit i && (s.engine i).piece.isNone
    (first = none → exec (.pieceDispatch room) s = .next (State.settle { s with form := { s.form with engOn := on } })) ∧
    (∀ i, first = some i →
      exec (.pieceDispatch room) s =
        .next (State.settle
          (({ s with
              form := { s.form with
                engOn := on, queue := ps,
                engines := sput Engine.reset s.form.engines i { Engine.reset with piece := some p, start := s.ctl } } } :
            State).decoderRoom e.ctx i room)))) ∧
  (∀ (s : State) (room : Nat), s.live 10 = true → s.expo = none ∨ s.form.queue = [] →
    exec (.pieceDispatch room) s = .next s.settle) ∧
  (∀ (s : State) (i : BitVec 6) (c room : Nat), i.toNat < 48 → s.live 10 = true → s.exposing = some c →
    ((s.engine i.toNat).stopped = true → room ≠ 0 →
      exec (.decodeResume i room) s = .next (State.settle (s.decoderRoom c i.toNat room))) ∧
    ((s.engine i.toNat).stopped = false ∨ room = 0 → exec (.decodeResume i room) s = .next s.settle) ∧
    (∀ p gran, (s.engine i.toNat).piece = some p → s.decoding c i.toNat = some gran →
      let e := s.engine i.toNat
      let answers (t : State) : Prop := exec (.bitmapDecodeDone i room) s = .next t.settle
      let out := decodeBitmap (s.geom (s.sourceOf c)) gran
      let r := s.decoderReads c gran
      (e.stopped = true ∨ e.held = true → answers s) ∧
      (e.stopped = false → e.held = false → e.made < s.bitmapNeed c gran → answers (s.decoderRoom c i.toNat 0)) ∧
      (e.stopped = false → e.held = false → s.bitmapNeed c gran ≤ e.made →
        (∀ line, r.1 = some line → answers (r.2.geomMemFault c (p.tile / 32) line)) ∧
        (∀ bytes, r.1 = none → out = .bytes bytes →
          answers (((r.2.setEngine i.toNat { e with raws := e.raws ++ [bytes], made := 0 }).bump
            Reg.JOB_DEC_TILES).decoderRoom c i.toNat room)) ∧
        (∀ code made, r.1 = none → out = .fault code made →
          let b := p.tile / 32
          let s1 := r.2.captureFault c 2 code b gran
          let s2 := if (s1.hdr Ev.JOB_DECODE_FAULT.page).classOf Ev.JOB_DECODE_FAULT.page Ev.JOB_DECODE_FAULT.bit = 1 then
            (s1.darkTile c (p.tile % 32) b).makeRecord c 5 p.tile 0 0 none else s1
          answers (s2.raiseCtx Ev.JOB_DECODE_FAULT code c))))) ∧
  (∀ (s : State) (c i room gran : Nat), s.decoding c i = some gran →
    let made := (s.engine i).made + room
    (s.bitmapNeed c gran ≤ made →
      s.decoderRoom c i room = (s.setEngine i { s.engine i with made := made, stopped := false }).rewrites 1) ∧
    (made < s.bitmapNeed c gran →
      s.decoderRoom c i room =
        ((s.setEngine i { s.engine i with made := made, stopped := true }).rewrites 1).bump Reg.JOB_DEC_SUSPEND)) ∧
  (∀ (s : State) (r : Nat),
    (∀ k, keyRegion k ≠ r → sget 0 (s.rewrites r).sram.err k = sget 0 s.sram.err k) ∧
    (∀ k, sget 0 (s.rewrites r).sram.err k = sget 0 s.sram.err k ∨ sget 0 (s.rewrites r).sram.err k = 0) ∧
    { s.rewrites r with sram := { (s.rewrites r).sram with err := s.sram.err }, draws := s.draws } = s) ∧
  (∀ (s : State) (c gran : Nat),
    (∀ line, (s.decoderReads c gran).1 = some line → s.bitmapNeed c gran = (s.decodeBefore c gran line).made) ∧
    ((s.decoderReads c gran).1 = none →
      (∀ bytes, decodeBitmap (s.geom (s.sourceOf c)) gran = .bytes bytes → s.bitmapNeed c gran = bytes.length) ∧
      (∀ code made, decodeBitmap (s.geom (s.sourceOf c)) gran = .fault code made → s.bitmapNeed c gran = made)))

/-- PIECE_DONE, TILE_LATE and WORKSPACE_FAULT (it rests on R112, R113, R117, R118, R119). The model's own: log entries
118 (attempts given up), 120 (equal peak clocks), DESIGN CHOICE. -/
def Obligations.PiecesCompleteOrAreAbandoned : Prop :=
  (∀ (s : State) (e : Expo) (i : BitVec 6) (clk : BitVec 32) (p : Piece) (x : Tile), i.toNat < 48 → s.live 10 = true →
    s.expo = some e → (s.engine i.toNat).piece = some p → s.tile? p.tile = some x →
    let bucket := s.bucketOf e.ctx p.tile
    let ready : Bool := !(s.engine i.toNat).held && s.bucketFull e.ctx p.tile &&
      (bucketBits bucket).length == (s.engine i.toNat).raws.length
    let c := e.ctx
    let b := p.tile / 32
    let recs := withRaws bucket (s.engine i.toNat).raws
    let sums := pieceSums recs (p.tile % 32) b p.quarter
    let sat := satCount sums
    let flips := if x.left = (if x.split then 4 else 1) then bucketFlips recs else 0
    let s1 := ((s.setEngine i.toNat { s.engine i.toNat with held := true }).enginePasses i.toNat).peakPiece c p clk.toNat
    let s2 := s1.spent b clk.toNat
    let s3 := if flips = 0 then s2 else (s2.addCnt Reg.RAST_FLIPS flips).raiseCtx Ev.RAST_XFORM_FLIP b c
    let s4 := if sat = 0 then s3 else s3.addCnt Reg.RAST_SATS sat
    let s5 := if sat ≠ 0 && satCount x.cov = 0 then s4.raiseCtx Ev.RAST_ACC_SAT b c else s4
    let x1 : Tile := { x with left := x.left - 1, cov := mergeSums x.cov sums }
    (ready = false → exec (.pieceDone i clk) s = .next s.settle) ∧
    (ready = true → x.left - 1 ≠ 0 → exec (.pieceDone i clk) s = .next (State.settle (s5.setTile p.tile x1))) ∧
    (ready = true → x.left - 1 = 0 →
      let s6 := (s5.setTile p.tile { x1 with stage := 1, order := s5.form.order }).bump Reg.RAST_TILES
      exec (.pieceDone i clk) s =
        .next (State.settle (({ s6 with form := { s6.form with order := s6.form.order + 1 } } : State).noteWait c b)))) ∧
  (∀ (s : State) (e : Expo), s.live 10 = true → s.expo = some e →
    exec .tileLate s =
      .next (State.settle ((List.range (e.admitted - e.low)).foldl
        (fun (u : State) i =>
          if u.deadlinePassed (e.low + i) = true then
            (List.range 32).foldl
              (fun (v : State) t =>
                if v.incomplete t (e.low + i) then v.abandonTile e.ctx t (e.low + i) 1 Ev.RAST_TILE_LATE else v) u
          else u) s))) ∧
  (∀ s : State, s.live 10 = true → s.expo = none → exec .tileLate s = .next s.settle) ∧
  (∀ (s : State) (i : BitVec 6) (hit : SramHit) (c : Nat) (p : Piece), Instr.wf (.workspaceFault i hit) = true →
    s.live 10 = true → s.exposing = some c → (s.engine i.toNat).piece = some p →
    let r := s.sramRead hit.group.toNat hit.row.toNat hit.byte.toNat
    (r.1 ≠ .bad → exec (.workspaceFault i hit) s = .next (State.settle r.2.2)) ∧
    (r.1 = .bad →
      exec (.workspaceFault i hit) s =
        .next (State.settle (r.2.2.abandonTile c (p.tile % 32) (p.tile / 32) 2 Ev.RAST_WORKSPACE_FAULT))))

/-- RAST_ENG_EN_WRITE, RAST_CTL_WRITE, CORR_CTL_WRITE and the two probes (it rests on R120, R121, R122, R140, R141).
The model's own: log entries 36 (RANGE without a job), 119 (RAST_PROBE_D), 138 (VALID with RANGE), DESIGN CHOICE; log
entry 57 (what goes on after a MAP_FAULT), DEDUCED. -/
def Obligations.FormationSettingsKeepTheirRanges : Prop :=
  (∀ (s : State) (a : Acc) (hi : Bool) (v : Word),
    let off := if hi then Reg.RAST_ENG_EN_HI else Reg.RAST_ENG_EN_LO
    Taken a off s →
    ((s.writeRw off v).enginesOn = 0 →
      exec (.rastEngEnWrite a hi v) s = .next (State.settle (s.raise Ev.RAST_ENG_NONE 0))) ∧
    ((s.writeRw off v).enginesOn ≠ 0 →
      exec (.rastEngEnWrite a hi v) s =
        .next (State.settle ((List.range 48).foldl
          (fun (u : State) i => if (u.engine i).piece.isNone || (u.engine i).held then u.enginePasses i else u)
          (s.writeRw off v))))) ∧
  (∀ (s : State) (a : Acc) (v : Word), Taken a Reg.RAST_CTL s →
    (64 ≤ fld v 16 10 → exec (.rastCtlWrite a v) s = .next (State.settle (s.writeRw Reg.RAST_CTL v))) ∧
    (fld v 16 10 < 64 → exec (.rastCtlWrite a v) s = .next (State.settle (s.raise Ev.RAST_CFG_RANGE 0)))) ∧
  (∀ (s : State) (a : Acc) (v : Word), Taken a Reg.CORR_CTL s →
    (64 ≤ fld v 0 11 ∧ fld v 0 11 ≤ 1024 →
      exec (.corrCtlWrite a v) s = .next (State.settle (s.writeRw Reg.CORR_CTL v))) ∧
    (fld v 0 11 < 64 ∨ 1024 < fld v 0 11 →
      exec (.corrCtlWrite a v) s = .next (State.settle (s.raise Ev.CORR_CFG_RANGE 0)))) ∧
  (∀ (s : State) (a : Acc) (v : Word), Taken a Reg.RAST_PROBE_CMD s →
    let x := s.ctx (fld v 0 7)
    let p : Pt := ⟨sext 32 (s.reg Reg.RAST_PROBE_X).toNat, sext 32 (s.reg Reg.RAST_PROBE_Y).toNat⟩
    let q := xform (xformOf x.xf) p
    let valid : Bool := x.st != 0 && x.st != 1
    let out : Bool := decide (p.x < 0 ∨ 2097152 < p.x ∨ p.y < (x.yRange.1 : Int) ∨ (x.yRange.2 : Int) < p.y)
    let probes (xo yo d : Word) : Prop :=
      exec (.rastProbeCmd a v) s =
        .next (State.settle (s.resultStart Reg.RAST_PROBE_STAT
          ⟨[(Reg.RAST_PROBE_XO, xo), (Reg.RAST_PROBE_YO, yo), (Reg.RAST_PROBE_D, d)],
            [(30, b2n valid), (29, b2n out)], some (fld v 0 7)⟩))
    (valid = true → out = false →
      probes (w32i q.x) (w32i q.y) (pack [(16, toBits 16 (q.y - p.y)), (0, toBits 16 (q.x - p.x))])) ∧
    (valid = false ∨ out = true → probes 0 0 0)) ∧
  (∀ (s : State) (a : Acc) (v : Word), Taken a Reg.CORR_PROBE_CMD s →
    let c := fld v 0 7
    let x := s.rf Reg.CORR_PROBE_X 0 13
    let y := s.rf Reg.CORR_PROBE_Y 0 23
    let tab := (s.ctx (s.sourceOf c)).dose
    let i : Int := (x / 128 : Nat)
    let j : Int := (y / 128 : Nat)
    let f := cellFactor tab (s.density c)
    let valid := s.densHeld c (y / 256)
    let out : Bool := decide (8191 < x ∨ y < 256 * (s.ctx c).band0 ∨ 256 * (s.ctx c).bandEnd ≤ y)
    let probes (d g : Word) : Prop :=
      exec (.corrProbeCmd a v) s =
        .next (State.settle (s.resultStart Reg.CORR_PROBE_STAT
          ⟨[(Reg.CORR_PROBE_D, d), (Reg.CORR_PROBE_G, g)], [(30, b2n valid), (29, b2n out)], some c⟩))
    (valid = true → out = false →
      probes (pack [(16, s.density c i j), (0, convIndex tab (s.density c) i j)])
        (pack [(16, f i j), (0, pixelFactor f x y)])) ∧
    (valid = false ∨ out = true → probes 0 0)) ∧
  (∀ (s : State) (w : Waiting) (c : Nat) (hits : List SramHit) (row : BitVec 16),
    w.ctx = some c →
    let done (row off : Nat) (ev : EvId) : State :=
      let u := (s.meets hits c row).2
      let u1 := w.regs.foldl (fun (a : State) q => a.setReg q.1 q.2) u
      (({ u1 with results := sdel off u1.results } : State).resDone off w.stat).raiseCtx ev 0 c
    (Instr.wf (.rastProbeDone hits) = true → s.live 10 = true →
      (s.meets hits c 0).2.results.find? (fun p => p.1 == Reg.RAST_PROBE_STAT) = some (Reg.RAST_PROBE_STAT, w) →
      s.results.find? (fun p => p.1 == Reg.RAST_PROBE_STAT) = some (Reg.RAST_PROBE_STAT, w) →
      exec (.rastProbeDone hits) s = .next (State.settle (done 0 Reg.RAST_PROBE_STAT Ev.RAST_PROBE_DONE))) ∧
    (Instr.wf (.corrProbeDone hits row) = true → s.live 11 = true →
      (s.meets hits c row.toNat).2.results.find? (fun p => p.1 == Reg.CORR_PROBE_STAT) = some (Reg.CORR_PROBE_STAT, w) →
      s.results.find? (fun p => p.1 == Reg.CORR_PROBE_STAT) = some (Reg.CORR_PROBE_STAT, w) →
      exec (.corrProbeDone hits row) s =
        .next (State.settle (done row.toNat Reg.CORR_PROBE_STAT Ev.CORR_PROBE_DONE))))

/-- DOSE_FORMATION and TILE_HANDOFF (it rests on R132, R137, R139, R148, R149, R155, R158, R164, R354). The model's
own: log entry 73 (IDX_SAT and the rounding of F(n)), DEDUCED; log entries 104 (rows outside the bands), 107 (hand-
offs of regenerated tiles), 108 (when list entries are read), 124 (a capture of an unusable entry), 132 (which bytes
are overwritten), 139 (where IDX_SAT counts), DESIGN CHOICE. -/
def Obligations.DoseFormationHandsTilesOff : Prop :=
  (∀ (s : State) (c : Nat) (hits : List SramHit) (row : BitVec 16), s.live 11 = true → s.exposing = some c →
    Instr.wf (.doseFormation hits row) = true →
    let h := s.sramHits hits
    let s0 := h.2
    let answers (t : State) : Prop := exec (.doseFormation hits row) s = .next t.settle
    (h.1 ≠ [] → answers (h.1.foldl
      (fun (u : State) b =>
        if groupRegion b.group.toNat = 4 then u.raiseCtx Ev.MEM_TABLE_FAULT b.group.toNat c
        else u.raiseCtx Ev.CORR_MAP_FAULT row.toNat c) s0)) ∧
    (h.1 = [] → (s0.form.tiles.any fun p => p.2.stage == 2) = true ∨ s0.doseNext c = none → answers s0) ∧
    (∀ tile x, h.1 = [] → (s0.form.tiles.any fun p => p.2.stage == 2) = false → s0.doseNext c = some tile →
      s0.tile? tile = some x →
      let t := (List.range 48).foldl
        (fun (u : State) i =>
          match (u.engine i).piece with
          | some p => if p.tile = tile then u.setEngine i Engine.reset else u
          | none => u) s0
      answers (((t.setTile tile { x with stage := 2 }).idxSats c (tile % 32) (tile / 32)).rewrites 2))) ∧
  (∀ (s : State) (c tile : Nat) (x : Tile), s.live 11 = true → s.exposing = some c →
    (s.form.tiles.find? fun p => p.2.stage == 2) = some (tile, x) →
    let t := tile % 32
    let b := tile / 32
    let fs := tileFactors (s.ctx (s.sourceOf c)).dose (s.density c) t b
    let codes := tileCodes (s.ctx c).d.heal fs t b x.cov
    let clamps := tileClamps (s.ctx c).d.heal fs t b x.cov
    let sig := (tileSignature tile (s.ctx c).samp.level (s.ctx c).d.heal codes).toNat
    let s1 := (s.bump Reg.CORR_TILES).putTile t b codes
    let sc := if clamps = 0 then s1 else s1.addCnt Reg.CORR_CLAMPS clamps
    let s2 := if clamps ≠ 0 ∧ x.clamped = false then sc.raiseCtx Ev.CORR_DOSE_CLAMP b c else sc
    let x1 : Tile := { x with stage := 3, cov := [], sig := sig, clamped := x.clamped || clamps != 0 }
    let s3 := s2.setTile tile x1
    ((s.ctx c).d.sigEn = true → exec .tileHandoff s = .next (State.settle (s3.sigEntry c tile x1))) ∧
    ((s.ctx c).d.sigEn = false →
      (s2.capIs c tile = false → exec .tileHandoff s = .next (State.settle (s2.tileFinal c t b))) ∧
      (s2.capIs c tile = true →
        exec .tileHandoff s =
          .next (State.settle ((s2.capDone c false false false x.regen sig 0).tileFinal c t b))))) ∧
  (∀ (s : State) (c tile : Nat) (x : Tile),
    let line := ((s.ctx c).d.sigAddr + 8 * tile) / 64
    let o := ((s.ctx c).d.sigAddr + 8 * tile) % 64
    let r := s.dramReadLine 3 line
    (line ∈ s.form.sigDark → s.sigEntry c tile x = s.sigMemDark c tile x) ∧
    (line ∉ s.form.sigDark → r.1.usable = true →
      s.sigEntry c tile x =
        r.2.setTile tile
          { x with expect := leNat ((r.1.bytes.drop o).take 8), cap := r.2.capIs c tile }) ∧
    (line ∉ s.form.sigDark → r.1.usable = false →
      let u := r.2.raiseCtx Ev.SIG_MEM_FAULT ((64 * line - (s.ctx c).d.sigAddr) / 8 / 32) c
      (s.classNow Ev.SIG_MEM_FAULT = 1 →
        s.sigEntry c tile x =
          ({ u with form := { u.form with sigDark := line :: u.form.sigDark } } : State).sigMemDark c tile x) ∧
      (s.classNow Ev.SIG_MEM_FAULT ≠ 1 → s.sigEntry c tile x = u)) ∧
    (s.capIs c tile = false →
      s.sigMemDark c tile x =
        ((s.darkTile c (tile % 32) (tile / 32)).makeRecord c 4 tile 0 0 none).bump Reg.SIG_DARK) ∧
    (s.capIs c tile = true →
      s.sigMemDark c tile x =
        (((s.capDone c false false false x.regen x.sig 0).darkTile c (tile % 32) (tile / 32)).makeRecord c 4 tile 0 0
          none).bump Reg.SIG_DARK))

/-- SIG_COMPARE, SIG_CAP_CMD and SIG_MIS_INFO_CLEAR (it rests on R151, R152, R153, R154, R158, R160, R415). The
model's own: log entries 72 (VALID clears the capture), 141 (a capture with its comparison), DESIGN CHOICE; log entry
87 (TEST_INJ and the end of a force), DEDUCED. -/
def Obligations.SignaturesDecideTiles : Prop :=
  (∀ (s : State) (c : Nat) (n : BitVec 20) (x : Tile), s.live 12 = true → s.exposing = some c →
    s.tile? n.toNat = some x → x.stage = 3 →
    let tile := n.toNat
    let t := tile % 32
    let b := tile / 32
    let forced : Bool := s.forceIs c tile && (!s.test.sigUsed || (x.regen && wbit (s.reg Reg.TEST_SIG) 31))
    let comp := if forced then x.sig ^^^ 1 else x.sig
    let expect := x.expect
    let s1 := (if forced then
      ({ s with test := { s.test with sigUsed := true } } : State).bump Reg.TEST_INJ else s).bump Reg.SIG_TILES
    let s2 := if x.cap then s1.capDone c false true (comp == expect) x.regen comp expect else s1
    (comp = expect →
      (x.regen = false → exec (.sigCompare n) s = .next (State.settle (s2.tileFinal c t b))) ∧
      (x.regen = true →
        exec (.sigCompare n) s = .next (State.settle ((s2.tileFinal c t b).bump Reg.SIG_REGEN_OK)))) ∧
    (comp ≠ expect →
      let s3 := (s2.bump Reg.SIG_MISMATCH).captureMismatch c tile x.regen comp expect
      let dark := (((s3.darkTile c t b).makeRecord c 3 tile 0 0 none).bump Reg.SIG_DARK).raiseCtx Ev.SIG_DARK b c
      (x.regen = true → exec (.sigCompare n) s = .next (State.settle dark)) ∧
      (x.regen = false → (s.ctx c).samp.regenEn = true → s.deadlinePassed b = false →
        exec (.sigCompare n) s =
          .next (State.settle (((s3.regenerate c tile x.split).raiseCtx Ev.SIG_MISMATCH b c).bucketAdd .sig Ev.SIG_BURST b
            (some c)))) ∧
      (x.regen = false → (s.ctx c).samp.regenEn = false ∨ s.deadlinePassed b = true →
        exec (.sigCompare n) s = .next (State.settle (dark.bucketAdd .sig Ev.SIG_BURST b (some c)))))) ∧
  (∀ (s : State) (a : Acc) (v : Word), Taken a Reg.SIG_CAP_CMD s →
    let c := fld v 20 7
    let tile := fld v 0 20
    let x := s.ctx c
    let s0 := s.resStart Reg.SIG_CAP_STAT
    let s1 : State := { s0 with form := { s0.form with tiles := s0.form.tiles.map fun p => (p.1, { p.2 with cap := false }) } }
    (tile < 32 * x.band0 ∨ 32 * x.bandEnd ≤ tile ∨ x.st < 2 ∨ 5 < x.st →
      exec (.sigCapCmd a v) s = .next (State.settle (s1.capDone c true false false false 0 0))) ∧
    (32 * x.band0 ≤ tile → tile < 32 * x.bandEnd → 2 ≤ x.st → x.st ≤ 5 →
      exec (.sigCapCmd a v) s =
        .next (State.settle { s1 with form := { s1.form with cap := some (c, tile) } }))) ∧
  (∀ (s : State) (a : Acc) (v : Word), Taken a Reg.SIG_MIS_INFO s →
    (wbit v 31 = true →
      exec (.sigMisInfoClear a v) s =
        .next (State.settle
          (((((s.setReg Reg.SIG_MIS_INFO 0).setReg Reg.SIG_MIS_CALC_LO 0).setReg Reg.SIG_MIS_CALC_HI 0).setReg
            Reg.SIG_MIS_EXP_LO 0).setReg Reg.SIG_MIS_EXP_HI 0))) ∧
    (wbit v 31 = false → exec (.sigMisInfoClear a v) s = .next s.settle))

/-- ALM_LOAD_CMD and ALM_LOAD_DONE (it rests on R173, R175, R357). The model's own: log entry 109 (ALM_LOAD_DETAIL),
DESIGN CHOICE. -/
def Obligations.AlmanacLoadsAreChecked : Prop :=
  (∀ (s : State) (a : Acc) (v : Word), Taken a Reg.ALM_LOAD_CMD s →
    (wbit v 0 = false → exec (.almLoadCmd a v) s = .next s.settle) ∧
    (wbit v 0 = true →
      exec (.almLoadCmd a v) s =
        .next (State.settle
          { s.resStart Reg.ALM_LOAD_STAT with
            alm := { s.alm with
              loading := some ((s.reg Reg.ALM_LOAD_LO).toNat + 2 ^ 32 * (s.reg Reg.ALM_LOAD_HI).toNat) } }))) ∧
  (∀ (s : State) (hits : List SramHit), Instr.wf (.almLoadDone hits) = true → s.live 14 = true →
    s.sram.zeroed = false ∨ s.alm.loading = none → exec (.almLoadDone hits) s = .next s.settle) ∧
  (∀ (s : State) (addr : Nat) (hits : List SramHit), Instr.wf (.almLoadDone hits) = true → s.live 14 = true →
    s.sram.zeroed = true → s.alm.loading = some addr →
    let s0 : State := { s with alm := { s.alm with loading := none } }
    let ends (t : State) (code detail : Nat) : State :=
      ((t.setReg Reg.ALM_LOAD_DETAIL (w32 detail)).resDone Reg.ALM_LOAD_STAT [(20, code)]).raise Ev.ALM_LOAD_DONE code
    let answers (t : State) : Prop := exec (.almLoadDone hits) s = .next t.settle
    let r := s0.dramRead 5 addr 65536
    let h := r.2.sramHits hits
    (addr % 64 ≠ 0 ∨ 2 ^ 35 < addr + 65536 → answers (ends s0 1 0)) ∧
    (addr % 64 = 0 → addr + 65536 ≤ 2 ^ 35 →
      (r.1 = none → answers (ends r.2 3 0)) ∧
      (∀ bytes, r.1 = some bytes →
        (h.1 ≠ [] → answers (ends h.2 3 0)) ∧
        (h.1 = [] →
          (∀ p, ((imageStates bytes).find? fun p => p.2 == 3) = some p → answers (ends h.2 2 p.1)) ∧
          (((imageStates bytes).find? fun p => p.2 == 3) = none →
            let u := h.2.restage
            let t := ends { u with alm := { u.alm with staged := imageStates bytes } } 0 0
            answers (t.setReg Reg.ALM_STAGED_TAG (w32 (t.rf Reg.ALM_LOAD_STAT 0 16))))))))

/-- TRANSIT_FIRE (it rests on R163, R234, R235, R236, R237, R238, R240). The model's own: log entries 70 (a transit
that is not served), 73 (IDX_SAT and the rounding of F(n)), 89 (TRAVEL once outside), DEDUCED. -/
def Obligations.TransitsFireAtTheirBoundary : Prop :=
  ∀ (s0 : State) (e : Expo) (hits : List TabHit), hits.all TabHit.ok = true → s0.live 16 = true →
    s0.travelCheck.expo = some e →
    let s := s0.travelCheck
    let x := s.ctx e.ctx
    let n := e.next
    (s0.leftTravel = true ∨ e.firedNow = true ∨ e.armed = false ∨ s.loop.locked = false ∨ s.loop.v ≤ 0 ∨
        x.lastTransit < n ∨ s.nearEnough e n = false →
      exec (.transitFire hits) s0 = .next s.settle) ∧
    (s0.leftTravel = false → e.firedNow = false → e.armed = true → s.loop.locked = true → 0 < s.loop.v →
      n ≤ x.lastTransit → s.nearEnough e n = true →
      let f := s.flashUnits e n
      let ok := s.serves x.span f
      let start := if ok then slotOf f else (s.lastS.elim (slotOf f) fun l => max (slotOf f) (l + 400))
      let s1 := (s.updExpo fun e => { e with fired := some n, firedNow := true, bits := [] }).camFire
      let s2 : State :=
        { s1 with
          markers := s1.markers ++
            [{ n := n, ctx := e.ctx, f := f, start := start, served := ok, abort := false, bits := e.bits }],
          lastS := some start,
          lastF := if ok then some f else s1.lastF,
          crossings := s1.crossings ++ [(((s.tau : Int) + s.crossing e n 64 1).toNat, s.boundary e n)] }
      let s3 := lateTilesAct s2
      let s4 := if n < x.lastTransit then s3.judgeLine (n + 1) else s3
      let lost := !ok && x.addresses n
      let s5 := if lost then s4.unservedRecord e n else s4
      let s6 := (s5.darkCount e n lost).retireAt n
      let s7 := if n < x.lastTransit then s6.allocate (n + 1) hits else s6
      exec (.transitFire hits) s0 =
        .next (State.settle (s7.deflectionFire n x.samp.pitch e.ofs (f * 100 / 164).toNat
          (!ok || s.clk.hold || s.testUnsafe || !s.pins.darkN || s7.darkDue))))

/-- MARKER_SEND (it rests on R193, R197, R198, R199, R200, R210, R359, R410, R446). The model's own: log entries 8
(DARK near an edge of DARK_N), 79 (KILL, and markers while the lanes are idle), DESIGN CHOICE; log entry 38 (the line
code), PRESUMED; log entry 77 (frames of a low DARK_N), DEDUCED. -/
def Obligations.MarkersLeaveInOrder : Prop :=
  (∀ (s : State) (m : Marker) (rest : List Marker) (frames : List FrameHit), frames.all FrameHit.ok = true →
    s.live 15 = true → s.markers = m :: rest →
    (s.lanesIdle = true →
      exec (.markerSend frames) s =
        .next (State.settle ({ s with markers := rest, bln := { s.bln with unread := 0 } } : State).lanePower)) ∧
    (s.lanesIdle = false →
      let pin := s.darkPin
      let s1 : State := { pin.2 with markers := rest }
      let dark := m.abort || s1.clk.hold || pin.1 || !m.served || s1.testUnsafe
      let s2 := s1.markRun m pin.1
      let leaves (t : State) (lanes lost : Nat) : State :=
        let h := (t.sendMarker m.start (markerByte m.n m.f m.served dark)).frameHits frames
        ((({ h.2 with awaits := h.2.awaits ++ [⟨m.n, m.ctx, lanes, lost, s.maker m.ctx, []⟩] } : State).nextFrame m
          h.1).decideReady)
      (dark = true → exec (.markerSend frames) s = .next (State.settle (leaves s2 0 0))) ∧
      (dark = false →
        exec (.markerSend frames) s =
          .next (State.settle
            (leaves ((m.bits.foldl (fun (a : State) b => a.firesBit m.n b) s2).bump Reg.BLN_FRAMES) (s.frameOnes m.bits)
              s.bln.unread))))) ∧
  (∀ (s : State) (start : Int) (byte : Nat),
    let gap := (s.bln.sent.elim 0 fun e => start - e).toNat
    let s1 := s.activeLanes.foldl
      (fun (a : State) p =>
        (if gap = 0 then a else a.sendLine p s.bln.sent (fillGroups gap)).sendLine p (some start)
          [.tm, .d (BitVec.ofNat 8 byte)]) s
    s.sendMarker start byte =
      ({ s1 with bln := { s1.bln with sent := some (start + 2), leaving := [] } } : State).lanePower) ∧
  (∀ (s : State) (p : Nat) (start : Option Int) (groups : List Group), jtagDrives s.tap = false →
    s.lanesIdle = false →
    let r := encodeGroups (sget false s.bln.rd p) groups
    (s.sendLine p start groups).out = .line p start groups r.1 :: s.out ∧
    sget false (s.sendLine p start groups).bln.rd p = r.2) ∧
  (∀ n : Nat, (fillGroups n).length = n) ∧
  (∀ s : State,
    (s.pins.darkWait = 0 → s.darkPin = (!s.pins.darkN, s)) ∧
    (s.pins.darkWait ≠ 0 → s.darkPin = (Config.freeBit s.draws, { s with draws := s.draws + 1 })) ∧
    s.controlCycle.pins = { s.pins with darkWait := s.pins.darkWait - 1 })

/-- STATUS_RECORD, STATUS_TIMEOUT, AUX_DOWN, and the records a decided status makes (it rests on R206, R209, R210,
R211, R359). The model's own: log entries 55 (unread frames), 96 (each copy of a status record), DEDUCED; log entries
100 (operands that nothing delivers, wrong lengths), 127 (the window of ACK), DESIGN CHOICE. -/
def Obligations.StatusRecordsAreTakenAndDecided : Prop :=
  (∀ (s : State) (i : BitVec 2) (body : List Byte) (crc : Word), s.live 15 = true →
    let answers (t : State) : Prop := exec (.statusRecord i body crc) s = .next t.settle
    let good : Bool := body.length == 20 && crc32 body == crc.toNat && bodyNat body 0 1 == 2
    let flags := bodyNat body 1 1
    (wbit (s.reg Reg.BLN_AUX) i.toNat = false → answers s) ∧
    (wbit (s.reg Reg.BLN_AUX) i.toNat = true → s.auxCorrupts i.toNat = true →
      answers (s.useCorruption.bump Reg.BLN_AUX_ERR)) ∧
    (wbit (s.reg Reg.BLN_AUX) i.toNat = true → s.auxCorrupts i.toNat = false → good = false →
      answers (s.bump Reg.BLN_AUX_ERR)) ∧
    (wbit (s.reg Reg.BLN_AUX) i.toNat = true → s.auxCorrupts i.toNat = false → good = true →
      let s2 := ({ s with bln := { s.bln with down := s.bln.down &&& (15 - 2 ^ i.toNat) } } : State).takeAck
        (bodyNat body 2 2)
      let again := s2.blankerRestart
      let s3 := if flags.testBit 0 then
        again.exposing.elim again (fun c => again.raiseCtx Ev.BLN_BLANKER_RESTART 0 c) else s2
      let s4 := if flags.testBit 1 then s3.raiseExp Ev.BLN_BLANKER_FAULT 0 else s3
      let due := s4.awaits.find? fun w => w.n == bodyNat body 4 4 && !(w.got.any fun p => p.1 == i.toNat)
      (flags.testBit 2 = true → answers s4) ∧
      (flags.testBit 2 = false → due = none → answers (s4.bump Reg.BLN_AUX_ERR)) ∧
      (∀ w, flags.testBit 2 = false → due = some w →
        let w1 : Await := { w with got := sins i.toNat (bodyNat body 8 12 % 2 ^ 86) w.got }
        let s5 : State := { s4 with awaits := lupd (fun x => decide (x = w)) (fun _ => w1) s4.awaits }
        ((s5.auxAwaited.all fun j => w1.got.any fun p => p.1 == j) = true → answers (s5.decideStatus w1)) ∧
        ((s5.auxAwaited.all fun j => w1.got.any fun p => p.1 == j) = false → answers s5)))) ∧
  (∀ (s : State) (n : BitVec 32), s.live 15 = true →
    ((s.awaits.find? fun w => w.n == n.toNat) = none → exec (.statusTimeout n) s = .next s.settle) ∧
    (∀ w, (s.awaits.find? fun w => w.n == n.toNat) = some w →
      exec (.statusTimeout n) s = .next (State.settle (s.decideStatus w)))) ∧
  (∀ (s : State) (i : BitVec 2), s.live 15 = true →
    (wbit (s.reg Reg.BLN_AUX) i.toNat = false ∨ s.bln.down.testBit i.toNat = true →
      exec (.auxDown i) s = .next s.settle) ∧
    (wbit (s.reg Reg.BLN_AUX) i.toNat = true → s.bln.down.testBit i.toNat = false →
      exec (.auxDown i) s =
        .next (State.settle
          ((({ s with bln := { s.bln with down := s.bln.down ||| 2 ^ i.toNat } } : State).raise Ev.BLN_AUX_DOWN
            i.toNat).decideReady)))) ∧
  (∀ (s : State) (w : Await),
    let s0 : State := { s with awaits := s.awaits.filter fun x => decide (x ≠ w) }
    let reported := w.got.map Prod.snd
    let allOnes := reported.foldl (fun a b => a &&& b) allLanes
    let anyOnes := reported.foldl (fun a b => a ||| b) 0
    let differ := (anyOnes ^^^ allOnes) &&& allLanes
    let ends (rejects unknown : Nat) : State :=
      let s1 := if rejects = 0 then s0 else s0.recordBy w.maker 9 w.n w.n rejects none
      let s2 := if unknown = 0 then s1 else
        (s1.recordBy w.maker 10 w.n w.n unknown none).addCnt Reg.BLN_STAT_LOST (laneList unknown).length
      (laneList rejects).foldl (fun (a : State) l => a.laneReject l) s2
    (reported = [] →
      s.decideStatus w = (ends w.lost (w.lanes &&& allLanes)).raiseExp Ev.BLN_STATUS_LOST w.n) ∧
    (reported ≠ [] → differ = 0 →
      s.decideStatus w = ends (w.lanes &&& allOnes ||| w.lost) (w.lanes &&& differ)) ∧
    (reported ≠ [] → differ ≠ 0 →
      s.decideStatus w =
        (ends (w.lanes &&& allOnes ||| w.lost) (w.lanes &&& differ)).raiseExp Ev.BLN_STATUS_CONFLICT w.n)) ∧
  (∀ s : State,
    s.blankerRestart.bln.cmds.map (fun c => (c.op, c.arg)) =
      (1, 0) :: (((List.range 86).filter fun l => s.mapOf l != l).map fun l => (4, remapArg (s.mapOf l) l)) ++
        ((List.range 64).filterMap fun i => (s.killBeam i).map fun b => (2, b)) ++
        ((s.bln.cmds.filter fun c => c.op == 5 || (c.op == 4 && (s.bln.fo.bind Failover.seq) == some c.seq)).map
          fun c => (c.op, c.arg)))

/-- KILL, COMMAND_RESEND, BLN_REMAP_CMD and LANE_WAKE_DONE (it rests on R180, R204, R205, R213, R214, R220). The
model's own: log entries 74 (when a calibration measures), 79 (KILL, and markers while the lanes are idle), 106 (the
contents of test streams), 126 (the outcomes of a failover), DESIGN CHOICE. -/
def Obligations.BlankerCommandsAreSentAndRepeated : Prop :=
  (∀ s : State, s.live 15 = true →
    (exec .kill s =
      .next (State.settle
        (s.bln.unsent.foldl (fun (a : State) c => a.sendCmd c.1 c.2.1 c.2.2) { s with bln := { s.bln with unsent := [] } }))) ∧
    (s.bln.cmds = [] → exec .commandResend s = .next s.settle) ∧
    (let again (a : State) (c : BCmd) : State :=
       ({ a with
           bln := { a.bln with
             cmds := lupd (fun x => x.seq == c.seq) (fun x => { x with sends := x.sends + 1 }) a.bln.cmds } } :
         State).putCmd c.seq c.op c.arg
     exec .commandResend s =
       .next (State.settle
         (s.bln.cmds.foldl
           (fun (a : State) c =>
             if c.sends = 10 then
               (if c.op = 2 ∨ c.op = 3 then again (a.raise Ev.ALM_KILL_UNACKED c.word) c
                else again (a.remapFails c.seq) c)
             else again a c) s)))) ∧
  (∀ (s : State) (seq : Nat), (∀ f, s.bln.fo = some f → f.seq = some seq → f.failed = false →
      s.remapFails seq =
        ({ s with bln := { s.bln with fo := some { f with failed := true } } } : State).raise Ev.BLN_REMAP_FAIL f.lane) ∧
    (∀ f, s.bln.fo = some f → (f.seq ≠ some seq ∨ f.failed = true) → s.remapFails seq = s) ∧
    (s.bln.fo = none → s.remapFails seq = s)) ∧
  (∀ (s : State) (op arg word : Nat),
    let aux := (List.range 4).filter fun i => wbit (s.reg Reg.BLN_AUX) i
    s.sendCmd op arg word =
      ({ s with
        bln := { s.bln with
          cmds := s.bln.cmds ++ [⟨s.bln.nextSeq, op, arg, 1, word⟩],
          nextSeq := (s.bln.nextSeq + 1) % 65536 } } : State).sendMsg aux (cmdBody s.bln.nextSeq op arg)) ∧
  (∀ seq op arg : Nat, seq < 65536 → arg < 2 ^ 32 → op < 256 →
    (cmdBody seq op arg).length = 12 ∧ bodyNat (cmdBody seq op arg) 0 1 = 1 ∧ bodyNat (cmdBody seq op arg) 1 1 = op ∧
    bodyNat (cmdBody seq op arg) 2 2 = seq ∧ bodyNat (cmdBody seq op arg) 4 4 = arg ∧
    bodyNat (cmdBody seq op arg) 8 4 = 0) ∧
  (∀ (s : State) (a : Acc) (v : Word), Taken a Reg.BLN_REMAP_CMD s →
    let l := fld v 0 7
    let target : Option Nat := if wbit v 31 then none else some (fld v 8 7)
    let busy : Bool := (s.bln.fo.map Failover.lane) == some l || s.bln.foWait.any fun p => p.1 == l
    (busy = true → exec (.blnRemapCmd a v) s = .next s.settle) ∧
    (busy = false → s.bln.fo = none →
      exec (.blnRemapCmd a v) s = .next (State.settle (s.beginFailover l target))) ∧
    (busy = false → s.bln.fo ≠ none →
      exec (.blnRemapCmd a v) s =
        .next (State.settle { s with bln := { s.bln with foWait := sins l target s.bln.foWait } }))) ∧
  (∀ (s : State) (p : BitVec 7), p.toNat < 96 → s.live 15 = true →
    ((s.plane p.toNat).pwr ≠ 3 → exec (.laneWakeDone p) s = .next s.settle) ∧
    ((s.plane p.toNat).pwr = 3 →
      exec (.laneWakeDone p) s =
        .next (State.settle
          (let u := (s.setPlane p.toNat { s.plane p.toNat with pwr := 1 }).lanePower.sendRemap
           (if u.underTest p.toNat then u.startTest else u).calSend))))

/-- BLN_CAL_CMD, CAL_DONE and BLN_LANE_TAP_WRITE (it rests on R215, R216, R217, R268). The model's own: log entries 74
(when a calibration measures), 106 (the contents of test streams), 128 (PHYS above 95), 130 (A7 after a calibration),
145 (the lowest of equal lanes), DESIGN CHOICE. -/
def Obligations.CalibrationSetsTheTaps : Prop :=
  (∀ (s : State) (a : Acc) (v : Word), Taken a Reg.BLN_CAL_CMD s →
    let s1 := (s.resStart Reg.BLN_CAL_STAT).setStale true
    let blocked : Bool := s.expo.isSome || s.bln.fo.isSome || s.rf Reg.BLN_TEST_CTL 0 2 ≠ 0
    (wbit v 0 = false → exec (.blnCalCmd a v) s = .next s.settle) ∧
    (wbit v 0 = true → s.bln.cal = true →
      exec (.blnCalCmd a v) s = .next (State.settle (s.raise Ev.BLN_IGNORED (offDetail Reg.BLN_CAL_CMD)))) ∧
    (wbit v 0 = true → s.bln.cal = false → blocked = true →
      exec (.blnCalCmd a v) s = .next (State.settle (s1.calDone 2))) ∧
    (wbit v 0 = true → s.bln.cal = false → blocked = false →
      exec (.blnCalCmd a v) s =
        .next (State.settle
          ({ s1 with
            bln := { s1.bln with cal := true, calTodo := s.calLanes ++ s.calLanes, calSeq := none },
            gen := { s1.gen with stale := true, dfHeld := true } } : State).lanePower.calSend))) ∧
  (∀ s : State,
    (s.bln.calTodo = [] → s.calSend = s) ∧
    (∀ p rest, s.bln.calTodo = p :: rest → (s.plane p).failed = false →
      (s.bln.calSeq ≠ none ∨ 2 ≤ (s.plane p).pwr → s.calSend = s) ∧
      (s.bln.calSeq = none → (s.plane p).pwr < 2 →
        s.calSend = ({ s with bln := { s.bln with calSeq := some s.bln.nextSeq } } : State).sendCmd 5 (2 ^ 31 + p) 0)) ∧
    (∀ p rest, s.bln.calTodo = p :: rest → (s.plane p).failed = true →
      s.calSend = ({ s with bln := { s.bln with calTodo := rest } } : State).calSend) ∧
    (∀ p rest, s.bln.calTodo = p :: rest →
      let s1 := (((s.laneOut (.stream p (.coms 64))).sendStream p 1).sendSkips p).sendCmd 5 p 0
      s.calLooped = ({ s1 with bln := { s1.bln with calTodo := rest, calSeq := none } } : State).calSend)) ∧
  (∀ (s : State) (ack q : Nat), s.bln.calSeq = some q → ackReaches ack q = true → s.bln.fo = none →
    (∀ x ∈ s.bln.cmds, x.op ≠ 2) →
    s.takeAck ack =
      State.calLooped
        { s with bln := { s.bln with cmds := s.bln.cmds.filter fun x => !ackReaches ack x.seq, ack := ack } }) ∧
  (∀ (s : State) (ok : Bool) (taps : List (BitVec 16)) (resid : List (BitVec 10)) (eye : List (BitVec 7)),
    taps.length = 96 → resid.length = 96 → eye.length = 96 → s.live 15 = true →
    (s.bln.cal = false → exec (.calDone ok taps resid eye) s = .next s.settle) ∧
    (s.bln.cal = true → ok = false →
      exec (.calDone ok taps resid eye) s =
        .next (State.settle (s.calDone 4))) ∧
    (s.bln.cal = true → ok = true → s.bln.calTodo ≠ [] →
      exec (.calDone ok taps resid eye) s = .next s.settle) ∧
    (s.bln.cal = true → ok = true → s.bln.calTodo = [] →
      let arr (p : Nat) : Nat := (taps.map BitVec.toNat).getD p 0
      let res (p : Nat) : Nat := (resid.map BitVec.toNat).getD p 0
      let wide (p : Nat) : Nat := (eye.map BitVec.toNat).getD p 0
      let lanes := s.calLanes
      let latest := (lanes.map arr).foldl max 0
      let s2 := lanes.foldl
        (fun (a : State) p =>
          a.setPlane p
            { a.plane p with
              tap := min 1023 (latest - arr p), range := 1023 < latest - arr p, resid := res p, eye := wide p }) s
      let worst := (leastBy (fun p => 1023 - res p) lanes).getD 0
      let narrow := (leastBy wide lanes).getD 0
      let u := (((s2.setReg Reg.BLN_CAL_RESID (pack [(16, worst), (0, res worst)])).setReg Reg.BLN_CAL_EYE
        (pack [(16, narrow), (0, wide narrow)])).calDone (if lanes.any fun p => 1023 < latest - arr p then 1 else 0))
      exec (.calDone ok taps resid eye) s = .next u.settle)) ∧
  (∀ (s : State) (code : Nat), (s.calDone code).gen.stale = false ∧ (s.calDone code).gen.dfHeld = s.gen.dfHeld ∧
    (s.calDone code).bln.cal = false) ∧
  (∀ (s : State) (a : Acc) (v : Word), Taken a Reg.BLN_LANE_TAP s →
    let p := s.rf Reg.BLN_LANE_SEL 0 7
    (s.expo ≠ none ∨ 95 < p →
      exec (.blnLaneTapWrite a v) s = .next (State.settle (s.raise Ev.BLN_IGNORED (offDetail Reg.BLN_LANE_TAP)))) ∧
    (s.expo = none → p ≤ 95 →
      exec (.blnLaneTapWrite a v) s =
        .next (State.settle ((s.setPlane p { s.plane p with tap := fld v 0 10 }).setStale true))))

/-- SET_FAIL, CLEAR_FAIL, BLN_TEST_CTL_WRITE, INJ, CHECKER_LOCK, BLN_CTL_WRITE and BLN_AUX_WRITE (it rests on R214,
R218, R219, R222, R223, R428). The model's own: log entries 106 (the contents of test streams), 128 (PHYS above 95),
143 (DOWN of a disabled lane), DESIGN CHOICE. -/
def Obligations.LaneCommandsTestsAndSettings : Prop :=
  (∀ (s : State) (a : Acc), Taken a Reg.BLN_LANE_CMD s →
    let p := s.rf Reg.BLN_LANE_SEL 0 7
    let ignored : State := State.settle (s.raise Ev.BLN_IGNORED (offDetail Reg.BLN_LANE_CMD))
    (95 < p ∨ s.mapped p = true → exec (.setFail a) s = .next ignored ∧ exec (.clearFail a) s = .next ignored) ∧
    (p ≤ 95 → s.mapped p = false →
      exec (.setFail a) s = .next (State.settle ((s.setPlane p { s.plane p with failed := true }).lanePower)) ∧
      exec (.clearFail a) s = .next (State.settle ((s.setPlane p { s.plane p with failed := false }).lanePower)))) ∧
  (∀ (s : State) (a : Acc) (v : Word), Taken a Reg.BLN_TEST_CTL s →
    let p := fld v 16 7
    (95 < p ∨ 4 < fld v 8 3 ∨ (fld v 0 2 ≠ 0 ∧ s.mapped p = true ∧ s.running = true) →
      exec (.blnTestCtlWrite a v) s =
        .next (State.settle (s.raise Ev.BLN_IGNORED (offDetail Reg.BLN_TEST_CTL)))) ∧
    (p ≤ 95 → fld v 8 3 ≤ 4 → fld v 0 2 = 0 ∨ s.mapped p = false ∨ s.running = false →
      let s2 := ((if s.rf Reg.BLN_TEST_CTL 0 2 = 0 then s else s.endTest).writeRw Reg.BLN_TEST_CTL v).setReg
        Reg.BLN_TEST_ERR 0
      let s3 : State := { s2 with bln := { s2.bln with lock := false, inj := wbit v 31 && fld v 0 2 != 0 } }
      (fld v 0 2 ≠ 3 → exec (.blnTestCtlWrite a v) s = .next (State.settle s3.lanePower.startTest)) ∧
      (fld v 0 2 = 3 →
        exec (.blnTestCtlWrite a v) s = .next (State.settle (s3.sendCmd 5 (2 ^ 31 + p) 0).lanePower.startTest))) ∧
    (let q := s.rf Reg.BLN_TEST_CTL 16 7
     (s.underTest q = false ∨ 2 ≤ (s.plane q).pwr → s.startTest = s) ∧
     (s.underTest q = true → (s.plane q).pwr < 2 →
       s.startTest = (s.sendStream q (s.rf Reg.BLN_TEST_CTL 8 3)).testInvert)) ∧
    (s.rf Reg.BLN_TEST_CTL 0 2 = 0 → exec (.inj a) s = .next (State.settle (s.setReg Reg.BLN_TEST_ERR 0))) ∧
    (s.rf Reg.BLN_TEST_CTL 0 2 ≠ 0 →
      exec (.inj a) s =
        .next (State.settle
          ((({ s with bln := { s.bln with inj := true } } : State).setReg Reg.BLN_TEST_ERR 0).testInvert)))) ∧
  (∀ (s : State) (v v' : Word), s.judge ⟨.pcie, true, 0, .both v'⟩ Reg.BLN_TEST_CTL = .accepted →
    s.judge ⟨.spi, true, 0, .both v'⟩ Reg.BLN_TEST_CTL = .accepted →
    let lost := s.raise Ev.BLN_IGNORED (offDetail Reg.BLN_TEST_CTL)
    exec (.inj ⟨.pcie, true, 0, .both v'⟩) s =
      .next (State.settle (testCtlAct v' (lost.setReg Reg.BLN_TEST_ERR 0))) ∧
    exec (.blnTestCtlWrite ⟨.pcie, true, 0, .both v'⟩ v) s =
      .next (State.settle (testCtlAct v' (testCtlAct (v &&& 0x7FFFFFFF#32) (if wbit v 31 = true then lost else s))))) ∧
  (∀ (s : State) (lock : Bool) (errors : Nat), s.live 15 = true →
    (s.rf Reg.BLN_TEST_CTL 0 2 = 0 → exec (.checkerLock lock errors) s = .next s.settle) ∧
    (s.rf Reg.BLN_TEST_CTL 0 2 ≠ 0 →
      exec (.checkerLock lock errors) s =
        .next (State.settle
          (({ s with bln := { s.bln with lock := lock } } : State).setRf Reg.BLN_TEST_ERR 0 31
            (satAdd 31 (s.rf Reg.BLN_TEST_ERR 0 31) errors))))) ∧
  (∀ (s : State) (a : Acc) (v : Word), Taken a Reg.BLN_CTL s →
    (2 ≤ fld v 16 8 → fld v 16 8 ≤ 60 → fld v 8 4 ≤ 10 →
      exec (.blnCtlWrite a v) s = .next (State.settle ((s.writeRw Reg.BLN_CTL v).lanePower))) ∧
    (fld v 16 8 < 2 ∨ 60 < fld v 16 8 ∨ 10 < fld v 8 4 →
      exec (.blnCtlWrite a v) s = .next (State.settle (s.raise Ev.BLN_CFG_RANGE 0)))) ∧
  (∀ (s : State) (a : Acc) (v : Word), Taken a Reg.BLN_AUX s →
    (s.expo = none → fld v 0 4 ≠ 0 → fld v 8 3 ≤ 4 →
      exec (.blnAuxWrite a v) s =
        .next (State.settle
          (let s1 := s.writeRw Reg.BLN_AUX v
           let s2 := s1.fill ((s1.auxEnabled.filter fun i => s.clk.ready && !s.auxEnabled.contains i).map (96 + ·))
           ({ s2 with bln := { s2.bln with down := s2.bln.down &&& fld v 0 4 } } : State).decideReady))) ∧
    (s.expo ≠ none ∨ fld v 0 4 = 0 ∨ 4 < fld v 8 3 →
      exec (.blnAuxWrite a v) s = .next (State.settle (s.raise Ev.BLN_CFG_RANGE 0))))

/-- MET_SAMPLE and SAMPLE_TIMEOUT, and the update of the loop at a sample (it rests on R226, R227, R229, R230, R231,
R232, R407, R412). The model's own: log entries 66 (a run of missing numbers), 100 (operands that nothing delivers,
wrong lengths), DESIGN CHOICE; log entry 97 (a sample after a gap), DEDUCED. -/
def Obligations.MetrologySamplesDriveTheLoop : Prop :=
  (∀ (s : State) (second : Bool) (com : BitVec 64) (body : List Byte) (crc : Word), s.live 16 = true →
    let answers (t : State) : Prop := exec (.metSample second com body crc) s = .next t.settle
    let lane := if second then 5 else 4
    let good : Bool := body.length == 16 && crc32 body == crc.toNat
    let y := BitVec.ofNat 48 (bodyNat body 0 6)
    let x := BitVec.ofNat 48 (bodyNat body 6 6)
    let fl := BitVec.ofNat 16 (bodyNat body 12 2)
    let sq := bodyNat body 14 2
    let off : Bool := !wbit (s.reg Reg.TRK_CFG) 0 || (second && s.rf Reg.TRK_CFG 4 2 == 0)
    let m := s.loop.lane second
    let close : Bool := m.ref.any fun r => decide (com.toNat < r + 3072)
    let m1 : MetLane := { m with ref := some com.toNat }
    let d := match m.seq with
      | some q => (sq + 65536 - q) % 65536
      | none => 1
    let put (t : State) (k : MetLane) : State := t.setLoop (t.loop.setLane second k)
    (off = true → answers s) ∧
    (off = false → s.auxCorrupts lane = true → answers (s.useCorruption.bump Reg.TRK_LINK_ERR)) ∧
    (off = false → s.auxCorrupts lane = false → good = false → answers (s.bump Reg.TRK_LINK_ERR)) ∧
    (off = false → s.auxCorrupts lane = false → good = true →
      (close = true →
        answers (((put s { m with disc := m.disc + 1 }).bump Reg.TRK_LINK_ERR).gapCheck second (m.miss + m.disc + 1))) ∧
      (close = false → d = 0 ∨ 32767 < d → answers ((put s m1).bump Reg.TRK_LINK_ERR)) ∧
      (close = false → d ≠ 0 → d ≤ 32767 →
        let ym := if fl.getLsbD 0 then corrected (wbit (s.reg Reg.TRK_CFG) 1) y else none
        let xm := if fl.getLsbD 1 then corrected (wbit (s.reg Reg.TRK_CFG) 2) x else none
        let drops := s.rf Reg.TEST_MET_CTL 16 8
        let run := m.miss + (d - 1)
        let s1 := (s.addCnt Reg.TRK_MISSING (d - 1)).addCnt Reg.TRK_WARN (b2n (fl.getLsbD 2))
        let lat := if second then s.rf Reg.TRK_LAT 16 12 else s.rf Reg.TRK_LAT 0 12
        (ym = none →
          answers (((put s1 { m1 with seq := some sq, miss := run + 1, disc := 0 }).addCnt Reg.TRK_MISSING 1).gapCheck
            second (run + 1))) ∧
        (ym ≠ none → s.metSelected second = true → drops ≠ 0 →
          answers ((((put s { m1 with disc := m.disc + 1 }).setRf Reg.TEST_MET_CTL 16 8 (drops - 1)).bump
            Reg.TEST_INJ).gapCheck second (m.miss + m.disc + 1))) ∧
        (∀ yv, ym = some yv → s.metSelected second = false ∨ drops = 0 →
          let s2 := (put s1 { m1 with seq := some sq, miss := 0, disc := 0, last := some (s.tau / 64) }).bump
            Reg.TRK_SAMPLES
          answers (((s2.gapCheck second run).acceptSample second yv xm ((com.toNat / 64 : Nat) - (lat : Int))).travelCheck))))) ∧
  (∀ (s : State) (second : Bool), s.live 16 = true →
    (s.loop.feeds second = true → s.laneUp second = false →
      exec (.sampleTimeout second) s = .next (State.settle (s.loseLock 3))) ∧
    (s.loop.feeds second = false ∨ s.laneUp second = true → exec (.sampleTimeout second) s = .next s.settle)) ∧
  (∀ (l : Loop) (gp gv win ym a tv : Int),
    (l.st = 0 → l.update gp gv win ym a tv = ({ l with p := ym * 65536, v := 0, y1 := ym, t1 := tv, st := 1 }, false)) ∧
    (l.st = 1 → tv ≤ l.t1 →
      l.update gp gv win ym a tv = ({ l with p := ym * 65536, y1 := ym, t1 := tv }, false)) ∧
    (l.st = 1 → l.t1 < tv →
      let v := ((ym - l.y1) * 2 ^ 32).tdiv (tv - l.t1)
      l.update gp gv win ym a tv = ({ l with v := v, p := ym * 65536 + v * a / 65536, cnt := 0, st := 2 }, false)) ∧
    (l.st = 2 →
      let e := ym * 65536 + l.v * a / 65536 - l.p
      let p := l.p + e * gp / 65536
      let v := l.v + e * gv / 256
      ((e.natAbs : Int) ≤ win * 65536 → 0 ≤ win →
        l.update gp gv win ym a tv = ({ l with p := p, v := v, cnt := min 64 (l.cnt + 1) }, false)) ∧
      (win * 65536 < (e.natAbs : Int) → (e.natAbs : Int) ≤ win * 2 ^ 18 →
        l.update gp gv win ym a tv = ({ l with p := p, v := v, cnt := 0 }, false)) ∧
      (win * 2 ^ 18 < (e.natAbs : Int) → l.update gp gv win ym a tv = ({ l with p := p, v := v }, true))))

/-- STRIPE_ARMED, START_LATE, USE_PRIMARY, TRK_SNAP, TRK_SNAP_DONE and TRK_CONFIG_WRITE (it rests on R233, R241, R242,
R246, R359). The model's own: log entries 47 (TRK_CFG with EN = 0), 58 (the slot of frame 0), DESIGN CHOICE; log entry
77 (frames of a low DARK_N), DEDUCED. -/
def Obligations.ArmingAndTrackingCommands : Prop :=
  (∀ (s : State) (e : Expo) (hits : List TabHit) (frames : List FrameHit),
    hits.all TabHit.ok = true → frames.all FrameHit.ok = true → s.live 16 = true → s.expo = some e →
    (e.armed = true ∨ s.loop.locked = false ∨ s.lanesAsleep = true ∨ s.roomAhead e = false →
      exec (.stripeArmed hits frames) s = .next s.settle) ∧
    (e.armed = false → s.loop.locked = true → s.lanesAsleep = false → s.roomAhead e = true →
      let t := ((s.updExpo fun e => { e with armed := true }).judgeLine 0).allocate 0 hits
      let bad := (t.frameHits frames).1
      let u := (t.frameHits frames).2
      ∃ e1, u.expo = some e1 ∧
        exec (.stripeArmed hits frames) s =
          .next (State.settle (u.sendFrames e.ctx 0 (some s.nowGroups) (s.clk.hold || u.darkDue) bad e1.bits))) ∧
    (e.armed = false → 0 < s.loop.v → s.boundary e 0 - s.ahead < s.posMu →
      exec .startLate s = .next (State.settle (s.raiseCtx Ev.TRK_START_LATE 0 e.ctx))) ∧
    (e.armed = true ∨ s.loop.v ≤ 0 ∨ s.posMu ≤ s.boundary e 0 - s.ahead → exec .startLate s = .next s.settle)) ∧
  (∀ (s : State) (a : Acc), Taken a Reg.TRK_CMD s →
    (s.expo ≠ none →
      exec (.usePrimary a) s = .next (State.settle (s.raiseExp Ev.TRK_CFG_REFUSED (offDetail Reg.TRK_CMD)))) ∧
    (s.expo = none → s.loop.sec = true →
      exec (.usePrimary a) s = .next (State.settle { s with loop := { s.loop with usePrim := true } })) ∧
    (s.expo = none → s.loop.sec = false → exec (.usePrimary a) s = .next s.settle) ∧
    exec (.trkSnap a) s =
      .next (State.settle (s.resultStart Reg.TRK_SNAP_STAT
        ⟨[(Reg.TRK_SNAP_POS_LO, w32i s.posMu), (Reg.TRK_SNAP_POS_HI, w32 (toBits 48 s.posMu / 2 ^ 32)),
          (Reg.TRK_SNAP_VEL, w32i (s.loop.v / 65536)),
          (Reg.TRK_SNAP_PH, pack [(16, toBits 16 s.loop.xerr), (0, s.phase)])], [], none⟩))) ∧
  (∀ (s : State) (w : Waiting), s.live 16 = true → w.ctx = none →
    s.results.find? (fun p => p.1 == Reg.TRK_SNAP_STAT) = some (Reg.TRK_SNAP_STAT, w) →
    let t := w.regs.foldl (fun (a : State) q => a.setReg q.1 q.2) s
    exec .trkSnapDone s =
      .next (State.settle ((({ t with results := sdel Reg.TRK_SNAP_STAT t.results } : State).resDone Reg.TRK_SNAP_STAT
        w.stat).raiseAs false Ev.TRK_SNAP_DONE 0 s.exposing))) ∧
  (∀ (s : State) (a : Acc) (r : BitVec 2) (v : Word),
    let off := Reg.TRK_CFG + 4 * r.toNat
    let bad : Bool :=
      (r == 0 && (fld v 4 2 == 3 || decide (4 < fld v 8 3) || decide (4 < fld v 12 3))) ||
        (r == 3 && (fld v 16 8 == 0 || fld v 24 8 == 0 || fld v 0 16 == 0))
    Taken a off s →
    (s.expo ≠ none ∨ bad = true →
      exec (.trkConfigWrite a r v) s = .next (State.settle (s.raiseExp Ev.TRK_CFG_REFUSED (offDetail off)))) ∧
    (s.expo = none → bad = false →
      (r ≠ 0 ∨ (wbit v 0 = true ∧ wbit (s.reg off) 0 = true) →
        exec (.trkConfigWrite a r v) s = .next (State.settle (s.writeRw off v))) ∧
      (r = 0 → ¬ (wbit v 0 = true ∧ wbit (s.reg off) 0 = true) →
        exec (.trkConfigWrite a r v) s = .next (State.settle ((s.writeRw off v).setLoop s.loop.idle)))))

/-- MOVE, STOP, CLEAR_PEND, SET_POS, MOT_SNAP, MOT_SNAP_DONE and the settings of chapter 10 (it rests on R249, R252,
R253, R256, R257, R261, R269, R428). -/
def Obligations.MotionCommandsWaitForTheTick : Prop :=
  (∀ (s : State) (a : Acc) (axis : Bool), Taken a Reg.MOT_CMD s →
    let queued (c : MotCmd) : State := State.settle { s with gen := { s.gen with cmds := s.gen.cmds ++ [c] } }
    let vel := s.rf Reg.MOT_VEL 0 23
    (s.conductor = false →
      exec (.move a axis) s = .next (State.settle (s.raise Ev.MOT_IGNORED 1)) ∧
      exec (.stop a) s = .next (State.settle (s.raise Ev.MOT_IGNORED 2)) ∧
      exec (.clearPend a) s = .next (State.settle (s.raise Ev.MOT_IGNORED 3)) ∧
      exec (.setPos a axis) s = .next (State.settle (s.raise Ev.MOT_IGNORED 4))) ∧
    (s.conductor = true →
      (s.inTravel axis s.motTgt = false → exec (.move a axis) s = .next (State.settle (s.moveResult axis 2))) ∧
      (s.inTravel axis s.motTgt = true → vel = 0 ∨ 256 * s.vlim axis < vel →
        exec (.move a axis) s = .next (State.settle (s.moveResult axis 3))) ∧
      (s.inTravel axis s.motTgt = true → vel ≠ 0 → vel ≤ 256 * s.vlim axis →
        exec (.move a axis) s = .next (queued (.move axis s.motTgt))) ∧
      exec (.stop a) s = .next (queued (.stop 1)) ∧
      exec (.clearPend a) s = .next (queued .clearPend) ∧
      exec (.setPos a axis) s = .next (queued (.setPos axis s.motTgt))) ∧
    (let mine := decide (s.gen.axis = axis) && s.gen.st != 0
     let p := s.gen.pos axis / 65536
     exec (.motSnap a axis) s =
       .next (State.settle (s.resultStart Reg.MOT_SNAP_STAT
         ⟨[(Reg.MOT_SNAP_POS_LO, w32i p), (Reg.MOT_SNAP_POS_HI, w32i (p / 2 ^ 32)),
           (Reg.MOT_SNAP_VEL, w32i (if mine then s.gen.signed s.gen.v / 65536 else 0)),
           (Reg.MOT_SNAP_ACC, w32i (if mine then s.gen.signed s.gen.a / 256 else 0))], [], none⟩)))) ∧
  (∀ (s : State) (w : Waiting), s.live 17 = true → w.ctx = none →
    s.results.find? (fun p => p.1 == Reg.MOT_SNAP_STAT) = some (Reg.MOT_SNAP_STAT, w) →
    let t := w.regs.foldl (fun (a : State) q => a.setReg q.1 q.2) s
    exec .motSnapDone s =
      .next (State.settle ((({ t with results := sdel Reg.MOT_SNAP_STAT t.results } : State).resDone Reg.MOT_SNAP_STAT
        w.stat).raise Ev.MOT_SNAP_DONE 0))) ∧
  (∀ (s : State) (a : Acc) (r : BitVec 2) (v : Word), Taken a (Reg.MOT_VEL + 4 * r.toNat) s →
    let x := (v &&& regMask (Reg.MOT_VEL + 4 * r.toNat)).toNat
    let bad : Bool := if r = 0 then s.gen.st != 0 && (x == 0 || decide (256 * s.vlim s.gen.axis < x)) else x == 0
    (bad = true →
      exec (.motProfileWrite a r v) s =
        .next (State.settle (s.raise Ev.MOT_CFG_REFUSED (offDetail (Reg.MOT_VEL + 4 * r.toNat))))) ∧
    (bad = false →
      exec (.motProfileWrite a r v) s =
        .next (State.settle ((s.writeRw (Reg.MOT_VEL + 4 * r.toNat) v).queueMot (.prof r.toNat x))))) ∧
  (∀ (s : State) (a : Acc) (w : BitVec 22) (v : Word), Taken a Reg.MOT_CMD s → 4 * w.toNat = Reg.MOT_CMD →
    exec (.registerWrite a w v) s = .next (State.settle (motCmdAct v s)) ∧
    (fld v 0 3 = 1 → exec (.registerWrite a w v) s = exec (.move a (wbit v 8)) s) ∧
    (fld v 0 3 = 2 → exec (.registerWrite a w v) s = exec (.stop a) s) ∧
    (fld v 0 3 = 3 → exec (.registerWrite a w v) s = exec (.clearPend a) s) ∧
    (fld v 0 3 = 4 → exec (.registerWrite a w v) s = exec (.setPos a (wbit v 8)) s) ∧
    (fld v 0 3 = 5 → exec (.registerWrite a w v) s = exec (.motSnap a (wbit v 8)) s) ∧
    (fld v 0 3 = 0 ∨ 6 ≤ fld v 0 3 →
      exec (.registerWrite a w v) s = .next (State.settle (s.raise Ev.MOT_IGNORED (fld v 0 3))))) ∧
  (∀ (s : State) (w : BitVec 22) (p q : Word), 4 * w.toNat = Reg.MOT_CMD →
    s.judge ⟨.pcie, true, 0, .both q⟩ Reg.MOT_CMD = .accepted → s.judge ⟨.spi, true, 0, .both q⟩ Reg.MOT_CMD = .accepted →
    let both : State := motCmdAct q (s.raise Ev.MOT_IGNORED (fld p 0 3))
    exec (.registerWrite ⟨.pcie, true, 0, .both q⟩ w p) s = .next both.settle ∧
    exec (.registerWrite ⟨.spi, true, 0, .both p⟩ w q) s = .next both.settle) ∧
  (∀ (s : State) (a : Acc) (v : Word), Taken a Reg.MOT_CFG s →
    (s.gen.st = 0 → s.expo = none → fld v 8 4 ≠ 0 → fld v 0 3 ≤ 4 → fld v 4 3 = 3 ∨ fld v 4 3 = 4 →
      exec (.motCfgWrite a v) s = .next (State.settle (s.writeRw Reg.MOT_CFG v))) ∧
    (s.gen.st ≠ 0 ∨ s.expo ≠ none ∨ fld v 8 4 = 0 ∨ 4 < fld v 0 3 ∨ (fld v 4 3 ≠ 3 ∧ fld v 4 3 ≠ 4) →
      exec (.motCfgWrite a v) s = .next (State.settle (s.raise Ev.MOT_CFG_REFUSED (offDetail Reg.MOT_CFG)))))

/-- TICK (it rests on R250, R253, R255, R259, R263, R281, R291). The model's own: log entry 64 (two results of a
tick), DESIGN CHOICE; log entry 65 (the tick that ends a ramp), DEDUCED. -/
def Obligations.TickRunsTheGenerator : Prop :=
  (∀ s : State, s.live 17 = true →
    let s0 := s.takeCeil
    (s0.conductor = false → exec .tick s = .next s0.settle) ∧
    (s0.conductor = true →
      let s1 := s0.gen.cmds.foldl (fun (a : State) c => a.motCmd c) (s0.setGen { s0.gen with cmds := [] })
      let moved (s2 : State) : Prop :=
        let s3 := (s2.followVel.computeTick.flushResults).sendSetpoint
        let s4 := s3.keepSetpt s3.tickTime (s3.gen.y / 65536) (s3.gen.x / 65536)
        (s4.anyJoined = false → exec .tick s = .next s4.settle) ∧
        (s4.anyJoined = true →
          exec .tick s =
            .next (State.settle (s4.sendDown 0x40 (setptBytes s4.tickTime (s3.gen.y / 65536) (s3.gen.x / 65536)))))
      (s1.gen.st ≠ 0 ∨ s1.gen.pend = none → moved s1) ∧
      (∀ p, s1.gen.st = 0 → s1.gen.pend = some p →
        moved ((s1.setGen { s1.gen with pend := none }).startMove p.1 p.2)))) ∧
  (∀ s : State, s.gen.st = 0 → s.followVel.computeTick = s) ∧
  (∀ s : State,
    let g := s.gen
    let n := g.planTick
    (g.st = 1 ∨ g.st = 2 → g.mustStop = false →
      s.computeTick = s.setGen { g.advance n.1 n.2.1 with st := if n.2.2 then 2 else 1 }) ∧
    (g.st = 1 ∨ g.st = 2 → g.mustStop = true → s.computeTick = s.beginTargetStop.computeTick) ∧
    (g.st = 3 → stopTick g.mj g.h g.v g.a = none → s.computeTick = s.endMove) ∧
    (∀ m, g.st = 3 → stopTick g.mj g.h g.v g.a = some m → s.computeTick = s.setGen (g.advance m.1 m.2)) ∧
    (g.st = 2 → n = (g.v, 0, true)) ∧
    (g.st = 1 →
      let reach := g.v + rampGain g.mj g.a
      let lands : Prop := if g.up then g.vt ≤ reach else reach ≤ g.vt
      (lands → toward g.mj g.a 0 = 0 → n = (g.vt, 0, true)) ∧
      (lands → toward g.mj g.a 0 ≠ 0 → n = (g.v + toward g.mj g.a 0, toward g.mj g.a 0, false)) ∧
      (¬ lands →
        let a := toward g.mj g.a (if g.up then g.accI else -g.accI)
        n = (g.v + a, a, false)))) ∧
  (∀ (g : Gen) (v a : Int),
    (g.advance v a).v = v ∧ (g.advance v a).a = a ∧
    (g.advance v a).pos g.axis = g.pos g.axis + (if g.neg then -v else v) ∧
    (g.advance v a).pos (!g.axis) = g.pos (!g.axis)) ∧
  (∀ j a goal : Int, 0 ≤ j →
    (a + j ≤ goal → toward j a goal = a + j) ∧ (goal ≤ a - j → toward j a goal = a - j) ∧
    (a - j ≤ goal → goal ≤ a + j → toward j a goal = goal)) ∧
  (∀ (j h v a : Int) (m : Int × Int), stopTick j h v a = some m →
    m.1 = v + m.2 ∧ 0 < m.1 ∧ (m.2 = toward j a (-h) ∨ m.2 = toward j a 0)) ∧
  (∀ s : State,
    s.flushResults = s.gen.done.foldl (fun (a : State) p => a.moveResult p.1 p.2) (s.setGen { s.gen with done := [] })) ∧
  (∀ (s : State) (v : Nat), s.gov.next = some v → s.takeCeil.gov.ceil = v) ∧
  (∀ s : State, s.gen.toTgt = true →
    s.endMove.gen.pos s.gen.axis = s.gen.tgt ∧ s.endMove.gen.v = 0 ∧ s.endMove.gen.a = 0 ∧ s.endMove.gen.st = 0 ∧
    s.endMove.gen.pos (!s.gen.axis) = s.gen.pos (!s.gen.axis) ∧ s.endMove.gen.done = (s.gen.axis, 0) :: s.gen.done) ∧
  (∀ s : State, s.gen.toTgt = false →
    s.endMove.gen.y = s.gen.y ∧ s.endMove.gen.x = s.gen.x ∧ s.endMove.gen.v = 0 ∧ s.endMove.gen.a = 0 ∧
    s.endMove.gen.st = 0 ∧ s.endMove.gen.done = (s.gen.axis, 1) :: s.gen.done)

/-- CAM_WRITE, SWAP and DEFLECTION_IDLE (it rests on R265, R266, R267, R268). The model's own: log entries 7 (free
values), 48 (TIME and DARK of an IDLE message), 130 (A7 after a calibration), DESIGN CHOICE. -/
def Obligations.CamBanksSwapAtATransit : Prop :=
  (∀ (s : State) (a : Acc) (bank : Bool) (k : BitVec 8) (v : Word),
    let off := (if bank then Reg.CAM1_0 else Reg.CAM0_0) + 4 * k.toNat
    Taken a off s →
    (bank = s.camBank →
      exec (.camWrite a bank k v) s = .next (State.settle (s.raise Ev.MOT_CAM_IGNORED (offDetail off)))) ∧
    (bank ≠ s.camBank → exec (.camWrite a bank k v) s = .next (State.settle (s.setReg off v)))) ∧
  (∀ (s : State) (a : Acc), Taken a Reg.CAM_CTL s →
    (wbit (s.reg Reg.CAM_CTL) 2 = true →
      exec (.swap a) s = .next (State.settle (s.raise Ev.MOT_CAM_IGNORED (offDetail Reg.CAM_CTL)))) ∧
    (wbit (s.reg Reg.CAM_CTL) 2 = false → s.armed = true →
      exec (.swap a) s = .next (State.settle (s.setReg Reg.CAM_CTL (setBit (s.reg Reg.CAM_CTL) 2 true)))) ∧
    (wbit (s.reg Reg.CAM_CTL) 2 = false → s.armed = false →
      exec (.swap a) s =
        .next (State.settle ((s.setReg Reg.CAM_CTL (pack [(0, b2n (!s.camBank))])).raise Ev.MOT_CAM_SWAP
          (b2n (!s.camBank)))))) ∧
  (∀ s : State, s.live 17 = true →
    let free := ((Config.freeWord s.draws).toNat, (Config.freeWord (s.draws + 1)).toNat, Config.freeBit (s.draws + 2))
    let shot := s.gen.shot.getD free
    let s1 : State := if s.gen.shot = none then { s with draws := s.draws + 3 } else s
    let body := deflectionBody shot.1 (1 + 2 * b2n shot.2.2 + 8 * b2n s.camBank) s.loop.xerr shot.2.1 0
      (List.replicate 32 (s.camSample (256 * s.phase) s.loop.xerr))
    let last := s.lastDf
    let off : Bool := !wbit (s.reg Reg.MOT_CFG) 13 || s.streamsOff
    let sent (b keep : List Byte) : Host.Outcome State Fault Refusal :=
      .next (State.settle (({ s1.bump Reg.MOT_DF_SENT with lastDf := keep } : State).sendMsg [7] b))
    (off = true → exec .deflectionIdle s = .next s1.settle) ∧
    (off = false → s.gen.dfHeld = false → exec .deflectionIdle s = sent body body) ∧
    (off = false → s.gen.dfHeld = true → last ≠ [] →
      exec .deflectionIdle s = sent (last.set 4 (last.getD 4 0 ||| 4#8)) last) ∧
    (off = false → s.gen.dfHeld = true → last = [] → exec .deflectionIdle s = .next s1.settle)) ∧
  (∀ (s : State) (n pitch : Nat) (ofs : Int) (time : Nat) (dark : Bool),
    (s.deflectionFire n pitch ofs time dark).gen.dfHeld = s.gen.stale)

/-- A message of the constellation is dropped, counted as an error, or taken once (it rests on R284, R285, R293,
R412). The model's own: log entries 41 (how far back a SEQ is known), 100 (operands that nothing delivers, wrong
lengths), DESIGN CHOICE. -/
def Obligations.MessagesAreReceivedOnce : Prop :=
  (∀ (s : State) (rx : Rx), s.live 19 = true →
    let follows (p : Nat) (type : Byte) (len : Nat) (i : Instr) : Prop := Instr.wf i = true →
      (s.portUsed p = false → exec i s = .next s.settle) ∧
      (s.portUsed p = true → s.auxCorrupts (rx.lane p) = true →
        exec i s = .next (State.settle (s.useCorruption.bump Reg.CST_LINK_ERR))) ∧
      (s.portUsed p = true → s.auxCorrupts (rx.lane p) = false →
        (rx.body.length ≠ len ∨ crcGood rx.body rx.crc = false ∨ rx.body.headD 0 ≠ type →
          exec i s = .next (State.settle (s.bump Reg.CST_LINK_ERR))) ∧
        (rx.body.length = len → crcGood rx.body rx.crc = true → rx.body.headD 0 = type →
          seqTaken (sget (0, 0) s.cst.rx p).1 (sget (0, 0) s.cst.rx p).2 rx.seq = none →
          exec i s = .next s.settle))
    (∀ port, follows (kidPort port) 0x11 16 (.join port rx) ∧
      (∀ turn, follows (kidPort port) 0x20 12 (.timeReq port rx turn)) ∧
      follows (kidPort port) 0x30 528 (.report port rx)) ∧
    follows 0 0x12 8 (.grant rx) ∧ follows 0 0x21 28 (.timeRsp rx) ∧ follows 0 0x31 20 (.plan rx) ∧
    follows 0 0x40 28 (.setpt rx) ∧ follows 0 0x41 8 (.halt rx)) ∧
  (∀ (last mask seq : Nat) (w : Nat × Nat), seqTaken last mask seq = some w → seqTaken w.1 w.2 seq = none) ∧
  (∀ seq : Nat, seqTaken 0 0 seq = some (seq, 1))

/-- JOIN, JOIN_SEND, GRANT and REJOIN (it rests on R287). The model's own: log entries 7 (free values), 131 (which
grants a report reflects), DESIGN CHOICE; log entry 42 (when a child is back), DEDUCED. -/
def Obligations.MembersJoinTheTree : Prop :=
  (∀ (s : State) (port : Bool) (rx : Rx) (w : Nat × Nat), rx.body.length = 16 → s.live 19 = true →
    Arrives s (kidPort port) 0x11 rx w →
    let id := bodyNat rx.body 4 2
    let depth := bodyNat rx.body 6 1
    let s1 := s.took (kidPort port) w
    let c := kidPort port - 1
    let s0 := s1.kidBack c
    let id1 := if id = 0xFFFF then 2 * s.cst.id + 1 + c else id
    let d1 := if id = 0xFFFF then s.cst.depth + 1 else depth
    let answers (t : State) : Prop := exec (.join port rx) s = .next t.settle
    (s.cst.joined = false → answers s1) ∧
    (s.cst.joined = true →
      (11 < d1 → answers (s0.sendGrant id1 d1 1)) ∧
      (d1 ≤ 11 → s.role = 1 →
        let again : Bool := (s0.kid c).granted.any fun g => g.1 == id1
        (again = false → 2048 < s0.countAll + 1 → answers (s0.sendGrant id1 d1 2)) ∧
        (again = true ∨ s0.countAll + 1 ≤ 2048 →
          let t := s0.sendGrant id1 d1 0
          answers (t.setKid c ((t.kid c).grants id1 s0.grantShows)))) ∧
      (d1 ≤ 11 → s.role ≠ 1 → answers (s0.sendCst 0 0x11 (joinBytes id1 d1 0 ++ leBytes 8 (bodyNat rx.body 8 8)))))) ∧
  (∀ (k : Child) (id n : Nat),
    (id, n) ∈ (k.grants id n).granted ∧
    ((k.granted.any fun g => g.1 == id) = true → (k.grants id n).granted.length ≤ k.granted.length) ∧
    ((k.granted.any fun g => g.1 == id) = false → (k.grants id n).granted.length = k.granted.length + 1) ∧
    ∀ s : State, s.countAll = 1 + (s.kids.map fun q => q.members + q.granted.length).sum) ∧
  (∀ (s : State) (c : Nat),
    ((s.kid c).joined = true → s.kidBack c = s) ∧
    ((s.kid c).joined = false → s.kidBack c = s.setKid c { s.kid c with missed := 0 })) ∧
  (∀ (s : State) (a : Acc), s.live 19 = true →
    (s.role = 2 → s.cst.joined = false → s.cst.refused = false → s.portUp 0 = true →
        s.cst.asked = true ∨ 2 ≤ s.cst.good →
      exec .joinSend s =
        .next (State.settle (({ s with draws := s.draws + 1, cst := { s.cst with asked := true } } : State).sendCst 0 0x11
          (joinBytes 0xFFFF (Config.freeWord s.draws).toNat 0 ++
            (leBytes 4 Config.devIdLo.toNat ++ leBytes 4 Config.devIdHi.toNat))))) ∧
    (s.role ≠ 2 ∨ s.cst.joined = true ∨ s.cst.refused = true ∨ s.portUp 0 = false ∨
        (s.cst.asked = false ∧ s.cst.good < 2) →
      exec .joinSend s = .next s.settle) ∧
    (Taken a Reg.CST_CMD s →
      exec (.rejoin a) s = .next (State.settle { s with cst := { s.cst with refused := false } }))) ∧
  (∀ (s : State) (rx : Rx) (w : Nat × Nat), rx.body.length = 8 → s.live 19 = true → s.role = 2 → Arrives s 0 0x12 rx w →
    let id := bodyNat rx.body 4 2
    let depth := bodyNat rx.body 6 1
    let result := bodyNat rx.body 7 1
    let s1 := s.took 0 w
    let answers (t : State) : Prop := exec (.grant rx) s = .next t.settle
    (s.cst.joined = true → answers (s1.sendGrant id depth result)) ∧
    (s.cst.joined = false → result = 0 →
      answers (({ s1 with
        cst := { s1.cst with joined := true, asked := false, id := id, depth := depth, planMiss := 0, gotPlan := true } } :
          State).raise Ev.CST_JOINED id)) ∧
    (s.cst.joined = false → result ≠ 0 →
      answers (({ s1 with cst := { s1.cst with refused := true, asked := false } } : State).raise Ev.CST_JOIN_REFUSED result)))

/-- PLAN_CYCLE, REPORT, REPORT_TIMEOUT and PLAN (it rests on R139, R276, R278, R280, R281, R288, R293). The model's
own: log entries 16 (VGOV by search), 43 (a REPORT of another cycle), 57 (what goes on after a MAP_FAULT), 69 (the
plan step and CST_LOSS), DEDUCED; log entry 131 (which grants a report reflects), DESIGN CHOICE. -/
def Obligations.PlansAreReducedAndPassedDown : Prop :=
  (∀ (s0 : State) (hits : List SramHit) (row : BitVec 16), Instr.wf (.planCycle hits row) = true → s0.live 18 = true →
    let s := s0.costHits hits row.toNat
    let k := s.gov.segLog2
    let p := s.gen.y / 2 ^ 32
    let s1 := s.formOwn k (if s.conductor then p / 2 ^ k else s.gov.base)
    let miss := if s.cst.gotPlan then 0 else s.cst.planMiss + 1
    let n := s.tau / (64 * 16384) % 2 ^ 32
    let t : State :=
      { s1 with
        cst := { s1.cst with
          cycle := n, gotPlan := false,
          planMiss := if s.cst.joined && !s.conductor then miss else 0 }
        gov := { s1.gov with pos := p, waiting := true } }
    let fresh (u : State) (i : Nat) : State := if (u.kid i).joined then u.setKid i ((u.kid i).newCycle n) else u
    exec (.planCycle hits row) s0 = .next (State.settle (fresh (fresh t 0) 1).reportsReady)) ∧
  (∀ s : State,
    (s.gov.waiting = true → s.kids.all Child.got = true → s.reportsReady = s.finishReports) ∧
    (s.gov.waiting = false ∨ s.kids.all Child.got = false → s.reportsReady = s)) ∧
  (∀ (s : State) (c row : Nat) (hits : List SramHit),
    (s.exposing = some c → s.costHits hits row = (s.meets hits c row).2) ∧
    (s.exposing = none → s.costHits hits row = s)) ∧
  (∀ s : State,
    s.planStep.gov.next =
      some (vgov (if s.gen.st = 0 then (s.gen.jerk : Int) else s.gen.mj) s.gen.accI s.gov.segLog2 s.gov.ownBase
        s.gov.pos s.gov.red s.gov.vel0) ∧
    s.planStep.gov.segLog2 = s.rf Reg.GOV_CTL 16 5 ∧
    s.planStep.gov.base = s.gen.y / 2 ^ 32 / 2 ^ s.rf Reg.GOV_CTL 16 5 ∧ s.planStep.gov.waiting = false) ∧
  (∀ (s : State) (k : Nat) (base : Int),
    (s.formOwn k base).gov.vel0 = s.creep ∧ (s.formOwn k base).gov.model = s.reg Reg.GOV_MODEL ∧
    (s.formOwn k base).gov.ownBase = base ∧ (s.formOwn k base).gov.segLog2 = s.gov.segLog2 ∧
    (s.formOwn k base).gov.own = (List.range 128).map fun (i : Nat) => s.ownValue k (base + (i : Int))) ∧
  (∀ (s : State) (i : Nat), s.conductor = true ∨ (s.cst.joined = true ∧ s.portUp 0 = true) → i < s.gov.own.length →
    let m := s.finishReports.gov.red.getD i 0
    let child (k : Child) : Nat := k.value s.gov.vel0 (s.gov.ownBase + (i : Int))
    s.finishReports.gov.red.length = s.gov.own.length ∧
    m ≤ s.gov.own.getD i 0 ∧ (∀ k ∈ s.kids, m ≤ child k) ∧ (m = s.gov.own.getD i 0 ∨ ∃ k ∈ s.kids, m = child k)) ∧
  (∀ (k : Child) (creep : Nat) (seg : Int),
    (0 ≤ seg - k.base → seg - k.base < 128 → k.value creep seg = k.vals.getD (seg - k.base).toNat creep) ∧
    (seg - k.base < 0 ∨ 128 ≤ seg - k.base → k.value creep seg = creep)) ∧
  (∀ s : State, s.conductor = false → s.cst.joined = true → s.portUp 0 = true →
    let exp : Bool := s.kids.any Child.exp || (s.role != 0 && s.expo.isSome)
    let lost : Bool := (s.kid 0).lost || (s.kid 1).lost
    let members := 1 + (s.kids.map Child.members).sum
    s.finishReports =
      ({ s with
        gov := { s.gov with red := s.reduced, redBase := s.gov.ownBase, waiting := false },
        cst := { s.cst with expAll := exp } } : State).sendCst 0 0x30
        (leBytes 4 s.cst.cycle ++ intBytes 4 s.gov.ownBase ++ leBytes 2 members ++
          [BitVec.ofNat 8 (b2n exp + 2 * b2n lost), 0] ++ s.reduced.flatMap (leBytes 4))) ∧
  (∀ (k : Child) (c members : Nat),
    (k.reflects c members).granted.length ≤ k.granted.length - (members - k.members) ∧
    ∀ g ∈ (k.reflects c members).granted, g ∈ k.granted ∧ 2 ^ 31 ≤ (c + 2 ^ 32 - g.2) % 2 ^ 32) ∧
  (∀ (j acc p s0 : Int) (k : Nat) (ms : List Nat) (creep : Nat),
    let v := vgov j acc k s0 p ms creep
    let m (i : Nat) : Nat := if i = 128 then creep else ms.getD i noLimit
    v = 1 ∨ (v ≤ noLimit ∧ v ≤ m 0 ∧
      ∀ i : Nat, i < 128 → roomFor ((s0 + 1 + (i : Int)) * 2 ^ k - p) (dvRun j acc v (m (i + 1))).2 v = true)) ∧
  (∀ (j acc p s0 : Int) (k : Nat) (ms : List Nat) (creep : Nat),
    let m (i : Nat) : Nat := if i = 128 then creep else ms.getD i noLimit
    let v0 := min noLimit (m 0)
    (∀ i : Nat, i ≤ 128 → v0 ≤ m i) → roomFor ((s0 + 1) * 2 ^ k - p) 0 v0 = true →
    vgov j acc k s0 p ms creep = max 1 v0) ∧
  (∀ s : State, s.conductor = false → s.cst.joined = false →
    s.finishReports.gov.red = s.gov.red ∧ s.finishReports.gov.waiting = false) ∧
  (∀ (s : State) (port : Bool) (rx : Rx) (w : Nat × Nat), rx.body.length = 528 → s.live 19 = true →
    Arrives s (kidPort port) 0x30 rx w →
    let s1 := s.took (kidPort port) w
    let c := kidPort port - 1
    let k := s.kid c
    let members := bodyNat rx.body 12 2
    let exp : Bool := (bodyNat rx.body 14 1).testBit 0
    let lost : Bool := (bodyNat rx.body 14 1).testBit 1
    let cycle := bodyNat rx.body 4 4
    let now := cycle == s.cst.cycle
    let s2 := s1.setKid c
      { k.reflects cycle members with
        members := members, base := bodyInt rx.body 8 4,
        vals := (List.range 128).map fun i => bodyNat rx.body (16 + 4 * i) 4 % 2 ^ 23, exp := exp, lost := lost,
        rep := some cycle, got := k.got || now, missed := if now then 0 else k.missed }
    let answers (t : State) : Prop := exec (.report port rx) s = .next t.settle
    (k.joined = false → answers s1) ∧
    (k.joined = true →
      (s.conductor = false ∨ lost = false ∨ k.lost = true → answers s2.reportsReady) ∧
      (s.conductor = true → lost = true → k.lost = false →
        answers (((s2.setReg Reg.CST_LOST_PORT (w32 (c + 1))).raise Ev.CST_LOSS (c + 1)).reportsReady)))) ∧
  (∀ s : State, s.live 18 = true →
    (s.gov.waiting = false → exec .reportTimeout s = .next s.settle) ∧
    (s.gov.waiting = true →
      exec .reportTimeout s =
        .next (State.settle
          ((s.addCnt Reg.CST_STALE (s.kids.filter fun k => !k.got).length).finishReports)))) ∧
  (∀ (s : State) (rx : Rx) (w : Nat × Nat), rx.body.length = 20 → s.live 19 = true → s.role = 2 → Arrives s 0 0x31 rx w →
    (s.cst.joined = false → exec (.plan rx) s = .next (State.settle (s.took 0 w))) ∧
    (s.cst.joined = true →
      let s1 := s.took 0 w
      let t : State :=
        { s1 with
          gov := { s1.gov with
            ceil := bodyNat rx.body 16 4 % 2 ^ 23, base := bodyInt rx.body 8 4, segLog2 := bodyNat rx.body 12 1 }
          cst := { s1.cst with gotPlan := true, planMiss := 0 } }
      exec (.plan rx) s = .next (State.settle ((t.sendDown 0x31 (rx.body.drop 4)).bump Reg.GOV_CYCLES))))

/-- TIME_REQ_SEND, TIME_REQ and TIME_RSP (it rests on R289). The model's own: log entries 42 (when a child is back),
68 (the rounding of theta), DEDUCED. -/
def Obligations.MembersKeepTheTimeOfTheirParent : Prop :=
  (∀ s : State, s.live 19 = true →
    (s.role = 2 → s.portUp 0 = true →
      exec .timeReqSend s =
        .next (State.settle (({ s with cst := { s.cst with t1 := some s.tau } } : State).sendCst 0 0x20 (leBytes 8 s.tau)))) ∧
    (s.role ≠ 2 ∨ s.portUp 0 = false → exec .timeReqSend s = .next s.settle)) ∧
  (∀ (s : State) (port : Bool) (rx : Rx) (turn : BitVec 16) (w : Nat × Nat), rx.body.length = 12 → s.live 19 = true →
    Arrives s (kidPort port) 0x20 rx w →
    let s1 := s.took (kidPort port) w
    let c := kidPort port - 1
    (s.cst.joined = true →
      exec (.timeReq port rx turn) s =
        .next (State.settle ((s1.kidBack c).sendCst (kidPort port) 0x21
          (leBytes 8 (bodyNat rx.body 4 8) ++ leBytes 8 s.tau ++ leBytes 8 (s.tau + turn.toNat))))) ∧
    (s.cst.joined = false → exec (.timeReq port rx turn) s = .next s1.settle)) ∧
  (∀ (s : State) (rx : Rx) (w : Nat × Nat), rx.body.length = 28 → s.live 19 = true → s.role = 2 → Arrives s 0 0x21 rx w →
    let t1 := bodyNat rx.body 4 8
    let t2 := bodyNat rx.body 12 8
    let t3 := bodyNat rx.body 20 8
    let c : Cst := { s.cst with rx := sput (0, 0) s.cst.rx 0 w }
    let asym := sext 16 (s.rf Reg.CST_ASYM 0 16)
    let th : Int := ((((t2 : Int) - t1) - ((s.tau : Int) - t3)) - 2 * asym).tdiv 2
    let c1 : Cst := { c with theta := th, t1 := none, good := if th.natAbs ≤ 1 then s.cst.good + 1 else 0 }
    let answers (t : State) : Prop := exec (.timeRsp rx) s = .next t.settle
    (s.cst.t1 ≠ some t1 → answers { s with cst := c }) ∧
    (s.cst.t1 = some t1 → s.cst.joined = false →
      (0 < th → answers { s with cst := c1, tau := (s.tau + th.natAbs) % 2 ^ 64 }) ∧
      (th ≤ 0 → answers { s with cst := { c1 with hold := th.natAbs / 64, short := th.natAbs % 64 } })) ∧
    (s.cst.t1 = some t1 → s.cst.joined = true →
      let t := ({ s with cst := { c1 with slew := if th = 0 then 0 else th.sign } } : State).peak Reg.CST_OFS_PEAK 0 16
        (min 65535 th.natAbs)
      (th.natAbs ≤ 64 → answers t) ∧
      (64 < th.natAbs → answers (t.raiseExp Ev.CST_TIME_SLIP (min 65535 th.natAbs)))))

/-- Halts, link losses and the settings of the tree and the governor (it rests on R278, R284, R291, R292, R293, R294,
R296). The model's own: log entry 41 (how far back a SEQ is known), DESIGN CHOICE; log entries 42 (when a child is
back), 69 (the plan step and CST_LOSS), DEDUCED. -/
def Obligations.HaltsLossesAndTreeSettings : Prop :=
  (∀ (s : State) (rx : Rx) (w : Nat × Nat), s.live 19 = true → s.role = 2 →
    (rx.body.length = 28 → Arrives s 0 0x40 rx w →
      (s.cst.joined = false → exec (.setpt rx) s = .next (State.settle (s.took 0 w))) ∧
      (s.cst.joined = true →
        exec (.setpt rx) s =
          .next (State.settle
            (((s.took 0 w).keepSetpt (bodyNat rx.body 4 8) (bodyInt rx.body 12 8) (bodyInt rx.body 20 8)).sendDown 0x40
              (rx.body.drop 4))))) ∧
    (rx.body.length = 8 → Arrives s 0 0x41 rx w →
      let cause := bodyNat rx.body 4 1
      (s.cst.joined = false → exec (.halt rx) s = .next (State.settle (s.took 0 w))) ∧
      (s.cst.joined = true → cause = 4 → exec (.halt rx) s = .next (State.settle ((s.took 0 w).leaveTree 3))) ∧
      (s.cst.joined = true → cause ≠ 4 →
        exec (.halt rx) s =
          .next (State.settle (((s.took 0 w).haltDown cause).raiseExp Ev.CST_HALT cause))))) ∧
  (∀ (s : State) (cause : Nat),
    let queued (t : State) (c : Nat) : State := { t with gen := { t.gen with cmds := t.gen.cmds ++ [.stop c] } }
    (s.conductor = false → s.stopNow cause = s) ∧
    (s.conductor = true → s.gen.st ≠ 0 → s.exposingAnywhere = true → s.stopNow cause = queued (s.haltSend cause) 0) ∧
    (s.conductor = true → s.gen.st = 0 ∨ s.exposingAnywhere = false → s.stopNow cause = queued s cause)) ∧
  (∀ (s : State) (i : BitVec 3), i.toNat < 6 → s.live 19 = true →
    let p := i.toNat / 2
    let dim : State := { s with cst := { s.cst with locks := s.cst.locks - 2 ^ i.toNat } }
    let answers (t : State) : Prop := exec (.linkDegraded i) s = .next t.settle
    (s.cst.locks.testBit i.toNat = false → answers s) ∧
    (s.cst.locks.testBit i.toNat = true → s.portUsed p = false → answers dim) ∧
    (s.cst.locks.testBit i.toNat = true → s.portUsed p = true →
      (s.cst.locks.testBit (otherLane i.toNat) = true → answers (dim.raise Ev.CST_LINK_DEGRADED (8 + i.toNat))) ∧
      (s.cst.locks.testBit (otherLane i.toNat) = false →
        (p ≠ 0 → answers (dim.childDown p 0)) ∧ (p = 0 → answers dim.parentDown))) ∧
    (s.cst.locks.testBit i.toNat = true → exec (.symbolLock i) s = .next s.settle) ∧
    (s.cst.locks.testBit i.toNat = false →
      let up := !s.portLocked p
      let s1 : State :=
        { s with
          cst := { s.cst with
            locks := s.cst.locks + 2 ^ i.toNat, rx := if up then sput (0, 0) s.cst.rx p (0, 0) else s.cst.rx } }
      (p = 0 → up = true →
        exec (.symbolLock i) s =
          .next (State.settle { s1 with cst := { s1.cst with refused := false, good := 0 } })) ∧
      (p = 0 → up = false → exec (.symbolLock i) s = .next s1.settle) ∧
      (p ≠ 0 → exec (.symbolLock i) s = .next (State.settle (s1.kidBack (p - 1)))))) ∧
  (∀ (s : State) (p missed : Nat),
    let s1 := s.setKid (p - 1) { Child.reset with lost := true, missed := missed }
    s.childDown p missed = ((s1.setReg Reg.CST_LOST_PORT (w32 p)).raise Ev.CST_LOSS p).reportsReady) ∧
  (∀ s : State,
    let s1 := if s.cst.joined then s.leaveTree 3 else s
    s.parentDown = { s1 with cst := { s1.cst with good := 0, asked := false } }) ∧
  (∀ (s : State) (port : Bool), s.live 19 = true → s.portUsed (kidPort port) = true →
    let p := kidPort port
    let k := s.kid (p - 1)
    let dark := (s.unlock (2 * p)).unlock (2 * p + 1)
    (s.portLocked p = true → exec (.cstLoss port true) s = .next (State.settle (dark.childDown p 0))) ∧
    (s.portLocked p = false → exec (.cstLoss port true) s = .next s.settle) ∧
    (k.joined = true → 4 ≤ k.missed →
      exec (.cstLoss port false) s = .next (State.settle (s.childDown p k.missed))) ∧
    (k.joined = false ∨ k.missed < 4 → exec (.cstLoss port false) s = .next s.settle)) ∧
  (∀ s : State, s.live 19 = true → s.role = 2 →
    (s.portLocked 0 = true →
      exec (.cstOrphan true) s = .next (State.settle (((s.unlock 0).unlock 1).parentDown))) ∧
    (s.portLocked 0 = false → exec (.cstOrphan true) s = .next s.settle) ∧
    (s.cst.joined = true → 4 ≤ s.cst.planMiss → exec (.cstOrphan false) s = .next (State.settle (s.leaveTree 3))) ∧
    (s.cst.joined = false ∨ s.cst.planMiss < 4 → exec (.cstOrphan false) s = .next s.settle)) ∧
  (∀ (s : State) (a : Acc) (r : BitVec 2) (v : Word), r ≠ 3 → Taken a (Reg.GOV_CTL + 4 * r.toNat) s →
    let off := Reg.GOV_CTL + 4 * r.toNat
    let bad : Bool :=
      (r == 0 && (decide (fld v 16 5 < 16) || decide (22 < fld v 16 5) || s.running || s.gen.st != 0)) ||
        (r == 1 && decide (fld v 0 10 < 256)) || (r == 2 && fld v 0 23 == 0)
    (bad = true →
      exec (.govConfigWrite a r v) s = .next (State.settle (s.raise Ev.GOV_CFG_REFUSED (offDetail off)))) ∧
    (bad = false → exec (.govConfigWrite a r v) s = .next (State.settle (s.writeRw off v)))) ∧
  (∀ (s : State) (a : Acc) (v : Word), Taken a Reg.CST_CFG s →
    (fld v 0 2 = 3 ∨ (fld v 4 3 ≠ 3 ∧ fld v 4 3 ≠ 4) ∨ s.running = true ∨ s.gen.st ≠ 0 →
      exec (.cstCfgWrite a v) s = .next (State.settle (s.raise Ev.CST_CFG_REFUSED (offDetail Reg.CST_CFG)))) ∧
    (fld v 0 2 ≠ 3 → fld v 4 3 = 3 ∨ fld v 4 3 = 4 → s.running = false → s.gen.st = 0 →
      (fld v 0 2 = s.role → exec (.cstCfgWrite a v) s = .next (State.settle (s.writeRw Reg.CST_CFG v))) ∧
      (fld v 0 2 ≠ s.role →
        let s1 := if s.role = 0 ∨ s.cst.joined = false then s else s.leaveTree 3
        let s2 := (s1.writeRw Reg.CST_CFG v).fillPorts s1
        exec (.cstCfgWrite a v) s =
          .next (State.settle
            { s2 with
              cst := { s2.cst with
                joined := s2.role != 2, id := 0, depth := 0, refused := false, asked := false, good := 0, kids := [],
                planMiss := 0, gotPlan := false, t1 := none, setpts := [], expAll := false, hold := 0, short := 0, slew := 0 },
              gov := { s2.gov with next := none } })))) ∧
  (∀ (s : State) (a : Acc), Taken a Reg.CST_CMD s →
    exec (.cstSnap a) s =
      .next (State.settle (s.resultStart Reg.CST_SNAP_STAT
        ⟨[(Reg.CST_SNAP_LO, w32 s.tau), (Reg.CST_SNAP_HI, w32 (s.tau / 2 ^ 32)), (Reg.CST_SNAP_OFS, w32i s.cst.theta)],
          [], none⟩))) ∧
  (∀ (s : State) (w : Waiting), s.live 19 = true → w.ctx = none →
    s.results.find? (fun p => p.1 == Reg.CST_SNAP_STAT) = some (Reg.CST_SNAP_STAT, w) →
    let t := w.regs.foldl (fun (a : State) q => a.setReg q.1 q.2) s
    exec .cstSnapDone s =
      .next (State.settle ((({ t with results := sdel Reg.CST_SNAP_STAT t.results } : State).resDone Reg.CST_SNAP_STAT
        w.stat).raise Ev.CST_SNAP_DONE 0)))

/-- GENERATE and GENERATE_DONE (it rests on R306, R310, R367). The model's own: log entries 82 (LDG_CMD with several
outcomes), 114 (GEN_MAX of a top-up), 129 (when a top-up reads its ledger lines), DESIGN CHOICE. -/
def Obligations.TopUpsTakeTheirRecords : Prop :=
  (∀ (s : State) (a : Acc) (src tgt : BitVec 7), Taken a Reg.LDG_CMD s →
    let s1 := s.resStart Reg.LDG_RESULT
    let answers (t : State) : Prop := exec (.generate a src tgt) s = .next t.settle
    let barred : Bool := !s.givesRecords src.toNat || (s.ctx src.toNat).side.topup || (s.ctx tgt.toNat).st != 0 ||
      s.loadingAny
    (s.ledger.job ≠ none → answers (s.raise Ev.LDG_IGNORED (offDetail Reg.LDG_CMD))) ∧
    (s.ledger.job = none →
      (barred = true → answers (s1.ldgDone 2 0 0 0)) ∧
      (barred = false → 15 ≤ (s.ctx src.toNat).side.genMax → answers (s1.ldgDone 3 0 0 0)) ∧
      (barred = false → (s.ctx src.toNat).side.genMax < 15 → s.openOnly src.toNat = [] → answers (s1.ldgDone 1 0 0 0)) ∧
      (barred = false → (s.ctx src.toNat).side.genMax < 15 → s.openOnly src.toNat ≠ [] →
        answers (s1.takeRecords src.toNat tgt.toNat (s.openOnly src.toNat))))) ∧
  (∀ s : State, s.live 20 = true → s.ledger.job = none → exec .generateDone s = .next s.settle) ∧
  (∀ (s : State) (j : LdgJob), s.live 20 = true → s.ledger.job = some j →
    let s0 : State := { s with ledger := { s.ledger with job := none } }
    let x := s.ctx j.target
    (j.op ≠ 1 → exec .generateDone s = .next s.settle) ∧
    (j.op = 1 → x.side.topup = false →
      exec .generateDone s =
        .next (State.settle (((s0.ledgerReads j.src j.ids).setCtx j.target Ctx.reset).ldgDone 1 0 x.side.inGen j.count))) ∧
    (j.op = 1 → x.side.topup = true →
      let s2 := (s0.keepLedger j.src j.target x.side.inGen).reconRead j.src x.side.bLo x.side.bHi
      exec .generateDone s =
        .next (State.settle ((((s2.setCtxSt j.target 2).setReg Reg.LDG_RANGE (pack [(15, x.side.bHi), (0, x.side.bLo)]))).ldgDone
          0 x.side.gen x.side.inGen j.count)))) ∧
  (∀ (s : State) (h t g : Nat),
    let gens := (s.genChain h 15 g).reverse
    let r := s.readRecs h gens
    let q := r.2.readSnaps h gens
    let u := s.keepLedger h t g
    (u.ctx t).side.blind = r.1 ∧ (u.ctx t).side.snapBad = q.1.bad ∧ (u.ctx t).side.snaps = q.1.words ∧
    ∀ c, c ≠ t → u.ctx c = q.2.ctx c) ∧
  (∀ (s : State) (h line : Nat),
    let r := s.dramReadLine 7 line
    let x := r.2.ctx h
    (r.1.usable = true → s.ledgerGet h line = (some r.1.bytes, r.2)) ∧
    (r.1.usable = false →
      s.ledgerGet h line =
        (none, (r.2.setCtx h { x with side := { x.side with overflow := true } }).raiseCtx Ev.DRAM_LEDGER_MEM 0 h))) ∧
  (∀ (s : State) (h g i : Nat) (a : SnapRead),
    let r := s.ledgerGet h (s.snapAddr h g / 64 + i)
    (∀ bytes, r.1 = some bytes →
      s.readSnapLine h g i a = ({ a with words := snapWords (8192 * g + 16 * i) bytes ++ a.words }, r.2)) ∧
    (r.1 = none → s.readSnapLine h g i a = ({ a with bad := i :: a.bad }, r.2))) ∧
  (∀ (s : State) (c d x y : Nat),
    ((s.ctx c).side.blind = true ∨ x / 16 ∈ (s.ctx c).side.snapBad → s.lambdaMask c d x y = 0) ∧
    ((s.ctx c).side.blind = false → x / 16 ∉ (s.ctx c).side.snapBad →
      s.lambdaMask c d x y = s.inputMask c (s.sourceOf c) d x y 15 (s.ctx c).side.gen))

/-- ADOPT, ADOPT_DONE, TOPUP_HELD, DISCARD_HELD, LDG_TAIL_WRITE and LDG_AREA_WRITE (it rests on R299, R316, R317,
R320, R321, R367). The model's own: log entries 75 (records that the tail has passed), 82 (LDG_CMD with several
outcomes), 115 (the source of an ADOPT released), 129 (when a top-up reads its ledger lines), DESIGN CHOICE. -/
def Obligations.AdoptionsAndHeldRecords : Prop :=
  (∀ (s : State) (a : Acc) (src tgt : BitVec 7), Taken a Reg.LDG_CMD s →
    let s1 := s.resStart Reg.LDG_RESULT
    let x := s.ctx src.toNat
    let y := s.ctx tgt.toNat
    let barred : Bool := !s.givesRecords src.toNat || s.ledger.recs.any fun r => r.ctx == src.toNat && r.st == 3
    let differ : Bool := y.st != 2 || y.side.topup || src == tgt || y.d.bands != x.d.bands || y.d.heal != x.d.heal ||
      y.d.onTime != x.d.onTime || y.d.level != x.d.level
    let answers (t : State) : Prop := exec (.adopt a src tgt) s = .next t.settle
    (s.ledger.job ≠ none → answers (s.raise Ev.LDG_IGNORED (offDetail Reg.LDG_CMD))) ∧
    (s.ledger.job = none →
      (barred = true → answers (s1.ldgDone 2 0 0 0)) ∧
      (barred = false → differ = true → answers (s1.ldgDone 4 0 0 0)) ∧
      (barred = false → differ = false →
        let ids := (s.ledger.recs.filter fun r => !r.old && r.ctx == src.toNat && s.inRing r).map Rec.id
        answers { s1 with ledger := { s.ledger with job := some ⟨2, src.toNat, tgt.toNat, ids, ids.length⟩ } }))) ∧
  (∀ (s : State) (j : LdgJob), s.live 20 = true → s.ledger.job = some j →
    let s0 : State := { s with ledger := { s.ledger with job := none } }
    (j.op = 2 → exec .adoptDone s = .next (State.settle (((s0.adoptMove j).endAdoptions).ldgDone 0 0 0 j.count))) ∧
    (j.op = 3 → exec .adoptDone s = .next (State.settle (s0.endAdoptions.ldgDone 0 0 0 j.count)))) ∧
  (∀ (s : State) (j : LdgJob),
    let s0 := s.ledgerReads j.src j.ids
    let x := s0.ctx j.src
    let y := s0.ctx j.target
    let f (r : Rec) : Rec := r.moved j.ids j.src j.target
    let s2 := (s0.ledger.recs.filter fun r => decide (f r ≠ r) && s0.inRing r).foldl
      (fun (a : State) r => a.writeRec (f r)) { s0 with ledger := { s0.ledger with recs := s0.ledger.recs.map f } }
    let s3 := (List.range x.side.genMax).foldl (fun (a : State) i => a.copySnap j.src j.target (i + 1)) s2
    s.adoptMove j = s3.setCtx j.target
      { y with side := { y.side with
        genMax := x.side.genMax, linkV := true, link := j.src, adopting := true, placed := x.side.placed,
        origin := x.side.origin, xref := x.side.xref, y0s := x.side.y0s, pitch := x.side.pitch,
        stagger := x.side.stagger } }) ∧
  (∀ (s : State) (src target g i : Nat),
    let line := s.snapAddr target g / 64 + i
    let r := s.ledgerGet src (s.snapAddr src g / 64 + i)
    (∀ bytes, r.1 = some bytes → s.copySnapLine src target g i = r.2.dramPut 6 (64 * line) bytes) ∧
    (r.1 = none →
      s.copySnapLine src target g i =
        (r.2.portRaise 6).dramStore line 1 (r.2.dramPeek (s.snapAddr src g + 64 * i) 64)) ∧
    s.copySnap src target g =
      (List.range 512).foldl (fun (a : State) n => a.copySnapLine src target g n) s) ∧
  (∀ (s : State) (c : Nat),
    (∀ j, s.ledger.job = some j → j.op = 2 → j.src = c →
      s.adoptEarly c = { s.adoptMove j with ledger := { (s.adoptMove j).ledger with job := some { j with op := 3 } } }) ∧
    ((s.ledger.job.any fun j => j.op == 2 && j.src == c) = false → s.adoptEarly c = s)) ∧
  (∀ (s : State) (c : Nat), c < 128 →
    (s.endAdoptions.ctx c).side.adopting = ((s.ctx c).side.adopting && s.holdsOpen c)) ∧
  (∀ (s : State) (a : Acc), Taken a Reg.LDG_CMD s → s.ledger.job ≠ none →
    let ignored : State := State.settle (s.raise Ev.LDG_IGNORED (offDetail Reg.LDG_CMD))
    exec (.topupHeld a) s = .next ignored ∧ exec (.discardHeld a) s = .next ignored) ∧
  (∀ s : State, s.live 20 = true → (s.ledger.job.any fun j => j.op == 2 || j.op == 3) = false →
    exec .adoptDone s = .next s.settle) ∧
  (∀ (s : State) (a : Acc), Taken a Reg.LDG_CMD s → s.ledger.job = none →
    let s1 := s.resStart Reg.LDG_RESULT
    let named := s.ledger.recs.find? fun r => r.id == (s.reg Reg.LDG_ARG).toNat && s.inRing r
    (named = none →
      exec (.topupHeld a) s = .next (State.settle (s1.ldgDone 5 0 0 0)) ∧
      exec (.discardHeld a) s = .next (State.settle (s1.ldgDone 5 0 0 0))) ∧
    (∀ r, named = some r →
      (r.st ≠ 2 ∨ sourceData r.cause = true →
        exec (.topupHeld a) s = .next (State.settle (s1.ldgDone 5 0 0 0))) ∧
      (r.st = 2 → sourceData r.cause = false →
        exec (.topupHeld a) s =
          .next (State.settle ((s1.changeRecs fun q => if q = r then { q with st := 1 } else q).ldgDone 0 0 0 0))) ∧
      (r.st ≠ 2 → exec (.discardHeld a) s = .next (State.settle (s1.ldgDone 5 0 0 0))) ∧
      (r.st = 2 →
        exec (.discardHeld a) s =
          .next (State.settle ((s1.changeRecs fun q => if q = r then { q with st := 5 } else q).ldgDone 0 0 0 0))))) ∧
  (∀ (s : State) (a : Acc) (w : BitVec 22) (v : Word), Taken a Reg.LDG_CMD s → 4 * w.toNat = Reg.LDG_CMD →
    let src : BitVec 7 := v.extractLsb' 8 7
    let tgt : BitVec 7 := v.extractLsb' 16 7
    (fld v 0 3 = 1 → exec (.registerWrite a w v) s = exec (.generate a src tgt) s) ∧
    (fld v 0 3 = 2 → exec (.registerWrite a w v) s = exec (.adopt a src tgt) s) ∧
    (fld v 0 3 = 3 → exec (.registerWrite a w v) s = exec (.topupHeld a) s) ∧
    (fld v 0 3 = 4 → exec (.registerWrite a w v) s = exec (.discardHeld a) s) ∧
    (fld v 0 3 = 0 ∨ 5 ≤ fld v 0 3 →
      exec (.registerWrite a w v) s = .next (State.settle (s.raise Ev.LDG_IGNORED (offDetail Reg.LDG_CMD))))) ∧
  (∀ (s : State) (a : Acc) (v : Word), Taken a Reg.LDG_TAIL s →
    let n := idDiff s.ldgTail v.toNat
    let kept : Bool := (s.ledger.recs.filter fun r => idDiff s.ldgTail r.id < n && s.inRing r).any fun r =>
      r.st != 4 && r.st != 5
    (idDiff s.ldgTail s.ledger.head < n ∨ kept = true →
      exec (.ldgTailWrite a v) s = .next (State.settle (s.raise Ev.LDG_IGNORED (offDetail Reg.LDG_TAIL)))) ∧
    (n ≤ idDiff s.ldgTail s.ledger.head → kept = false →
      exec (.ldgTailWrite a v) s = .next (State.settle (s.setReg Reg.LDG_TAIL v)))) ∧
  (∀ (s : State) (a : Acc) (r : BitVec 2) (v : Word), r ≠ 3 →
    let off := Reg.LDG_BASE_LO + 4 * r.toNat
    let e := fld v 16 5
    let bad : Prop := r = 2 ∧ (e < 12 ∨ 20 < e ∨ fld v 0 16 < 1024 ∨ 2 ^ (e - 1) < fld v 0 16)
    Taken a off s →
    (s.ldgTail ≠ s.ledger.head ∨ s.running = true ∨ bad →
      exec (.ldgAreaWrite a r v) s = .next (State.settle (s.raise Ev.LDG_CFG_REFUSED (offDetail off)))) ∧
    (s.ldgTail = s.ledger.head → s.running = false → ¬ bad →
      exec (.ldgAreaWrite a r v) s = .next (State.settle (s.writeRw off v))))

/-- CONFIG_REQUEST, MSIX_ACCESS, BAR2_READ, BAR2_WRITE, HOST_WIN_WRITE, UNSUPPORTED_REQUEST, POISON_RX (it rests on
R323, R324, R325, R327, R328, R329, R331, R357, R394, R420). The model's own: log entries 13 (configuration space,
free headers), 14 (the MSI-X table), 50 (requests that wait), PRESUMED; log entry 94 (a read with an unusable line),
DEDUCED; log entry 136 (reads while JTAG drives), DESIGN CHOICE. -/
def Obligations.ThePcieFunctionAnswers : Prop :=
  (∀ (s : State) (dw : BitVec 10) (v : Word) (be : BitVec 4), s.live 2 = true →
    exec (.configRequest false dw v be) s =
      .next (State.settle (s.completes fun t => { t with cfgData := s.cfgRead dw.toNat })) ∧
    (let m := cfgMask dw.toNat &&& beMask be
     let w := ((v &&& m) ||| (s.cfg dw.toNat &&& ~~~ m)) &&& ~~~ (v &&& cfgW1c dw.toNat &&& beMask be)
     let t : State := { s with link := { s.link with cfg := sput (cfgReset dw.toNat) s.link.cfg dw.toNat w } }
     exec (.configRequest true dw v be) s = .next (State.settle (t.cfgEffect dw.toNat v be)) ∧
     (dw.toNat ∉ [Cfg.command, Cfg.pmcsr, Cfg.msix, Cfg.devCtl] → t.cfgEffect dw.toNat v be = t))) ∧
  (∀ (s : State) (off : BitVec 14) (dws : List Word), s.live 2 = true → off.toNat % 4 = 0 → dws ≠ [] →
    off.toNat + 4 * dws.length ≤ 2 ^ 14 →
    (s.memOn = true →
      exec (.msixAccess false off dws) s =
        .next (State.settle (s.completes fun t =>
          { t with bar4Data := (List.range dws.length).map fun i => s.bar4Dw (off.toNat + 4 * i) })) ∧
      exec (.msixAccess true off dws) s =
        .next (State.settle
          ((dws.zipIdx.foldl (fun (a : State) p => a.bar4Put (off.toNat + 4 * p.2) p.1) s).msixFlush))) ∧
    (s.memOn = false → ∀ w, exec (.msixAccess w off dws) s = .next (State.settle (s.hostMiss w)))) ∧
  (∀ (s : State) (off : BitVec 32), s.live 2 = true → s.mainUp = true →
    let addr := s.rf Reg.HOST_WIN 0 5 * 2 ^ 30 + off.toNat
    (∀ len, 1 ≤ len → off.toNat + len ≤ 2 ^ 32 →
      (s.memOn = false → exec (.bar2Read off len) s = .next (State.settle (s.hostMiss false))) ∧
      (s.memOn = true → s.rf Reg.CLK_PWR 0 2 ≠ 2 → s.sram.zeroed = true → s.bar2Wait = [] →
        exec (.bar2Read off len) s = .next (State.settle (s.bar2Read off.toNat addr len))) ∧
      (s.memOn = true → s.rf Reg.CLK_PWR 0 2 = 2 ∨ s.sram.zeroed = false ∨ s.bar2Wait ≠ [] →
        exec (.bar2Read off len) s =
          .next (State.settle { s with bar2Wait := s.bar2Wait ++ [.read off.toNat addr len] }))) ∧
    (∀ bytes, bytes ≠ [] → off.toNat + bytes.length ≤ 2 ^ 32 →
      (s.memOn = false → exec (.bar2Write off bytes) s = .next (State.settle (s.hostMiss true))) ∧
      (s.memOn = true → s.rf Reg.CLK_PWR 0 2 ≠ 2 → s.sram.zeroed = true → s.bar2Wait = [] →
        exec (.bar2Write off bytes) s = .next (State.settle (s.dramWrite 9 addr bytes))) ∧
      (s.memOn = true → s.rf Reg.CLK_PWR 0 2 = 2 ∨ s.sram.zeroed = false ∨ s.bar2Wait ≠ [] →
        exec (.bar2Write off bytes) s =
          .next (State.settle { s with bar2Wait := s.bar2Wait ++ [.write addr bytes] })))) ∧
  (∀ (s : State) (a : Acc) (v : Word), Taken a Reg.HOST_WIN s →
    (fld v 0 5 ≤ 28 → exec (.hostWinWrite a v) s = .next (State.settle (s.writeRw Reg.HOST_WIN v))) ∧
    (28 < fld v 0 5 →
      exec (.hostWinWrite a v) s = .next (State.settle (s.raise Ev.HOST_CFG_REFUSED (offDetail Reg.HOST_WIN))))) ∧
  (∀ (s : State) (hdr : List Word), s.live 2 = true → hdr.length = 4 →
    exec (.unsupportedRequest .vdm1 hdr) s = .next s.settle ∧
    (∀ kind ∈ [Unsupported.memWrite, .atWrite, .vdm0],
      exec (.unsupportedRequest kind hdr) s = .next (State.settle (s.hostUr true hdr))) ∧
    (∀ kind ∈ [Unsupported.io, .type1, .memRead, .atomic, .atRead],
      exec (.unsupportedRequest kind hdr) s = .next (State.settle (s.hostUr false hdr))) ∧
    (wbit (s.cfg Cfg.aerControl) 8 = true →
      exec (.unsupportedRequest .ecrc hdr) s = .next (State.settle (s.aerReport 19 hdr))) ∧
    (wbit (s.cfg Cfg.aerControl) 8 = false → exec (.unsupportedRequest .ecrc hdr) s = .next s.settle) ∧
    (let t := s.aerReport 12 hdr
     exec (.poisonRx hdr) s =
       .next (State.settle (((t.setCfg Cfg.command (setBit (t.cfg Cfg.command) 31 true)).bump
         Reg.HOST_POISON_RX).raise Ev.HOST_POISON_RX 0)))) ∧
  (∀ (s : State) (hdr : List Word),
    let t := (s.bump Reg.HOST_UR).aerReport 20 hdr
    let u := t.setCfg Cfg.devCtl (setBit (t.cfg Cfg.devCtl) 19 true)
    s.hostUr true hdr = u ∧ s.hostUr false hdr = u.sendTlp .ur) ∧
  (∀ (s : State) (t : Tlp), jtagDrives s.tap = false →
    s.sendTlp t = { s with out := .tlp (wbit (s.cfg Cfg.aerControl) 6) t :: s.out }) ∧
  (∀ (s : State) (off addr len : Nat),
    let first := addr / 64
    let n := (addr + len + 63) / 64 - first
    let reads := s.dramReadLines 9 first n
    let r := reads.1
    let bytes := ((r.flatMap LineRead.bytes).drop (addr - 64 * first)).take len
    let spoilt (c : Nat × Nat) : Bool := (List.range n).any fun k =>
      (r[k]?.any fun x => !x.usable) && decide ((addr + (c.1 - off)) / 64 ≤ first + k) &&
        decide (64 * (first + k) < addr + (c.2 - off))
    let data : List (Option Byte) := (completions s.maxPayload (off + len) len off).flatMap fun c =>
      ((bytes.drop (c.1 - off)).take (c.2 - c.1)).map fun b => if spoilt c then none else some b
    let t := reads.2.completes fun t => { t with bar2Data := data }
    (r.all LineRead.usable = true → s.bar2Read off addr len = t) ∧
    (r.all LineRead.usable = false → s.bar2Read off addr len = t.raise Ev.HOST_BAR2_POISON (nfld off 16 16)) ∧
    (r.all LineRead.usable = true → data = bytes.map some) ∧
    (jtagDrives s.tap = false → (∀ l, first ≤ l → l < first + n →
        s.dram.never l = false ∧ s.dram.unknown l = false ∧ s.dram.poison l = 0 ∧ s.dram.lineErr l = []) →
      (s.bar2Read off addr len).bar2Data = (List.range len).map fun i => some (memRead s.dram.data (addr + i)))) ∧
  (∀ mps fin o : Nat, 128 ≤ mps → o ≤ fin →
    let cs := completions mps fin (fin - o) o
    (cs.flatMap fun c => List.range' c.1 (c.2 - c.1)) = List.range' o (fin - o) ∧
    ∀ c ∈ cs, c.1 < c.2 ∧ c.2 ≤ c.1 + mps ∧ (c.2 = fin ∨ c.2 % 128 = 0)) ∧
  (∀ s : State, s.maxPayload ∈ [128, 256, 512])

/-- FLR, LINK_DOWN, LINK_UP, D3HOT_ENTRY and D0_RETURN (it rests on R332, R333, R349). The model's own: log entry 63
(the rings at the return to D0), DEDUCED. -/
def Obligations.FunctionResetsAndPowerStates : Prop :=
  (∀ s : State, s.live 2 = true →
    let t : State :=
      { s with
        regs := skeep (fun k => k / 0x1000 != 3) s.regs, hdrs := skeep (fun k => k != 3) s.hdrs,
        rings := [], chans := [], burstNo := 0,
        bar2Wait := s.bar2Wait.filter fun q => match q with
          | .read _ _ _ => false
          | .write _ _ => true,
        link := { s.link with d3 := false, msixEn := false, fnMask := false, cfg := [], msixTab := [], pba := [], held := [] } }
    let u := (t.setReg Reg.HOST_WIN 0).bump Reg.HOST_RESETS
    exec .flr s = .next (State.settle (u.raise Ev.HOST_FLR 0)) ∧
    exec .linkDown s =
      .next (State.settle
        (({ u with link := { u.link with up := false, speed := 0, width := 0 } } : State).raise Ev.HOST_LINK_DOWN 0))) ∧
  (∀ (s : State) (speed : BitVec 3) (width : BitVec 5), s.live 2 = true → 1 ≤ speed.toNat → speed.toNat ≤ 5 →
    width.toNat ∈ [1, 2, 4, 8, 16] →
    let t := ({ s with link := { s.link with up := true, speed := speed.toNat, width := width.toNat } } : State).raise
      Ev.HOST_LINK_UP (speed.toNat * 256 + width.toNat)
    (3 ≤ speed.toNat → exec (.linkUp speed width) s = .next t.settle) ∧
    (speed.toNat < 3 → exec (.linkUp speed width) s = .next (State.settle (t.raise Ev.HOST_LINK_SLOW speed.toNat)))) ∧
  (∀ s : State, s.live 2 = true →
    let d3 : State := { s with link := { s.link with d3 := true } }
    let stopped := (List.range 64).foldl
      (fun (u : State) i => if (u.ring i).st = 2 ∨ (u.ring i).st = 3 ∨ (u.ring i).st = 4 then u.stopRing i else u) d3
    let d0 : State := { s with link := { s.link with d3 := false } }
    let ended := (List.range 64).foldl (fun (u : State) i => if (u.ring i).stopReq then u.endStopped i else u) d0
    exec .d3hotEntry s = .next (State.settle stopped) ∧
    exec .d0Return s = .next (State.settle ended.msixFlush) ∧
    (∀ i < 64, (s.ring i).stopReq = false → ended.ring i = s.ring i))

/-- RING_CFG_WRITE, RING_START, RING_STOP, DOORBELL, RINGI_EVT_WRITE and DMA_ERR_INFO_CLEAR (it rests on R323, R331,
R335, R339, R343, R344, R346, R350, R357). The model's own: log entries 1 (one queue, what falls into one cycle), 72
(VALID clears the capture), DESIGN CHOICE; log entries 13 (configuration space, free headers), 50 (requests that
wait), PRESUMED; log entry 51 (how the 512 reads are shared), DEDUCED. -/
def Obligations.RingsStartStopAndRing : Prop :=
  (∀ (s : State) (a : Acc) (i : BitVec 6) (r : BitVec 2) (v : Word), r ≠ 3 →
    let off := Reg.RING_BASE_LO + 32 * i.toNat + 4 * r.toNat
    let t := s.writeRw off v
    let g := s.ring i.toNat
    let size := fld (t.ringCfg i.toNat) 16 5
    let ok : Bool := g.free && decide (4 ≤ size) && decide (size ≤ 16) && !arrayTooHigh (t.ringBase i.toNat) size
    Taken a off s →
    (ok = false →
      exec (.ringCfgWrite a i r v) s = .next (State.settle (s.raise Ev.DMA_CFG_REFUSED (offDetail off)))) ∧
    (ok = true → r ≠ 2 → exec (.ringCfgWrite a i r v) s = .next t.settle) ∧
    (ok = true → r = 2 →
      exec (.ringCfgWrite a i r v) s =
        .next (State.settle (t.setRing i.toNat
          { g with st := if wbit v 31 then (if g.st = 0 then 1 else g.st) else 0 })))) ∧
  (∀ (s : State) (a : Acc) (i : BitVec 6) (slot : BitVec 16), Taken a (Reg.RING_BASE_LO + 32 * i.toNat + 0x10) s →
    let g := s.ring i.toNat
    let ignored : State := State.settle (s.raise Ev.DMA_IGNORED i.toNat)
    (g.st ∉ [1, 5] ∨ 2 ^ fld (s.ringCfg i.toNat) 16 5 ≤ slot.toNat → exec (.ringStart a i slot) s = .next ignored) ∧
    (g.st = 1 ∨ g.st = 5 → slot.toNat < 2 ^ fld (s.ringCfg i.toNat) 16 5 →
      exec (.ringStart a i slot) s =
        .next (State.settle
          ((s.setRing i.toNat { g.giveUp with errCode := 0, errSlot := 0 }).fetchSlot i.toNat slot.toNat))) ∧
    (g.st ∉ [2, 3, 4] → exec (.ringStop a i) s = .next ignored) ∧
    (g.st = 3 →
      exec (.ringStop a i) s = .next (State.settle (s.setRing i.toNat { g.giveUp with st := 1 }))) ∧
    (g.st = 2 → g.bursts ≠ [] →
      exec (.ringStop a i) s = .next (State.settle (s.setRing i.toNat { g with stopReq := true }))) ∧
    (g.st = 4 ∨ g.st = 2 ∧ g.bursts = [] →
      exec (.ringStop a i) s = .next (State.settle (s.endStopped i.toNat))) ∧
    (∀ (w : BitVec 22) (v : Word), 4 * w.toNat = Reg.RING_BASE_LO + 32 * i.toNat + 0x10 →
      (fld v 30 2 = 1 →
        exec (.registerWrite a w v) s = exec (.ringStart a i (v.extractLsb' 0 16)) s) ∧
      (fld v 30 2 = 2 → exec (.registerWrite a w v) s = exec (.ringStop a i) s) ∧
      (fld v 30 2 = 0 ∨ fld v 30 2 = 3 → exec (.registerWrite a w v) s = .next ignored))) ∧
  (∀ (s : State) (a : Acc) (w : BitVec 22) (v : Word), Taken a Reg.DMA_FAIR s → 4 * w.toNat = Reg.DMA_FAIR →
    (fld v 0 7 = 1 ∨ 64 < fld v 0 7 →
      exec (.registerWrite a w v) s = .next (State.settle (s.raise Ev.DMA_CFG_REFUSED (offDetail Reg.DMA_FAIR)))) ∧
    (fld v 0 7 ≠ 1 → fld v 0 7 ≤ 64 →
      exec (.registerWrite a w v) s = .next (State.settle (s.writeRw Reg.DMA_FAIR v)))) ∧
  (∀ (s : State) (i slot : Nat),
    let t := (s.setRing i { s.ring i with st := 2, slot := slot, fetch := true })
    s.fetchSlot i slot = t.emit (.hostRead i (t.ringBase i + 64 * slot) 64 false false) ∧
    (let u := s.setRing i { s.ring i with reread := (s.ring i).reread + 1 }
     s.rereadSlot i = u.emit (.hostRead i (u.ringBase i + 64 * (s.ring i).slot) 4 false false))) ∧
  (∀ (s : State) (t : Tlp),
    (s.link.held = [] → s.mayIssue t = true → s.emit t = s.sendTlp t) ∧
    (s.link.held ≠ [] ∨ s.mayIssue t = false → s.emit t = { s with link := { s.link with held := s.link.held ++ [t] } }) ∧
    (t.isRead = false → s.mayIssue t = s.busMaster) ∧
    (t.isRead = true →
      s.mayIssue t =
        (s.busMaster && s.sram.zeroed &&
          decide (s.readsOpen ≤ s.maxReads + (s.link.held.filter Tlp.isRead).length))) ∧
    s.maxReads = (if wbit (s.cfg Cfg.devCtl2) 12 = true then 512 else if wbit (s.cfg Cfg.devCtl) 8 = true then 256 else 32) ∧
    (s.link.held = [] → s.issueHeld = s) ∧
    (∀ ts, s.link.held = t :: ts →
      let u : State := { s with link := { s.link with held := ts } }
      (t.isMsix = false → u.mayIssue t = true → s.issueHeld = (u.sendTlp t).issueHeld) ∧
      (t.isMsix = false → u.mayIssue t = false → s.issueHeld = s) ∧
      (∀ v addr data, t = .msix v addr data →
        (s.link.msixEn = false ∨ s.mainUp = false → s.issueHeld = u.issueHeld) ∧
        (s.link.msixEn = true → s.mainUp = true → s.msixHeld v = true →
          s.issueHeld = State.issueHeld { u with link := { u.link with pba := sput false u.link.pba v true } }) ∧
        (s.link.msixEn = true → s.mainUp = true → s.msixHeld v = false →
          s.issueHeld = (u.sendTlp (s.msixTlp v)).issueHeld)))) ∧
  (∀ (s : State) (a : Acc) (i : BitVec 6), Taken a (Reg.RING_BASE_LO + 32 * i.toNat + 0x0C) s →
    let g := s.ring i.toNat
    (g.st = 3 → exec (.doorbell a i) s = .next (State.settle (s.rereadSlot i.toNat))) ∧
    (g.st = 2 ∨ g.st = 4 →
      exec (.doorbell a i) s = .next (State.settle (s.setRing i.toNat { g with dbPend := true }))) ∧
    (g.st ∉ [2, 3, 4] → exec (.doorbell a i) s = .next s.settle)) ∧
  (∀ (s : State) (a : Acc) (i : BitVec 6) (v : Word), Taken a (Reg.RING_BASE_LO + 32 * i.toNat + 0x18) s →
    exec (.ringiEvtWrite a i v) s =
      .next (State.settle ((s.setRing i.toNat { s.ring i.toNat with evt := v.toNat }).wakeWaits 64))) ∧
  (∀ (s : State) (a : Acc) (i : BitVec 6) (v : Word), a.tie = .device →
    s.judge a (Reg.RING_BASE_LO + 32 * i.toNat + 0x18) = .accepted →
    let u := s.sameCycle .device
    exec (.ringiEvtWrite a i v) s =
      .next (State.settle ((u.setRing i.toNat
        { u.ring i.toNat with evt := (v.toNat + s.cyc.incs.count i.toNat) % 2 ^ 32 }).wakeWaits 64))) ∧
  (∀ (s : State) (a : Acc) (v : Word), Taken a Reg.DMA_ERR_INFO s →
    (wbit v 31 = true → exec (.dmaErrInfoClear a v) s = .next (State.settle (s.setReg Reg.DMA_ERR_INFO 0))) ∧
    (wbit v 31 = false → exec (.dmaErrInfoClear a v) s = .next s.settle))

/-- DESCRIPTOR_FETCH, PARK_REREAD, DESCRIPTOR_COMPLETE, WAIT_TIMEOUT and HOST_CPL_TMO (it rests on R323, R342, R343,
R344, R345, R347, R354, R357, R359). The model's own: log entries 13 (configuration space, free headers), 50 (requests
that wait), PRESUMED; log entry 132 (which bytes are overwritten), DESIGN CHOICE. -/
def Obligations.DescriptorsAreFetchedAndChecked : Prop :=
  (∀ (s0 : State) (i : BitVec 6) (st : Cpl) (ws : List Word) (hits : List SramHit), s0.live 3 = true →
    Instr.wf (.descriptorFetch i false st ws hits) = true → st ≠ .ecrc →
    (s0.sram.zeroed = false → exec (.descriptorFetch i false st ws hits) s0 = .next s0.settle) ∧
    (s0.sram.zeroed = true →
      let s := (s0.hostHits hits).2
      let g := s.ring i.toNat
      let d := ws.map BitVec.toNat
      let s1 := (s.setRing i.toNat { g with fetch := false, desc := d, moved := 0, bursts := [] }).rewrites 5
      let answers (t : State) : Prop := exec (.descriptorFetch i false st ws hits) s0 = .next t.settle
      (g.st ≠ 2 ∨ g.fetch = false → answers s) ∧
      (g.st = 2 → g.fetch = true →
        (st ≠ .ok → answers (((s.setRing i.toNat { g with fetch := false }).cplNoted st).ringError i.toNat 7 false)) ∧
        (st = .ok → (s0.hostHits hits).1 = true → answers (s.fetchSlot i.toNat g.slot)) ∧
        (st = .ok → (s0.hostHits hits).1 = false →
          (descCheck i.toNat d ≠ 0 → answers (s1.ringError i.toNat (descCheck i.toNat d) true)) ∧
          (descCheck i.toNat d = 0 →
            (dw d 0 24 4 = 1 → answers s1) ∧
            (dw d 0 24 4 = 2 → waitHolds (s1.ring (dw d 1 0 6)).evt (d.getD 2 0) = false →
              answers (s1.setRing i.toNat { s1.ring i.toNat with st := 4 })) ∧
            (dw d 0 24 4 ≠ 1 → dw d 0 24 4 ≠ 2 ∨ waitHolds (s1.ring (dw d 1 0 6)).evt (d.getD 2 0) = true →
              answers ((s1.descDone i.toNat).wakeWaits 64))))))) ∧
  (∀ (s : State) (i : BitVec 6) (late : Bool) (pos : Nat) (w : Word) (ws : List Word) (hits : List SramHit) (data : List Byte),
    s.live 3 = true → Instr.wf (.descriptorFetch i late .ecrc ws hits) = true →
    let dropped : State := State.settle (s.drawHdr.aerReport 19 s.freeHdr)
    (wbit (s.cfg Cfg.aerControl) 8 = true →
      exec (.descriptorFetch i late .ecrc ws hits) s = .next dropped ∧ exec (.parkReread i late .ecrc w) s = .next dropped ∧
      exec (.hostCompletion i late pos .ecrc data) s = .next dropped) ∧
    (wbit (s.cfg Cfg.aerControl) 8 = false →
      exec (.descriptorFetch i late .ecrc ws hits) s = exec (.descriptorFetch i late .ok ws hits) s ∧
      exec (.parkReread i late .ecrc w) s = exec (.parkReread i late .ok w) s ∧
      exec (.hostCompletion i late pos .ecrc data) s = exec (.hostCompletion i late pos .ok data) s)) ∧
  (∀ (s : State) (i : BitVec 6) (st : Cpl) (w : Word), s.live 3 = true → st ≠ .ecrc →
    let g := s.ring i.toNat
    let g1 : Ring := { g with reread := g.reread - 1 }
    let answers (t : State) : Prop := exec (.parkReread i false st w) s = .next t.settle
    (g.st ≠ 3 ∨ g.reread = 0 → answers s) ∧
    (g.st = 3 → g.reread ≠ 0 →
      (st ≠ .ok → answers (((s.setRing i.toNat g1).cplNoted st).ringError i.toNat 7 false)) ∧
      (st = .ok → wbit w 31 = true → answers (s.setRing i.toNat g1)) ∧
      (st = .ok → wbit w 31 = false →
        answers ((s.setRing i.toNat g1.giveUp).fetchSlot i.toNat
          (nextSlot (fld (s.ringCfg i.toNat) 16 5) g.slot))))) ∧
  (∀ (s : State) (i : BitVec 6), s.live 3 = true →
    let g := s.ring i.toNat
    let moved : Bool := g.st == 2 && !g.fetch && dw g.desc 0 24 4 == 1 && decide (copyTotal g.desc ≤ g.moved) &&
      g.bursts.isEmpty && !s.link.held.any (Tlp.writesFor i.toNat)
    let due := waitHolds (s.ring (dw g.desc 1 0 6)).evt (g.desc.getD 2 0)
    let s1 := (s.drawHdr.aerReport 14 s.freeHdr).bump Reg.HOST_CPL_TMO
    let enabled := wbit (s.cfg Cfg.devCtl2) 4 = false
    (moved = true →
      exec (.descriptorComplete i) s = .next (State.settle ((s.descDone i.toNat).wakeWaits 64))) ∧
    (moved = false → exec (.descriptorComplete i) s = .next s.settle) ∧
    (g.st ≠ 4 → exec (.waitTimeout i) s = .next s.settle) ∧
    (g.st = 4 → due = true → exec (.waitTimeout i) s = .next (State.settle ((s.descDone i.toNat).wakeWaits 64))) ∧
    (g.st = 4 → due = false → exec (.waitTimeout i) s = .next (State.settle (s.ringError i.toNat 6 true))) ∧
    (enabled → g.fetch = true →
      exec (.hostCplTmo i false none) s =
        .next (State.settle ((s1.setRing i.toNat { g with fetch := false }).ringError i.toNat 7 false))) ∧
    (enabled → g.fetch = false → g.reread ≠ 0 →
      exec (.hostCplTmo i false none) s =
        .next (State.settle ((s1.setRing i.toNat { g with reread := g.reread - 1 }).ringError i.toNat 7 false))) ∧
    (g.fetch = false → g.reread = 0 → exec (.hostCplTmo i false none) s = .next s.settle) ∧
    (¬ enabled → ∀ late q, exec (.hostCplTmo i late q) s = .next s.settle) ∧
    (∀ p, (enabled → g.awaits p = true →
        exec (.hostCplTmo i false (some p)) s =
          .next (State.settle ((s1.setRing i.toNat (g.onReq p true Req.ended)).drainRing i.toNat))) ∧
      (g.awaits p = false → exec (.hostCplTmo i false (some p)) s = .next s.settle) ∧
      (enabled → g.late ≠ 0 → ∀ q, exec (.hostCplTmo i true q) s = .next (State.settle (s1.lateEnds i.toNat .ok))) ∧
      (g.late = 0 → ∀ q, exec (.hostCplTmo i true q) s = .next s.settle))) ∧
  (∀ (s : State) (i : BitVec 6) (st : Cpl) (w : Word) (ws : List Word), s.live 3 = true → st ≠ .ecrc →
    exec (.parkReread i true st w) s = .next (State.settle (s.lateEnds i.toNat st)) ∧
    (st = .ok → ws.length = 16 → s.sram.zeroed = true →
      exec (.descriptorFetch i true st ws []) s = .next (State.settle (s.lateEnds i.toNat st)))) ∧
  (∀ (s : State) (i : Nat) (st : Cpl),
    ((s.ring i).late = 0 → s.lateEnds i st = s) ∧
    ((s.ring i).late ≠ 0 →
      s.lateEnds i st = (s.setRing i { s.ring i with late := (s.ring i).late - 1 }).cplNoted st)) ∧
  (∀ s : State,
    s.cplNoted .ok = s ∧ s.cplNoted .ur = s.setCfg Cfg.command (setBit (s.cfg Cfg.command) 29 true) ∧
    s.cplNoted .ca = s.setCfg Cfg.command (setBit (s.cfg Cfg.command) 28 true) ∧
    wbit ((s.cplNoted .ep).cfg Cfg.aerStatus) 12 = true ∧ wbit ((s.cplNoted .ep).cfg Cfg.command) 31 = true) ∧
  (∀ (i : Nat) (d : List Nat),
    let ty := dw d 0 24 4
    let a := srcSide d
    let b := dstSide d
    let aligned : Prop := a.addr % 64 = 0 ∧ a.len % 64 = 0 ∧ a.stride % 64 = 0 ∧
      b.addr % 64 = 0 ∧ b.len % 64 = 0 ∧ b.stride % 64 = 0
    let sized : Prop := a.len ≠ 0 ∧ b.len ≠ 0 ∧ a.count ≠ 0 ∧ b.count ≠ 0 ∧ a.len * a.count = b.len * b.count
    let inside (x : Side) : Prop := x.addr + (x.count - 1) * x.stride + x.len < (if x.dev = true then 2 ^ 35 else 2 ^ 64)
    (2 < ty → descCheck i d = 1) ∧
    (ty ≤ 2 → descReservedZero d = false → descCheck i d = 2) ∧
    (ty = 0 → descReservedZero d = true → descCheck i d = 0) ∧
    (ty = 2 → descReservedZero d = true →
      (dw d 1 0 6 = i ∨ dw d 3 0 24 = 0 → descCheck i d = 2) ∧ (dw d 1 0 6 ≠ i → dw d 3 0 24 ≠ 0 → descCheck i d = 0)) ∧
    (ty = 1 → descReservedZero d = true →
      (a.dev = false → b.dev = false → descCheck i d = 2) ∧
      (a.dev = true ∨ b.dev = true →
        (¬ aligned → descCheck i d = 3) ∧
        (aligned → ¬ sized → descCheck i d = 4) ∧
        (aligned → sized → ¬ (inside a ∧ inside b) → descCheck i d = 5) ∧
        (aligned → sized → inside a → inside b → descCheck i d = 0))))

/-- DMA_BURST and HOST_COMPLETION (it rests on R323, R337, R338, R341, R347, R394). The model's own: log entry 13
(configuration space, free headers), PRESUMED; log entries 49 (faults in stream order), 51 (how the 512 reads are
shared), 56 (where packets are cut), DEDUCED. -/
def Obligations.CopiesMoveInBursts : Prop :=
  (∀ (s : State) (ch : BitVec 4), s.live 3 = true →
    (s.chooseRing ch.toNat = none → exec (.dmaBurst ch) s = .next s.settle) ∧
    (∀ i, s.chooseRing ch.toNat = some i →
      let g := s.ring i
      let a := srcSide g.desc
      let n := burstLen a (dstSide g.desc) g.moved
      let reqs := (pieces s.maxRead n).map fun p => (⟨g.moved + p.1, p.2, []⟩ : Req)
      let closed : Bool := !s.dramOpen || (!a.dev && decide (0 < s.readsOpen ∧ s.maxReads < s.readsOpen + reqs.length + 64))
      let c := s.chan ch.toNat
      let s2 := ({ s with burstNo := s.burstNo + 1 } : State).setChan ch.toNat
        ⟨c.count + 1, sput 0 c.last (fld (s.ringCfg i) 8 3) (i + 1)⟩
      let g1 : Ring := { g with moved := g.moved + n, lastBurst := s.burstNo + 1 }
      let got := (s2.setRing i g1).dramRead 8 (sideAddr a g.moved) n
      (closed = true → exec (.dmaBurst ch) s = .next s.settle) ∧
      (closed = false → a.dev = true → got.1 = none →
        exec (.dmaBurst ch) s = .next (State.settle (got.2.ringError i 8 true))) ∧
      (∀ bytes, closed = false → a.dev = true → got.1 = some bytes →
        exec (.dmaBurst ch) s = .next (State.settle (got.2.deliver i g.moved bytes))) ∧
      (closed = false → a.dev = false →
        exec (.dmaBurst ch) s =
          .next (State.settle (reqs.foldl
            (fun (t : State) q =>
              t.emit (.hostRead i (sideAddr a g.moved + (q.pos - g.moved)) q.len false (wbit (s.ringCfg i) 24)))
            (s2.setRing i { g1 with bursts := g1.bursts ++ [⟨g.moved, reqs, false⟩] })))))) ∧
  (∀ (s : State) (i : BitVec 6) (pos : Nat) (st : Cpl) (data : List Byte), s.live 3 = true → st ≠ .ecrc →
    let g := s.ring i.toNat
    let answers (t : State) : Prop := exec (.hostCompletion i false pos st data) s = .next t.settle
    (g.awaits pos = false → answers s) ∧
    (g.awaits pos = true →
      (st ≠ .ok → answers (((s.setRing i.toNat (g.onReq pos true Req.ended)).cplNoted st).drainRing i.toNat)) ∧
      (st = .ok →
        answers ((s.setRing i.toNat
          (g.onReq pos false fun q => { q with got := (q.got ++ data).take q.len })).drainRing i.toNat))) ∧
    exec (.hostCompletion i true pos st data) s = .next (State.settle (s.lateEnds i.toNat st))) ∧
  (∀ (s : State) (i n : Nat),
    let g := s.ring i
    s.drain i 0 = s ∧
    (g.bursts = [] → g.stopReq = false → s.drain i (n + 1) = s) ∧
    (g.bursts = [] → g.stopReq = true → s.drain i (n + 1) = s.endStopped i) ∧
    (∀ b bs, g.bursts = b :: bs →
      let wait : Bool := !(b.reqs.all fun q => decide (q.len ≤ q.got.length)) || ((dstSide g.desc).dev && !s.dramOpen)
      (b.bad = true → s.drain i (n + 1) = s.ringError i 7 true) ∧
      (b.bad = false → wait = true → s.drain i (n + 1) = s) ∧
      (b.bad = false → wait = false →
        s.drain i (n + 1) =
          ((s.deliver i b.pos (b.reqs.flatMap Req.got)).setRing i { g with bursts := bs }).drain i n))) ∧
  (∀ (s : State) (ch : Nat),
    let waits (i : Nat) : Prop :=
      i < 64 ∧ fld (s.ringCfg i) 0 4 = ch ∧ (s.ring i).st = 2 ∧ (s.ring i).fetch = false ∧ (s.ring i).stopReq = false ∧
        dw (s.ring i).desc 0 24 4 = 1 ∧ (s.ring i).moved < copyTotal (s.ring i).desc
    let prio (i : Nat) : Nat := fld (s.ringCfg i) 8 3
    let n := s.rf Reg.DMA_FAIR 0 7
    let fair : Prop := n ≠ 0 ∧ ((s.chan ch).count + 1) % n = 0
    ((∀ i, ¬ waits i) → s.chooseRing ch = none) ∧
    ((∃ i, waits i) → ∃ i, s.chooseRing ch = some i) ∧
    (∀ i, s.chooseRing ch = some i →
      let turn (j : Nat) : Nat := (j + 64 - sget 0 (s.chan ch).last (prio i) % 64) % 64
      waits i ∧
      (fair → ∀ j, waits j → (s.ring i).lastBurst ≤ (s.ring j).lastBurst) ∧
      (¬ fair → ∀ j, waits j → prio j ≤ prio i ∧ (prio j = prio i → turn i ≤ turn j)))) ∧
  (∀ (a b : Side) (p : Nat), 0 < a.len → 0 < b.len →
    let n := burstLen a b p
    0 < n ∧ n ≤ 4096 ∧ p % a.len + n ≤ a.len ∧ p % b.len + n ≤ b.len ∧
    (a.dev = false → sideAddr a p % 4096 + n ≤ 4096) ∧ (b.dev = false → sideAddr b p % 4096 + n ≤ 4096) ∧
    (n = 4096 ∨ p % a.len + n = a.len ∨ p % b.len + n = b.len ∨ (a.dev = false ∧ (sideAddr a p + n) % 4096 = 0) ∨
      (b.dev = false ∧ (sideAddr b p + n) % 4096 = 0)))

/-- SRAM_ZEROED, DRAM_READY, ZREAD_CLEAR, MEM_REMAP_CMD, MEM_REMAP_DONE, DRAM_RET_CMD, RETIRE_DONE (it rests on R357,
R358, R366, R368, R399). The model's own: log entry 88 (the event log through zeroing), DESIGN CHOICE. -/
def Obligations.SparesReplaceRowsAndPages : Prop :=
  (∀ s : State, s.live 4 = true →
    (s.clk.seq = 6 → s.sram.zeroed = false →
      exec .sramZeroed s =
        .next (State.settle { s with sram := { s.sram with zeroed := true, err := [], used := [], rowMap := [] } })) ∧
    (s.clk.seq ≠ 6 ∨ s.sram.zeroed = true → exec .sramZeroed s = .next s.settle)) ∧
  (∀ s : State, s.live 5 = true →
    (s.clk.seq = 6 → s.dram.ready = false →
      exec .dramReady s = .next (State.settle { s with dram := { s.dram with ready := true } })) ∧
    (s.clk.seq ≠ 6 ∨ s.dram.ready = true → exec .dramReady s = .next s.settle)) ∧
  (∀ (s : State) (a : Acc) (v : Word), Taken a Reg.DRAM_STAT s →
    (wbit v 31 = true →
      exec (.zreadClear a v) s = .next (State.settle { s with dram := { s.dram with zread := false } })) ∧
    (wbit v 31 = false → exec (.zreadClear a v) s = .next s.settle)) ∧
  (∀ (s : State) (a : Acc) (v : Word), Taken a Reg.MEM_REMAP_CMD s →
    let g := fld v 12 7
    let row := fld v 0 12
    let s1 := s.setRf Reg.MEM_REMAP_STAT 31 1 0
    let done (code : Nat) : State :=
      ((s1.setReg Reg.MEM_REMAP_INFO (pack [(12, g), (0, row)])).resDone Reg.MEM_REMAP_STAT [(28, code)]).raise
        Ev.MEM_REMAP_DONE code
    (s.sram.remap ≠ none →
      exec (.memRemapCmd a v) s =
        .next (State.settle (s.raise Ev.MEM_CFG_REFUSED (offDetail Reg.MEM_REMAP_CMD)))) ∧
    (s.sram.remap = none → 95 < g → exec (.memRemapCmd a v) s = .next (State.settle (done 2))) ∧
    (s.sram.remap = none → g ≤ 95 → 64 ≤ sget 0 s.sram.used g →
      exec (.memRemapCmd a v) s = .next (State.settle (done 1))) ∧
    (s.sram.remap = none → g ≤ 95 → sget 0 s.sram.used g < 64 →
      exec (.memRemapCmd a v) s =
        .next (State.settle { s1 with sram := { s1.sram with remap := some (g, row) } }))) ∧
  (∀ s : State, s.live 4 = true →
    (s.sram.remap = none ∨ s.sram.zeroed = false → exec .memRemapDone s = .next s.settle) ∧
    (∀ g row, s.sram.zeroed = true → s.sram.remap = some (g, row) →
      let n := sget 0 s.sram.used g
      let s1 := (List.range 256).foldl (fun a b => a.copyByte g row (4096 + n) b) s
      let s2 : State :=
        { s1 with
          sram := { s1.sram with
            used := sput 0 s1.sram.used g (n + 1), rowMap := sput 0 s1.sram.rowMap (g * 4096 + row) (n + 1),
            remap := none } }
      s2.sram.physRow g row = 4096 + n ∧
      exec .memRemapDone s =
        .next (State.settle
          (((s2.setReg Reg.MEM_REMAP_INFO (pack [(12, g), (0, row)])).resDone Reg.MEM_REMAP_STAT [(28, 0)]).raise
            Ev.MEM_REMAP_DONE 0)))) ∧
  (∀ (s : State) (a : Acc) (v : Word), Taken a Reg.DRAM_RET_CMD s →
    let page := fld v 0 23
    let s1 := s.setRf Reg.DRAM_RET_STAT 31 1 0
    (s.dram.retire ≠ none →
      exec (.dramRetCmd a v) s =
        .next (State.settle (s.raise Ev.DRAM_CFG_REFUSED (offDetail Reg.DRAM_RET_CMD)))) ∧
    (s.dram.retire = none → 4096 ≤ s.dram.retUsed →
      exec (.dramRetCmd a v) s =
        .next (State.settle (((s1.setReg Reg.DRAM_RET_INFO (w32 page)).resDone Reg.DRAM_RET_STAT [(28, 1)]).raise
          Ev.DRAM_RETIRE_DONE 1))) ∧
    (s.dram.retire = none → s.dram.retUsed < 4096 →
      exec (.dramRetCmd a v) s =
        .next (State.settle { s1 with dram := { s1.dram with retire := some page } }))) ∧
  (∀ s : State, s.live 5 = true →
    (s.dram.retire = none ∨ s.sram.zeroed = false → exec .retireDone s = .next s.settle) ∧
    (∀ page, s.dram.retire = some page → s.sram.zeroed = true →
      let s1 := (List.range 64).foldl (fun a i => a.retireLine (64 * page + i)) s
      let m := s1.dram
      let old := sget 0 m.retMap page
      let freed := if old = 0 then m.retSpare else sput 0 m.retSpare (old - 1) 0
      let s2 : State :=
        { s1 with
          dram := { m with
            retMap := sput 0 m.retMap page (m.retUsed + 1), retSpare := sput 0 freed m.retUsed (page + 1),
            retUsed := m.retUsed + 1, retire := none } }
      exec .retireDone s =
        .next (State.settle
          (((s2.setReg Reg.DRAM_RET_INFO (w32 page)).resDone Reg.DRAM_RET_STAT [(28, 0)]).raise
            Ev.DRAM_RETIRE_DONE 0))))

/-- ARBITRATION and ARB_WRITE: who gets the DRAM port (it rests on R370, R371, R374, R377). The model's own: log entry
31 (the cycles of the port), DESIGN CHOICE. -/
def Obligations.TheArbiterGrantsByPriorityAndAge : Prop :=
  (∀ (s0 : State) (raised : BitVec 16) (issued : BitVec 9) (dropped : Bool) (found : List Lookup), s0.live 5 = true →
    Instr.wf (.arbitration raised issued dropped found) = true →
    let t := arbitrate raised.toNat issued.toNat dropped found s0
    let s := found.foldl State.lookup s0
    let n := s.rf Reg.ARB_CTL 0 7
    let ended : Prop := s.arb.owner = 0 ∨ dropped = true ∨ (s.arb.input (s.arb.owner - 1)).burst ≤ issued.toNat
    exec (.arbitration raised issued dropped found) s0 = .next t.settle ∧
    (∀ i < 12, raised.toNat.testBit i = true → (t.arb.input i).req = true) ∧
    (∀ i < 12, raised.toNat.testBit i = true → (s.arb.input i).req = false → ¬ ended →
      (t.arb.input i).since = s.portTime + 1) ∧
    t.portTime = s.portTime + 2 ∧
    (¬ ended → t.arb.owner = s.arb.owner ∧ t.arb.number = s.arb.number) ∧
    (ended →
      (t.arb.owner = 0 →
        t.arb.number = s.arb.number ∧ ∀ i < 12, (t.arb.input i).req = false) ∧
      (∀ o, t.arb.owner = o + 1 →
        o < 12 ∧ (t.arb.input o).req = true ∧ t.arb.number = s.arb.number + 1 ∧
        (t.arb.number % n = 0 →
          ∀ i < 12, (t.arb.input i).req = true →
            (t.arb.input o).since ≤ (t.arb.input i).since ∧ ((t.arb.input i).since = (t.arb.input o).since → o ≤ i)) ∧
        (t.arb.number % n ≠ 0 →
          let turn (i : Nat) : Nat := (i + 16 - sget 0 s.arb.last (t.arb.input o).prio % 16) % 16
          ∀ i < 12, (t.arb.input i).req = true →
            (t.arb.input i).prio ≤ (t.arb.input o).prio ∧
            ((t.arb.input i).prio = (t.arb.input o).prio → turn o ≤ turn i)) ∧
        (∀ p, sget 0 t.arb.last p = if p = (t.arb.input o).prio then o + 1 else sget 0 s.arb.last p)))) ∧
  (∀ (s : State) (input line : Nat) (new : List (Option Byte)), (s.arb.input input).req = false →
    ((s.dramReadLine input line).2.arb.input input).req = true ∧
    ((s.dramReadLine input line).2.arb.input input).since = s.portTime ∧
    (new.any Option.isSome = true →
      ((s.dramWriteLine input line new).arb.input input).req = true ∧
      ((s.dramWriteLine input line new).arb.input input).since = s.portTime)) ∧
  (∀ (s : State) (input line : Nat) (new : List (Option Byte)),
    (∀ n, s.dram.never line = false → (s.dram.decide line).1 = .corrected n →
      ((s.dramReadLine input line).2.arb.input 10).req = true) ∧
    (s.dram.never line = true → new.any Option.isSome = true →
      ((s.dramWriteLine input line new).arb.input 10).req = true)) ∧
  (∀ (s : State) (a : Acc) (r : BitVec 5) (v : Word), r.toNat < 12 → Taken a (Reg.ARB_REQ0 + 4 * r.toNat) s →
    let t := s.writeRw (Reg.ARB_REQ0 + 4 * r.toNat) v
    ((s.arb.input r.toNat).req = true → exec (.arbWrite a r v) s = .next t.settle) ∧
    ((s.arb.input r.toNat).req = false →
      let w := t.reg (Reg.ARB_REQ0 + 4 * r.toNat)
      exec (.arbWrite a r v) s =
        .next (State.settle
          { t with
            arb := t.arb.setInput r.toNat
              { t.arb.input r.toNat with
                prio := fld w 8 3, burst := if fld w 0 8 = 0 then 256 else fld w 0 8 } }))) ∧
  (∀ (s : State) (a : Acc) (r : BitVec 5) (v : Word), 12 ≤ r.toNat → r.toNat < 16 →
    Taken a (Reg.ARB_REQ0 + 4 * r.toNat) s →
    exec (.arbWrite a r v) s =
      .next (State.settle (s.raise Ev.DRAM_CFG_REFUSED (offDetail (Reg.ARB_REQ0 + 4 * r.toNat))))) ∧
  (∀ (s : State) (a : Acc) (v : Word), Taken a Reg.ARB_CTL s →
    (2 ≤ fld v 0 7 → fld v 0 7 ≤ 64 →
      exec (.arbWrite a 16 v) s = .next (State.settle (s.writeRw Reg.ARB_CTL v))) ∧
    (fld v 0 7 < 2 ∨ 64 < fld v 0 7 →
      exec (.arbWrite a 16 v) s =
        .next (State.settle (s.raise Ev.DRAM_CFG_REFUSED (offDetail Reg.ARB_CTL)))))

/-- What a write of DRAM changes, and that a BAR2 write reads back (it rests on R329, R364, R366). -/
def Obligations.DramKeepsTheBytesOutsideAWrite : Prop :=
  (∀ (s : State) (input line : Nat) (new : List (Option Byte)), new.length = 64 →
    let t := s.dramWriteLine input line new
    (s.DramWf → t.DramWf) ∧
    (∀ a, a / 64 ≠ line → memRead t.dram.data a = memRead s.dram.data a) ∧
    (new.all Option.isSome = true →
      t.dram.lineErr line = [] ∧ t.dram.poison line = 0 ∧ t.dram.never line = false ∧
      ∀ j < 64, ∀ b, new[j]? = some (some b) → memRead t.dram.data (64 * line + j) = b) ∧
    (new.any Option.isSome = true → s.dram.never line = true →
      t.dram.never line = false ∧
      ∀ j < 64, memRead t.dram.data (64 * line + j) = (new[j]?.getD none).getD 0) ∧
    (s.dram.never line = false → s.dram.unknown line = false → s.dram.lineErr line = [] → s.dram.poison line = 0 →
      ∀ j < 64, memRead t.dram.data (64 * line + j) =
        (new[j]?.getD none).getD (memRead s.dram.data (64 * line + j)))) ∧
  (∀ (s : State) (off : BitVec 32) (bytes : List (Option Byte)), s.live 2 = true → s.mainUp = true → s.memOn = true →
    s.Quiet → s.rf Reg.CLK_PWR 0 2 ≠ 2 → s.sram.zeroed = true → bytes ≠ [] → off.toNat + bytes.length ≤ 2 ^ 32 →
    let addr := s.rf Reg.HOST_WIN 0 5 * 2 ^ 30 + off.toNat
    (∀ line, addr / 64 ≤ line → line ≤ (addr + bytes.length - 1) / 64 →
      s.dram.never line = false ∧ s.dram.unknown line = false ∧ s.dram.lineErr line = [] ∧ s.dram.poison line = 0) →
    ∃ t : State, exec (.bar2Write off bytes) s = .next t ∧
      (∀ i b, bytes[i]? = some (some b) → memRead t.dram.data (addr + i) = b) ∧
      (∀ i, bytes[i]? = some none → memRead t.dram.data (addr + i) = memRead s.dram.data (addr + i)) ∧
      (∀ a, a < addr ∨ addr + bytes.length ≤ a → memRead t.dram.data a = memRead s.dram.data a) ∧
      t.regs = s.regs ∧ t.hdrs = s.hdrs ∧ t.ctxs = s.ctxs ∧ t.clk = s.clk)

/-- CLK_FAIL, SRC_FAIL, RC_RESTART, RC_LOST, LOOP_RELOCK and ISLAND_SWITCH_DONE (it rests on R383, R384, R386, R389,
R390, R391, R399). The model's own: log entries 28 (a trip in service-only dark hold), 60 (a trip of an RC that
starts), DESIGN CHOICE. -/
def Obligations.TripsStartTheFallback : Prop :=
  (∀ (s : State) (kind : TripKind) (meas : BitVec 16), s.svcUp = true →
    let src := s.clk.active
    let n := meas.toNat
    let t := s.tripBit src kind n
    let t2 : State := if src = 0 ∧ t.clk.rcOk = false then { t with clk := { t.clk with rcStarting := true } } else t
    let detail := src + 16 * kindNum kind
    (s.monitors src kind = false → exec (.clkFail kind meas) s = .next s.settle) ∧
    (s.monitors src kind = true → s.trips src kind n = false →
      exec (.clkFail kind meas) s = .next (State.settle (s.monReg src kind n))) ∧
    (s.monitors src kind = true → s.trips src kind n = true →
      (s.clk.fallback ≠ 0 → exec (.clkFail kind meas) s = .next t2.settle) ∧
      (s.clk.fallback = 0 → s.clk.svcOnly = true →
        exec (.clkFail kind meas) s = .next (State.settle (t2.raise Ev.CLK_FAIL detail))) ∧
      (s.clk.fallback = 0 → s.clk.svcOnly = false →
        let t3 : State :=
          { t2 with
            clk := { t2.clk with coast := true, fallback := 1, tripSrc := src, tripKind := kindNum kind, move := 0 } }
        exec (.clkFail kind meas) s =
          .next (State.settle ((t3.raiseExp Ev.CLK_FAIL detail).enterRecovery.fallbackStart))))) ∧
  (∀ (s : State) (src : Src) (kind : TripKind) (meas : BitVec 16), s.svcUp = true →
    let n := srcNum src
    let watched : Bool := n != 0 && n != s.clk.active && kind != .lock && s.monitors n kind
    (watched = false → exec (.srcFail src kind meas) s = .next s.settle) ∧
    (watched = true →
      (s.trips n kind meas.toNat = false →
        exec (.srcFail src kind meas) s = .next (State.settle (s.monReg n kind meas.toNat))) ∧
      (s.trips n kind meas.toNat = true →
        exec (.srcFail src kind meas) s =
          .next (State.settle ((s.tripBit n kind meas.toNat).raise Ev.CLK_SRC_FAIL (n + 16 * kindNum kind)))))) ∧
  (∀ s : State, s.svcUp = true →
    (s.clk.active = 0 ∨ (s.clk.rcOk = false ∧ s.monForced 0 .activity = false) →
      exec .rcRestart s = .next s.settle) ∧
    (s.clk.active ≠ 0 → s.clk.rcOk = true ∨ s.monForced 0 .activity = true →
      let t := s.tripBit 0 .activity 0
      exec .rcRestart s =
        .next (State.settle
          (({ t with clk := { t.clk with rcStarting := true } } : State).raise Ev.CLK_RC_RESTART 0))) ∧
    (s.clk.rcStarting = false ∨ s.clk.rcOk = true → exec .rcLost s = .next s.settle) ∧
    (s.clk.rcStarting = true → s.clk.rcOk = false →
      exec .rcLost s =
        .next (State.settle
          (({ s with clk := { s.clk with rcStarting := false } } : State).raise Ev.CLK_RC_LOST 0))) ∧
    (s.clk.fallback ≠ 2 ∨ s.clk.inReset = true ∨ s.clk.svcOnly = true → exec .loopRelock s = .next s.settle) ∧
    (s.clk.fallback = 2 → s.clk.inReset = false → s.clk.svcOnly = false →
      exec .loopRelock s =
        .next (State.settle (({ s with clk := { s.clk with fallback := 3 } } : State).askAll false)))) ∧
  (∀ (s : State) (safe : Bool) (i : Nat), i < 8 →
    let t := s.askAll safe
    let busy := s.clk.switching.testBit i
    let stop := s.clk.stops.testBit i
    (busy = true → stop = true →
      t.clk.switching.testBit i = true ∧ t.clk.stops.testBit i = true ∧
      t.clk.goal.testBit i = s.clk.goal.testBit i ∧
      t.clk.again.testBit i = (s.clk.goal.testBit i != safe)) ∧
    (busy = true → stop = false →
      t.clk.switching.testBit i = true ∧ t.clk.stops.testBit i = true ∧ t.clk.goal.testBit i = safe) ∧
    (busy = false → s.clk.safe.testBit i = safe → t.clk.switching.testBit i = false) ∧
    (busy = false → s.clk.safe.testBit i ≠ safe →
      t.clk.switching.testBit i = true ∧ t.clk.goal.testBit i = safe ∧ t.clk.again.testBit i = false ∧
      t.clk.stops.testBit i = (s.rf Reg.CLK_SWITCH 0 8).testBit i) ∧
    t.clk.safe = s.clk.safe) ∧
  (∀ (s : State) (i : BitVec 3), s.svcUp = true →
    let b := i.toNat
    let safe := s.clk.goal.testBit b
    let t : State :=
      { s with
        clk := { s.clk with
          switching := maskBit s.clk.switching b false, safe := maskBit s.clk.safe b safe,
          step5 := if s.clk.seq = 5 ∧ s.clk.fallback = 0 ∧ safe = false then maskBit s.clk.step5 b true
            else s.clk.step5 } }
    let u : State :=
      if s.clk.again.testBit b then { t with clk := t.clk.ask (s.rf Reg.CLK_SWITCH 0 8) (!safe) b } else t
    (s.clk.switching.testBit b = false ∨ s.clk.svcOnly = true → exec (.islandSwitchDone i) s = .next s.settle) ∧
    (s.clk.switching.testBit b = true → s.clk.svcOnly = false →
      (u.clk.switching ≠ 0 → exec (.islandSwitchDone i) s = .next (State.settle (u.lanesBack s))) ∧
      (u.clk.switching = 0 → exec (.islandSwitchDone i) s = .next (State.settle (u.allSwitched.lanesBack s))))) ∧
  (∀ s : State, s.clk.fallback = 0 → s.clk.move ≠ 2 → s.clk.seq = 5 →
    s.allSwitched = { s with clk := { s.clk with seq := 6, active := s.clk.upSrc } })

/-- SRC_UP, XTAL_TIMEOUT, SOURCE_MOVE, SOURCE_CHANGED, SELECT_XTAL, SELECT_SYS, SELECT_RC and READY (it rests on R384,
R385, R386, R399, R400, R416). The model's own: log entries 7 (free values), 78 (moves of the source, SERVICE in
STARTUP), DESIGN CHOICE; log entry 134 (a select command during a fallback), DEDUCED. -/
def Obligations.SourcesComeUpAndMove : Prop :=
  (∀ (s : State) (coarse : BitVec 12) (fine : BitVec 16), s.svcUp = true →
    (s.clk.rcOk = true ∨ s.clk.rcStarting = false → exec (.srcUp .rc coarse fine) s = .next s.settle) ∧
    (s.clk.rcOk = false → s.clk.rcStarting = true →
      let t : State := { s with clk := { s.clk with rcOk := true, rcStarting := false } }
      exec (.srcUp .rc coarse fine) s =
        .next (State.settle ((t.raise Ev.CLK_SRC_UP 0).fallbackStart.startUp))) ∧
    (s.clk.rcOk = false → exec (.srcUp .xtal coarse fine) s = .next s.settle) ∧
    (s.clk.rcOk = true →
      let n := coarse.toNat % 2 ^ 11
      let t := s.setReg Reg.CLK_MON_XTAL (w32 n)
      let forced := s.monForced 1 .coarse
      (forced = true →
        exec (.srcUp .xtal coarse fine) s =
          if s.clk.active = 1 then exec (.clkFail .coarse (coarse.setWidth 16)) t
          else exec (.srcFail .xtal .coarse (coarse.setWidth 16)) t) ∧
      (forced = false → s.clk.xtalOk = true ∨ n < 1004 ∨ 1044 < n →
        exec (.srcUp .xtal coarse fine) s = .next t.settle) ∧
      (forced = false → s.clk.xtalOk = false → 1004 ≤ n → n ≤ 1044 →
        exec (.srcUp .xtal coarse fine) s =
          .next (State.settle
            ((({ t with clk := { t.clk with xtalOk := true } } : State).raise Ev.CLK_SRC_UP 1).startUp)))) ∧
    (s.clk.rcOk = false ∨ s.clk.xtalOk = false → exec (.srcUp .sys coarse fine) s = .next s.settle) ∧
    (s.clk.rcOk = true → s.clk.xtalOk = true →
      let n := coarse.toNat
      let off := (sext 16 fine.toNat).natAbs
      let t := (s.setReg Reg.CLK_MON_SYSC (w32 n)).setReg Reg.CLK_MON_SYS (w32 fine.toNat)
      let passes : Prop := 2007 ≤ n ∧ n ≤ 2089 ∧ 763 * off ≤ 100 * s.rf Reg.CLK_CTL 16 16
      let trips (kind : TripKind) (meas : BitVec 16) : Prop :=
        exec (.srcUp .sys coarse fine) s =
          if s.clk.active = 2 then exec (.clkFail kind meas) t else exec (.srcFail .sys kind meas) t
      let forced : Bool := s.monForced 2 .coarse || s.monForced 2 .fine
      (s.monForced 2 .coarse = true → trips .coarse (coarse.setWidth 16)) ∧
      (s.monForced 2 .coarse = false → s.monForced 2 .fine = true → trips .fine fine) ∧
      (forced = false → s.clk.sysOk = true ∨ ¬ passes → exec (.srcUp .sys coarse fine) s = .next t.settle) ∧
      (forced = false → s.clk.sysOk = false → passes →
        exec (.srcUp .sys coarse fine) s =
          .next (State.settle
            (({ t with clk := { t.clk with sysOk := true } } : State).raise Ev.CLK_SRC_UP 2))))) ∧
  (∀ s : State, s.svcUp = true →
    (s.clk.seq ≠ 4 ∨ s.clk.xtalOk = true ∨ s.clk.fallback ≠ 0 → exec .xtalTimeout s = .next s.settle) ∧
    (s.clk.seq = 4 → s.clk.xtalOk = false → s.clk.fallback = 0 →
      let kind := s.openDetail.1 % 16
      let t := s.openDetail.2
      exec .xtalTimeout s =
        .next (State.settle
          ((({ t with clk := { t.clk with seq := 5, upSrc := 0 } } : State).askAll false).raise Ev.CLK_SRC_FAIL
            (1 + 16 * kind)))) ∧
    (s.moveTarget = none ∨ s.mainUp = false ∨ s.clk.fallback ≠ 0 ∨ s.clk.seq = 4 ∨ s.clk.seq = 5 →
      exec .sourceMove s = .next s.settle) ∧
    (∀ n, s.moveTarget = some n → s.mainUp = true → s.clk.fallback = 0 → s.clk.seq ≠ 4 → s.clk.seq ≠ 5 →
      (n = s.clk.active → exec .sourceMove s = .next (State.settle { s with clk := { s.clk with move := 0 } })) ∧
      (n ≠ s.clk.active →
        exec .sourceMove s =
          .next (State.settle
            (({ s with clk := { s.clk with move := 2, moveTo := n } } : State).askAll true)))) ∧
    (s.clk.move ≠ 3 ∨ s.clk.switching ≠ 0 → exec .sourceChanged s = .next s.settle) ∧
    (s.clk.move = 3 → s.clk.switching = 0 →
      exec .sourceChanged s =
        .next (State.settle
          (({ s with clk := { s.clk with active := s.clk.moveTo, move := 0 } } : State).raise Ev.CLK_SOURCE_CHANGED
            s.clk.moveTo))) ∧
    (s.clk.seq ≠ 6 ∨ s.sram.zeroed = false ∨ s.dram.ready = false ∨ s.clk.fallback ≠ 0 →
      exec .ready s = .next s.settle) ∧
    (s.clk.seq = 6 → s.sram.zeroed = true → s.dram.ready = true → s.clk.fallback = 0 →
      let t : State :=
        { s with
          clk := { s.clk with ready := true, seq := 10, held := if s.clk.held = 1 then 0 else s.clk.held } }
      let u : State := if s.clk.mode = 1 then t.setMode 0 else t
      let lanes := u.lanePower
      exec .ready s =
        .next (State.settle ((lanes.fill lanes.fillBeams).restartPath.raise Ev.CLK_READY 0)))) ∧
  (∀ (s : State) (a : Acc), Taken a Reg.CLK_CMD s →
    let refuses (n : Nat) : Prop :=
      s.running = true ∨ s.clk.okOf n = false ∨ s.clk.active = n ∨ n = 2 ∧ s.clk.active = 0 ∨ s.clk.move ≠ 0 ∨
        s.clk.fallback ≠ 0 ∨ s.autoTarget ≠ none
    let refused : State := State.settle (s.raise Ev.CLK_CFG_REFUSED (offDetail Reg.CLK_CMD))
    let moves (n : Nat) : State :=
      State.settle { s with clk := { s.clk with move := 1, moveTo := n, autoHeld := decide (n < s.clk.active) } }
    (refuses 0 → exec (.selectRc a) s = .next refused) ∧
    (¬ refuses 0 → exec (.selectRc a) s = .next (moves 0)) ∧
    (refuses 1 → exec (.selectXtal a) s = .next refused) ∧
    (¬ refuses 1 → exec (.selectXtal a) s = .next (moves 1)) ∧
    (refuses 2 → exec (.selectSys a) s = .next refused) ∧
    (¬ refuses 2 → exec (.selectSys a) s = .next (moves 2)) ∧
    (∀ (w : BitVec 22) (v : Word), 4 * w.toNat = Reg.CLK_CMD →
      (fld v 0 3 = 1 → exec (.registerWrite a w v) s = exec (.selectXtal a) s) ∧
      (fld v 0 3 = 2 → exec (.registerWrite a w v) s = exec (.selectSys a) s) ∧
      (fld v 0 3 = 3 → exec (.registerWrite a w v) s = exec (.selectRc a) s) ∧
      (fld v 0 3 = 4 → exec (.registerWrite a w v) s = exec (.service a) s) ∧
      (fld v 0 3 = 5 → exec (.registerWrite a w v) s = exec (.holdExit a) s) ∧
      (fld v 0 3 = 0 ∨ 6 ≤ fld v 0 3 → exec (.registerWrite a w v) s = .next refused)))

/-- SERVICE, HOLD_EXIT, CLK_PWR_WRITE, CLK_GATE_WRITE and CLK_CFG_WRITE (it rests on R389, R391, R392, R393, R394,
R395, R398, R400). The model's own: log entries 78 (moves of the source, SERVICE in STARTUP), 135 (entries to hold in
hold), DESIGN CHOICE. -/
def Obligations.ModesGatesAndPowerStates : Prop :=
  (∀ (s : State) (a : Acc), Taken a Reg.CLK_CMD s →
    let refused : State := State.settle (s.raise Ev.CLK_CFG_REFUSED (offDetail Reg.CLK_CMD))
    (s.clk.active = 0 ∨ s.clk.coast = true ∨ s.clk.hold = true ∨ s.clk.mode = 1 → exec (.service a) s = .next refused) ∧
    (s.clk.active ≠ 0 → s.clk.coast = false → s.clk.hold = false → s.clk.mode ≠ 1 →
      (s.clk.mode = 2 → exec (.service a) s = .next (State.settle { s with clk := { s.clk with held := 0 } })) ∧
      (s.clk.mode ≠ 2 →
        exec (.service a) s =
          .next (State.settle (({ s with clk := { s.clk with mode := 0 } } : State).regate s)))) ∧
    (s.clk.hold = false ∨ s.clk.svcOnly = true ∨ s.fatalBit = true → exec (.holdExit a) s = .next refused) ∧
    (s.clk.hold = true → s.clk.svcOnly = false → s.fatalBit = false →
      exec (.holdExit a) s =
        .next (State.settle
          (({ s with clk := { s.clk with hold := false } } : State).raise Ev.CLK_HOLD_EXIT
            (s.rf Reg.CLK_HOLD 0 4))))) ∧
  (∀ (s : State) (cause page : Nat),
    let held : State := { s with clk := { s.clk with hold := true } }
    let shown := held.setReg Reg.CLK_HOLD (pack [(16, page), (0, cause)])
    (s.clk.hold = false → s.enterHold cause page = shown.enterRecovery.motDarkHold) ∧
    (s.clk.hold = true → cause ≠ 1 → s.enterHold cause page = shown) ∧
    (s.clk.hold = true → cause = 1 → s.enterHold cause page = s)) ∧
  (∀ (s : State) (a : Acc) (v : Word), Taken a Reg.CLK_PWR s →
    (fld v 0 2 = 3 ∨ fld v 0 2 ≠ 0 ∧ s.running = true →
      exec (.clkPwrWrite a v) s =
        .next (State.settle (s.raise Ev.CLK_CFG_REFUSED (offDetail Reg.CLK_PWR)))) ∧
    (fld v 0 2 ≠ 3 → fld v 0 2 = 0 ∨ s.running = false →
      exec (.clkPwrWrite a v) s = .next (State.settle (((s.writeRw Reg.CLK_PWR v).regate s).lanesBack s)))) ∧
  (∀ (s : State) (a : Acc) (set : BitVec 2) (v : Word),
    let off := Reg.CLK_GATE + 4 * set.toNat
    let t := s.writeRw off v
    let gates : Prop := ∃ b < 13, wbit s.gateSet b = true ∧ wbit t.gateSet b = false
    Taken a off s →
    (s.running = true → gates →
      exec (.clkGateWrite a set v) s = .next (State.settle (s.raise Ev.CLK_CFG_REFUSED (offDetail off)))) ∧
    (s.running = false ∨ ¬ gates → exec (.clkGateWrite a set v) s = .next (State.settle (t.lanesBack s)))) ∧
  (∀ (s : State) (a : Acc) (v : Word),
    (Taken a Reg.CLK_SWITCH s →
      (fld v 8 8 = 0 ∨ s.clk.switching ≠ 0 →
        exec (.clkCfgWrite a true v) s =
          .next (State.settle (s.raise Ev.CLK_CFG_REFUSED (offDetail Reg.CLK_SWITCH)))) ∧
      (fld v 8 8 ≠ 0 → s.clk.switching = 0 →
        exec (.clkCfgWrite a true v) s = .next (State.settle (s.writeRw Reg.CLK_SWITCH v)))) ∧
    (Taken a Reg.CLK_CTL s →
      (fld v 16 16 < 50 ∨ 1000 < fld v 16 16 →
        exec (.clkCfgWrite a false v) s =
          .next (State.settle (s.raise Ev.CLK_CFG_REFUSED (offDetail Reg.CLK_CTL)))) ∧
      (50 ≤ fld v 16 16 → fld v 16 16 ≤ 1000 →
        exec (.clkCfgWrite a false v) s = .next (State.settle (s.writeRw Reg.CLK_CTL v)))))

/-- POWER_ON, PERST_N, SVC_COLD, BROWNOUT, TEMP_SENSE, DARK_N_FALL, DARK_N_RISE, VAUX33_LOSS, VAUX33_RETURN (it rests
on R396, R398, R432, R436, R438, R441, R442, R446). The model's own: log entry 8 (DARK near an edge of DARK_N), DESIGN
CHOICE; log entry 91 (the loss of the last supply), DEDUCED. -/
def Obligations.ResetsSuppliesAndSensors : Prop :=
  (∀ s : State,
    (s.pins.armed = false → exec .powerOn s = .next s.settle) ∧
    (s.pins.armed = true →
      let keep {β : Type} (m : Store β) (p : Nat → Bool) : Store β := if s.pins.aux33 then skeep p m else []
      exec .powerOn s =
        .next (State.settle
          (({ State.reset with
            pending := s.pending, due := s.due, recent := s.recent, cyc := s.cyc, out := s.out, draws := s.draws, nv := s.nv,
            nvCount := s.nvCount, nvSlot := s.nvSlot, spiData := s.spiData, tap := 1, regs := keep s.regs fun k => k / 0x1000 == 1,
            hdrs := keep s.hdrs fun k => k == 1,
            pins := { s.pins with
              vin12 := true, armed := false, thermHot := false, shutdown := false } } : State).setReg
              Reg.CLK_RESET 0)))) ∧
  (∀ s : State, s.clk.seq ≠ 9 →
    (s.pins.perstN = false → exec (.perstN false) s = .next s.settle) ∧
    (s.pins.perstN = true →
      exec (.perstN false) s =
        .next (State.settle (({ s with pins := { s.pins with perstN := false } } : State).mainReset 1 false))) ∧
    (s.pins.perstN = true → exec (.perstN true) s = .next s.settle) ∧
    (s.pins.perstN = false →
      exec (.perstN true) s =
        .next (State.settle (({ s with pins := { s.pins with perstN := true } } : State).startUp))) ∧
    (∀ a : Acc, Taken a Reg.CLK_SVC s →
      (a.party = .spi → exec (.svcCold a) s = .next (State.settle (s.mainReset 2 false))) ∧
      (a.party = .pcie →
        exec (.svcCold a) s = .next (State.settle (s.logAcc .pcie 3 Reg.CLK_SVC)) ∧
        exec (.svcWarm a) s = .next (State.settle (s.logAcc .pcie 3 Reg.CLK_SVC)))) ∧
    (∀ (cause : Nat) (warm : Bool),
      let t := s.mainReset cause warm
      (∀ off, off / 0x1000 ≠ 1 → t.reg off = regReset off) ∧
      (∀ off, off / 0x1000 = 1 → off ≠ Reg.CLK_RESET → t.reg off = s.reg off) ∧
      t.reg Reg.CLK_RESET = w32 cause ∧
      (∀ p, p ≠ 1 → t.hdr p = Hdr.reset) ∧ t.hdr 1 = s.hdr 1 ∧
      t.nv = s.nv ∧ t.nvCount = s.nvCount ∧ t.nvSlot = s.nvSlot ∧
      t.ctxs = [] ∧ t.startQ = [] ∧ t.expo = none ∧
      t.ledger.recs = [] ∧ t.ledger.fresh = [] ∧ t.ledger.head = 0 ∧ t.ledger.job = none ∧ t.tp = Tp.reset ∧ t.evlog = [] ∧
      t.rings = [] ∧ t.link.held = [] ∧ t.tau = 0 ∧ t.pins = s.pins ∧ t.clk.ready = false ∧ t.clk.mode = 1 ∧ t.clk.hold = false ∧
      (warm = false → t.dram = Dram.reset) ∧
      (warm = true → t.dram.retMap = s.dram.retMap ∧ t.dram.retSpare = s.dram.retSpare ∧
        t.dram.retUsed = s.dram.retUsed))) ∧
  (∀ s : State,
    (s.pins.vin12 = false → exec .brownout s = .next s.settle) ∧
    (s.pins.vin12 = true →
      let t := s.raise Ev.CLK_BROWNOUT 0
      exec .brownout s =
        .next (State.settle
          { t with
            pins := { t.pins with vin12 := false, armed := true },
            clk := { t.clk with rcOk := false, xtalOk := false, sysOk := false, rcStarting := false } }))) ∧
  (∀ (s : State) (hottest : Byte), s.pins.shutdown = false → s.pins.vin12 = true →
    let n := hottest.toNat
    let t (hot : Bool) : State := { s with pins := { s.pins with thermHot := hot } }
    (n ≤ 95 → exec (.tempSense hottest) s = .next (State.settle (t false))) ∧
    (95 < n → n < 100 → exec (.tempSense hottest) s = .next (State.settle (t s.pins.thermHot))) ∧
    (100 ≤ n → n < 125 → exec (.tempSense hottest) s = .next (State.settle (t true))) ∧
    (125 ≤ n →
      let u := (t true).finishNv
      let v : State := { u with pins := { u.pins with shutdown := true } }
      (s.pins.aux33 = true → exec (.tempSense hottest) s = .next v.settle) ∧
      (s.pins.aux33 = false → exec (.tempSense hottest) s = .next (State.settle v.serviceLost)) ∧
      v.nvSlot = [] ∧ v.lanesIdle = true ∧ v.serviceLost.nvSlot = [] ∧ v.serviceLost.lanesIdle = true)) ∧
  (∀ s : State,
    (s.pins.darkN = true →
      exec .darkNFall s =
        .next (State.settle { s with pins := { s.pins with darkN := false, darkWait := 33 } }) ∧
      exec .darkNRise s = .next s.settle) ∧
    (s.pins.darkN = false →
      exec .darkNRise s =
        .next (State.settle { s with pins := { s.pins with darkN := true, darkWait := 33 } }) ∧
      exec .darkNFall s = .next s.settle) ∧
    (let t : State := { s with pins := { s.pins with aux33 := false } }
     (s.pins.vin12 = true → s.pins.shutdown = false → exec .vaux33Loss s = .next t.settle) ∧
     (s.pins.vin12 = false ∨ s.pins.shutdown = true →
       exec .vaux33Loss s = .next (State.settle t.finishNv.serviceLost) ∧
       t.finishNv.serviceLost.nvSlot = [] ∧
       (∀ off, off / 0x1000 = 1 → t.finishNv.serviceLost.reg off = regReset off) ∧
       t.finishNv.serviceLost.hdr 1 = Hdr.reset ∧ t.finishNv.serviceLost.mainUp = false)) ∧
    exec .vaux33Return s = .next (State.settle { s with pins := { s.pins with aux33 := true } }))

/-- SVC_WARM keeps DRAM, and no block of it reads as zero (R397). -/
def Obligations.SvcWarmKeepsDram : Prop :=
  ∀ (s : State) (a : Acc), a.party = .spi → Taken a Reg.CLK_SVC s → s.clk.seq ≠ 9 →
    let t := s.mainReset 3 true
    exec (.svcWarm a) s = .next t.settle ∧
    t.dram.data = s.dram.data ∧ t.dram.err = s.dram.err ∧
    (∀ line, t.dram.never line = false) ∧
    t.dram.poisonCount = 0 ∧
    (∀ line, s.dram.poison line ≠ 0 → t.dram.poison line = 1) ∧
    (∀ line, s.dram.poison line = 0 → (∀ p ∈ s.dram.pois, p.1 ≠ line) → t.dram.poison line = 0) ∧
    (∀ off, off / 0x1000 ≠ 1 → t.reg off = regReset off) ∧ t.ledger.recs = [] ∧ t.ledger.fresh = [] ∧ t.ledger.job = none

/-- After BROWNOUT islands 0 to 7 stay in reset until POWER_ON, dark, with nothing left to program (it rests on R395,
R396, R398, R400, R438). The model's own: log entry 91 (the loss of the last supply), DEDUCED; log entry 135 (entries
to hold in hold), DESIGN CHOICE. -/
def Obligations.BrownoutHoldsTheDeviceUntilPowerOn : Prop :=
  (∀ s : State, s.Quiet → s.pins.vin12 = true →
    ∃ t : State, exec .brownout s = .next t ∧
      (s.pins.aux33 = true →
        wbit (t.hdr Ev.CLK_BROWNOUT.page).stat Ev.CLK_BROWNOUT.bit = true ∧ t.clk.hold = true ∧
        t.reg Reg.CLK_HOLD = pack [(16, 0), (0, 3)]) ∧
      (s.pins.aux33 = false → t.hdr 1 = Hdr.reset ∧ ∀ off, off / 0x1000 = 1 → t.reg off = regReset off) ∧
      t.lanesIdle = true ∧ (t.svcUp = true → t.tripLow = true) ∧
      t.nvSlot = [] ∧ t.nv = s.nv ∧
      t.mainUp = false ∧ t.clk.inReset = true ∧ t.clk.seq = 9) ∧
  (∀ (s t : State) (c : Instr), s.clk.inReset = true → s.clk.seq = 9 → c ≠ .powerOn →
    exec c s = .next t → t.clk.inReset = true ∧ t.clk.seq = 9) ∧
  (∀ s t : State, s.clk.inReset = true → s.clk.seq = 9 → s.pending = [] →
    step s = .next t → t.clk.inReset = true ∧ t.clk.seq = 9) ∧
  (∀ s : State, s.pins.armed = true → s.pins.aux33 = true → s.Settled →
    ∃ t : State, exec .powerOn s = .next t ∧ t.hdr 1 = s.hdr 1 ∧ t.reg Reg.CLK_HOLD = s.reg Reg.CLK_HOLD)

/-- TEST_CTL acts only over SPI, and every other TEST register only while EN is set (it rests on R43, R392, R402,
R403). The model's own: log entries 7 (free values), 22 (the context of a forced event), DESIGN CHOICE; log entry 80
(what disarming leaves), DEDUCED. -/
def Obligations.TheTestEnableGuardsTheTestBlock : Prop :=
  (∀ (s : State) (a : Acc) (v : Word), Taken a Reg.TEST_CTL s →
    (a.party = .pcie → exec (.testCtlWrite a v) s = .next (State.settle (s.logAcc .pcie 3 Reg.TEST_CTL))) ∧
    (a.party = .spi → wbit v 0 = s.testEn → exec (.testCtlWrite a v) s = .next s.settle) ∧
    (a.party = .spi → wbit v 0 = true → s.testEn = false →
      let t := ((({ s with clk := { s.clk with held := s.clk.mode } } : State).setReg Reg.TEST_CTL 1).setReg
        Reg.TEST_INJ 0).setMode 2
      exec (.testCtlWrite a v) s = .next t.settle ∧
      t.testEn = true ∧ t.clk.mode = 2 ∧ t.reg Reg.TEST_INJ = 0) ∧
    (a.party = .spi → wbit v 0 = false → s.testEn = true →
      exec (.testCtlWrite a v) s = .next (State.settle s.disarm) ∧ s.disarm.testEn = false ∧
      s.disarm.clk.mode = s.clk.held)) ∧
  (∀ (s : State) (a : Acc) (p : PageNo) (b : Nat), Taken a (0x1000 * p.toNat + 0x18) s → b < (evtTable p.toNat).length →
    b < 32 →
    (s.testEn = true →
      exec (.evtForce a p (BitVec.twoPow 32 b)) s =
        .next (State.settle (s.openDetail.2.raiseAs true ⟨p.toNat, b⟩ s.openDetail.1
          (s.forcedCtx ⟨p.toNat, b⟩)))) ∧
    (s.testEn = false →
      exec (.evtForce a p (BitVec.twoPow 32 b)) s =
        .next (State.settle (s.logAcc a.party 3 (0x1000 * p.toNat + 0x18))))) ∧
  (∀ (s : State) (a : Acc), s.testEn = false →
    let denied (c : Instr) (off : Nat) : Prop :=
      Taken a off s → exec c s = .next (State.settle (s.logAcc a.party 3 off))
    (∀ (w : BitVec 22) (v : Word), 0x6040 ≤ 4 * w.toNat → 4 * w.toNat < 0x7000 → 4 * w.toNat ≠ Reg.TEST_CTL →
      (regRow (4 * w.toNat)).isSome = true → denied (.registerWrite a w v) (4 * w.toNat)) ∧
    ∀ v : Word,
      denied (.testXingCfgWrite a v) Reg.TEST_XING_CFG ∧ denied (.testDramDlyWrite a v) Reg.TEST_DRAM_DLY ∧
      denied (.testMetCtlWrite a v) Reg.TEST_MET_CTL ∧ denied (.testMetStepWrite a v) Reg.TEST_MET_STEP ∧
      denied (.testLaneCntWrite a v) Reg.TEST_LANE_CNT ∧ denied (.testSigWrite a v) Reg.TEST_SIG ∧
      denied (.testMonWrite a v) Reg.TEST_MON ∧ denied (.flipSram a) Reg.TEST_MEM_CMD ∧
      denied (.flipDram a) Reg.TEST_MEM_CMD ∧ denied (.readDram a) Reg.TEST_MEM_CMD)

/-- The perturbation rows with EN set, MEM_DONE, JTAG_INSTRUCTION and JTAG_TAP_RESET (it rests on R357, R404, R406,
R407, R408, R411, R412, R413, R414, R415, R416, R417, R418, R420). The model's own: log entries 15 (JTAG in whole
scans), 53 (the boundary cells), 99 (reserved bits of TEST_MEM_ADDR), DESIGN CHOICE. -/
def Obligations.PerturbationsAreArmedAndRun : Prop :=
  (∀ (s : State) (a : Acc) (v : Word), s.testEn = true →
    let x := s.rf Reg.TEST_XING_SEL 0 3
    let sx : State := { s with test := { s.test with xing := sput 0 s.test.xing x v } }
    let d := s.rf Reg.TEST_DRAM_SEL 0 4
    let sd : State := { s with test := { s.test with dly := sput 0 s.test.dly d (fld v 0 16) } }
    (Taken a Reg.TEST_XING_CFG s →
      (v &&& 0xFFFFFF00 = 0 → exec (.testXingCfgWrite a v) s = .next sx.settle) ∧
      (v &&& 0xFFFFFF00 ≠ 0 → exec (.testXingCfgWrite a v) s = .next (State.settle (sx.bump Reg.TEST_INJ)))) ∧
    (Taken a Reg.TEST_DRAM_DLY s →
      (fld v 0 16 = 0 → exec (.testDramDlyWrite a v) s = .next sd.settle) ∧
      (fld v 0 16 ≠ 0 → exec (.testDramDlyWrite a v) s = .next (State.settle (sd.bump Reg.TEST_INJ)))) ∧
    (Taken a Reg.TEST_MET_CTL s →
      (fld v 24 2 = 3 →
        exec (.testMetCtlWrite a v) s =
          .next (State.settle (s.raise Ev.TEST_IGNORED (offDetail Reg.TEST_MET_CTL)))) ∧
      (fld v 24 2 ≠ 3 →
        exec (.testMetCtlWrite a v) s = .next (State.settle (s.writeRw Reg.TEST_MET_CTL v)))) ∧
    (Taken a Reg.TEST_MET_STEP s →
      exec (.testMetStepWrite a v) s = .next (State.settle (s.writeRw Reg.TEST_MET_STEP v))) ∧
    (Taken a Reg.TEST_LANE_CNT s →
      exec (.testLaneCntWrite a v) s = .next (State.settle (s.writeRw Reg.TEST_LANE_CNT v))) ∧
    (Taken a Reg.TEST_SIG s →
      let t := s.writeRw Reg.TEST_SIG v
      exec (.testSigWrite a v) s =
        .next (State.settle { t with test := { t.test with sigArmed := true, sigUsed := false } })) ∧
    (Taken a Reg.TEST_MON s →
      (fld v 0 3 = 0 ∨ s.monRuns (fld v 0 3) = false →
        exec (.testMonWrite a v) s =
          .next (State.settle (s.raise Ev.TEST_IGNORED (offDetail Reg.TEST_MON)))) ∧
      (fld v 0 3 ≠ 0 → s.monRuns (fld v 0 3) = true →
        exec (.testMonWrite a v) s = .next (State.settle (s.writeRw Reg.TEST_MON v)))) ∧
    (Taken a Reg.TEST_MEM_CMD s →
      let refused : State := State.settle (s.raise Ev.TEST_IGNORED (offDetail Reg.TEST_MEM_CMD))
      let begun (op : Nat) (t : State) : State :=
        State.settle
          { t with
            test := { t.test with
              memOp := op, memAddr := s.reg Reg.TEST_MEM_ADDR, memMask := s.reg Reg.TEST_MEM_MASK } }
      let t := s.setRf Reg.TEST_MEM_STAT 31 1 0
      (s.test.memOp ≠ 0 →
        exec (.flipSram a) s = .next refused ∧ exec (.flipDram a) s = .next refused ∧
        exec (.readDram a) s = .next refused) ∧
      (s.test.memOp = 0 →
        exec (.flipSram a) s = .next (begun 1 t) ∧ exec (.flipDram a) s = .next (begun 2 (t.portRaise 11)) ∧
        exec (.readDram a) s = .next (begun 3 (t.portRaise 11)) ∧ ((t.portRaise 11).arb.input 11).req = true)) ∧
    (∀ w : BitVec 22, Taken a (4 * w.toNat) s →
      let refused : State := State.settle (s.raise Ev.TEST_IGNORED (offDetail (4 * w.toNat)))
      let stored : State := State.settle (s.writeRw (4 * w.toNat) v)
      (4 * w.toNat = Reg.TEST_MEM_CMD →
        (fld v 0 2 = 0 → exec (.registerWrite a w v) s = .next refused) ∧
        (fld v 0 2 = 1 → exec (.registerWrite a w v) s = exec (.flipSram a) s) ∧
        (fld v 0 2 = 2 → exec (.registerWrite a w v) s = exec (.flipDram a) s) ∧
        (fld v 0 2 = 3 → exec (.registerWrite a w v) s = exec (.readDram a) s)) ∧
      (4 * w.toNat = Reg.TEST_XING_SEL →
        (5 < fld v 0 3 → exec (.registerWrite a w v) s = .next refused) ∧
        (fld v 0 3 ≤ 5 → exec (.registerWrite a w v) s = .next stored)) ∧
      (4 * w.toNat = Reg.TEST_LANE_CFG →
        let aux := wbit v 31
        let n := fld v 20 4
        let group := fld v 8 10
        let illegal : Prop := fld v 0 8 = 0 ∨ (aux = true ∧ (n = 6 ∨ n = 7 ∨ 13 < n)) ∨ (aux = false ∧ (group < 2 ∨ 397 < group))
        (illegal → exec (.registerWrite a w v) s = .next refused) ∧
        (¬ illegal → exec (.registerWrite a w v) s = .next stored)))) ∧
  (∀ (s : State) (written : Bool), s.mainUp = true →
    let answers (t : State) (code result : Nat) : Prop :=
      exec (.memDone written) s =
        .next (State.settle
          ((({ t with test := { t.test with memOp := 0 } } : State).resDone Reg.TEST_MEM_STAT
            [(28, code), (25, result)]).raise Ev.TEST_MEM_DONE code))
    (s.test.memOp = 0 ∨ s.sram.zeroed = false → exec (.memDone written) s = .next s.settle) ∧
    (s.test.memOp = 1 → s.sram.zeroed = true →
      let g := fld s.test.memAddr 24 7
      let m := fld s.test.memMask 0 13
      let n := ((List.range 13).filter fun i => m.testBit i).length
      (95 < g ∨ n = 0 ∨ 2 < n → answers s 1 0) ∧
      (g ≤ 95 → 1 ≤ n → n ≤ 2 → written = true → answers s 2 0) ∧
      (g ≤ 95 → 1 ≤ n → n ≤ 2 → written = false →
        let k := s.sram.key g (fld s.test.memAddr 12 12) (fld s.test.memAddr 0 8)
        answers
          (({ s with sram := { s.sram with err := sput 0 s.sram.err k (sget 0 s.sram.err k ^^^ m) } } : State).bump
            Reg.TEST_INJ) 0 0)) ∧
    (s.test.memOp = 2 → s.sram.zeroed = true →
      let line := fld s.test.memAddr 0 29
      let first := fld s.test.memMask 0 7
      let n := fld s.test.memMask 13 3
      let v := fld s.test.memMask 16 8
      (71 < first ∨ n = 0 ∨ 5 < n ∨ v = 0 → answers s 1 0) ∧
      (first ≤ 71 → 1 ≤ n → n ≤ 5 → v ≠ 0 → s.arb.owner ≠ 12 → exec (.memDone written) s = .next s.settle) ∧
      (first ≤ 71 → 1 ≤ n → n ≤ 5 → v ≠ 0 → s.arb.owner = 12 → s.dram.never line = true → answers s 3 0) ∧
      (first ≤ 71 → 1 ≤ n → n ≤ 5 → v ≠ 0 → s.arb.owner = 12 → s.dram.never line = false →
        ∃ err, answers (({ s with dram := { s.dram with err := err } } : State).bump Reg.TEST_INJ) 0 0 ∧
          ∀ k, sget 0 err k =
            if ∃ i < n, k = 72 * line + (first + i) % 72 then sget 0 s.dram.err k ^^^ v else sget 0 s.dram.err k)) ∧
    (s.test.memOp = 3 → s.sram.zeroed = true → s.arb.owner ≠ 12 → exec (.memDone written) s = .next s.settle) ∧
    (s.test.memOp = 3 → s.sram.zeroed = true → s.arb.owner = 12 →
      let r := s.dramReadLine 11 (fld s.test.memAddr 0 29)
      answers r.2 0 r.1.result)) ∧
  (∀ (s : State) (op : Byte) (scan : Option (List Bool)), s.svcUp = true →
    let loaded : State := { s with tap := op }
    let t : State := match scan with
      | none => loaded
      | some bits => loaded.scanDr bits
    exec .jtagTapReset s = .next (State.settle { s with tap := 1 }) ∧
    (op ∈ [0, 3, 4, 5, 6] → s.mainUp = true → scan = none ∨ op ≠ s.tap →
      exec (.jtagInstruction op scan) s = .next (State.settle (t.raise Ev.TEST_JTAG_EXTEST op.toNat))) ∧
    (op ∉ [0, 3, 4, 5, 6] ∨ s.mainUp = false ∨ (scan ≠ none ∧ op = s.tap) →
      exec (.jtagInstruction op scan) s = .next t.settle)) ∧
  (∀ (s : State) (bits : List Bool), s.bsr.length = 171 → bits.length = 171 →
    (s.tap ∈ [0, 2, 3, 4] →
      (s.scanDr bits).bsr = bits ∧ (s.scanDr bits).tdo = s.captureCells.1 ∧ s.captureCells.1.length = 171) ∧
    (s.tap ∉ [0, 2, 3, 4] → (s.scanDr bits).bsr = s.bsr)) ∧
  (∀ (s : State) (b : Ball), b.observes = false → boundaryCells.idxOf b < s.bsr.length →
    (s.tap = 6 → s.outLevel b = none) ∧
    (s.tap ∈ [0, 3, 4, 5] → s.outLevel b = s.bsr[boundaryCells.idxOf b]?) ∧
    (s.tap ∉ [0, 3, 4, 5, 6] → s.outLevel b = s.coreLevel b))

/-- A logged access updates CTRL_ACC_LAST, counts in CTRL_ACC_CNT and raises its CTRL event (it rests on R35, R36,
R39, R427). The model's own: log entry 27 (an SPI write of fewer than 32 clocks), DESIGN CHOICE; log entry 102
(accesses to CLK in reset), DEDUCED. -/
def Obligations.LoggedAccessesAreCountedAndRaised : Prop :=
  (∀ (s : State) (p : Party) (kind off : Nat), kind ≤ 7 →
    (s.mainUp = false → s.logAcc p kind off = s) ∧
    (s.mainUp = true →
      let t := s.logAcc p kind off
      let ev : EvId :=
        if kind = 3 ∨ kind = 4 then Ev.CTRL_ACCESS_DENIED
        else if kind = 5 then Ev.CTRL_DP_DIRECT
        else if kind = 7 then Ev.CTRL_NV_WORN
        else Ev.CTRL_ACCESS_ERR
      t.reg Reg.CTRL_ACC_LAST = pack [(31, if p = .spi then 1 else 0), (27, kind), (0, off % 2 ^ 24)] ∧
      t.reg Reg.CTRL_ACC_CNT = w32 (min ((s.reg Reg.CTRL_ACC_CNT).toNat + 1) 65535) ∧
      wbit (t.hdr 0).stat ev.bit = true ∧
      t.logWr = (s.logWr + 1) % 65536 ∧ (t.evlog.head?.map LogEnt.ev) = some ev ∧
      t.evlog.length ≤ max s.evlog.length 256)) ∧
  (∀ (s : State) (a : Acc) (w : BitVec 22) (v : Word) (kind : Nat), (∀ v', a.tie ≠ .both v' ∧ a.tie ≠ .bothDevice v') →
    s.judge a (4 * w.toNat) = .logged kind →
    kind ≤ 7 ∧
    exec (.registerWrite a w v) s =
      .next (State.settle ((s.sameCycle a.tie).logAcc a.party kind (4 * w.toNat + a.low.toNat)))) ∧
  (∀ (s : State) (a : Acc) (w : BitVec 22) (hits : List TabHit), hits.all TabHit.readable = true → s.mainUp = true →
    s.memOn = true → a.single = false ∨ a.low ≠ 0 →
    exec (.registerRead a w hits) s =
      .next (State.settle
        ((s.logAcc .pcie (if a.single = false then 0 else 1) (4 * w.toNat + a.low.toNat)).completes fun t =>
          { t with cplData := 0 }))) ∧
  (∀ (s : State) (addr : BitVec 24) (v : Word) (clocks kind : Nat), 64 ≤ clocks →
    s.judge ⟨.spi, true, addr.extractLsb' 0 2, .alone⟩ (addr.toNat / 4 * 4) = .logged kind →
    exec (.spiWrite addr v clocks) s = .next (State.settle (s.logAcc .spi kind addr.toNat))) ∧
  (∀ (s : State) (addr : BitVec 24) (v : Word) (clocks : Nat), clocks < 64 →
    s.reaches .spi (addr.toNat / 0x1000) = true →
    exec (.spiWrite addr v clocks) s = .next (State.settle (s.logAcc .spi 6 addr.toNat)))

/-- Leaky buckets: counted errors, LB_LEAK and LB_CFG_WRITE (R48). -/
def Obligations.BucketsRaiseAtTheirThreshold : Prop :=
  (∀ (s : State) (b : BucketSel) (ev : EvId) (detail : Nat) (ctx : Option Nat),
    let th := s.rf (bucketCfg b) 16 16
    let old := s.bucket b
    let count := min (old.count + 1) 65535
    let fires : Bool := old.armed && decide (th ≠ 0) && decide (count = th)
    let new : Bucket := ⟨count, max old.peak (min count 32767), old.armed && !fires⟩
    (fires = true → s.bucketAdd b ev detail ctx = (s.setBucket b new).raiseAs false ev detail ctx) ∧
    (fires = false → s.bucketAdd b ev detail ctx = s.setBucket b new) ∧
    (s.bucketAdd b ev detail ctx).bucket b = new ∧
    (th = 0 → fires = false ∧ new.armed = old.armed)) ∧
  (∀ (s : State) (b : BucketSel), b.ok = true → s.live (bucketPage b) = true →
    let th := s.rf (bucketCfg b) 16 16
    let old := s.bucket b
    (s.rf (bucketCfg b) 0 16 = 0 → exec (.lbLeak b) s = .next s.settle) ∧
    (s.rf (bucketCfg b) 0 16 ≠ 0 →
      exec (.lbLeak b) s =
        .next (State.settle
          (s.setBucket b ⟨old.count - 1, old.peak, old.armed || decide (old.count - 1 ≤ th / 2)⟩)))) ∧
  (∀ (s : State) (b : BucketSel) (ev : EvId) (detail : Nat) (ctx : Option Nat), b.ok = true →
    let s1 := s.bucketAdd b ev detail ctx
    let th := s.rf (bucketCfg b) 16 16
    let old := s.bucket b
    let count := min (old.count + 1) 65535
    let fires : Bool := old.armed && decide (th ≠ 0) && decide (count = th)
    s1.live (bucketPage b) = true → s1.rf (bucketCfg b) 0 16 ≠ 0 → s1.rf (bucketCfg b) 16 16 = th →
    exec (.lbLeak b) s1 =
      .next (State.settle (s1.setBucket b
        ⟨count - 1, max old.peak (min count 32767), (old.armed && !fires) || decide (count - 1 ≤ th / 2)⟩))) ∧
  (∀ (s : State) (a : Acc) (b : BucketSel) (v : Word), b.ok = true → Taken a (bucketCfg b) s →
    exec (.lbCfgWrite a b v) s =
      .next (State.settle { s.writeRw (bucketCfg b) v with
        buckets := (bucketsOf b).foldl (fun m k => sput Bucket.reset m k ⟨0, 0, true⟩) s.buckets }))

/-- A step runs the command at the front of the queue; an empty queue idles for one cycle (it rests on
95_what_each_step_holds.md). The model's own: log entries 2 (an idle step), 59 (how a command comes to run), DESIGN
CHOICE. -/
def Obligations.StepRunsTheFrontCommand : Prop :=
  (∀ (s : State) (c : Instr) (rest : List Instr),
    step { s with pending := c :: rest } = exec c { s with pending := rest }) ∧
  (∀ s : State, s.pending = [] → step s = .next (motionCycle s.controlCycle).settle) ∧
  (∀ nbits w : Nat, decodeTableWord nbits w = none) ∧
  (∀ (s : State) (nbits w : Nat), s.withFetchWord nbits w = s)

/-- State.reset is settled, holds the reset values of the register tables, and TRIP_N is low in it (it rests on R11,
R51, R173, R366, R399, R429, R432, R448). The model's own: log entries 4 (which moment of the reset), 5 (values
without a reset value), DESIGN CHOICE. -/
def Obligations.ResetLeavesTheValuesOfTheSpec : Prop :=
  State.reset.Settled ∧ State.reset.pending = [] ∧ State.reset.DramWf ∧
  State.reset.reg Reg.GEOM_PITCH = 640 ∧
  (∀ off r, regRow off = some r → State.reset.reg off = BitVec.ofNat 32 r.reset) ∧
  (∀ p, State.reset.hdr p = ⟨false, false, 0, 0, 0, [], false⟩) ∧
  State.reset.nvw 0 = 1 ∧ (∀ i, 5 ≤ i → i ≤ 260 → State.reset.nvw i = 0xFFFFFFFF) ∧
  State.reset.clk.mode = 1 ∧ State.reset.clk.inReset = true ∧ State.reset.clk.ready = false ∧
  State.reset.mainUp = false ∧ State.reset.tripLow = true ∧ State.reset.testEn = false ∧
  (∀ c, (State.reset.ctx c).st = 0) ∧ State.reset.evlog = [] ∧ State.reset.ledger.recs = [] ∧
  (∀ a, memRead State.reset.dram.data a = 0) ∧ (∀ line, State.reset.dram.never line = true) ∧
  (∀ i, sget 0 State.reset.alm.active i = 0)

/-- Every step that answers a next state leaves it settled: no action due, nothing kept ungated without a stripe, no
test enable on a gated TEST block (it rests on R43, R44, R46, R61, R344, R354, R393, R403). The model's own: log
entries 1 (one queue, what falls into one cycle), 132 (which bytes are overwritten), DESIGN CHOICE; log entry 17 (when
class actions are taken), DEDUCED. -/
def Obligations.StepsEndSettled : Prop :=
  (∀ s t : State, step s = .next t →
    t.due = [] ∧ (t.running = false → t.clk.ungated = 0) ∧ (t.testEn = true → t.blockGated 6 = false) ∧
    t.cyc.same = false ∧ t.cyc.incsNow = [] ∧ t.cyc.seen = t.seenNow) ∧
  (∀ s : State, s.settle = (s.bar2Flush.dmaFlush.issueHeld.openCycle.takeActions 16).gateAgain.testGate.closeCycle) ∧
  (∀ s : State,
    (s.cyc.same = true → s.openCycle = s) ∧ (s.cyc.same = false → s.openCycle = { s with recent := [] }) ∧
    (s.cyc.seen = s.seenNow → s.logsWritten = s) ∧ (s.cyc.seen ≠ s.seenNow → s.logsWritten = s.rewrites 5) ∧
    s.closeCycle = { s.logsWritten with
      due := []
      cyc := ⟨false, (if s.cyc.same = true then s.cyc.incs else []) ++ s.cyc.incsNow, [], s.seenNow⟩ }) ∧
  (∀ (s : State) (n : Nat),
    (∀ o os, s.due = o :: os →
      s.takeActions (n + 1) =
        (os.foldl (fun (a : State) q => a.takeAction q)
          (({ s with due := [], recent := s.recent ++ s.due } : State).takeAction o)).takeActions n) ∧
    (s.due = [] → s.ledger.fresh ≠ [] → s.takeActions (n + 1) = s.writeFresh.takeActions n) ∧
    (s.due = [] → s.ledger.fresh = [] → s.ledger.topping ≠ [] → s.takeActions (n + 1) = s.topAll.takeActions n) ∧
    (s.due = [] → s.ledger.fresh = [] → s.ledger.topping = [] → s.takeActions n = s))

/-- Every command answers a settled next state in every state; one with operands that nothing can deliver does nothing
(log entry 100) (it rests on 95_what_each_step_holds.md). The model's own: log entries 3 (a row whose condition does
not hold), 100 (operands that nothing delivers, wrong lengths), DESIGN CHOICE. -/
def Obligations.EveryCommandCompletes : Prop :=
  (∀ (c : Instr) (s : State), ∃ t : State, exec c s = .next t ∧ t.Settled) ∧
  (∀ (c : Instr) (s : State), c.wf = false → exec c s = .next s.settle)

/-- The end of a command changes nothing in a quiet state, and an accepted setting changes one register (it rests on
R35, R43, R46, R344, R423). The model's own: log entry 1 (one queue, what falls into one cycle), DESIGN CHOICE. -/
def Obligations.QuietStatesKeepAllElse : Prop :=
  (∀ s : State, s.Quiet → s.settle = { s with recent := [], cyc := { s.cyc with incs := [] } }) ∧
  (∀ (s : State) (a : Acc) (w : BitVec 22) (v : Word), s.Quiet → Taken a (4 * w.toNat) s →
    4 * w.toNat ∈ [Reg.JOB_DESC_LO, Reg.JOB_DESC_HI, Reg.RAST_PROBE_X, Reg.CORR_PROBE_X, Reg.PASS_CTL, Reg.TRK_FE,
      Reg.MOT_TGT_LO, Reg.LDG_ARG, Reg.GOV_BAND_SEL, Reg.BLN_LANE_SEL] →
    ∃ t : State, exec (.registerWrite a w v) s = .next t ∧
      t.reg (4 * w.toNat) = ((v &&& regMask (4 * w.toNat)) ||| (s.reg (4 * w.toNat) &&& ~~~ regMask (4 * w.toNat))) ∧
      (∀ off, off ≠ 4 * w.toNat → t.reg off = s.reg off) ∧
      (∀ addr, memRead t.dram.data addr = memRead s.dram.data addr) ∧
      t.hdrs = s.hdrs ∧ t.nv = s.nv ∧ t.nvCount = s.nvCount ∧ t.ctxs = s.ctxs ∧ t.clk = s.clk ∧ t.ledger = s.ledger ∧
      t.evlog = s.evlog ∧ t.buckets = s.buckets ∧ t.rings = s.rings ∧ t.out = s.out ∧ t.pins = s.pins)

/-- The levels of TRIP_N, SVC_ALERT_N and THERM_N in every state (it rests on R44, R441, R442, R448, R449). The
model's own: log entry 116 (pins without a supply), DESIGN CHOICE. -/
def Obligations.PinsShowTheirConditions : Prop :=
  (∀ s : State, s.svcUp = true →
    (s.tripLow = true ↔
      s.clk.ready = false ∨ s.clk.hold = true ∨ s.clk.svcOnly = true ∨ s.pins.shutdown = true ∨
      ∃ p < 21, ∃ b < 32, wbit (s.hdr p).stat b = true ∧ (s.hdr p).classOf p b = 3) ∧
    (s.alertLow = true ↔
      s.clk.svcOnly = true ∨
      (∃ p < 21, ∃ b < 32, wbit (s.hdr p).stat b = true ∧ 3 ≤ (s.hdr p).classOf p b) ∨
      ∃ p < 21, (s.hdr p).stat &&& (s.hdr p).en ≠ 0 ∧ (s.hdr p).alertEn = true) ∧
    (s.thermLow = true ↔ s.pins.thermHot = true ∨ s.pins.shutdown = true)) ∧
  (∀ s : State, s.svcUp = false → s.tripLow = false ∧ s.alertLow = false ∧ s.thermLow = false)
end

