-- ==== Sys2Proof/Laws/State.lean ====
section
/-!
SUPPORT. Sys2Proof/Laws/State.lean: what each named update of one field leaves in every field of State, and how stored
values read back.
-/

namespace Sys2Proof.Machine

variable (s : State)

/-! ### State.setReg -/

@[simp] theorem State.setReg_pending (off : Nat) (v : Word) : (s.setReg off v).pending = s.pending := by unfold State.setReg; with_reducible rfl
@[simp] theorem State.setReg_due (off : Nat) (v : Word) : (s.setReg off v).due = s.due := by unfold State.setReg; with_reducible rfl
@[simp] theorem State.setReg_recent (off : Nat) (v : Word) : (s.setReg off v).recent = s.recent := by unfold State.setReg; with_reducible rfl
@[simp] theorem State.setReg_cyc (off : Nat) (v : Word) : (s.setReg off v).cyc = s.cyc := by unfold State.setReg; with_reducible rfl
@[simp] theorem State.setReg_ctl (off : Nat) (v : Word) : (s.setReg off v).ctl = s.ctl := by unfold State.setReg; with_reducible rfl
@[simp] theorem State.setReg_out (off : Nat) (v : Word) : (s.setReg off v).out = s.out := by unfold State.setReg; with_reducible rfl
@[simp] theorem State.setReg_draws (off : Nat) (v : Word) : (s.setReg off v).draws = s.draws := by unfold State.setReg; with_reducible rfl
@[simp] theorem State.setReg_tau (off : Nat) (v : Word) : (s.setReg off v).tau = s.tau := by unfold State.setReg; with_reducible rfl
@[simp] theorem State.setReg_regs (off : Nat) (v : Word) : (s.setReg off v).regs = sput (regReset off) s.regs off v := rfl
@[simp] theorem State.setReg_hdrs (off : Nat) (v : Word) : (s.setReg off v).hdrs = s.hdrs := by unfold State.setReg; with_reducible rfl
@[simp] theorem State.setReg_evlog (off : Nat) (v : Word) : (s.setReg off v).evlog = s.evlog := by unfold State.setReg; with_reducible rfl
@[simp] theorem State.setReg_logWr (off : Nat) (v : Word) : (s.setReg off v).logWr = s.logWr := by unfold State.setReg; with_reducible rfl
@[simp] theorem State.setReg_buckets (off : Nat) (v : Word) : (s.setReg off v).buckets = s.buckets := by unfold State.setReg; with_reducible rfl
@[simp] theorem State.setReg_nv (off : Nat) (v : Word) : (s.setReg off v).nv = s.nv := by unfold State.setReg; with_reducible rfl
@[simp] theorem State.setReg_nvCount (off : Nat) (v : Word) : (s.setReg off v).nvCount = s.nvCount := by unfold State.setReg; with_reducible rfl
@[simp] theorem State.setReg_nvSlot (off : Nat) (v : Word) : (s.setReg off v).nvSlot = s.nvSlot := by unfold State.setReg; with_reducible rfl
@[simp] theorem State.setReg_tp (off : Nat) (v : Word) : (s.setReg off v).tp = s.tp := by unfold State.setReg; with_reducible rfl
@[simp] theorem State.setReg_cplData (off : Nat) (v : Word) : (s.setReg off v).cplData = s.cplData := by unfold State.setReg; with_reducible rfl
@[simp] theorem State.setReg_spiData (off : Nat) (v : Word) : (s.setReg off v).spiData = s.spiData := by unfold State.setReg; with_reducible rfl
@[simp] theorem State.setReg_cfgData (off : Nat) (v : Word) : (s.setReg off v).cfgData = s.cfgData := by unfold State.setReg; with_reducible rfl
@[simp] theorem State.setReg_bar2Data (off : Nat) (v : Word) : (s.setReg off v).bar2Data = s.bar2Data := by unfold State.setReg; with_reducible rfl
@[simp] theorem State.setReg_bar2Wait (off : Nat) (v : Word) : (s.setReg off v).bar2Wait = s.bar2Wait := by unfold State.setReg; with_reducible rfl
@[simp] theorem State.setReg_bar4Data (off : Nat) (v : Word) : (s.setReg off v).bar4Data = s.bar4Data := by unfold State.setReg; with_reducible rfl
@[simp] theorem State.setReg_clk (off : Nat) (v : Word) : (s.setReg off v).clk = s.clk := by unfold State.setReg; with_reducible rfl
@[simp] theorem State.setReg_pins (off : Nat) (v : Word) : (s.setReg off v).pins = s.pins := by unfold State.setReg; with_reducible rfl
@[simp] theorem State.setReg_link (off : Nat) (v : Word) : (s.setReg off v).link = s.link := by unfold State.setReg; with_reducible rfl
@[simp] theorem State.setReg_rings (off : Nat) (v : Word) : (s.setReg off v).rings = s.rings := by unfold State.setReg; with_reducible rfl
@[simp] theorem State.setReg_chans (off : Nat) (v : Word) : (s.setReg off v).chans = s.chans := by unfold State.setReg; with_reducible rfl
@[simp] theorem State.setReg_burstNo (off : Nat) (v : Word) : (s.setReg off v).burstNo = s.burstNo := by unfold State.setReg; with_reducible rfl
@[simp] theorem State.setReg_sram (off : Nat) (v : Word) : (s.setReg off v).sram = s.sram := by unfold State.setReg; with_reducible rfl
@[simp] theorem State.setReg_dram (off : Nat) (v : Word) : (s.setReg off v).dram = s.dram := by unfold State.setReg; with_reducible rfl
@[simp] theorem State.setReg_arb (off : Nat) (v : Word) : (s.setReg off v).arb = s.arb := by unfold State.setReg; with_reducible rfl
@[simp] theorem State.setReg_test (off : Nat) (v : Word) : (s.setReg off v).test = s.test := by unfold State.setReg; with_reducible rfl
@[simp] theorem State.setReg_tap (off : Nat) (v : Word) : (s.setReg off v).tap = s.tap := by unfold State.setReg; with_reducible rfl
@[simp] theorem State.setReg_bsr (off : Nat) (v : Word) : (s.setReg off v).bsr = s.bsr := by unfold State.setReg; with_reducible rfl
@[simp] theorem State.setReg_tdo (off : Nat) (v : Word) : (s.setReg off v).tdo = s.tdo := by unfold State.setReg; with_reducible rfl
@[simp] theorem State.setReg_ctxs (off : Nat) (v : Word) : (s.setReg off v).ctxs = s.ctxs := by unfold State.setReg; with_reducible rfl
@[simp] theorem State.setReg_startQ (off : Nat) (v : Word) : (s.setReg off v).startQ = s.startQ := by unfold State.setReg; with_reducible rfl
@[simp] theorem State.setReg_heldQ (off : Nat) (v : Word) : (s.setReg off v).heldQ = s.heldQ := by unfold State.setReg; with_reducible rfl
@[simp] theorem State.setReg_form (off : Nat) (v : Word) : (s.setReg off v).form = s.form := by unfold State.setReg; with_reducible rfl
@[simp] theorem State.setReg_win (off : Nat) (v : Word) : (s.setReg off v).win = s.win := by unfold State.setReg; with_reducible rfl
@[simp] theorem State.setReg_alm (off : Nat) (v : Word) : (s.setReg off v).alm = s.alm := by unfold State.setReg; with_reducible rfl
@[simp] theorem State.setReg_expo (off : Nat) (v : Word) : (s.setReg off v).expo = s.expo := by unfold State.setReg; with_reducible rfl
@[simp] theorem State.setReg_markers (off : Nat) (v : Word) : (s.setReg off v).markers = s.markers := by unfold State.setReg; with_reducible rfl
@[simp] theorem State.setReg_awaits (off : Nat) (v : Word) : (s.setReg off v).awaits = s.awaits := by unfold State.setReg; with_reducible rfl
@[simp] theorem State.setReg_lastS (off : Nat) (v : Word) : (s.setReg off v).lastS = s.lastS := by unfold State.setReg; with_reducible rfl
@[simp] theorem State.setReg_lastF (off : Nat) (v : Word) : (s.setReg off v).lastF = s.lastF := by unfold State.setReg; with_reducible rfl
@[simp] theorem State.setReg_crossings (off : Nat) (v : Word) : (s.setReg off v).crossings = s.crossings := by unfold State.setReg; with_reducible rfl
@[simp] theorem State.setReg_bln (off : Nat) (v : Word) : (s.setReg off v).bln = s.bln := by unfold State.setReg; with_reducible rfl
@[simp] theorem State.setReg_ledger (off : Nat) (v : Word) : (s.setReg off v).ledger = s.ledger := by unfold State.setReg; with_reducible rfl
@[simp] theorem State.setReg_loop (off : Nat) (v : Word) : (s.setReg off v).loop = s.loop := by unfold State.setReg; with_reducible rfl
@[simp] theorem State.setReg_gen (off : Nat) (v : Word) : (s.setReg off v).gen = s.gen := by unfold State.setReg; with_reducible rfl
@[simp] theorem State.setReg_lastSp (off : Nat) (v : Word) : (s.setReg off v).lastSp = s.lastSp := by unfold State.setReg; with_reducible rfl
@[simp] theorem State.setReg_lastDf (off : Nat) (v : Word) : (s.setReg off v).lastDf = s.lastDf := by unfold State.setReg; with_reducible rfl
@[simp] theorem State.setReg_gov (off : Nat) (v : Word) : (s.setReg off v).gov = s.gov := by unfold State.setReg; with_reducible rfl
@[simp] theorem State.setReg_cst (off : Nat) (v : Word) : (s.setReg off v).cst = s.cst := by unfold State.setReg; with_reducible rfl
@[simp] theorem State.setReg_results (off : Nat) (v : Word) : (s.setReg off v).results = s.results := by unfold State.setReg; with_reducible rfl

/-! ### State.setRf -/

@[simp] theorem State.setRf_pending (off lo n v : Nat) : (s.setRf off lo n v).pending = s.pending := by unfold State.setRf State.setReg; with_reducible rfl
@[simp] theorem State.setRf_due (off lo n v : Nat) : (s.setRf off lo n v).due = s.due := by unfold State.setRf State.setReg; with_reducible rfl
@[simp] theorem State.setRf_recent (off lo n v : Nat) : (s.setRf off lo n v).recent = s.recent := by unfold State.setRf State.setReg; with_reducible rfl
@[simp] theorem State.setRf_cyc (off lo n v : Nat) : (s.setRf off lo n v).cyc = s.cyc := by unfold State.setRf State.setReg; with_reducible rfl
@[simp] theorem State.setRf_ctl (off lo n v : Nat) : (s.setRf off lo n v).ctl = s.ctl := by unfold State.setRf State.setReg; with_reducible rfl
@[simp] theorem State.setRf_out (off lo n v : Nat) : (s.setRf off lo n v).out = s.out := by unfold State.setRf State.setReg; with_reducible rfl
@[simp] theorem State.setRf_draws (off lo n v : Nat) : (s.setRf off lo n v).draws = s.draws := by unfold State.setRf State.setReg; with_reducible rfl
@[simp] theorem State.setRf_tau (off lo n v : Nat) : (s.setRf off lo n v).tau = s.tau := by unfold State.setRf State.setReg; with_reducible rfl
@[simp] theorem State.setRf_hdrs (off lo n v : Nat) : (s.setRf off lo n v).hdrs = s.hdrs := by unfold State.setRf State.setReg; with_reducible rfl
@[simp] theorem State.setRf_evlog (off lo n v : Nat) : (s.setRf off lo n v).evlog = s.evlog := by unfold State.setRf State.setReg; with_reducible rfl
@[simp] theorem State.setRf_logWr (off lo n v : Nat) : (s.setRf off lo n v).logWr = s.logWr := by unfold State.setRf State.setReg; with_reducible rfl
@[simp] theorem State.setRf_buckets (off lo n v : Nat) : (s.setRf off lo n v).buckets = s.buckets := by unfold State.setRf State.setReg; with_reducible rfl
@[simp] theorem State.setRf_nv (off lo n v : Nat) : (s.setRf off lo n v).nv = s.nv := by unfold State.setRf State.setReg; with_reducible rfl
@[simp] theorem State.setRf_nvCount (off lo n v : Nat) : (s.setRf off lo n v).nvCount = s.nvCount := by unfold State.setRf State.setReg; with_reducible rfl
@[simp] theorem State.setRf_nvSlot (off lo n v : Nat) : (s.setRf off lo n v).nvSlot = s.nvSlot := by unfold State.setRf State.setReg; with_reducible rfl
@[simp] theorem State.setRf_tp (off lo n v : Nat) : (s.setRf off lo n v).tp = s.tp := by unfold State.setRf State.setReg; with_reducible rfl
@[simp] theorem State.setRf_cplData (off lo n v : Nat) : (s.setRf off lo n v).cplData = s.cplData := by unfold State.setRf State.setReg; with_reducible rfl
@[simp] theorem State.setRf_spiData (off lo n v : Nat) : (s.setRf off lo n v).spiData = s.spiData := by unfold State.setRf State.setReg; with_reducible rfl
@[simp] theorem State.setRf_cfgData (off lo n v : Nat) : (s.setRf off lo n v).cfgData = s.cfgData := by unfold State.setRf State.setReg; with_reducible rfl
@[simp] theorem State.setRf_bar2Data (off lo n v : Nat) : (s.setRf off lo n v).bar2Data = s.bar2Data := by unfold State.setRf State.setReg; with_reducible rfl
@[simp] theorem State.setRf_bar2Wait (off lo n v : Nat) : (s.setRf off lo n v).bar2Wait = s.bar2Wait := by unfold State.setRf State.setReg; with_reducible rfl
@[simp] theorem State.setRf_bar4Data (off lo n v : Nat) : (s.setRf off lo n v).bar4Data = s.bar4Data := by unfold State.setRf State.setReg; with_reducible rfl
@[simp] theorem State.setRf_clk (off lo n v : Nat) : (s.setRf off lo n v).clk = s.clk := by unfold State.setRf State.setReg; with_reducible rfl
@[simp] theorem State.setRf_pins (off lo n v : Nat) : (s.setRf off lo n v).pins = s.pins := by unfold State.setRf State.setReg; with_reducible rfl
@[simp] theorem State.setRf_link (off lo n v : Nat) : (s.setRf off lo n v).link = s.link := by unfold State.setRf State.setReg; with_reducible rfl
@[simp] theorem State.setRf_rings (off lo n v : Nat) : (s.setRf off lo n v).rings = s.rings := by unfold State.setRf State.setReg; with_reducible rfl
@[simp] theorem State.setRf_chans (off lo n v : Nat) : (s.setRf off lo n v).chans = s.chans := by unfold State.setRf State.setReg; with_reducible rfl
@[simp] theorem State.setRf_burstNo (off lo n v : Nat) : (s.setRf off lo n v).burstNo = s.burstNo := by unfold State.setRf State.setReg; with_reducible rfl
@[simp] theorem State.setRf_sram (off lo n v : Nat) : (s.setRf off lo n v).sram = s.sram := by unfold State.setRf State.setReg; with_reducible rfl
@[simp] theorem State.setRf_dram (off lo n v : Nat) : (s.setRf off lo n v).dram = s.dram := by unfold State.setRf State.setReg; with_reducible rfl
@[simp] theorem State.setRf_arb (off lo n v : Nat) : (s.setRf off lo n v).arb = s.arb := by unfold State.setRf State.setReg; with_reducible rfl
@[simp] theorem State.setRf_test (off lo n v : Nat) : (s.setRf off lo n v).test = s.test := by unfold State.setRf State.setReg; with_reducible rfl
@[simp] theorem State.setRf_tap (off lo n v : Nat) : (s.setRf off lo n v).tap = s.tap := by unfold State.setRf State.setReg; with_reducible rfl
@[simp] theorem State.setRf_bsr (off lo n v : Nat) : (s.setRf off lo n v).bsr = s.bsr := by unfold State.setRf State.setReg; with_reducible rfl
@[simp] theorem State.setRf_tdo (off lo n v : Nat) : (s.setRf off lo n v).tdo = s.tdo := by unfold State.setRf State.setReg; with_reducible rfl
@[simp] theorem State.setRf_ctxs (off lo n v : Nat) : (s.setRf off lo n v).ctxs = s.ctxs := by unfold State.setRf State.setReg; with_reducible rfl
@[simp] theorem State.setRf_startQ (off lo n v : Nat) : (s.setRf off lo n v).startQ = s.startQ := by unfold State.setRf State.setReg; with_reducible rfl
@[simp] theorem State.setRf_heldQ (off lo n v : Nat) : (s.setRf off lo n v).heldQ = s.heldQ := by unfold State.setRf State.setReg; with_reducible rfl
@[simp] theorem State.setRf_form (off lo n v : Nat) : (s.setRf off lo n v).form = s.form := by unfold State.setRf State.setReg; with_reducible rfl
@[simp] theorem State.setRf_win (off lo n v : Nat) : (s.setRf off lo n v).win = s.win := by unfold State.setRf State.setReg; with_reducible rfl
@[simp] theorem State.setRf_alm (off lo n v : Nat) : (s.setRf off lo n v).alm = s.alm := by unfold State.setRf State.setReg; with_reducible rfl
@[simp] theorem State.setRf_expo (off lo n v : Nat) : (s.setRf off lo n v).expo = s.expo := by unfold State.setRf State.setReg; with_reducible rfl
@[simp] theorem State.setRf_markers (off lo n v : Nat) : (s.setRf off lo n v).markers = s.markers := by unfold State.setRf State.setReg; with_reducible rfl
@[simp] theorem State.setRf_awaits (off lo n v : Nat) : (s.setRf off lo n v).awaits = s.awaits := by unfold State.setRf State.setReg; with_reducible rfl
@[simp] theorem State.setRf_lastS (off lo n v : Nat) : (s.setRf off lo n v).lastS = s.lastS := by unfold State.setRf State.setReg; with_reducible rfl
@[simp] theorem State.setRf_lastF (off lo n v : Nat) : (s.setRf off lo n v).lastF = s.lastF := by unfold State.setRf State.setReg; with_reducible rfl
@[simp] theorem State.setRf_crossings (off lo n v : Nat) : (s.setRf off lo n v).crossings = s.crossings := by unfold State.setRf State.setReg; with_reducible rfl
@[simp] theorem State.setRf_bln (off lo n v : Nat) : (s.setRf off lo n v).bln = s.bln := by unfold State.setRf State.setReg; with_reducible rfl
@[simp] theorem State.setRf_ledger (off lo n v : Nat) : (s.setRf off lo n v).ledger = s.ledger := by unfold State.setRf State.setReg; with_reducible rfl
@[simp] theorem State.setRf_loop (off lo n v : Nat) : (s.setRf off lo n v).loop = s.loop := by unfold State.setRf State.setReg; with_reducible rfl
@[simp] theorem State.setRf_gen (off lo n v : Nat) : (s.setRf off lo n v).gen = s.gen := by unfold State.setRf State.setReg; with_reducible rfl
@[simp] theorem State.setRf_lastSp (off lo n v : Nat) : (s.setRf off lo n v).lastSp = s.lastSp := by unfold State.setRf State.setReg; with_reducible rfl
@[simp] theorem State.setRf_lastDf (off lo n v : Nat) : (s.setRf off lo n v).lastDf = s.lastDf := by unfold State.setRf State.setReg; with_reducible rfl
@[simp] theorem State.setRf_gov (off lo n v : Nat) : (s.setRf off lo n v).gov = s.gov := by unfold State.setRf State.setReg; with_reducible rfl
@[simp] theorem State.setRf_cst (off lo n v : Nat) : (s.setRf off lo n v).cst = s.cst := by unfold State.setRf State.setReg; with_reducible rfl
@[simp] theorem State.setRf_results (off lo n v : Nat) : (s.setRf off lo n v).results = s.results := by unfold State.setRf State.setReg; with_reducible rfl

/-! ### State.addCnt -/

@[simp] theorem State.addCnt_pending (off n : Nat) : (s.addCnt off n).pending = s.pending := by unfold State.addCnt State.setReg; with_reducible rfl
@[simp] theorem State.addCnt_due (off n : Nat) : (s.addCnt off n).due = s.due := by unfold State.addCnt State.setReg; with_reducible rfl
@[simp] theorem State.addCnt_recent (off n : Nat) : (s.addCnt off n).recent = s.recent := by unfold State.addCnt State.setReg; with_reducible rfl
@[simp] theorem State.addCnt_cyc (off n : Nat) : (s.addCnt off n).cyc = s.cyc := by unfold State.addCnt State.setReg; with_reducible rfl
@[simp] theorem State.addCnt_ctl (off n : Nat) : (s.addCnt off n).ctl = s.ctl := by unfold State.addCnt State.setReg; with_reducible rfl
@[simp] theorem State.addCnt_out (off n : Nat) : (s.addCnt off n).out = s.out := by unfold State.addCnt State.setReg; with_reducible rfl
@[simp] theorem State.addCnt_draws (off n : Nat) : (s.addCnt off n).draws = s.draws := by unfold State.addCnt State.setReg; with_reducible rfl
@[simp] theorem State.addCnt_tau (off n : Nat) : (s.addCnt off n).tau = s.tau := by unfold State.addCnt State.setReg; with_reducible rfl
@[simp] theorem State.addCnt_hdrs (off n : Nat) : (s.addCnt off n).hdrs = s.hdrs := by unfold State.addCnt State.setReg; with_reducible rfl
@[simp] theorem State.addCnt_evlog (off n : Nat) : (s.addCnt off n).evlog = s.evlog := by unfold State.addCnt State.setReg; with_reducible rfl
@[simp] theorem State.addCnt_logWr (off n : Nat) : (s.addCnt off n).logWr = s.logWr := by unfold State.addCnt State.setReg; with_reducible rfl
@[simp] theorem State.addCnt_buckets (off n : Nat) : (s.addCnt off n).buckets = s.buckets := by unfold State.addCnt State.setReg; with_reducible rfl
@[simp] theorem State.addCnt_nv (off n : Nat) : (s.addCnt off n).nv = s.nv := by unfold State.addCnt State.setReg; with_reducible rfl
@[simp] theorem State.addCnt_nvCount (off n : Nat) : (s.addCnt off n).nvCount = s.nvCount := by unfold State.addCnt State.setReg; with_reducible rfl
@[simp] theorem State.addCnt_nvSlot (off n : Nat) : (s.addCnt off n).nvSlot = s.nvSlot := by unfold State.addCnt State.setReg; with_reducible rfl
@[simp] theorem State.addCnt_tp (off n : Nat) : (s.addCnt off n).tp = s.tp := by unfold State.addCnt State.setReg; with_reducible rfl
@[simp] theorem State.addCnt_cplData (off n : Nat) : (s.addCnt off n).cplData = s.cplData := by unfold State.addCnt State.setReg; with_reducible rfl
@[simp] theorem State.addCnt_spiData (off n : Nat) : (s.addCnt off n).spiData = s.spiData := by unfold State.addCnt State.setReg; with_reducible rfl
@[simp] theorem State.addCnt_cfgData (off n : Nat) : (s.addCnt off n).cfgData = s.cfgData := by unfold State.addCnt State.setReg; with_reducible rfl
@[simp] theorem State.addCnt_bar2Data (off n : Nat) : (s.addCnt off n).bar2Data = s.bar2Data := by unfold State.addCnt State.setReg; with_reducible rfl
@[simp] theorem State.addCnt_bar2Wait (off n : Nat) : (s.addCnt off n).bar2Wait = s.bar2Wait := by unfold State.addCnt State.setReg; with_reducible rfl
@[simp] theorem State.addCnt_bar4Data (off n : Nat) : (s.addCnt off n).bar4Data = s.bar4Data := by unfold State.addCnt State.setReg; with_reducible rfl
@[simp] theorem State.addCnt_clk (off n : Nat) : (s.addCnt off n).clk = s.clk := by unfold State.addCnt State.setReg; with_reducible rfl
@[simp] theorem State.addCnt_pins (off n : Nat) : (s.addCnt off n).pins = s.pins := by unfold State.addCnt State.setReg; with_reducible rfl
@[simp] theorem State.addCnt_link (off n : Nat) : (s.addCnt off n).link = s.link := by unfold State.addCnt State.setReg; with_reducible rfl
@[simp] theorem State.addCnt_rings (off n : Nat) : (s.addCnt off n).rings = s.rings := by unfold State.addCnt State.setReg; with_reducible rfl
@[simp] theorem State.addCnt_chans (off n : Nat) : (s.addCnt off n).chans = s.chans := by unfold State.addCnt State.setReg; with_reducible rfl
@[simp] theorem State.addCnt_burstNo (off n : Nat) : (s.addCnt off n).burstNo = s.burstNo := by unfold State.addCnt State.setReg; with_reducible rfl
@[simp] theorem State.addCnt_sram (off n : Nat) : (s.addCnt off n).sram = s.sram := by unfold State.addCnt State.setReg; with_reducible rfl
@[simp] theorem State.addCnt_dram (off n : Nat) : (s.addCnt off n).dram = s.dram := by unfold State.addCnt State.setReg; with_reducible rfl
@[simp] theorem State.addCnt_arb (off n : Nat) : (s.addCnt off n).arb = s.arb := by unfold State.addCnt State.setReg; with_reducible rfl
@[simp] theorem State.addCnt_test (off n : Nat) : (s.addCnt off n).test = s.test := by unfold State.addCnt State.setReg; with_reducible rfl
@[simp] theorem State.addCnt_tap (off n : Nat) : (s.addCnt off n).tap = s.tap := by unfold State.addCnt State.setReg; with_reducible rfl
@[simp] theorem State.addCnt_bsr (off n : Nat) : (s.addCnt off n).bsr = s.bsr := by unfold State.addCnt State.setReg; with_reducible rfl
@[simp] theorem State.addCnt_tdo (off n : Nat) : (s.addCnt off n).tdo = s.tdo := by unfold State.addCnt State.setReg; with_reducible rfl
@[simp] theorem State.addCnt_ctxs (off n : Nat) : (s.addCnt off n).ctxs = s.ctxs := by unfold State.addCnt State.setReg; with_reducible rfl
@[simp] theorem State.addCnt_startQ (off n : Nat) : (s.addCnt off n).startQ = s.startQ := by unfold State.addCnt State.setReg; with_reducible rfl
@[simp] theorem State.addCnt_heldQ (off n : Nat) : (s.addCnt off n).heldQ = s.heldQ := by unfold State.addCnt State.setReg; with_reducible rfl
@[simp] theorem State.addCnt_form (off n : Nat) : (s.addCnt off n).form = s.form := by unfold State.addCnt State.setReg; with_reducible rfl
@[simp] theorem State.addCnt_win (off n : Nat) : (s.addCnt off n).win = s.win := by unfold State.addCnt State.setReg; with_reducible rfl
@[simp] theorem State.addCnt_alm (off n : Nat) : (s.addCnt off n).alm = s.alm := by unfold State.addCnt State.setReg; with_reducible rfl
@[simp] theorem State.addCnt_expo (off n : Nat) : (s.addCnt off n).expo = s.expo := by unfold State.addCnt State.setReg; with_reducible rfl
@[simp] theorem State.addCnt_markers (off n : Nat) : (s.addCnt off n).markers = s.markers := by unfold State.addCnt State.setReg; with_reducible rfl
@[simp] theorem State.addCnt_awaits (off n : Nat) : (s.addCnt off n).awaits = s.awaits := by unfold State.addCnt State.setReg; with_reducible rfl
@[simp] theorem State.addCnt_lastS (off n : Nat) : (s.addCnt off n).lastS = s.lastS := by unfold State.addCnt State.setReg; with_reducible rfl
@[simp] theorem State.addCnt_lastF (off n : Nat) : (s.addCnt off n).lastF = s.lastF := by unfold State.addCnt State.setReg; with_reducible rfl
@[simp] theorem State.addCnt_crossings (off n : Nat) : (s.addCnt off n).crossings = s.crossings := by unfold State.addCnt State.setReg; with_reducible rfl
@[simp] theorem State.addCnt_bln (off n : Nat) : (s.addCnt off n).bln = s.bln := by unfold State.addCnt State.setReg; with_reducible rfl
@[simp] theorem State.addCnt_ledger (off n : Nat) : (s.addCnt off n).ledger = s.ledger := by unfold State.addCnt State.setReg; with_reducible rfl
@[simp] theorem State.addCnt_loop (off n : Nat) : (s.addCnt off n).loop = s.loop := by unfold State.addCnt State.setReg; with_reducible rfl
@[simp] theorem State.addCnt_gen (off n : Nat) : (s.addCnt off n).gen = s.gen := by unfold State.addCnt State.setReg; with_reducible rfl
@[simp] theorem State.addCnt_lastSp (off n : Nat) : (s.addCnt off n).lastSp = s.lastSp := by unfold State.addCnt State.setReg; with_reducible rfl
@[simp] theorem State.addCnt_lastDf (off n : Nat) : (s.addCnt off n).lastDf = s.lastDf := by unfold State.addCnt State.setReg; with_reducible rfl
@[simp] theorem State.addCnt_gov (off n : Nat) : (s.addCnt off n).gov = s.gov := by unfold State.addCnt State.setReg; with_reducible rfl
@[simp] theorem State.addCnt_cst (off n : Nat) : (s.addCnt off n).cst = s.cst := by unfold State.addCnt State.setReg; with_reducible rfl
@[simp] theorem State.addCnt_results (off n : Nat) : (s.addCnt off n).results = s.results := by unfold State.addCnt State.setReg; with_reducible rfl

/-! ### State.bump -/

@[simp] theorem State.bump_pending (off : Nat) : (s.bump off).pending = s.pending := by unfold State.bump State.addCnt State.setReg; with_reducible rfl
@[simp] theorem State.bump_due (off : Nat) : (s.bump off).due = s.due := by unfold State.bump State.addCnt State.setReg; with_reducible rfl
@[simp] theorem State.bump_recent (off : Nat) : (s.bump off).recent = s.recent := by unfold State.bump State.addCnt State.setReg; with_reducible rfl
@[simp] theorem State.bump_cyc (off : Nat) : (s.bump off).cyc = s.cyc := by unfold State.bump State.addCnt State.setReg; with_reducible rfl
@[simp] theorem State.bump_ctl (off : Nat) : (s.bump off).ctl = s.ctl := by unfold State.bump State.addCnt State.setReg; with_reducible rfl
@[simp] theorem State.bump_out (off : Nat) : (s.bump off).out = s.out := by unfold State.bump State.addCnt State.setReg; with_reducible rfl
@[simp] theorem State.bump_draws (off : Nat) : (s.bump off).draws = s.draws := by unfold State.bump State.addCnt State.setReg; with_reducible rfl
@[simp] theorem State.bump_tau (off : Nat) : (s.bump off).tau = s.tau := by unfold State.bump State.addCnt State.setReg; with_reducible rfl
@[simp] theorem State.bump_hdrs (off : Nat) : (s.bump off).hdrs = s.hdrs := by unfold State.bump State.addCnt State.setReg; with_reducible rfl
@[simp] theorem State.bump_evlog (off : Nat) : (s.bump off).evlog = s.evlog := by unfold State.bump State.addCnt State.setReg; with_reducible rfl
@[simp] theorem State.bump_logWr (off : Nat) : (s.bump off).logWr = s.logWr := by unfold State.bump State.addCnt State.setReg; with_reducible rfl
@[simp] theorem State.bump_buckets (off : Nat) : (s.bump off).buckets = s.buckets := by unfold State.bump State.addCnt State.setReg; with_reducible rfl
@[simp] theorem State.bump_nv (off : Nat) : (s.bump off).nv = s.nv := by unfold State.bump State.addCnt State.setReg; with_reducible rfl
@[simp] theorem State.bump_nvCount (off : Nat) : (s.bump off).nvCount = s.nvCount := by unfold State.bump State.addCnt State.setReg; with_reducible rfl
@[simp] theorem State.bump_nvSlot (off : Nat) : (s.bump off).nvSlot = s.nvSlot := by unfold State.bump State.addCnt State.setReg; with_reducible rfl
@[simp] theorem State.bump_tp (off : Nat) : (s.bump off).tp = s.tp := by unfold State.bump State.addCnt State.setReg; with_reducible rfl
@[simp] theorem State.bump_cplData (off : Nat) : (s.bump off).cplData = s.cplData := by unfold State.bump State.addCnt State.setReg; with_reducible rfl
@[simp] theorem State.bump_spiData (off : Nat) : (s.bump off).spiData = s.spiData := by unfold State.bump State.addCnt State.setReg; with_reducible rfl
@[simp] theorem State.bump_cfgData (off : Nat) : (s.bump off).cfgData = s.cfgData := by unfold State.bump State.addCnt State.setReg; with_reducible rfl
@[simp] theorem State.bump_bar2Data (off : Nat) : (s.bump off).bar2Data = s.bar2Data := by unfold State.bump State.addCnt State.setReg; with_reducible rfl
@[simp] theorem State.bump_bar2Wait (off : Nat) : (s.bump off).bar2Wait = s.bar2Wait := by unfold State.bump State.addCnt State.setReg; with_reducible rfl
@[simp] theorem State.bump_bar4Data (off : Nat) : (s.bump off).bar4Data = s.bar4Data := by unfold State.bump State.addCnt State.setReg; with_reducible rfl
@[simp] theorem State.bump_clk (off : Nat) : (s.bump off).clk = s.clk := by unfold State.bump State.addCnt State.setReg; with_reducible rfl
@[simp] theorem State.bump_pins (off : Nat) : (s.bump off).pins = s.pins := by unfold State.bump State.addCnt State.setReg; with_reducible rfl
@[simp] theorem State.bump_link (off : Nat) : (s.bump off).link = s.link := by unfold State.bump State.addCnt State.setReg; with_reducible rfl
@[simp] theorem State.bump_rings (off : Nat) : (s.bump off).rings = s.rings := by unfold State.bump State.addCnt State.setReg; with_reducible rfl
@[simp] theorem State.bump_chans (off : Nat) : (s.bump off).chans = s.chans := by unfold State.bump State.addCnt State.setReg; with_reducible rfl
@[simp] theorem State.bump_burstNo (off : Nat) : (s.bump off).burstNo = s.burstNo := by unfold State.bump State.addCnt State.setReg; with_reducible rfl
@[simp] theorem State.bump_sram (off : Nat) : (s.bump off).sram = s.sram := by unfold State.bump State.addCnt State.setReg; with_reducible rfl
@[simp] theorem State.bump_dram (off : Nat) : (s.bump off).dram = s.dram := by unfold State.bump State.addCnt State.setReg; with_reducible rfl
@[simp] theorem State.bump_arb (off : Nat) : (s.bump off).arb = s.arb := by unfold State.bump State.addCnt State.setReg; with_reducible rfl
@[simp] theorem State.bump_test (off : Nat) : (s.bump off).test = s.test := by unfold State.bump State.addCnt State.setReg; with_reducible rfl
@[simp] theorem State.bump_tap (off : Nat) : (s.bump off).tap = s.tap := by unfold State.bump State.addCnt State.setReg; with_reducible rfl
@[simp] theorem State.bump_bsr (off : Nat) : (s.bump off).bsr = s.bsr := by unfold State.bump State.addCnt State.setReg; with_reducible rfl
@[simp] theorem State.bump_tdo (off : Nat) : (s.bump off).tdo = s.tdo := by unfold State.bump State.addCnt State.setReg; with_reducible rfl
@[simp] theorem State.bump_ctxs (off : Nat) : (s.bump off).ctxs = s.ctxs := by unfold State.bump State.addCnt State.setReg; with_reducible rfl
@[simp] theorem State.bump_startQ (off : Nat) : (s.bump off).startQ = s.startQ := by unfold State.bump State.addCnt State.setReg; with_reducible rfl
@[simp] theorem State.bump_heldQ (off : Nat) : (s.bump off).heldQ = s.heldQ := by unfold State.bump State.addCnt State.setReg; with_reducible rfl
@[simp] theorem State.bump_form (off : Nat) : (s.bump off).form = s.form := by unfold State.bump State.addCnt State.setReg; with_reducible rfl
@[simp] theorem State.bump_win (off : Nat) : (s.bump off).win = s.win := by unfold State.bump State.addCnt State.setReg; with_reducible rfl
@[simp] theorem State.bump_alm (off : Nat) : (s.bump off).alm = s.alm := by unfold State.bump State.addCnt State.setReg; with_reducible rfl
@[simp] theorem State.bump_expo (off : Nat) : (s.bump off).expo = s.expo := by unfold State.bump State.addCnt State.setReg; with_reducible rfl
@[simp] theorem State.bump_markers (off : Nat) : (s.bump off).markers = s.markers := by unfold State.bump State.addCnt State.setReg; with_reducible rfl
@[simp] theorem State.bump_awaits (off : Nat) : (s.bump off).awaits = s.awaits := by unfold State.bump State.addCnt State.setReg; with_reducible rfl
@[simp] theorem State.bump_lastS (off : Nat) : (s.bump off).lastS = s.lastS := by unfold State.bump State.addCnt State.setReg; with_reducible rfl
@[simp] theorem State.bump_lastF (off : Nat) : (s.bump off).lastF = s.lastF := by unfold State.bump State.addCnt State.setReg; with_reducible rfl
@[simp] theorem State.bump_crossings (off : Nat) : (s.bump off).crossings = s.crossings := by unfold State.bump State.addCnt State.setReg; with_reducible rfl
@[simp] theorem State.bump_bln (off : Nat) : (s.bump off).bln = s.bln := by unfold State.bump State.addCnt State.setReg; with_reducible rfl
@[simp] theorem State.bump_ledger (off : Nat) : (s.bump off).ledger = s.ledger := by unfold State.bump State.addCnt State.setReg; with_reducible rfl
@[simp] theorem State.bump_loop (off : Nat) : (s.bump off).loop = s.loop := by unfold State.bump State.addCnt State.setReg; with_reducible rfl
@[simp] theorem State.bump_gen (off : Nat) : (s.bump off).gen = s.gen := by unfold State.bump State.addCnt State.setReg; with_reducible rfl
@[simp] theorem State.bump_lastSp (off : Nat) : (s.bump off).lastSp = s.lastSp := by unfold State.bump State.addCnt State.setReg; with_reducible rfl
@[simp] theorem State.bump_lastDf (off : Nat) : (s.bump off).lastDf = s.lastDf := by unfold State.bump State.addCnt State.setReg; with_reducible rfl
@[simp] theorem State.bump_gov (off : Nat) : (s.bump off).gov = s.gov := by unfold State.bump State.addCnt State.setReg; with_reducible rfl
@[simp] theorem State.bump_cst (off : Nat) : (s.bump off).cst = s.cst := by unfold State.bump State.addCnt State.setReg; with_reducible rfl
@[simp] theorem State.bump_results (off : Nat) : (s.bump off).results = s.results := by unfold State.bump State.addCnt State.setReg; with_reducible rfl

/-! ### State.writeRw -/

@[simp] theorem State.writeRw_pending (off : Nat) (v : Word) : (s.writeRw off v).pending = s.pending := by unfold State.writeRw State.setReg; with_reducible rfl
@[simp] theorem State.writeRw_due (off : Nat) (v : Word) : (s.writeRw off v).due = s.due := by unfold State.writeRw State.setReg; with_reducible rfl
@[simp] theorem State.writeRw_recent (off : Nat) (v : Word) : (s.writeRw off v).recent = s.recent := by unfold State.writeRw State.setReg; with_reducible rfl
@[simp] theorem State.writeRw_cyc (off : Nat) (v : Word) : (s.writeRw off v).cyc = s.cyc := by unfold State.writeRw State.setReg; with_reducible rfl
@[simp] theorem State.writeRw_ctl (off : Nat) (v : Word) : (s.writeRw off v).ctl = s.ctl := by unfold State.writeRw State.setReg; with_reducible rfl
@[simp] theorem State.writeRw_out (off : Nat) (v : Word) : (s.writeRw off v).out = s.out := by unfold State.writeRw State.setReg; with_reducible rfl
@[simp] theorem State.writeRw_draws (off : Nat) (v : Word) : (s.writeRw off v).draws = s.draws := by unfold State.writeRw State.setReg; with_reducible rfl
@[simp] theorem State.writeRw_tau (off : Nat) (v : Word) : (s.writeRw off v).tau = s.tau := by unfold State.writeRw State.setReg; with_reducible rfl
@[simp] theorem State.writeRw_hdrs (off : Nat) (v : Word) : (s.writeRw off v).hdrs = s.hdrs := by unfold State.writeRw State.setReg; with_reducible rfl
@[simp] theorem State.writeRw_evlog (off : Nat) (v : Word) : (s.writeRw off v).evlog = s.evlog := by unfold State.writeRw State.setReg; with_reducible rfl
@[simp] theorem State.writeRw_logWr (off : Nat) (v : Word) : (s.writeRw off v).logWr = s.logWr := by unfold State.writeRw State.setReg; with_reducible rfl
@[simp] theorem State.writeRw_buckets (off : Nat) (v : Word) : (s.writeRw off v).buckets = s.buckets := by unfold State.writeRw State.setReg; with_reducible rfl
@[simp] theorem State.writeRw_nv (off : Nat) (v : Word) : (s.writeRw off v).nv = s.nv := by unfold State.writeRw State.setReg; with_reducible rfl
@[simp] theorem State.writeRw_nvCount (off : Nat) (v : Word) : (s.writeRw off v).nvCount = s.nvCount := by unfold State.writeRw State.setReg; with_reducible rfl
@[simp] theorem State.writeRw_nvSlot (off : Nat) (v : Word) : (s.writeRw off v).nvSlot = s.nvSlot := by unfold State.writeRw State.setReg; with_reducible rfl
@[simp] theorem State.writeRw_tp (off : Nat) (v : Word) : (s.writeRw off v).tp = s.tp := by unfold State.writeRw State.setReg; with_reducible rfl
@[simp] theorem State.writeRw_cplData (off : Nat) (v : Word) : (s.writeRw off v).cplData = s.cplData := by unfold State.writeRw State.setReg; with_reducible rfl
@[simp] theorem State.writeRw_spiData (off : Nat) (v : Word) : (s.writeRw off v).spiData = s.spiData := by unfold State.writeRw State.setReg; with_reducible rfl
@[simp] theorem State.writeRw_cfgData (off : Nat) (v : Word) : (s.writeRw off v).cfgData = s.cfgData := by unfold State.writeRw State.setReg; with_reducible rfl
@[simp] theorem State.writeRw_bar2Data (off : Nat) (v : Word) : (s.writeRw off v).bar2Data = s.bar2Data := by unfold State.writeRw State.setReg; with_reducible rfl
@[simp] theorem State.writeRw_bar2Wait (off : Nat) (v : Word) : (s.writeRw off v).bar2Wait = s.bar2Wait := by unfold State.writeRw State.setReg; with_reducible rfl
@[simp] theorem State.writeRw_bar4Data (off : Nat) (v : Word) : (s.writeRw off v).bar4Data = s.bar4Data := by unfold State.writeRw State.setReg; with_reducible rfl
@[simp] theorem State.writeRw_clk (off : Nat) (v : Word) : (s.writeRw off v).clk = s.clk := by unfold State.writeRw State.setReg; with_reducible rfl
@[simp] theorem State.writeRw_pins (off : Nat) (v : Word) : (s.writeRw off v).pins = s.pins := by unfold State.writeRw State.setReg; with_reducible rfl
@[simp] theorem State.writeRw_link (off : Nat) (v : Word) : (s.writeRw off v).link = s.link := by unfold State.writeRw State.setReg; with_reducible rfl
@[simp] theorem State.writeRw_rings (off : Nat) (v : Word) : (s.writeRw off v).rings = s.rings := by unfold State.writeRw State.setReg; with_reducible rfl
@[simp] theorem State.writeRw_chans (off : Nat) (v : Word) : (s.writeRw off v).chans = s.chans := by unfold State.writeRw State.setReg; with_reducible rfl
@[simp] theorem State.writeRw_burstNo (off : Nat) (v : Word) : (s.writeRw off v).burstNo = s.burstNo := by unfold State.writeRw State.setReg; with_reducible rfl
@[simp] theorem State.writeRw_sram (off : Nat) (v : Word) : (s.writeRw off v).sram = s.sram := by unfold State.writeRw State.setReg; with_reducible rfl
@[simp] theorem State.writeRw_dram (off : Nat) (v : Word) : (s.writeRw off v).dram = s.dram := by unfold State.writeRw State.setReg; with_reducible rfl
@[simp] theorem State.writeRw_arb (off : Nat) (v : Word) : (s.writeRw off v).arb = s.arb := by unfold State.writeRw State.setReg; with_reducible rfl
@[simp] theorem State.writeRw_test (off : Nat) (v : Word) : (s.writeRw off v).test = s.test := by unfold State.writeRw State.setReg; with_reducible rfl
@[simp] theorem State.writeRw_tap (off : Nat) (v : Word) : (s.writeRw off v).tap = s.tap := by unfold State.writeRw State.setReg; with_reducible rfl
@[simp] theorem State.writeRw_bsr (off : Nat) (v : Word) : (s.writeRw off v).bsr = s.bsr := by unfold State.writeRw State.setReg; with_reducible rfl
@[simp] theorem State.writeRw_tdo (off : Nat) (v : Word) : (s.writeRw off v).tdo = s.tdo := by unfold State.writeRw State.setReg; with_reducible rfl
@[simp] theorem State.writeRw_ctxs (off : Nat) (v : Word) : (s.writeRw off v).ctxs = s.ctxs := by unfold State.writeRw State.setReg; with_reducible rfl
@[simp] theorem State.writeRw_startQ (off : Nat) (v : Word) : (s.writeRw off v).startQ = s.startQ := by unfold State.writeRw State.setReg; with_reducible rfl
@[simp] theorem State.writeRw_heldQ (off : Nat) (v : Word) : (s.writeRw off v).heldQ = s.heldQ := by unfold State.writeRw State.setReg; with_reducible rfl
@[simp] theorem State.writeRw_form (off : Nat) (v : Word) : (s.writeRw off v).form = s.form := by unfold State.writeRw State.setReg; with_reducible rfl
@[simp] theorem State.writeRw_win (off : Nat) (v : Word) : (s.writeRw off v).win = s.win := by unfold State.writeRw State.setReg; with_reducible rfl
@[simp] theorem State.writeRw_alm (off : Nat) (v : Word) : (s.writeRw off v).alm = s.alm := by unfold State.writeRw State.setReg; with_reducible rfl
@[simp] theorem State.writeRw_expo (off : Nat) (v : Word) : (s.writeRw off v).expo = s.expo := by unfold State.writeRw State.setReg; with_reducible rfl
@[simp] theorem State.writeRw_markers (off : Nat) (v : Word) : (s.writeRw off v).markers = s.markers := by unfold State.writeRw State.setReg; with_reducible rfl
@[simp] theorem State.writeRw_awaits (off : Nat) (v : Word) : (s.writeRw off v).awaits = s.awaits := by unfold State.writeRw State.setReg; with_reducible rfl
@[simp] theorem State.writeRw_lastS (off : Nat) (v : Word) : (s.writeRw off v).lastS = s.lastS := by unfold State.writeRw State.setReg; with_reducible rfl
@[simp] theorem State.writeRw_lastF (off : Nat) (v : Word) : (s.writeRw off v).lastF = s.lastF := by unfold State.writeRw State.setReg; with_reducible rfl
@[simp] theorem State.writeRw_crossings (off : Nat) (v : Word) : (s.writeRw off v).crossings = s.crossings := by unfold State.writeRw State.setReg; with_reducible rfl
@[simp] theorem State.writeRw_bln (off : Nat) (v : Word) : (s.writeRw off v).bln = s.bln := by unfold State.writeRw State.setReg; with_reducible rfl
@[simp] theorem State.writeRw_ledger (off : Nat) (v : Word) : (s.writeRw off v).ledger = s.ledger := by unfold State.writeRw State.setReg; with_reducible rfl
@[simp] theorem State.writeRw_loop (off : Nat) (v : Word) : (s.writeRw off v).loop = s.loop := by unfold State.writeRw State.setReg; with_reducible rfl
@[simp] theorem State.writeRw_gen (off : Nat) (v : Word) : (s.writeRw off v).gen = s.gen := by unfold State.writeRw State.setReg; with_reducible rfl
@[simp] theorem State.writeRw_lastSp (off : Nat) (v : Word) : (s.writeRw off v).lastSp = s.lastSp := by unfold State.writeRw State.setReg; with_reducible rfl
@[simp] theorem State.writeRw_lastDf (off : Nat) (v : Word) : (s.writeRw off v).lastDf = s.lastDf := by unfold State.writeRw State.setReg; with_reducible rfl
@[simp] theorem State.writeRw_gov (off : Nat) (v : Word) : (s.writeRw off v).gov = s.gov := by unfold State.writeRw State.setReg; with_reducible rfl
@[simp] theorem State.writeRw_cst (off : Nat) (v : Word) : (s.writeRw off v).cst = s.cst := by unfold State.writeRw State.setReg; with_reducible rfl
@[simp] theorem State.writeRw_results (off : Nat) (v : Word) : (s.writeRw off v).results = s.results := by unfold State.writeRw State.setReg; with_reducible rfl

/-! ### State.resStart -/

@[simp] theorem State.resStart_pending (off : Nat) : (s.resStart off).pending = s.pending := by unfold State.resStart State.setRf State.setReg; with_reducible rfl
@[simp] theorem State.resStart_due (off : Nat) : (s.resStart off).due = s.due := by unfold State.resStart State.setRf State.setReg; with_reducible rfl
@[simp] theorem State.resStart_recent (off : Nat) : (s.resStart off).recent = s.recent := by unfold State.resStart State.setRf State.setReg; with_reducible rfl
@[simp] theorem State.resStart_cyc (off : Nat) : (s.resStart off).cyc = s.cyc := by unfold State.resStart State.setRf State.setReg; with_reducible rfl
@[simp] theorem State.resStart_ctl (off : Nat) : (s.resStart off).ctl = s.ctl := by unfold State.resStart State.setRf State.setReg; with_reducible rfl
@[simp] theorem State.resStart_out (off : Nat) : (s.resStart off).out = s.out := by unfold State.resStart State.setRf State.setReg; with_reducible rfl
@[simp] theorem State.resStart_draws (off : Nat) : (s.resStart off).draws = s.draws := by unfold State.resStart State.setRf State.setReg; with_reducible rfl
@[simp] theorem State.resStart_tau (off : Nat) : (s.resStart off).tau = s.tau := by unfold State.resStart State.setRf State.setReg; with_reducible rfl
@[simp] theorem State.resStart_hdrs (off : Nat) : (s.resStart off).hdrs = s.hdrs := by unfold State.resStart State.setRf State.setReg; with_reducible rfl
@[simp] theorem State.resStart_evlog (off : Nat) : (s.resStart off).evlog = s.evlog := by unfold State.resStart State.setRf State.setReg; with_reducible rfl
@[simp] theorem State.resStart_logWr (off : Nat) : (s.resStart off).logWr = s.logWr := by unfold State.resStart State.setRf State.setReg; with_reducible rfl
@[simp] theorem State.resStart_buckets (off : Nat) : (s.resStart off).buckets = s.buckets := by unfold State.resStart State.setRf State.setReg; with_reducible rfl
@[simp] theorem State.resStart_nv (off : Nat) : (s.resStart off).nv = s.nv := by unfold State.resStart State.setRf State.setReg; with_reducible rfl
@[simp] theorem State.resStart_nvCount (off : Nat) : (s.resStart off).nvCount = s.nvCount := by unfold State.resStart State.setRf State.setReg; with_reducible rfl
@[simp] theorem State.resStart_nvSlot (off : Nat) : (s.resStart off).nvSlot = s.nvSlot := by unfold State.resStart State.setRf State.setReg; with_reducible rfl
@[simp] theorem State.resStart_tp (off : Nat) : (s.resStart off).tp = s.tp := by unfold State.resStart State.setRf State.setReg; with_reducible rfl
@[simp] theorem State.resStart_cplData (off : Nat) : (s.resStart off).cplData = s.cplData := by unfold State.resStart State.setRf State.setReg; with_reducible rfl
@[simp] theorem State.resStart_spiData (off : Nat) : (s.resStart off).spiData = s.spiData := by unfold State.resStart State.setRf State.setReg; with_reducible rfl
@[simp] theorem State.resStart_cfgData (off : Nat) : (s.resStart off).cfgData = s.cfgData := by unfold State.resStart State.setRf State.setReg; with_reducible rfl
@[simp] theorem State.resStart_bar2Data (off : Nat) : (s.resStart off).bar2Data = s.bar2Data := by unfold State.resStart State.setRf State.setReg; with_reducible rfl
@[simp] theorem State.resStart_bar2Wait (off : Nat) : (s.resStart off).bar2Wait = s.bar2Wait := by unfold State.resStart State.setRf State.setReg; with_reducible rfl
@[simp] theorem State.resStart_bar4Data (off : Nat) : (s.resStart off).bar4Data = s.bar4Data := by unfold State.resStart State.setRf State.setReg; with_reducible rfl
@[simp] theorem State.resStart_clk (off : Nat) : (s.resStart off).clk = s.clk := by unfold State.resStart State.setRf State.setReg; with_reducible rfl
@[simp] theorem State.resStart_pins (off : Nat) : (s.resStart off).pins = s.pins := by unfold State.resStart State.setRf State.setReg; with_reducible rfl
@[simp] theorem State.resStart_link (off : Nat) : (s.resStart off).link = s.link := by unfold State.resStart State.setRf State.setReg; with_reducible rfl
@[simp] theorem State.resStart_rings (off : Nat) : (s.resStart off).rings = s.rings := by unfold State.resStart State.setRf State.setReg; with_reducible rfl
@[simp] theorem State.resStart_chans (off : Nat) : (s.resStart off).chans = s.chans := by unfold State.resStart State.setRf State.setReg; with_reducible rfl
@[simp] theorem State.resStart_burstNo (off : Nat) : (s.resStart off).burstNo = s.burstNo := by unfold State.resStart State.setRf State.setReg; with_reducible rfl
@[simp] theorem State.resStart_sram (off : Nat) : (s.resStart off).sram = s.sram := by unfold State.resStart State.setRf State.setReg; with_reducible rfl
@[simp] theorem State.resStart_dram (off : Nat) : (s.resStart off).dram = s.dram := by unfold State.resStart State.setRf State.setReg; with_reducible rfl
@[simp] theorem State.resStart_arb (off : Nat) : (s.resStart off).arb = s.arb := by unfold State.resStart State.setRf State.setReg; with_reducible rfl
@[simp] theorem State.resStart_test (off : Nat) : (s.resStart off).test = s.test := by unfold State.resStart State.setRf State.setReg; with_reducible rfl
@[simp] theorem State.resStart_tap (off : Nat) : (s.resStart off).tap = s.tap := by unfold State.resStart State.setRf State.setReg; with_reducible rfl
@[simp] theorem State.resStart_bsr (off : Nat) : (s.resStart off).bsr = s.bsr := by unfold State.resStart State.setRf State.setReg; with_reducible rfl
@[simp] theorem State.resStart_tdo (off : Nat) : (s.resStart off).tdo = s.tdo := by unfold State.resStart State.setRf State.setReg; with_reducible rfl
@[simp] theorem State.resStart_ctxs (off : Nat) : (s.resStart off).ctxs = s.ctxs := by unfold State.resStart State.setRf State.setReg; with_reducible rfl
@[simp] theorem State.resStart_startQ (off : Nat) : (s.resStart off).startQ = s.startQ := by unfold State.resStart State.setRf State.setReg; with_reducible rfl
@[simp] theorem State.resStart_heldQ (off : Nat) : (s.resStart off).heldQ = s.heldQ := by unfold State.resStart State.setRf State.setReg; with_reducible rfl
@[simp] theorem State.resStart_form (off : Nat) : (s.resStart off).form = s.form := by unfold State.resStart State.setRf State.setReg; with_reducible rfl
@[simp] theorem State.resStart_win (off : Nat) : (s.resStart off).win = s.win := by unfold State.resStart State.setRf State.setReg; with_reducible rfl
@[simp] theorem State.resStart_alm (off : Nat) : (s.resStart off).alm = s.alm := by unfold State.resStart State.setRf State.setReg; with_reducible rfl
@[simp] theorem State.resStart_expo (off : Nat) : (s.resStart off).expo = s.expo := by unfold State.resStart State.setRf State.setReg; with_reducible rfl
@[simp] theorem State.resStart_markers (off : Nat) : (s.resStart off).markers = s.markers := by unfold State.resStart State.setRf State.setReg; with_reducible rfl
@[simp] theorem State.resStart_awaits (off : Nat) : (s.resStart off).awaits = s.awaits := by unfold State.resStart State.setRf State.setReg; with_reducible rfl
@[simp] theorem State.resStart_lastS (off : Nat) : (s.resStart off).lastS = s.lastS := by unfold State.resStart State.setRf State.setReg; with_reducible rfl
@[simp] theorem State.resStart_lastF (off : Nat) : (s.resStart off).lastF = s.lastF := by unfold State.resStart State.setRf State.setReg; with_reducible rfl
@[simp] theorem State.resStart_crossings (off : Nat) : (s.resStart off).crossings = s.crossings := by unfold State.resStart State.setRf State.setReg; with_reducible rfl
@[simp] theorem State.resStart_bln (off : Nat) : (s.resStart off).bln = s.bln := by unfold State.resStart State.setRf State.setReg; with_reducible rfl
@[simp] theorem State.resStart_ledger (off : Nat) : (s.resStart off).ledger = s.ledger := by unfold State.resStart State.setRf State.setReg; with_reducible rfl
@[simp] theorem State.resStart_loop (off : Nat) : (s.resStart off).loop = s.loop := by unfold State.resStart State.setRf State.setReg; with_reducible rfl
@[simp] theorem State.resStart_gen (off : Nat) : (s.resStart off).gen = s.gen := by unfold State.resStart State.setRf State.setReg; with_reducible rfl
@[simp] theorem State.resStart_lastSp (off : Nat) : (s.resStart off).lastSp = s.lastSp := by unfold State.resStart State.setRf State.setReg; with_reducible rfl
@[simp] theorem State.resStart_lastDf (off : Nat) : (s.resStart off).lastDf = s.lastDf := by unfold State.resStart State.setRf State.setReg; with_reducible rfl
@[simp] theorem State.resStart_gov (off : Nat) : (s.resStart off).gov = s.gov := by unfold State.resStart State.setRf State.setReg; with_reducible rfl
@[simp] theorem State.resStart_cst (off : Nat) : (s.resStart off).cst = s.cst := by unfold State.resStart State.setRf State.setReg; with_reducible rfl
@[simp] theorem State.resStart_results (off : Nat) : (s.resStart off).results = s.results := by unfold State.resStart State.setRf State.setReg; with_reducible rfl

/-! ### State.resDone -/

@[simp] theorem State.resDone_pending (off : Nat) (fs : List (Nat × Nat)) : (s.resDone off fs).pending = s.pending := by unfold State.resDone State.setReg; with_reducible rfl
@[simp] theorem State.resDone_due (off : Nat) (fs : List (Nat × Nat)) : (s.resDone off fs).due = s.due := by unfold State.resDone State.setReg; with_reducible rfl
@[simp] theorem State.resDone_recent (off : Nat) (fs : List (Nat × Nat)) : (s.resDone off fs).recent = s.recent := by unfold State.resDone State.setReg; with_reducible rfl
@[simp] theorem State.resDone_cyc (off : Nat) (fs : List (Nat × Nat)) : (s.resDone off fs).cyc = s.cyc := by unfold State.resDone State.setReg; with_reducible rfl
@[simp] theorem State.resDone_ctl (off : Nat) (fs : List (Nat × Nat)) : (s.resDone off fs).ctl = s.ctl := by unfold State.resDone State.setReg; with_reducible rfl
@[simp] theorem State.resDone_out (off : Nat) (fs : List (Nat × Nat)) : (s.resDone off fs).out = s.out := by unfold State.resDone State.setReg; with_reducible rfl
@[simp] theorem State.resDone_draws (off : Nat) (fs : List (Nat × Nat)) : (s.resDone off fs).draws = s.draws := by unfold State.resDone State.setReg; with_reducible rfl
@[simp] theorem State.resDone_tau (off : Nat) (fs : List (Nat × Nat)) : (s.resDone off fs).tau = s.tau := by unfold State.resDone State.setReg; with_reducible rfl
@[simp] theorem State.resDone_hdrs (off : Nat) (fs : List (Nat × Nat)) : (s.resDone off fs).hdrs = s.hdrs := by unfold State.resDone State.setReg; with_reducible rfl
@[simp] theorem State.resDone_evlog (off : Nat) (fs : List (Nat × Nat)) : (s.resDone off fs).evlog = s.evlog := by unfold State.resDone State.setReg; with_reducible rfl
@[simp] theorem State.resDone_logWr (off : Nat) (fs : List (Nat × Nat)) : (s.resDone off fs).logWr = s.logWr := by unfold State.resDone State.setReg; with_reducible rfl
@[simp] theorem State.resDone_buckets (off : Nat) (fs : List (Nat × Nat)) : (s.resDone off fs).buckets = s.buckets := by unfold State.resDone State.setReg; with_reducible rfl
@[simp] theorem State.resDone_nv (off : Nat) (fs : List (Nat × Nat)) : (s.resDone off fs).nv = s.nv := by unfold State.resDone State.setReg; with_reducible rfl
@[simp] theorem State.resDone_nvCount (off : Nat) (fs : List (Nat × Nat)) : (s.resDone off fs).nvCount = s.nvCount := by unfold State.resDone State.setReg; with_reducible rfl
@[simp] theorem State.resDone_nvSlot (off : Nat) (fs : List (Nat × Nat)) : (s.resDone off fs).nvSlot = s.nvSlot := by unfold State.resDone State.setReg; with_reducible rfl
@[simp] theorem State.resDone_tp (off : Nat) (fs : List (Nat × Nat)) : (s.resDone off fs).tp = s.tp := by unfold State.resDone State.setReg; with_reducible rfl
@[simp] theorem State.resDone_cplData (off : Nat) (fs : List (Nat × Nat)) : (s.resDone off fs).cplData = s.cplData := by unfold State.resDone State.setReg; with_reducible rfl
@[simp] theorem State.resDone_spiData (off : Nat) (fs : List (Nat × Nat)) : (s.resDone off fs).spiData = s.spiData := by unfold State.resDone State.setReg; with_reducible rfl
@[simp] theorem State.resDone_cfgData (off : Nat) (fs : List (Nat × Nat)) : (s.resDone off fs).cfgData = s.cfgData := by unfold State.resDone State.setReg; with_reducible rfl
@[simp] theorem State.resDone_bar2Data (off : Nat) (fs : List (Nat × Nat)) : (s.resDone off fs).bar2Data = s.bar2Data := by unfold State.resDone State.setReg; with_reducible rfl
@[simp] theorem State.resDone_bar2Wait (off : Nat) (fs : List (Nat × Nat)) : (s.resDone off fs).bar2Wait = s.bar2Wait := by unfold State.resDone State.setReg; with_reducible rfl
@[simp] theorem State.resDone_bar4Data (off : Nat) (fs : List (Nat × Nat)) : (s.resDone off fs).bar4Data = s.bar4Data := by unfold State.resDone State.setReg; with_reducible rfl
@[simp] theorem State.resDone_clk (off : Nat) (fs : List (Nat × Nat)) : (s.resDone off fs).clk = s.clk := by unfold State.resDone State.setReg; with_reducible rfl
@[simp] theorem State.resDone_pins (off : Nat) (fs : List (Nat × Nat)) : (s.resDone off fs).pins = s.pins := by unfold State.resDone State.setReg; with_reducible rfl
@[simp] theorem State.resDone_link (off : Nat) (fs : List (Nat × Nat)) : (s.resDone off fs).link = s.link := by unfold State.resDone State.setReg; with_reducible rfl
@[simp] theorem State.resDone_rings (off : Nat) (fs : List (Nat × Nat)) : (s.resDone off fs).rings = s.rings := by unfold State.resDone State.setReg; with_reducible rfl
@[simp] theorem State.resDone_chans (off : Nat) (fs : List (Nat × Nat)) : (s.resDone off fs).chans = s.chans := by unfold State.resDone State.setReg; with_reducible rfl
@[simp] theorem State.resDone_burstNo (off : Nat) (fs : List (Nat × Nat)) : (s.resDone off fs).burstNo = s.burstNo := by unfold State.resDone State.setReg; with_reducible rfl
@[simp] theorem State.resDone_sram (off : Nat) (fs : List (Nat × Nat)) : (s.resDone off fs).sram = s.sram := by unfold State.resDone State.setReg; with_reducible rfl
@[simp] theorem State.resDone_dram (off : Nat) (fs : List (Nat × Nat)) : (s.resDone off fs).dram = s.dram := by unfold State.resDone State.setReg; with_reducible rfl
@[simp] theorem State.resDone_arb (off : Nat) (fs : List (Nat × Nat)) : (s.resDone off fs).arb = s.arb := by unfold State.resDone State.setReg; with_reducible rfl
@[simp] theorem State.resDone_test (off : Nat) (fs : List (Nat × Nat)) : (s.resDone off fs).test = s.test := by unfold State.resDone State.setReg; with_reducible rfl
@[simp] theorem State.resDone_tap (off : Nat) (fs : List (Nat × Nat)) : (s.resDone off fs).tap = s.tap := by unfold State.resDone State.setReg; with_reducible rfl
@[simp] theorem State.resDone_bsr (off : Nat) (fs : List (Nat × Nat)) : (s.resDone off fs).bsr = s.bsr := by unfold State.resDone State.setReg; with_reducible rfl
@[simp] theorem State.resDone_tdo (off : Nat) (fs : List (Nat × Nat)) : (s.resDone off fs).tdo = s.tdo := by unfold State.resDone State.setReg; with_reducible rfl
@[simp] theorem State.resDone_ctxs (off : Nat) (fs : List (Nat × Nat)) : (s.resDone off fs).ctxs = s.ctxs := by unfold State.resDone State.setReg; with_reducible rfl
@[simp] theorem State.resDone_startQ (off : Nat) (fs : List (Nat × Nat)) : (s.resDone off fs).startQ = s.startQ := by unfold State.resDone State.setReg; with_reducible rfl
@[simp] theorem State.resDone_heldQ (off : Nat) (fs : List (Nat × Nat)) : (s.resDone off fs).heldQ = s.heldQ := by unfold State.resDone State.setReg; with_reducible rfl
@[simp] theorem State.resDone_form (off : Nat) (fs : List (Nat × Nat)) : (s.resDone off fs).form = s.form := by unfold State.resDone State.setReg; with_reducible rfl
@[simp] theorem State.resDone_win (off : Nat) (fs : List (Nat × Nat)) : (s.resDone off fs).win = s.win := by unfold State.resDone State.setReg; with_reducible rfl
@[simp] theorem State.resDone_alm (off : Nat) (fs : List (Nat × Nat)) : (s.resDone off fs).alm = s.alm := by unfold State.resDone State.setReg; with_reducible rfl
@[simp] theorem State.resDone_expo (off : Nat) (fs : List (Nat × Nat)) : (s.resDone off fs).expo = s.expo := by unfold State.resDone State.setReg; with_reducible rfl
@[simp] theorem State.resDone_markers (off : Nat) (fs : List (Nat × Nat)) : (s.resDone off fs).markers = s.markers := by unfold State.resDone State.setReg; with_reducible rfl
@[simp] theorem State.resDone_awaits (off : Nat) (fs : List (Nat × Nat)) : (s.resDone off fs).awaits = s.awaits := by unfold State.resDone State.setReg; with_reducible rfl
@[simp] theorem State.resDone_lastS (off : Nat) (fs : List (Nat × Nat)) : (s.resDone off fs).lastS = s.lastS := by unfold State.resDone State.setReg; with_reducible rfl
@[simp] theorem State.resDone_lastF (off : Nat) (fs : List (Nat × Nat)) : (s.resDone off fs).lastF = s.lastF := by unfold State.resDone State.setReg; with_reducible rfl
@[simp] theorem State.resDone_crossings (off : Nat) (fs : List (Nat × Nat)) : (s.resDone off fs).crossings = s.crossings := by unfold State.resDone State.setReg; with_reducible rfl
@[simp] theorem State.resDone_bln (off : Nat) (fs : List (Nat × Nat)) : (s.resDone off fs).bln = s.bln := by unfold State.resDone State.setReg; with_reducible rfl
@[simp] theorem State.resDone_ledger (off : Nat) (fs : List (Nat × Nat)) : (s.resDone off fs).ledger = s.ledger := by unfold State.resDone State.setReg; with_reducible rfl
@[simp] theorem State.resDone_loop (off : Nat) (fs : List (Nat × Nat)) : (s.resDone off fs).loop = s.loop := by unfold State.resDone State.setReg; with_reducible rfl
@[simp] theorem State.resDone_gen (off : Nat) (fs : List (Nat × Nat)) : (s.resDone off fs).gen = s.gen := by unfold State.resDone State.setReg; with_reducible rfl
@[simp] theorem State.resDone_lastSp (off : Nat) (fs : List (Nat × Nat)) : (s.resDone off fs).lastSp = s.lastSp := by unfold State.resDone State.setReg; with_reducible rfl
@[simp] theorem State.resDone_lastDf (off : Nat) (fs : List (Nat × Nat)) : (s.resDone off fs).lastDf = s.lastDf := by unfold State.resDone State.setReg; with_reducible rfl
@[simp] theorem State.resDone_gov (off : Nat) (fs : List (Nat × Nat)) : (s.resDone off fs).gov = s.gov := by unfold State.resDone State.setReg; with_reducible rfl
@[simp] theorem State.resDone_cst (off : Nat) (fs : List (Nat × Nat)) : (s.resDone off fs).cst = s.cst := by unfold State.resDone State.setReg; with_reducible rfl
@[simp] theorem State.resDone_results (off : Nat) (fs : List (Nat × Nat)) : (s.resDone off fs).results = s.results := by unfold State.resDone State.setReg; with_reducible rfl

/-! ### State.setHdr -/

@[simp] theorem State.setHdr_pending (p : Nat) (h : Hdr) : (s.setHdr p h).pending = s.pending := by unfold State.setHdr; with_reducible rfl
@[simp] theorem State.setHdr_due (p : Nat) (h : Hdr) : (s.setHdr p h).due = s.due := by unfold State.setHdr; with_reducible rfl
@[simp] theorem State.setHdr_recent (p : Nat) (h : Hdr) : (s.setHdr p h).recent = s.recent := by unfold State.setHdr; with_reducible rfl
@[simp] theorem State.setHdr_cyc (p : Nat) (h : Hdr) : (s.setHdr p h).cyc = s.cyc := by unfold State.setHdr; with_reducible rfl
@[simp] theorem State.setHdr_ctl (p : Nat) (h : Hdr) : (s.setHdr p h).ctl = s.ctl := by unfold State.setHdr; with_reducible rfl
@[simp] theorem State.setHdr_out (p : Nat) (h : Hdr) : (s.setHdr p h).out = s.out := by unfold State.setHdr; with_reducible rfl
@[simp] theorem State.setHdr_draws (p : Nat) (h : Hdr) : (s.setHdr p h).draws = s.draws := by unfold State.setHdr; with_reducible rfl
@[simp] theorem State.setHdr_tau (p : Nat) (h : Hdr) : (s.setHdr p h).tau = s.tau := by unfold State.setHdr; with_reducible rfl
@[simp] theorem State.setHdr_regs (p : Nat) (h : Hdr) : (s.setHdr p h).regs = s.regs := by unfold State.setHdr; with_reducible rfl
@[simp] theorem State.setHdr_hdrs (p : Nat) (h : Hdr) : (s.setHdr p h).hdrs = sput Hdr.reset s.hdrs p h := rfl
@[simp] theorem State.setHdr_evlog (p : Nat) (h : Hdr) : (s.setHdr p h).evlog = s.evlog := by unfold State.setHdr; with_reducible rfl
@[simp] theorem State.setHdr_logWr (p : Nat) (h : Hdr) : (s.setHdr p h).logWr = s.logWr := by unfold State.setHdr; with_reducible rfl
@[simp] theorem State.setHdr_buckets (p : Nat) (h : Hdr) : (s.setHdr p h).buckets = s.buckets := by unfold State.setHdr; with_reducible rfl
@[simp] theorem State.setHdr_nv (p : Nat) (h : Hdr) : (s.setHdr p h).nv = s.nv := by unfold State.setHdr; with_reducible rfl
@[simp] theorem State.setHdr_nvCount (p : Nat) (h : Hdr) : (s.setHdr p h).nvCount = s.nvCount := by unfold State.setHdr; with_reducible rfl
@[simp] theorem State.setHdr_nvSlot (p : Nat) (h : Hdr) : (s.setHdr p h).nvSlot = s.nvSlot := by unfold State.setHdr; with_reducible rfl
@[simp] theorem State.setHdr_tp (p : Nat) (h : Hdr) : (s.setHdr p h).tp = s.tp := by unfold State.setHdr; with_reducible rfl
@[simp] theorem State.setHdr_cplData (p : Nat) (h : Hdr) : (s.setHdr p h).cplData = s.cplData := by unfold State.setHdr; with_reducible rfl
@[simp] theorem State.setHdr_spiData (p : Nat) (h : Hdr) : (s.setHdr p h).spiData = s.spiData := by unfold State.setHdr; with_reducible rfl
@[simp] theorem State.setHdr_cfgData (p : Nat) (h : Hdr) : (s.setHdr p h).cfgData = s.cfgData := by unfold State.setHdr; with_reducible rfl
@[simp] theorem State.setHdr_bar2Data (p : Nat) (h : Hdr) : (s.setHdr p h).bar2Data = s.bar2Data := by unfold State.setHdr; with_reducible rfl
@[simp] theorem State.setHdr_bar2Wait (p : Nat) (h : Hdr) : (s.setHdr p h).bar2Wait = s.bar2Wait := by unfold State.setHdr; with_reducible rfl
@[simp] theorem State.setHdr_bar4Data (p : Nat) (h : Hdr) : (s.setHdr p h).bar4Data = s.bar4Data := by unfold State.setHdr; with_reducible rfl
@[simp] theorem State.setHdr_clk (p : Nat) (h : Hdr) : (s.setHdr p h).clk = s.clk := by unfold State.setHdr; with_reducible rfl
@[simp] theorem State.setHdr_pins (p : Nat) (h : Hdr) : (s.setHdr p h).pins = s.pins := by unfold State.setHdr; with_reducible rfl
@[simp] theorem State.setHdr_link (p : Nat) (h : Hdr) : (s.setHdr p h).link = s.link := by unfold State.setHdr; with_reducible rfl
@[simp] theorem State.setHdr_rings (p : Nat) (h : Hdr) : (s.setHdr p h).rings = s.rings := by unfold State.setHdr; with_reducible rfl
@[simp] theorem State.setHdr_chans (p : Nat) (h : Hdr) : (s.setHdr p h).chans = s.chans := by unfold State.setHdr; with_reducible rfl
@[simp] theorem State.setHdr_burstNo (p : Nat) (h : Hdr) : (s.setHdr p h).burstNo = s.burstNo := by unfold State.setHdr; with_reducible rfl
@[simp] theorem State.setHdr_sram (p : Nat) (h : Hdr) : (s.setHdr p h).sram = s.sram := by unfold State.setHdr; with_reducible rfl
@[simp] theorem State.setHdr_dram (p : Nat) (h : Hdr) : (s.setHdr p h).dram = s.dram := by unfold State.setHdr; with_reducible rfl
@[simp] theorem State.setHdr_arb (p : Nat) (h : Hdr) : (s.setHdr p h).arb = s.arb := by unfold State.setHdr; with_reducible rfl
@[simp] theorem State.setHdr_test (p : Nat) (h : Hdr) : (s.setHdr p h).test = s.test := by unfold State.setHdr; with_reducible rfl
@[simp] theorem State.setHdr_tap (p : Nat) (h : Hdr) : (s.setHdr p h).tap = s.tap := by unfold State.setHdr; with_reducible rfl
@[simp] theorem State.setHdr_bsr (p : Nat) (h : Hdr) : (s.setHdr p h).bsr = s.bsr := by unfold State.setHdr; with_reducible rfl
@[simp] theorem State.setHdr_tdo (p : Nat) (h : Hdr) : (s.setHdr p h).tdo = s.tdo := by unfold State.setHdr; with_reducible rfl
@[simp] theorem State.setHdr_ctxs (p : Nat) (h : Hdr) : (s.setHdr p h).ctxs = s.ctxs := by unfold State.setHdr; with_reducible rfl
@[simp] theorem State.setHdr_startQ (p : Nat) (h : Hdr) : (s.setHdr p h).startQ = s.startQ := by unfold State.setHdr; with_reducible rfl
@[simp] theorem State.setHdr_heldQ (p : Nat) (h : Hdr) : (s.setHdr p h).heldQ = s.heldQ := by unfold State.setHdr; with_reducible rfl
@[simp] theorem State.setHdr_form (p : Nat) (h : Hdr) : (s.setHdr p h).form = s.form := by unfold State.setHdr; with_reducible rfl
@[simp] theorem State.setHdr_win (p : Nat) (h : Hdr) : (s.setHdr p h).win = s.win := by unfold State.setHdr; with_reducible rfl
@[simp] theorem State.setHdr_alm (p : Nat) (h : Hdr) : (s.setHdr p h).alm = s.alm := by unfold State.setHdr; with_reducible rfl
@[simp] theorem State.setHdr_expo (p : Nat) (h : Hdr) : (s.setHdr p h).expo = s.expo := by unfold State.setHdr; with_reducible rfl
@[simp] theorem State.setHdr_markers (p : Nat) (h : Hdr) : (s.setHdr p h).markers = s.markers := by unfold State.setHdr; with_reducible rfl
@[simp] theorem State.setHdr_awaits (p : Nat) (h : Hdr) : (s.setHdr p h).awaits = s.awaits := by unfold State.setHdr; with_reducible rfl
@[simp] theorem State.setHdr_lastS (p : Nat) (h : Hdr) : (s.setHdr p h).lastS = s.lastS := by unfold State.setHdr; with_reducible rfl
@[simp] theorem State.setHdr_lastF (p : Nat) (h : Hdr) : (s.setHdr p h).lastF = s.lastF := by unfold State.setHdr; with_reducible rfl
@[simp] theorem State.setHdr_crossings (p : Nat) (h : Hdr) : (s.setHdr p h).crossings = s.crossings := by unfold State.setHdr; with_reducible rfl
@[simp] theorem State.setHdr_bln (p : Nat) (h : Hdr) : (s.setHdr p h).bln = s.bln := by unfold State.setHdr; with_reducible rfl
@[simp] theorem State.setHdr_ledger (p : Nat) (h : Hdr) : (s.setHdr p h).ledger = s.ledger := by unfold State.setHdr; with_reducible rfl
@[simp] theorem State.setHdr_loop (p : Nat) (h : Hdr) : (s.setHdr p h).loop = s.loop := by unfold State.setHdr; with_reducible rfl
@[simp] theorem State.setHdr_gen (p : Nat) (h : Hdr) : (s.setHdr p h).gen = s.gen := by unfold State.setHdr; with_reducible rfl
@[simp] theorem State.setHdr_lastSp (p : Nat) (h : Hdr) : (s.setHdr p h).lastSp = s.lastSp := by unfold State.setHdr; with_reducible rfl
@[simp] theorem State.setHdr_lastDf (p : Nat) (h : Hdr) : (s.setHdr p h).lastDf = s.lastDf := by unfold State.setHdr; with_reducible rfl
@[simp] theorem State.setHdr_gov (p : Nat) (h : Hdr) : (s.setHdr p h).gov = s.gov := by unfold State.setHdr; with_reducible rfl
@[simp] theorem State.setHdr_cst (p : Nat) (h : Hdr) : (s.setHdr p h).cst = s.cst := by unfold State.setHdr; with_reducible rfl
@[simp] theorem State.setHdr_results (p : Nat) (h : Hdr) : (s.setHdr p h).results = s.results := by unfold State.setHdr; with_reducible rfl

/-! ### State.setBucket -/

@[simp] theorem State.setBucket_pending (b : BucketSel) (v : Bucket) : (s.setBucket b v).pending = s.pending := by unfold State.setBucket; with_reducible rfl
@[simp] theorem State.setBucket_due (b : BucketSel) (v : Bucket) : (s.setBucket b v).due = s.due := by unfold State.setBucket; with_reducible rfl
@[simp] theorem State.setBucket_recent (b : BucketSel) (v : Bucket) : (s.setBucket b v).recent = s.recent := by unfold State.setBucket; with_reducible rfl
@[simp] theorem State.setBucket_cyc (b : BucketSel) (v : Bucket) : (s.setBucket b v).cyc = s.cyc := by unfold State.setBucket; with_reducible rfl
@[simp] theorem State.setBucket_ctl (b : BucketSel) (v : Bucket) : (s.setBucket b v).ctl = s.ctl := by unfold State.setBucket; with_reducible rfl
@[simp] theorem State.setBucket_out (b : BucketSel) (v : Bucket) : (s.setBucket b v).out = s.out := by unfold State.setBucket; with_reducible rfl
@[simp] theorem State.setBucket_draws (b : BucketSel) (v : Bucket) : (s.setBucket b v).draws = s.draws := by unfold State.setBucket; with_reducible rfl
@[simp] theorem State.setBucket_tau (b : BucketSel) (v : Bucket) : (s.setBucket b v).tau = s.tau := by unfold State.setBucket; with_reducible rfl
@[simp] theorem State.setBucket_regs (b : BucketSel) (v : Bucket) : (s.setBucket b v).regs = s.regs := by unfold State.setBucket; with_reducible rfl
@[simp] theorem State.setBucket_hdrs (b : BucketSel) (v : Bucket) : (s.setBucket b v).hdrs = s.hdrs := by unfold State.setBucket; with_reducible rfl
@[simp] theorem State.setBucket_evlog (b : BucketSel) (v : Bucket) : (s.setBucket b v).evlog = s.evlog := by unfold State.setBucket; with_reducible rfl
@[simp] theorem State.setBucket_logWr (b : BucketSel) (v : Bucket) : (s.setBucket b v).logWr = s.logWr := by unfold State.setBucket; with_reducible rfl
@[simp] theorem State.setBucket_buckets (b : BucketSel) (v : Bucket) : (s.setBucket b v).buckets = sput Bucket.reset s.buckets (bucketKey b) v := rfl
@[simp] theorem State.setBucket_nv (b : BucketSel) (v : Bucket) : (s.setBucket b v).nv = s.nv := by unfold State.setBucket; with_reducible rfl
@[simp] theorem State.setBucket_nvCount (b : BucketSel) (v : Bucket) : (s.setBucket b v).nvCount = s.nvCount := by unfold State.setBucket; with_reducible rfl
@[simp] theorem State.setBucket_nvSlot (b : BucketSel) (v : Bucket) : (s.setBucket b v).nvSlot = s.nvSlot := by unfold State.setBucket; with_reducible rfl
@[simp] theorem State.setBucket_tp (b : BucketSel) (v : Bucket) : (s.setBucket b v).tp = s.tp := by unfold State.setBucket; with_reducible rfl
@[simp] theorem State.setBucket_cplData (b : BucketSel) (v : Bucket) : (s.setBucket b v).cplData = s.cplData := by unfold State.setBucket; with_reducible rfl
@[simp] theorem State.setBucket_spiData (b : BucketSel) (v : Bucket) : (s.setBucket b v).spiData = s.spiData := by unfold State.setBucket; with_reducible rfl
@[simp] theorem State.setBucket_cfgData (b : BucketSel) (v : Bucket) : (s.setBucket b v).cfgData = s.cfgData := by unfold State.setBucket; with_reducible rfl
@[simp] theorem State.setBucket_bar2Data (b : BucketSel) (v : Bucket) : (s.setBucket b v).bar2Data = s.bar2Data := by unfold State.setBucket; with_reducible rfl
@[simp] theorem State.setBucket_bar2Wait (b : BucketSel) (v : Bucket) : (s.setBucket b v).bar2Wait = s.bar2Wait := by unfold State.setBucket; with_reducible rfl
@[simp] theorem State.setBucket_bar4Data (b : BucketSel) (v : Bucket) : (s.setBucket b v).bar4Data = s.bar4Data := by unfold State.setBucket; with_reducible rfl
@[simp] theorem State.setBucket_clk (b : BucketSel) (v : Bucket) : (s.setBucket b v).clk = s.clk := by unfold State.setBucket; with_reducible rfl
@[simp] theorem State.setBucket_pins (b : BucketSel) (v : Bucket) : (s.setBucket b v).pins = s.pins := by unfold State.setBucket; with_reducible rfl
@[simp] theorem State.setBucket_link (b : BucketSel) (v : Bucket) : (s.setBucket b v).link = s.link := by unfold State.setBucket; with_reducible rfl
@[simp] theorem State.setBucket_rings (b : BucketSel) (v : Bucket) : (s.setBucket b v).rings = s.rings := by unfold State.setBucket; with_reducible rfl
@[simp] theorem State.setBucket_chans (b : BucketSel) (v : Bucket) : (s.setBucket b v).chans = s.chans := by unfold State.setBucket; with_reducible rfl
@[simp] theorem State.setBucket_burstNo (b : BucketSel) (v : Bucket) : (s.setBucket b v).burstNo = s.burstNo := by unfold State.setBucket; with_reducible rfl
@[simp] theorem State.setBucket_sram (b : BucketSel) (v : Bucket) : (s.setBucket b v).sram = s.sram := by unfold State.setBucket; with_reducible rfl
@[simp] theorem State.setBucket_dram (b : BucketSel) (v : Bucket) : (s.setBucket b v).dram = s.dram := by unfold State.setBucket; with_reducible rfl
@[simp] theorem State.setBucket_arb (b : BucketSel) (v : Bucket) : (s.setBucket b v).arb = s.arb := by unfold State.setBucket; with_reducible rfl
@[simp] theorem State.setBucket_test (b : BucketSel) (v : Bucket) : (s.setBucket b v).test = s.test := by unfold State.setBucket; with_reducible rfl
@[simp] theorem State.setBucket_tap (b : BucketSel) (v : Bucket) : (s.setBucket b v).tap = s.tap := by unfold State.setBucket; with_reducible rfl
@[simp] theorem State.setBucket_bsr (b : BucketSel) (v : Bucket) : (s.setBucket b v).bsr = s.bsr := by unfold State.setBucket; with_reducible rfl
@[simp] theorem State.setBucket_tdo (b : BucketSel) (v : Bucket) : (s.setBucket b v).tdo = s.tdo := by unfold State.setBucket; with_reducible rfl
@[simp] theorem State.setBucket_ctxs (b : BucketSel) (v : Bucket) : (s.setBucket b v).ctxs = s.ctxs := by unfold State.setBucket; with_reducible rfl
@[simp] theorem State.setBucket_startQ (b : BucketSel) (v : Bucket) : (s.setBucket b v).startQ = s.startQ := by unfold State.setBucket; with_reducible rfl
@[simp] theorem State.setBucket_heldQ (b : BucketSel) (v : Bucket) : (s.setBucket b v).heldQ = s.heldQ := by unfold State.setBucket; with_reducible rfl
@[simp] theorem State.setBucket_form (b : BucketSel) (v : Bucket) : (s.setBucket b v).form = s.form := by unfold State.setBucket; with_reducible rfl
@[simp] theorem State.setBucket_win (b : BucketSel) (v : Bucket) : (s.setBucket b v).win = s.win := by unfold State.setBucket; with_reducible rfl
@[simp] theorem State.setBucket_alm (b : BucketSel) (v : Bucket) : (s.setBucket b v).alm = s.alm := by unfold State.setBucket; with_reducible rfl
@[simp] theorem State.setBucket_expo (b : BucketSel) (v : Bucket) : (s.setBucket b v).expo = s.expo := by unfold State.setBucket; with_reducible rfl
@[simp] theorem State.setBucket_markers (b : BucketSel) (v : Bucket) : (s.setBucket b v).markers = s.markers := by unfold State.setBucket; with_reducible rfl
@[simp] theorem State.setBucket_awaits (b : BucketSel) (v : Bucket) : (s.setBucket b v).awaits = s.awaits := by unfold State.setBucket; with_reducible rfl
@[simp] theorem State.setBucket_lastS (b : BucketSel) (v : Bucket) : (s.setBucket b v).lastS = s.lastS := by unfold State.setBucket; with_reducible rfl
@[simp] theorem State.setBucket_lastF (b : BucketSel) (v : Bucket) : (s.setBucket b v).lastF = s.lastF := by unfold State.setBucket; with_reducible rfl
@[simp] theorem State.setBucket_crossings (b : BucketSel) (v : Bucket) : (s.setBucket b v).crossings = s.crossings := by unfold State.setBucket; with_reducible rfl
@[simp] theorem State.setBucket_bln (b : BucketSel) (v : Bucket) : (s.setBucket b v).bln = s.bln := by unfold State.setBucket; with_reducible rfl
@[simp] theorem State.setBucket_ledger (b : BucketSel) (v : Bucket) : (s.setBucket b v).ledger = s.ledger := by unfold State.setBucket; with_reducible rfl
@[simp] theorem State.setBucket_loop (b : BucketSel) (v : Bucket) : (s.setBucket b v).loop = s.loop := by unfold State.setBucket; with_reducible rfl
@[simp] theorem State.setBucket_gen (b : BucketSel) (v : Bucket) : (s.setBucket b v).gen = s.gen := by unfold State.setBucket; with_reducible rfl
@[simp] theorem State.setBucket_lastSp (b : BucketSel) (v : Bucket) : (s.setBucket b v).lastSp = s.lastSp := by unfold State.setBucket; with_reducible rfl
@[simp] theorem State.setBucket_lastDf (b : BucketSel) (v : Bucket) : (s.setBucket b v).lastDf = s.lastDf := by unfold State.setBucket; with_reducible rfl
@[simp] theorem State.setBucket_gov (b : BucketSel) (v : Bucket) : (s.setBucket b v).gov = s.gov := by unfold State.setBucket; with_reducible rfl
@[simp] theorem State.setBucket_cst (b : BucketSel) (v : Bucket) : (s.setBucket b v).cst = s.cst := by unfold State.setBucket; with_reducible rfl
@[simp] theorem State.setBucket_results (b : BucketSel) (v : Bucket) : (s.setBucket b v).results = s.results := by unfold State.setBucket; with_reducible rfl

/-! ### State.setCtx -/

@[simp] theorem State.setCtx_pending (c : Nat) (x : Ctx) : (s.setCtx c x).pending = s.pending := by unfold State.setCtx; with_reducible rfl
@[simp] theorem State.setCtx_due (c : Nat) (x : Ctx) : (s.setCtx c x).due = s.due := by unfold State.setCtx; with_reducible rfl
@[simp] theorem State.setCtx_recent (c : Nat) (x : Ctx) : (s.setCtx c x).recent = s.recent := by unfold State.setCtx; with_reducible rfl
@[simp] theorem State.setCtx_cyc (c : Nat) (x : Ctx) : (s.setCtx c x).cyc = s.cyc := by unfold State.setCtx; with_reducible rfl
@[simp] theorem State.setCtx_ctl (c : Nat) (x : Ctx) : (s.setCtx c x).ctl = s.ctl := by unfold State.setCtx; with_reducible rfl
@[simp] theorem State.setCtx_out (c : Nat) (x : Ctx) : (s.setCtx c x).out = s.out := by unfold State.setCtx; with_reducible rfl
@[simp] theorem State.setCtx_draws (c : Nat) (x : Ctx) : (s.setCtx c x).draws = s.draws := by unfold State.setCtx; with_reducible rfl
@[simp] theorem State.setCtx_tau (c : Nat) (x : Ctx) : (s.setCtx c x).tau = s.tau := by unfold State.setCtx; with_reducible rfl
@[simp] theorem State.setCtx_regs (c : Nat) (x : Ctx) : (s.setCtx c x).regs = s.regs := by unfold State.setCtx; with_reducible rfl
@[simp] theorem State.setCtx_hdrs (c : Nat) (x : Ctx) : (s.setCtx c x).hdrs = s.hdrs := by unfold State.setCtx; with_reducible rfl
@[simp] theorem State.setCtx_evlog (c : Nat) (x : Ctx) : (s.setCtx c x).evlog = s.evlog := by unfold State.setCtx; with_reducible rfl
@[simp] theorem State.setCtx_logWr (c : Nat) (x : Ctx) : (s.setCtx c x).logWr = s.logWr := by unfold State.setCtx; with_reducible rfl
@[simp] theorem State.setCtx_buckets (c : Nat) (x : Ctx) : (s.setCtx c x).buckets = s.buckets := by unfold State.setCtx; with_reducible rfl
@[simp] theorem State.setCtx_nv (c : Nat) (x : Ctx) : (s.setCtx c x).nv = s.nv := by unfold State.setCtx; with_reducible rfl
@[simp] theorem State.setCtx_nvCount (c : Nat) (x : Ctx) : (s.setCtx c x).nvCount = s.nvCount := by unfold State.setCtx; with_reducible rfl
@[simp] theorem State.setCtx_nvSlot (c : Nat) (x : Ctx) : (s.setCtx c x).nvSlot = s.nvSlot := by unfold State.setCtx; with_reducible rfl
@[simp] theorem State.setCtx_tp (c : Nat) (x : Ctx) : (s.setCtx c x).tp = s.tp := by unfold State.setCtx; with_reducible rfl
@[simp] theorem State.setCtx_cplData (c : Nat) (x : Ctx) : (s.setCtx c x).cplData = s.cplData := by unfold State.setCtx; with_reducible rfl
@[simp] theorem State.setCtx_spiData (c : Nat) (x : Ctx) : (s.setCtx c x).spiData = s.spiData := by unfold State.setCtx; with_reducible rfl
@[simp] theorem State.setCtx_cfgData (c : Nat) (x : Ctx) : (s.setCtx c x).cfgData = s.cfgData := by unfold State.setCtx; with_reducible rfl
@[simp] theorem State.setCtx_bar2Data (c : Nat) (x : Ctx) : (s.setCtx c x).bar2Data = s.bar2Data := by unfold State.setCtx; with_reducible rfl
@[simp] theorem State.setCtx_bar2Wait (c : Nat) (x : Ctx) : (s.setCtx c x).bar2Wait = s.bar2Wait := by unfold State.setCtx; with_reducible rfl
@[simp] theorem State.setCtx_bar4Data (c : Nat) (x : Ctx) : (s.setCtx c x).bar4Data = s.bar4Data := by unfold State.setCtx; with_reducible rfl
@[simp] theorem State.setCtx_clk (c : Nat) (x : Ctx) : (s.setCtx c x).clk = s.clk := by unfold State.setCtx; with_reducible rfl
@[simp] theorem State.setCtx_pins (c : Nat) (x : Ctx) : (s.setCtx c x).pins = s.pins := by unfold State.setCtx; with_reducible rfl
@[simp] theorem State.setCtx_link (c : Nat) (x : Ctx) : (s.setCtx c x).link = s.link := by unfold State.setCtx; with_reducible rfl
@[simp] theorem State.setCtx_rings (c : Nat) (x : Ctx) : (s.setCtx c x).rings = s.rings := by unfold State.setCtx; with_reducible rfl
@[simp] theorem State.setCtx_chans (c : Nat) (x : Ctx) : (s.setCtx c x).chans = s.chans := by unfold State.setCtx; with_reducible rfl
@[simp] theorem State.setCtx_burstNo (c : Nat) (x : Ctx) : (s.setCtx c x).burstNo = s.burstNo := by unfold State.setCtx; with_reducible rfl
@[simp] theorem State.setCtx_sram (c : Nat) (x : Ctx) : (s.setCtx c x).sram = s.sram := by unfold State.setCtx; with_reducible rfl
@[simp] theorem State.setCtx_dram (c : Nat) (x : Ctx) : (s.setCtx c x).dram = s.dram := by unfold State.setCtx; with_reducible rfl
@[simp] theorem State.setCtx_arb (c : Nat) (x : Ctx) : (s.setCtx c x).arb = s.arb := by unfold State.setCtx; with_reducible rfl
@[simp] theorem State.setCtx_test (c : Nat) (x : Ctx) : (s.setCtx c x).test = s.test := by unfold State.setCtx; with_reducible rfl
@[simp] theorem State.setCtx_tap (c : Nat) (x : Ctx) : (s.setCtx c x).tap = s.tap := by unfold State.setCtx; with_reducible rfl
@[simp] theorem State.setCtx_bsr (c : Nat) (x : Ctx) : (s.setCtx c x).bsr = s.bsr := by unfold State.setCtx; with_reducible rfl
@[simp] theorem State.setCtx_tdo (c : Nat) (x : Ctx) : (s.setCtx c x).tdo = s.tdo := by unfold State.setCtx; with_reducible rfl
@[simp] theorem State.setCtx_ctxs (c : Nat) (x : Ctx) : (s.setCtx c x).ctxs = sput Ctx.reset s.ctxs c x := rfl
@[simp] theorem State.setCtx_startQ (c : Nat) (x : Ctx) : (s.setCtx c x).startQ = s.startQ := by unfold State.setCtx; with_reducible rfl
@[simp] theorem State.setCtx_heldQ (c : Nat) (x : Ctx) : (s.setCtx c x).heldQ = s.heldQ := by unfold State.setCtx; with_reducible rfl
@[simp] theorem State.setCtx_form (c : Nat) (x : Ctx) : (s.setCtx c x).form = s.form := by unfold State.setCtx; with_reducible rfl
@[simp] theorem State.setCtx_win (c : Nat) (x : Ctx) : (s.setCtx c x).win = s.win := by unfold State.setCtx; with_reducible rfl
@[simp] theorem State.setCtx_alm (c : Nat) (x : Ctx) : (s.setCtx c x).alm = s.alm := by unfold State.setCtx; with_reducible rfl
@[simp] theorem State.setCtx_expo (c : Nat) (x : Ctx) : (s.setCtx c x).expo = s.expo := by unfold State.setCtx; with_reducible rfl
@[simp] theorem State.setCtx_markers (c : Nat) (x : Ctx) : (s.setCtx c x).markers = s.markers := by unfold State.setCtx; with_reducible rfl
@[simp] theorem State.setCtx_awaits (c : Nat) (x : Ctx) : (s.setCtx c x).awaits = s.awaits := by unfold State.setCtx; with_reducible rfl
@[simp] theorem State.setCtx_lastS (c : Nat) (x : Ctx) : (s.setCtx c x).lastS = s.lastS := by unfold State.setCtx; with_reducible rfl
@[simp] theorem State.setCtx_lastF (c : Nat) (x : Ctx) : (s.setCtx c x).lastF = s.lastF := by unfold State.setCtx; with_reducible rfl
@[simp] theorem State.setCtx_crossings (c : Nat) (x : Ctx) : (s.setCtx c x).crossings = s.crossings := by unfold State.setCtx; with_reducible rfl
@[simp] theorem State.setCtx_bln (c : Nat) (x : Ctx) : (s.setCtx c x).bln = s.bln := by unfold State.setCtx; with_reducible rfl
@[simp] theorem State.setCtx_ledger (c : Nat) (x : Ctx) : (s.setCtx c x).ledger = s.ledger := by unfold State.setCtx; with_reducible rfl
@[simp] theorem State.setCtx_loop (c : Nat) (x : Ctx) : (s.setCtx c x).loop = s.loop := by unfold State.setCtx; with_reducible rfl
@[simp] theorem State.setCtx_gen (c : Nat) (x : Ctx) : (s.setCtx c x).gen = s.gen := by unfold State.setCtx; with_reducible rfl
@[simp] theorem State.setCtx_lastSp (c : Nat) (x : Ctx) : (s.setCtx c x).lastSp = s.lastSp := by unfold State.setCtx; with_reducible rfl
@[simp] theorem State.setCtx_lastDf (c : Nat) (x : Ctx) : (s.setCtx c x).lastDf = s.lastDf := by unfold State.setCtx; with_reducible rfl
@[simp] theorem State.setCtx_gov (c : Nat) (x : Ctx) : (s.setCtx c x).gov = s.gov := by unfold State.setCtx; with_reducible rfl
@[simp] theorem State.setCtx_cst (c : Nat) (x : Ctx) : (s.setCtx c x).cst = s.cst := by unfold State.setCtx; with_reducible rfl
@[simp] theorem State.setCtx_results (c : Nat) (x : Ctx) : (s.setCtx c x).results = s.results := by unfold State.setCtx; with_reducible rfl

/-! ### State.updClk -/

@[simp] theorem State.updClk_pending (f : Clk → Clk) : (s.updClk f).pending = s.pending := by unfold State.updClk; with_reducible rfl
@[simp] theorem State.updClk_due (f : Clk → Clk) : (s.updClk f).due = s.due := by unfold State.updClk; with_reducible rfl
@[simp] theorem State.updClk_recent (f : Clk → Clk) : (s.updClk f).recent = s.recent := by unfold State.updClk; with_reducible rfl
@[simp] theorem State.updClk_cyc (f : Clk → Clk) : (s.updClk f).cyc = s.cyc := by unfold State.updClk; with_reducible rfl
@[simp] theorem State.updClk_ctl (f : Clk → Clk) : (s.updClk f).ctl = s.ctl := by unfold State.updClk; with_reducible rfl
@[simp] theorem State.updClk_out (f : Clk → Clk) : (s.updClk f).out = s.out := by unfold State.updClk; with_reducible rfl
@[simp] theorem State.updClk_draws (f : Clk → Clk) : (s.updClk f).draws = s.draws := by unfold State.updClk; with_reducible rfl
@[simp] theorem State.updClk_tau (f : Clk → Clk) : (s.updClk f).tau = s.tau := by unfold State.updClk; with_reducible rfl
@[simp] theorem State.updClk_regs (f : Clk → Clk) : (s.updClk f).regs = s.regs := by unfold State.updClk; with_reducible rfl
@[simp] theorem State.updClk_hdrs (f : Clk → Clk) : (s.updClk f).hdrs = s.hdrs := by unfold State.updClk; with_reducible rfl
@[simp] theorem State.updClk_evlog (f : Clk → Clk) : (s.updClk f).evlog = s.evlog := by unfold State.updClk; with_reducible rfl
@[simp] theorem State.updClk_logWr (f : Clk → Clk) : (s.updClk f).logWr = s.logWr := by unfold State.updClk; with_reducible rfl
@[simp] theorem State.updClk_buckets (f : Clk → Clk) : (s.updClk f).buckets = s.buckets := by unfold State.updClk; with_reducible rfl
@[simp] theorem State.updClk_nv (f : Clk → Clk) : (s.updClk f).nv = s.nv := by unfold State.updClk; with_reducible rfl
@[simp] theorem State.updClk_nvCount (f : Clk → Clk) : (s.updClk f).nvCount = s.nvCount := by unfold State.updClk; with_reducible rfl
@[simp] theorem State.updClk_nvSlot (f : Clk → Clk) : (s.updClk f).nvSlot = s.nvSlot := by unfold State.updClk; with_reducible rfl
@[simp] theorem State.updClk_tp (f : Clk → Clk) : (s.updClk f).tp = s.tp := by unfold State.updClk; with_reducible rfl
@[simp] theorem State.updClk_cplData (f : Clk → Clk) : (s.updClk f).cplData = s.cplData := by unfold State.updClk; with_reducible rfl
@[simp] theorem State.updClk_spiData (f : Clk → Clk) : (s.updClk f).spiData = s.spiData := by unfold State.updClk; with_reducible rfl
@[simp] theorem State.updClk_cfgData (f : Clk → Clk) : (s.updClk f).cfgData = s.cfgData := by unfold State.updClk; with_reducible rfl
@[simp] theorem State.updClk_bar2Data (f : Clk → Clk) : (s.updClk f).bar2Data = s.bar2Data := by unfold State.updClk; with_reducible rfl
@[simp] theorem State.updClk_bar2Wait (f : Clk → Clk) : (s.updClk f).bar2Wait = s.bar2Wait := by unfold State.updClk; with_reducible rfl
@[simp] theorem State.updClk_bar4Data (f : Clk → Clk) : (s.updClk f).bar4Data = s.bar4Data := by unfold State.updClk; with_reducible rfl
@[simp] theorem State.updClk_clk (f : Clk → Clk) : (s.updClk f).clk = f s.clk := rfl
@[simp] theorem State.updClk_pins (f : Clk → Clk) : (s.updClk f).pins = s.pins := by unfold State.updClk; with_reducible rfl
@[simp] theorem State.updClk_link (f : Clk → Clk) : (s.updClk f).link = s.link := by unfold State.updClk; with_reducible rfl
@[simp] theorem State.updClk_rings (f : Clk → Clk) : (s.updClk f).rings = s.rings := by unfold State.updClk; with_reducible rfl
@[simp] theorem State.updClk_chans (f : Clk → Clk) : (s.updClk f).chans = s.chans := by unfold State.updClk; with_reducible rfl
@[simp] theorem State.updClk_burstNo (f : Clk → Clk) : (s.updClk f).burstNo = s.burstNo := by unfold State.updClk; with_reducible rfl
@[simp] theorem State.updClk_sram (f : Clk → Clk) : (s.updClk f).sram = s.sram := by unfold State.updClk; with_reducible rfl
@[simp] theorem State.updClk_dram (f : Clk → Clk) : (s.updClk f).dram = s.dram := by unfold State.updClk; with_reducible rfl
@[simp] theorem State.updClk_arb (f : Clk → Clk) : (s.updClk f).arb = s.arb := by unfold State.updClk; with_reducible rfl
@[simp] theorem State.updClk_test (f : Clk → Clk) : (s.updClk f).test = s.test := by unfold State.updClk; with_reducible rfl
@[simp] theorem State.updClk_tap (f : Clk → Clk) : (s.updClk f).tap = s.tap := by unfold State.updClk; with_reducible rfl
@[simp] theorem State.updClk_bsr (f : Clk → Clk) : (s.updClk f).bsr = s.bsr := by unfold State.updClk; with_reducible rfl
@[simp] theorem State.updClk_tdo (f : Clk → Clk) : (s.updClk f).tdo = s.tdo := by unfold State.updClk; with_reducible rfl
@[simp] theorem State.updClk_ctxs (f : Clk → Clk) : (s.updClk f).ctxs = s.ctxs := by unfold State.updClk; with_reducible rfl
@[simp] theorem State.updClk_startQ (f : Clk → Clk) : (s.updClk f).startQ = s.startQ := by unfold State.updClk; with_reducible rfl
@[simp] theorem State.updClk_heldQ (f : Clk → Clk) : (s.updClk f).heldQ = s.heldQ := by unfold State.updClk; with_reducible rfl
@[simp] theorem State.updClk_form (f : Clk → Clk) : (s.updClk f).form = s.form := by unfold State.updClk; with_reducible rfl
@[simp] theorem State.updClk_win (f : Clk → Clk) : (s.updClk f).win = s.win := by unfold State.updClk; with_reducible rfl
@[simp] theorem State.updClk_alm (f : Clk → Clk) : (s.updClk f).alm = s.alm := by unfold State.updClk; with_reducible rfl
@[simp] theorem State.updClk_expo (f : Clk → Clk) : (s.updClk f).expo = s.expo := by unfold State.updClk; with_reducible rfl
@[simp] theorem State.updClk_markers (f : Clk → Clk) : (s.updClk f).markers = s.markers := by unfold State.updClk; with_reducible rfl
@[simp] theorem State.updClk_awaits (f : Clk → Clk) : (s.updClk f).awaits = s.awaits := by unfold State.updClk; with_reducible rfl
@[simp] theorem State.updClk_lastS (f : Clk → Clk) : (s.updClk f).lastS = s.lastS := by unfold State.updClk; with_reducible rfl
@[simp] theorem State.updClk_lastF (f : Clk → Clk) : (s.updClk f).lastF = s.lastF := by unfold State.updClk; with_reducible rfl
@[simp] theorem State.updClk_crossings (f : Clk → Clk) : (s.updClk f).crossings = s.crossings := by unfold State.updClk; with_reducible rfl
@[simp] theorem State.updClk_bln (f : Clk → Clk) : (s.updClk f).bln = s.bln := by unfold State.updClk; with_reducible rfl
@[simp] theorem State.updClk_ledger (f : Clk → Clk) : (s.updClk f).ledger = s.ledger := by unfold State.updClk; with_reducible rfl
@[simp] theorem State.updClk_loop (f : Clk → Clk) : (s.updClk f).loop = s.loop := by unfold State.updClk; with_reducible rfl
@[simp] theorem State.updClk_gen (f : Clk → Clk) : (s.updClk f).gen = s.gen := by unfold State.updClk; with_reducible rfl
@[simp] theorem State.updClk_lastSp (f : Clk → Clk) : (s.updClk f).lastSp = s.lastSp := by unfold State.updClk; with_reducible rfl
@[simp] theorem State.updClk_lastDf (f : Clk → Clk) : (s.updClk f).lastDf = s.lastDf := by unfold State.updClk; with_reducible rfl
@[simp] theorem State.updClk_gov (f : Clk → Clk) : (s.updClk f).gov = s.gov := by unfold State.updClk; with_reducible rfl
@[simp] theorem State.updClk_cst (f : Clk → Clk) : (s.updClk f).cst = s.cst := by unfold State.updClk; with_reducible rfl
@[simp] theorem State.updClk_results (f : Clk → Clk) : (s.updClk f).results = s.results := by unfold State.updClk; with_reducible rfl

/-! ### State.updExpo -/

@[simp] theorem State.updExpo_pending (f : Expo → Expo) : (s.updExpo f).pending = s.pending := by unfold State.updExpo; with_reducible rfl
@[simp] theorem State.updExpo_due (f : Expo → Expo) : (s.updExpo f).due = s.due := by unfold State.updExpo; with_reducible rfl
@[simp] theorem State.updExpo_recent (f : Expo → Expo) : (s.updExpo f).recent = s.recent := by unfold State.updExpo; with_reducible rfl
@[simp] theorem State.updExpo_cyc (f : Expo → Expo) : (s.updExpo f).cyc = s.cyc := by unfold State.updExpo; with_reducible rfl
@[simp] theorem State.updExpo_ctl (f : Expo → Expo) : (s.updExpo f).ctl = s.ctl := by unfold State.updExpo; with_reducible rfl
@[simp] theorem State.updExpo_out (f : Expo → Expo) : (s.updExpo f).out = s.out := by unfold State.updExpo; with_reducible rfl
@[simp] theorem State.updExpo_draws (f : Expo → Expo) : (s.updExpo f).draws = s.draws := by unfold State.updExpo; with_reducible rfl
@[simp] theorem State.updExpo_tau (f : Expo → Expo) : (s.updExpo f).tau = s.tau := by unfold State.updExpo; with_reducible rfl
@[simp] theorem State.updExpo_regs (f : Expo → Expo) : (s.updExpo f).regs = s.regs := by unfold State.updExpo; with_reducible rfl
@[simp] theorem State.updExpo_hdrs (f : Expo → Expo) : (s.updExpo f).hdrs = s.hdrs := by unfold State.updExpo; with_reducible rfl
@[simp] theorem State.updExpo_evlog (f : Expo → Expo) : (s.updExpo f).evlog = s.evlog := by unfold State.updExpo; with_reducible rfl
@[simp] theorem State.updExpo_logWr (f : Expo → Expo) : (s.updExpo f).logWr = s.logWr := by unfold State.updExpo; with_reducible rfl
@[simp] theorem State.updExpo_buckets (f : Expo → Expo) : (s.updExpo f).buckets = s.buckets := by unfold State.updExpo; with_reducible rfl
@[simp] theorem State.updExpo_nv (f : Expo → Expo) : (s.updExpo f).nv = s.nv := by unfold State.updExpo; with_reducible rfl
@[simp] theorem State.updExpo_nvCount (f : Expo → Expo) : (s.updExpo f).nvCount = s.nvCount := by unfold State.updExpo; with_reducible rfl
@[simp] theorem State.updExpo_nvSlot (f : Expo → Expo) : (s.updExpo f).nvSlot = s.nvSlot := by unfold State.updExpo; with_reducible rfl
@[simp] theorem State.updExpo_tp (f : Expo → Expo) : (s.updExpo f).tp = s.tp := by unfold State.updExpo; with_reducible rfl
@[simp] theorem State.updExpo_cplData (f : Expo → Expo) : (s.updExpo f).cplData = s.cplData := by unfold State.updExpo; with_reducible rfl
@[simp] theorem State.updExpo_spiData (f : Expo → Expo) : (s.updExpo f).spiData = s.spiData := by unfold State.updExpo; with_reducible rfl
@[simp] theorem State.updExpo_cfgData (f : Expo → Expo) : (s.updExpo f).cfgData = s.cfgData := by unfold State.updExpo; with_reducible rfl
@[simp] theorem State.updExpo_bar2Data (f : Expo → Expo) : (s.updExpo f).bar2Data = s.bar2Data := by unfold State.updExpo; with_reducible rfl
@[simp] theorem State.updExpo_bar2Wait (f : Expo → Expo) : (s.updExpo f).bar2Wait = s.bar2Wait := by unfold State.updExpo; with_reducible rfl
@[simp] theorem State.updExpo_bar4Data (f : Expo → Expo) : (s.updExpo f).bar4Data = s.bar4Data := by unfold State.updExpo; with_reducible rfl
@[simp] theorem State.updExpo_clk (f : Expo → Expo) : (s.updExpo f).clk = s.clk := by unfold State.updExpo; with_reducible rfl
@[simp] theorem State.updExpo_pins (f : Expo → Expo) : (s.updExpo f).pins = s.pins := by unfold State.updExpo; with_reducible rfl
@[simp] theorem State.updExpo_link (f : Expo → Expo) : (s.updExpo f).link = s.link := by unfold State.updExpo; with_reducible rfl
@[simp] theorem State.updExpo_rings (f : Expo → Expo) : (s.updExpo f).rings = s.rings := by unfold State.updExpo; with_reducible rfl
@[simp] theorem State.updExpo_chans (f : Expo → Expo) : (s.updExpo f).chans = s.chans := by unfold State.updExpo; with_reducible rfl
@[simp] theorem State.updExpo_burstNo (f : Expo → Expo) : (s.updExpo f).burstNo = s.burstNo := by unfold State.updExpo; with_reducible rfl
@[simp] theorem State.updExpo_sram (f : Expo → Expo) : (s.updExpo f).sram = s.sram := by unfold State.updExpo; with_reducible rfl
@[simp] theorem State.updExpo_dram (f : Expo → Expo) : (s.updExpo f).dram = s.dram := by unfold State.updExpo; with_reducible rfl
@[simp] theorem State.updExpo_arb (f : Expo → Expo) : (s.updExpo f).arb = s.arb := by unfold State.updExpo; with_reducible rfl
@[simp] theorem State.updExpo_test (f : Expo → Expo) : (s.updExpo f).test = s.test := by unfold State.updExpo; with_reducible rfl
@[simp] theorem State.updExpo_tap (f : Expo → Expo) : (s.updExpo f).tap = s.tap := by unfold State.updExpo; with_reducible rfl
@[simp] theorem State.updExpo_bsr (f : Expo → Expo) : (s.updExpo f).bsr = s.bsr := by unfold State.updExpo; with_reducible rfl
@[simp] theorem State.updExpo_tdo (f : Expo → Expo) : (s.updExpo f).tdo = s.tdo := by unfold State.updExpo; with_reducible rfl
@[simp] theorem State.updExpo_ctxs (f : Expo → Expo) : (s.updExpo f).ctxs = s.ctxs := by unfold State.updExpo; with_reducible rfl
@[simp] theorem State.updExpo_startQ (f : Expo → Expo) : (s.updExpo f).startQ = s.startQ := by unfold State.updExpo; with_reducible rfl
@[simp] theorem State.updExpo_heldQ (f : Expo → Expo) : (s.updExpo f).heldQ = s.heldQ := by unfold State.updExpo; with_reducible rfl
@[simp] theorem State.updExpo_form (f : Expo → Expo) : (s.updExpo f).form = s.form := by unfold State.updExpo; with_reducible rfl
@[simp] theorem State.updExpo_win (f : Expo → Expo) : (s.updExpo f).win = s.win := by unfold State.updExpo; with_reducible rfl
@[simp] theorem State.updExpo_alm (f : Expo → Expo) : (s.updExpo f).alm = s.alm := by unfold State.updExpo; with_reducible rfl
@[simp] theorem State.updExpo_expo (f : Expo → Expo) : (s.updExpo f).expo = s.expo.map f := rfl
@[simp] theorem State.updExpo_markers (f : Expo → Expo) : (s.updExpo f).markers = s.markers := by unfold State.updExpo; with_reducible rfl
@[simp] theorem State.updExpo_awaits (f : Expo → Expo) : (s.updExpo f).awaits = s.awaits := by unfold State.updExpo; with_reducible rfl
@[simp] theorem State.updExpo_lastS (f : Expo → Expo) : (s.updExpo f).lastS = s.lastS := by unfold State.updExpo; with_reducible rfl
@[simp] theorem State.updExpo_lastF (f : Expo → Expo) : (s.updExpo f).lastF = s.lastF := by unfold State.updExpo; with_reducible rfl
@[simp] theorem State.updExpo_crossings (f : Expo → Expo) : (s.updExpo f).crossings = s.crossings := by unfold State.updExpo; with_reducible rfl
@[simp] theorem State.updExpo_bln (f : Expo → Expo) : (s.updExpo f).bln = s.bln := by unfold State.updExpo; with_reducible rfl
@[simp] theorem State.updExpo_ledger (f : Expo → Expo) : (s.updExpo f).ledger = s.ledger := by unfold State.updExpo; with_reducible rfl
@[simp] theorem State.updExpo_loop (f : Expo → Expo) : (s.updExpo f).loop = s.loop := by unfold State.updExpo; with_reducible rfl
@[simp] theorem State.updExpo_gen (f : Expo → Expo) : (s.updExpo f).gen = s.gen := by unfold State.updExpo; with_reducible rfl
@[simp] theorem State.updExpo_lastSp (f : Expo → Expo) : (s.updExpo f).lastSp = s.lastSp := by unfold State.updExpo; with_reducible rfl
@[simp] theorem State.updExpo_lastDf (f : Expo → Expo) : (s.updExpo f).lastDf = s.lastDf := by unfold State.updExpo; with_reducible rfl
@[simp] theorem State.updExpo_gov (f : Expo → Expo) : (s.updExpo f).gov = s.gov := by unfold State.updExpo; with_reducible rfl
@[simp] theorem State.updExpo_cst (f : Expo → Expo) : (s.updExpo f).cst = s.cst := by unfold State.updExpo; with_reducible rfl
@[simp] theorem State.updExpo_results (f : Expo → Expo) : (s.updExpo f).results = s.results := by unfold State.updExpo; with_reducible rfl

/-! ### State.setRing -/

@[simp] theorem State.setRing_pending (i : Nat) (r : Ring) : (s.setRing i r).pending = s.pending := by unfold State.setRing; with_reducible rfl
@[simp] theorem State.setRing_due (i : Nat) (r : Ring) : (s.setRing i r).due = s.due := by unfold State.setRing; with_reducible rfl
@[simp] theorem State.setRing_recent (i : Nat) (r : Ring) : (s.setRing i r).recent = s.recent := by unfold State.setRing; with_reducible rfl
@[simp] theorem State.setRing_cyc (i : Nat) (r : Ring) : (s.setRing i r).cyc = s.cyc := by unfold State.setRing; with_reducible rfl
@[simp] theorem State.setRing_ctl (i : Nat) (r : Ring) : (s.setRing i r).ctl = s.ctl := by unfold State.setRing; with_reducible rfl
@[simp] theorem State.setRing_out (i : Nat) (r : Ring) : (s.setRing i r).out = s.out := by unfold State.setRing; with_reducible rfl
@[simp] theorem State.setRing_draws (i : Nat) (r : Ring) : (s.setRing i r).draws = s.draws := by unfold State.setRing; with_reducible rfl
@[simp] theorem State.setRing_tau (i : Nat) (r : Ring) : (s.setRing i r).tau = s.tau := by unfold State.setRing; with_reducible rfl
@[simp] theorem State.setRing_regs (i : Nat) (r : Ring) : (s.setRing i r).regs = s.regs := by unfold State.setRing; with_reducible rfl
@[simp] theorem State.setRing_hdrs (i : Nat) (r : Ring) : (s.setRing i r).hdrs = s.hdrs := by unfold State.setRing; with_reducible rfl
@[simp] theorem State.setRing_evlog (i : Nat) (r : Ring) : (s.setRing i r).evlog = s.evlog := by unfold State.setRing; with_reducible rfl
@[simp] theorem State.setRing_logWr (i : Nat) (r : Ring) : (s.setRing i r).logWr = s.logWr := by unfold State.setRing; with_reducible rfl
@[simp] theorem State.setRing_buckets (i : Nat) (r : Ring) : (s.setRing i r).buckets = s.buckets := by unfold State.setRing; with_reducible rfl
@[simp] theorem State.setRing_nv (i : Nat) (r : Ring) : (s.setRing i r).nv = s.nv := by unfold State.setRing; with_reducible rfl
@[simp] theorem State.setRing_nvCount (i : Nat) (r : Ring) : (s.setRing i r).nvCount = s.nvCount := by unfold State.setRing; with_reducible rfl
@[simp] theorem State.setRing_nvSlot (i : Nat) (r : Ring) : (s.setRing i r).nvSlot = s.nvSlot := by unfold State.setRing; with_reducible rfl
@[simp] theorem State.setRing_tp (i : Nat) (r : Ring) : (s.setRing i r).tp = s.tp := by unfold State.setRing; with_reducible rfl
@[simp] theorem State.setRing_cplData (i : Nat) (r : Ring) : (s.setRing i r).cplData = s.cplData := by unfold State.setRing; with_reducible rfl
@[simp] theorem State.setRing_spiData (i : Nat) (r : Ring) : (s.setRing i r).spiData = s.spiData := by unfold State.setRing; with_reducible rfl
@[simp] theorem State.setRing_cfgData (i : Nat) (r : Ring) : (s.setRing i r).cfgData = s.cfgData := by unfold State.setRing; with_reducible rfl
@[simp] theorem State.setRing_bar2Data (i : Nat) (r : Ring) : (s.setRing i r).bar2Data = s.bar2Data := by unfold State.setRing; with_reducible rfl
@[simp] theorem State.setRing_bar2Wait (i : Nat) (r : Ring) : (s.setRing i r).bar2Wait = s.bar2Wait := by unfold State.setRing; with_reducible rfl
@[simp] theorem State.setRing_bar4Data (i : Nat) (r : Ring) : (s.setRing i r).bar4Data = s.bar4Data := by unfold State.setRing; with_reducible rfl
@[simp] theorem State.setRing_clk (i : Nat) (r : Ring) : (s.setRing i r).clk = s.clk := by unfold State.setRing; with_reducible rfl
@[simp] theorem State.setRing_pins (i : Nat) (r : Ring) : (s.setRing i r).pins = s.pins := by unfold State.setRing; with_reducible rfl
@[simp] theorem State.setRing_link (i : Nat) (r : Ring) : (s.setRing i r).link = s.link := by unfold State.setRing; with_reducible rfl
@[simp] theorem State.setRing_rings (i : Nat) (r : Ring) : (s.setRing i r).rings = sput Ring.reset s.rings i r := rfl
@[simp] theorem State.setRing_chans (i : Nat) (r : Ring) : (s.setRing i r).chans = s.chans := by unfold State.setRing; with_reducible rfl
@[simp] theorem State.setRing_burstNo (i : Nat) (r : Ring) : (s.setRing i r).burstNo = s.burstNo := by unfold State.setRing; with_reducible rfl
@[simp] theorem State.setRing_sram (i : Nat) (r : Ring) : (s.setRing i r).sram = s.sram := by unfold State.setRing; with_reducible rfl
@[simp] theorem State.setRing_dram (i : Nat) (r : Ring) : (s.setRing i r).dram = s.dram := by unfold State.setRing; with_reducible rfl
@[simp] theorem State.setRing_arb (i : Nat) (r : Ring) : (s.setRing i r).arb = s.arb := by unfold State.setRing; with_reducible rfl
@[simp] theorem State.setRing_test (i : Nat) (r : Ring) : (s.setRing i r).test = s.test := by unfold State.setRing; with_reducible rfl
@[simp] theorem State.setRing_tap (i : Nat) (r : Ring) : (s.setRing i r).tap = s.tap := by unfold State.setRing; with_reducible rfl
@[simp] theorem State.setRing_bsr (i : Nat) (r : Ring) : (s.setRing i r).bsr = s.bsr := by unfold State.setRing; with_reducible rfl
@[simp] theorem State.setRing_tdo (i : Nat) (r : Ring) : (s.setRing i r).tdo = s.tdo := by unfold State.setRing; with_reducible rfl
@[simp] theorem State.setRing_ctxs (i : Nat) (r : Ring) : (s.setRing i r).ctxs = s.ctxs := by unfold State.setRing; with_reducible rfl
@[simp] theorem State.setRing_startQ (i : Nat) (r : Ring) : (s.setRing i r).startQ = s.startQ := by unfold State.setRing; with_reducible rfl
@[simp] theorem State.setRing_heldQ (i : Nat) (r : Ring) : (s.setRing i r).heldQ = s.heldQ := by unfold State.setRing; with_reducible rfl
@[simp] theorem State.setRing_form (i : Nat) (r : Ring) : (s.setRing i r).form = s.form := by unfold State.setRing; with_reducible rfl
@[simp] theorem State.setRing_win (i : Nat) (r : Ring) : (s.setRing i r).win = s.win := by unfold State.setRing; with_reducible rfl
@[simp] theorem State.setRing_alm (i : Nat) (r : Ring) : (s.setRing i r).alm = s.alm := by unfold State.setRing; with_reducible rfl
@[simp] theorem State.setRing_expo (i : Nat) (r : Ring) : (s.setRing i r).expo = s.expo := by unfold State.setRing; with_reducible rfl
@[simp] theorem State.setRing_markers (i : Nat) (r : Ring) : (s.setRing i r).markers = s.markers := by unfold State.setRing; with_reducible rfl
@[simp] theorem State.setRing_awaits (i : Nat) (r : Ring) : (s.setRing i r).awaits = s.awaits := by unfold State.setRing; with_reducible rfl
@[simp] theorem State.setRing_lastS (i : Nat) (r : Ring) : (s.setRing i r).lastS = s.lastS := by unfold State.setRing; with_reducible rfl
@[simp] theorem State.setRing_lastF (i : Nat) (r : Ring) : (s.setRing i r).lastF = s.lastF := by unfold State.setRing; with_reducible rfl
@[simp] theorem State.setRing_crossings (i : Nat) (r : Ring) : (s.setRing i r).crossings = s.crossings := by unfold State.setRing; with_reducible rfl
@[simp] theorem State.setRing_bln (i : Nat) (r : Ring) : (s.setRing i r).bln = s.bln := by unfold State.setRing; with_reducible rfl
@[simp] theorem State.setRing_ledger (i : Nat) (r : Ring) : (s.setRing i r).ledger = s.ledger := by unfold State.setRing; with_reducible rfl
@[simp] theorem State.setRing_loop (i : Nat) (r : Ring) : (s.setRing i r).loop = s.loop := by unfold State.setRing; with_reducible rfl
@[simp] theorem State.setRing_gen (i : Nat) (r : Ring) : (s.setRing i r).gen = s.gen := by unfold State.setRing; with_reducible rfl
@[simp] theorem State.setRing_lastSp (i : Nat) (r : Ring) : (s.setRing i r).lastSp = s.lastSp := by unfold State.setRing; with_reducible rfl
@[simp] theorem State.setRing_lastDf (i : Nat) (r : Ring) : (s.setRing i r).lastDf = s.lastDf := by unfold State.setRing; with_reducible rfl
@[simp] theorem State.setRing_gov (i : Nat) (r : Ring) : (s.setRing i r).gov = s.gov := by unfold State.setRing; with_reducible rfl
@[simp] theorem State.setRing_cst (i : Nat) (r : Ring) : (s.setRing i r).cst = s.cst := by unfold State.setRing; with_reducible rfl
@[simp] theorem State.setRing_results (i : Nat) (r : Ring) : (s.setRing i r).results = s.results := by unfold State.setRing; with_reducible rfl

/-! ### State.setChan -/

@[simp] theorem State.setChan_pending (i : Nat) (c : Chan) : (s.setChan i c).pending = s.pending := by unfold State.setChan; with_reducible rfl
@[simp] theorem State.setChan_due (i : Nat) (c : Chan) : (s.setChan i c).due = s.due := by unfold State.setChan; with_reducible rfl
@[simp] theorem State.setChan_recent (i : Nat) (c : Chan) : (s.setChan i c).recent = s.recent := by unfold State.setChan; with_reducible rfl
@[simp] theorem State.setChan_cyc (i : Nat) (c : Chan) : (s.setChan i c).cyc = s.cyc := by unfold State.setChan; with_reducible rfl
@[simp] theorem State.setChan_ctl (i : Nat) (c : Chan) : (s.setChan i c).ctl = s.ctl := by unfold State.setChan; with_reducible rfl
@[simp] theorem State.setChan_out (i : Nat) (c : Chan) : (s.setChan i c).out = s.out := by unfold State.setChan; with_reducible rfl
@[simp] theorem State.setChan_draws (i : Nat) (c : Chan) : (s.setChan i c).draws = s.draws := by unfold State.setChan; with_reducible rfl
@[simp] theorem State.setChan_tau (i : Nat) (c : Chan) : (s.setChan i c).tau = s.tau := by unfold State.setChan; with_reducible rfl
@[simp] theorem State.setChan_regs (i : Nat) (c : Chan) : (s.setChan i c).regs = s.regs := by unfold State.setChan; with_reducible rfl
@[simp] theorem State.setChan_hdrs (i : Nat) (c : Chan) : (s.setChan i c).hdrs = s.hdrs := by unfold State.setChan; with_reducible rfl
@[simp] theorem State.setChan_evlog (i : Nat) (c : Chan) : (s.setChan i c).evlog = s.evlog := by unfold State.setChan; with_reducible rfl
@[simp] theorem State.setChan_logWr (i : Nat) (c : Chan) : (s.setChan i c).logWr = s.logWr := by unfold State.setChan; with_reducible rfl
@[simp] theorem State.setChan_buckets (i : Nat) (c : Chan) : (s.setChan i c).buckets = s.buckets := by unfold State.setChan; with_reducible rfl
@[simp] theorem State.setChan_nv (i : Nat) (c : Chan) : (s.setChan i c).nv = s.nv := by unfold State.setChan; with_reducible rfl
@[simp] theorem State.setChan_nvCount (i : Nat) (c : Chan) : (s.setChan i c).nvCount = s.nvCount := by unfold State.setChan; with_reducible rfl
@[simp] theorem State.setChan_nvSlot (i : Nat) (c : Chan) : (s.setChan i c).nvSlot = s.nvSlot := by unfold State.setChan; with_reducible rfl
@[simp] theorem State.setChan_tp (i : Nat) (c : Chan) : (s.setChan i c).tp = s.tp := by unfold State.setChan; with_reducible rfl
@[simp] theorem State.setChan_cplData (i : Nat) (c : Chan) : (s.setChan i c).cplData = s.cplData := by unfold State.setChan; with_reducible rfl
@[simp] theorem State.setChan_spiData (i : Nat) (c : Chan) : (s.setChan i c).spiData = s.spiData := by unfold State.setChan; with_reducible rfl
@[simp] theorem State.setChan_cfgData (i : Nat) (c : Chan) : (s.setChan i c).cfgData = s.cfgData := by unfold State.setChan; with_reducible rfl
@[simp] theorem State.setChan_bar2Data (i : Nat) (c : Chan) : (s.setChan i c).bar2Data = s.bar2Data := by unfold State.setChan; with_reducible rfl
@[simp] theorem State.setChan_bar2Wait (i : Nat) (c : Chan) : (s.setChan i c).bar2Wait = s.bar2Wait := by unfold State.setChan; with_reducible rfl
@[simp] theorem State.setChan_bar4Data (i : Nat) (c : Chan) : (s.setChan i c).bar4Data = s.bar4Data := by unfold State.setChan; with_reducible rfl
@[simp] theorem State.setChan_clk (i : Nat) (c : Chan) : (s.setChan i c).clk = s.clk := by unfold State.setChan; with_reducible rfl
@[simp] theorem State.setChan_pins (i : Nat) (c : Chan) : (s.setChan i c).pins = s.pins := by unfold State.setChan; with_reducible rfl
@[simp] theorem State.setChan_link (i : Nat) (c : Chan) : (s.setChan i c).link = s.link := by unfold State.setChan; with_reducible rfl
@[simp] theorem State.setChan_rings (i : Nat) (c : Chan) : (s.setChan i c).rings = s.rings := by unfold State.setChan; with_reducible rfl
@[simp] theorem State.setChan_chans (i : Nat) (c : Chan) : (s.setChan i c).chans = sput Chan.reset s.chans i c := rfl
@[simp] theorem State.setChan_burstNo (i : Nat) (c : Chan) : (s.setChan i c).burstNo = s.burstNo := by unfold State.setChan; with_reducible rfl
@[simp] theorem State.setChan_sram (i : Nat) (c : Chan) : (s.setChan i c).sram = s.sram := by unfold State.setChan; with_reducible rfl
@[simp] theorem State.setChan_dram (i : Nat) (c : Chan) : (s.setChan i c).dram = s.dram := by unfold State.setChan; with_reducible rfl
@[simp] theorem State.setChan_arb (i : Nat) (c : Chan) : (s.setChan i c).arb = s.arb := by unfold State.setChan; with_reducible rfl
@[simp] theorem State.setChan_test (i : Nat) (c : Chan) : (s.setChan i c).test = s.test := by unfold State.setChan; with_reducible rfl
@[simp] theorem State.setChan_tap (i : Nat) (c : Chan) : (s.setChan i c).tap = s.tap := by unfold State.setChan; with_reducible rfl
@[simp] theorem State.setChan_bsr (i : Nat) (c : Chan) : (s.setChan i c).bsr = s.bsr := by unfold State.setChan; with_reducible rfl
@[simp] theorem State.setChan_tdo (i : Nat) (c : Chan) : (s.setChan i c).tdo = s.tdo := by unfold State.setChan; with_reducible rfl
@[simp] theorem State.setChan_ctxs (i : Nat) (c : Chan) : (s.setChan i c).ctxs = s.ctxs := by unfold State.setChan; with_reducible rfl
@[simp] theorem State.setChan_startQ (i : Nat) (c : Chan) : (s.setChan i c).startQ = s.startQ := by unfold State.setChan; with_reducible rfl
@[simp] theorem State.setChan_heldQ (i : Nat) (c : Chan) : (s.setChan i c).heldQ = s.heldQ := by unfold State.setChan; with_reducible rfl
@[simp] theorem State.setChan_form (i : Nat) (c : Chan) : (s.setChan i c).form = s.form := by unfold State.setChan; with_reducible rfl
@[simp] theorem State.setChan_win (i : Nat) (c : Chan) : (s.setChan i c).win = s.win := by unfold State.setChan; with_reducible rfl
@[simp] theorem State.setChan_alm (i : Nat) (c : Chan) : (s.setChan i c).alm = s.alm := by unfold State.setChan; with_reducible rfl
@[simp] theorem State.setChan_expo (i : Nat) (c : Chan) : (s.setChan i c).expo = s.expo := by unfold State.setChan; with_reducible rfl
@[simp] theorem State.setChan_markers (i : Nat) (c : Chan) : (s.setChan i c).markers = s.markers := by unfold State.setChan; with_reducible rfl
@[simp] theorem State.setChan_awaits (i : Nat) (c : Chan) : (s.setChan i c).awaits = s.awaits := by unfold State.setChan; with_reducible rfl
@[simp] theorem State.setChan_lastS (i : Nat) (c : Chan) : (s.setChan i c).lastS = s.lastS := by unfold State.setChan; with_reducible rfl
@[simp] theorem State.setChan_lastF (i : Nat) (c : Chan) : (s.setChan i c).lastF = s.lastF := by unfold State.setChan; with_reducible rfl
@[simp] theorem State.setChan_crossings (i : Nat) (c : Chan) : (s.setChan i c).crossings = s.crossings := by unfold State.setChan; with_reducible rfl
@[simp] theorem State.setChan_bln (i : Nat) (c : Chan) : (s.setChan i c).bln = s.bln := by unfold State.setChan; with_reducible rfl
@[simp] theorem State.setChan_ledger (i : Nat) (c : Chan) : (s.setChan i c).ledger = s.ledger := by unfold State.setChan; with_reducible rfl
@[simp] theorem State.setChan_loop (i : Nat) (c : Chan) : (s.setChan i c).loop = s.loop := by unfold State.setChan; with_reducible rfl
@[simp] theorem State.setChan_gen (i : Nat) (c : Chan) : (s.setChan i c).gen = s.gen := by unfold State.setChan; with_reducible rfl
@[simp] theorem State.setChan_lastSp (i : Nat) (c : Chan) : (s.setChan i c).lastSp = s.lastSp := by unfold State.setChan; with_reducible rfl
@[simp] theorem State.setChan_lastDf (i : Nat) (c : Chan) : (s.setChan i c).lastDf = s.lastDf := by unfold State.setChan; with_reducible rfl
@[simp] theorem State.setChan_gov (i : Nat) (c : Chan) : (s.setChan i c).gov = s.gov := by unfold State.setChan; with_reducible rfl
@[simp] theorem State.setChan_cst (i : Nat) (c : Chan) : (s.setChan i c).cst = s.cst := by unfold State.setChan; with_reducible rfl
@[simp] theorem State.setChan_results (i : Nat) (c : Chan) : (s.setChan i c).results = s.results := by unfold State.setChan; with_reducible rfl

/-! ### State.setPlane -/

@[simp] theorem State.setPlane_pending (p : Nat) (x : PLane) : (s.setPlane p x).pending = s.pending := by unfold State.setPlane; with_reducible rfl
@[simp] theorem State.setPlane_due (p : Nat) (x : PLane) : (s.setPlane p x).due = s.due := by unfold State.setPlane; with_reducible rfl
@[simp] theorem State.setPlane_recent (p : Nat) (x : PLane) : (s.setPlane p x).recent = s.recent := by unfold State.setPlane; with_reducible rfl
@[simp] theorem State.setPlane_cyc (p : Nat) (x : PLane) : (s.setPlane p x).cyc = s.cyc := by unfold State.setPlane; with_reducible rfl
@[simp] theorem State.setPlane_ctl (p : Nat) (x : PLane) : (s.setPlane p x).ctl = s.ctl := by unfold State.setPlane; with_reducible rfl
@[simp] theorem State.setPlane_out (p : Nat) (x : PLane) : (s.setPlane p x).out = s.out := by unfold State.setPlane; with_reducible rfl
@[simp] theorem State.setPlane_draws (p : Nat) (x : PLane) : (s.setPlane p x).draws = s.draws := by unfold State.setPlane; with_reducible rfl
@[simp] theorem State.setPlane_tau (p : Nat) (x : PLane) : (s.setPlane p x).tau = s.tau := by unfold State.setPlane; with_reducible rfl
@[simp] theorem State.setPlane_regs (p : Nat) (x : PLane) : (s.setPlane p x).regs = s.regs := by unfold State.setPlane; with_reducible rfl
@[simp] theorem State.setPlane_hdrs (p : Nat) (x : PLane) : (s.setPlane p x).hdrs = s.hdrs := by unfold State.setPlane; with_reducible rfl
@[simp] theorem State.setPlane_evlog (p : Nat) (x : PLane) : (s.setPlane p x).evlog = s.evlog := by unfold State.setPlane; with_reducible rfl
@[simp] theorem State.setPlane_logWr (p : Nat) (x : PLane) : (s.setPlane p x).logWr = s.logWr := by unfold State.setPlane; with_reducible rfl
@[simp] theorem State.setPlane_buckets (p : Nat) (x : PLane) : (s.setPlane p x).buckets = s.buckets := by unfold State.setPlane; with_reducible rfl
@[simp] theorem State.setPlane_nv (p : Nat) (x : PLane) : (s.setPlane p x).nv = s.nv := by unfold State.setPlane; with_reducible rfl
@[simp] theorem State.setPlane_nvCount (p : Nat) (x : PLane) : (s.setPlane p x).nvCount = s.nvCount := by unfold State.setPlane; with_reducible rfl
@[simp] theorem State.setPlane_nvSlot (p : Nat) (x : PLane) : (s.setPlane p x).nvSlot = s.nvSlot := by unfold State.setPlane; with_reducible rfl
@[simp] theorem State.setPlane_tp (p : Nat) (x : PLane) : (s.setPlane p x).tp = s.tp := by unfold State.setPlane; with_reducible rfl
@[simp] theorem State.setPlane_cplData (p : Nat) (x : PLane) : (s.setPlane p x).cplData = s.cplData := by unfold State.setPlane; with_reducible rfl
@[simp] theorem State.setPlane_spiData (p : Nat) (x : PLane) : (s.setPlane p x).spiData = s.spiData := by unfold State.setPlane; with_reducible rfl
@[simp] theorem State.setPlane_cfgData (p : Nat) (x : PLane) : (s.setPlane p x).cfgData = s.cfgData := by unfold State.setPlane; with_reducible rfl
@[simp] theorem State.setPlane_bar2Data (p : Nat) (x : PLane) : (s.setPlane p x).bar2Data = s.bar2Data := by unfold State.setPlane; with_reducible rfl
@[simp] theorem State.setPlane_bar2Wait (p : Nat) (x : PLane) : (s.setPlane p x).bar2Wait = s.bar2Wait := by unfold State.setPlane; with_reducible rfl
@[simp] theorem State.setPlane_bar4Data (p : Nat) (x : PLane) : (s.setPlane p x).bar4Data = s.bar4Data := by unfold State.setPlane; with_reducible rfl
@[simp] theorem State.setPlane_clk (p : Nat) (x : PLane) : (s.setPlane p x).clk = s.clk := by unfold State.setPlane; with_reducible rfl
@[simp] theorem State.setPlane_pins (p : Nat) (x : PLane) : (s.setPlane p x).pins = s.pins := by unfold State.setPlane; with_reducible rfl
@[simp] theorem State.setPlane_link (p : Nat) (x : PLane) : (s.setPlane p x).link = s.link := by unfold State.setPlane; with_reducible rfl
@[simp] theorem State.setPlane_rings (p : Nat) (x : PLane) : (s.setPlane p x).rings = s.rings := by unfold State.setPlane; with_reducible rfl
@[simp] theorem State.setPlane_chans (p : Nat) (x : PLane) : (s.setPlane p x).chans = s.chans := by unfold State.setPlane; with_reducible rfl
@[simp] theorem State.setPlane_burstNo (p : Nat) (x : PLane) : (s.setPlane p x).burstNo = s.burstNo := by unfold State.setPlane; with_reducible rfl
@[simp] theorem State.setPlane_sram (p : Nat) (x : PLane) : (s.setPlane p x).sram = s.sram := by unfold State.setPlane; with_reducible rfl
@[simp] theorem State.setPlane_dram (p : Nat) (x : PLane) : (s.setPlane p x).dram = s.dram := by unfold State.setPlane; with_reducible rfl
@[simp] theorem State.setPlane_arb (p : Nat) (x : PLane) : (s.setPlane p x).arb = s.arb := by unfold State.setPlane; with_reducible rfl
@[simp] theorem State.setPlane_test (p : Nat) (x : PLane) : (s.setPlane p x).test = s.test := by unfold State.setPlane; with_reducible rfl
@[simp] theorem State.setPlane_tap (p : Nat) (x : PLane) : (s.setPlane p x).tap = s.tap := by unfold State.setPlane; with_reducible rfl
@[simp] theorem State.setPlane_bsr (p : Nat) (x : PLane) : (s.setPlane p x).bsr = s.bsr := by unfold State.setPlane; with_reducible rfl
@[simp] theorem State.setPlane_tdo (p : Nat) (x : PLane) : (s.setPlane p x).tdo = s.tdo := by unfold State.setPlane; with_reducible rfl
@[simp] theorem State.setPlane_ctxs (p : Nat) (x : PLane) : (s.setPlane p x).ctxs = s.ctxs := by unfold State.setPlane; with_reducible rfl
@[simp] theorem State.setPlane_startQ (p : Nat) (x : PLane) : (s.setPlane p x).startQ = s.startQ := by unfold State.setPlane; with_reducible rfl
@[simp] theorem State.setPlane_heldQ (p : Nat) (x : PLane) : (s.setPlane p x).heldQ = s.heldQ := by unfold State.setPlane; with_reducible rfl
@[simp] theorem State.setPlane_form (p : Nat) (x : PLane) : (s.setPlane p x).form = s.form := by unfold State.setPlane; with_reducible rfl
@[simp] theorem State.setPlane_win (p : Nat) (x : PLane) : (s.setPlane p x).win = s.win := by unfold State.setPlane; with_reducible rfl
@[simp] theorem State.setPlane_alm (p : Nat) (x : PLane) : (s.setPlane p x).alm = s.alm := by unfold State.setPlane; with_reducible rfl
@[simp] theorem State.setPlane_expo (p : Nat) (x : PLane) : (s.setPlane p x).expo = s.expo := by unfold State.setPlane; with_reducible rfl
@[simp] theorem State.setPlane_markers (p : Nat) (x : PLane) : (s.setPlane p x).markers = s.markers := by unfold State.setPlane; with_reducible rfl
@[simp] theorem State.setPlane_awaits (p : Nat) (x : PLane) : (s.setPlane p x).awaits = s.awaits := by unfold State.setPlane; with_reducible rfl
@[simp] theorem State.setPlane_lastS (p : Nat) (x : PLane) : (s.setPlane p x).lastS = s.lastS := by unfold State.setPlane; with_reducible rfl
@[simp] theorem State.setPlane_lastF (p : Nat) (x : PLane) : (s.setPlane p x).lastF = s.lastF := by unfold State.setPlane; with_reducible rfl
@[simp] theorem State.setPlane_crossings (p : Nat) (x : PLane) : (s.setPlane p x).crossings = s.crossings := by unfold State.setPlane; with_reducible rfl
@[simp] theorem State.setPlane_ledger (p : Nat) (x : PLane) : (s.setPlane p x).ledger = s.ledger := by unfold State.setPlane; with_reducible rfl
@[simp] theorem State.setPlane_loop (p : Nat) (x : PLane) : (s.setPlane p x).loop = s.loop := by unfold State.setPlane; with_reducible rfl
@[simp] theorem State.setPlane_gen (p : Nat) (x : PLane) : (s.setPlane p x).gen = s.gen := by unfold State.setPlane; with_reducible rfl
@[simp] theorem State.setPlane_lastSp (p : Nat) (x : PLane) : (s.setPlane p x).lastSp = s.lastSp := by unfold State.setPlane; with_reducible rfl
@[simp] theorem State.setPlane_lastDf (p : Nat) (x : PLane) : (s.setPlane p x).lastDf = s.lastDf := by unfold State.setPlane; with_reducible rfl
@[simp] theorem State.setPlane_gov (p : Nat) (x : PLane) : (s.setPlane p x).gov = s.gov := by unfold State.setPlane; with_reducible rfl
@[simp] theorem State.setPlane_cst (p : Nat) (x : PLane) : (s.setPlane p x).cst = s.cst := by unfold State.setPlane; with_reducible rfl
@[simp] theorem State.setPlane_results (p : Nat) (x : PLane) : (s.setPlane p x).results = s.results := by unfold State.setPlane; with_reducible rfl

/-! ### State.setKid -/

@[simp] theorem State.setKid_pending (c : Nat) (k : Child) : (s.setKid c k).pending = s.pending := by unfold State.setKid; with_reducible rfl
@[simp] theorem State.setKid_due (c : Nat) (k : Child) : (s.setKid c k).due = s.due := by unfold State.setKid; with_reducible rfl
@[simp] theorem State.setKid_recent (c : Nat) (k : Child) : (s.setKid c k).recent = s.recent := by unfold State.setKid; with_reducible rfl
@[simp] theorem State.setKid_cyc (c : Nat) (k : Child) : (s.setKid c k).cyc = s.cyc := by unfold State.setKid; with_reducible rfl
@[simp] theorem State.setKid_ctl (c : Nat) (k : Child) : (s.setKid c k).ctl = s.ctl := by unfold State.setKid; with_reducible rfl
@[simp] theorem State.setKid_out (c : Nat) (k : Child) : (s.setKid c k).out = s.out := by unfold State.setKid; with_reducible rfl
@[simp] theorem State.setKid_draws (c : Nat) (k : Child) : (s.setKid c k).draws = s.draws := by unfold State.setKid; with_reducible rfl
@[simp] theorem State.setKid_tau (c : Nat) (k : Child) : (s.setKid c k).tau = s.tau := by unfold State.setKid; with_reducible rfl
@[simp] theorem State.setKid_regs (c : Nat) (k : Child) : (s.setKid c k).regs = s.regs := by unfold State.setKid; with_reducible rfl
@[simp] theorem State.setKid_hdrs (c : Nat) (k : Child) : (s.setKid c k).hdrs = s.hdrs := by unfold State.setKid; with_reducible rfl
@[simp] theorem State.setKid_evlog (c : Nat) (k : Child) : (s.setKid c k).evlog = s.evlog := by unfold State.setKid; with_reducible rfl
@[simp] theorem State.setKid_logWr (c : Nat) (k : Child) : (s.setKid c k).logWr = s.logWr := by unfold State.setKid; with_reducible rfl
@[simp] theorem State.setKid_buckets (c : Nat) (k : Child) : (s.setKid c k).buckets = s.buckets := by unfold State.setKid; with_reducible rfl
@[simp] theorem State.setKid_nv (c : Nat) (k : Child) : (s.setKid c k).nv = s.nv := by unfold State.setKid; with_reducible rfl
@[simp] theorem State.setKid_nvCount (c : Nat) (k : Child) : (s.setKid c k).nvCount = s.nvCount := by unfold State.setKid; with_reducible rfl
@[simp] theorem State.setKid_nvSlot (c : Nat) (k : Child) : (s.setKid c k).nvSlot = s.nvSlot := by unfold State.setKid; with_reducible rfl
@[simp] theorem State.setKid_tp (c : Nat) (k : Child) : (s.setKid c k).tp = s.tp := by unfold State.setKid; with_reducible rfl
@[simp] theorem State.setKid_cplData (c : Nat) (k : Child) : (s.setKid c k).cplData = s.cplData := by unfold State.setKid; with_reducible rfl
@[simp] theorem State.setKid_spiData (c : Nat) (k : Child) : (s.setKid c k).spiData = s.spiData := by unfold State.setKid; with_reducible rfl
@[simp] theorem State.setKid_cfgData (c : Nat) (k : Child) : (s.setKid c k).cfgData = s.cfgData := by unfold State.setKid; with_reducible rfl
@[simp] theorem State.setKid_bar2Data (c : Nat) (k : Child) : (s.setKid c k).bar2Data = s.bar2Data := by unfold State.setKid; with_reducible rfl
@[simp] theorem State.setKid_bar2Wait (c : Nat) (k : Child) : (s.setKid c k).bar2Wait = s.bar2Wait := by unfold State.setKid; with_reducible rfl
@[simp] theorem State.setKid_bar4Data (c : Nat) (k : Child) : (s.setKid c k).bar4Data = s.bar4Data := by unfold State.setKid; with_reducible rfl
@[simp] theorem State.setKid_clk (c : Nat) (k : Child) : (s.setKid c k).clk = s.clk := by unfold State.setKid; with_reducible rfl
@[simp] theorem State.setKid_pins (c : Nat) (k : Child) : (s.setKid c k).pins = s.pins := by unfold State.setKid; with_reducible rfl
@[simp] theorem State.setKid_link (c : Nat) (k : Child) : (s.setKid c k).link = s.link := by unfold State.setKid; with_reducible rfl
@[simp] theorem State.setKid_rings (c : Nat) (k : Child) : (s.setKid c k).rings = s.rings := by unfold State.setKid; with_reducible rfl
@[simp] theorem State.setKid_chans (c : Nat) (k : Child) : (s.setKid c k).chans = s.chans := by unfold State.setKid; with_reducible rfl
@[simp] theorem State.setKid_burstNo (c : Nat) (k : Child) : (s.setKid c k).burstNo = s.burstNo := by unfold State.setKid; with_reducible rfl
@[simp] theorem State.setKid_sram (c : Nat) (k : Child) : (s.setKid c k).sram = s.sram := by unfold State.setKid; with_reducible rfl
@[simp] theorem State.setKid_dram (c : Nat) (k : Child) : (s.setKid c k).dram = s.dram := by unfold State.setKid; with_reducible rfl
@[simp] theorem State.setKid_arb (c : Nat) (k : Child) : (s.setKid c k).arb = s.arb := by unfold State.setKid; with_reducible rfl
@[simp] theorem State.setKid_test (c : Nat) (k : Child) : (s.setKid c k).test = s.test := by unfold State.setKid; with_reducible rfl
@[simp] theorem State.setKid_tap (c : Nat) (k : Child) : (s.setKid c k).tap = s.tap := by unfold State.setKid; with_reducible rfl
@[simp] theorem State.setKid_bsr (c : Nat) (k : Child) : (s.setKid c k).bsr = s.bsr := by unfold State.setKid; with_reducible rfl
@[simp] theorem State.setKid_tdo (c : Nat) (k : Child) : (s.setKid c k).tdo = s.tdo := by unfold State.setKid; with_reducible rfl
@[simp] theorem State.setKid_ctxs (c : Nat) (k : Child) : (s.setKid c k).ctxs = s.ctxs := by unfold State.setKid; with_reducible rfl
@[simp] theorem State.setKid_startQ (c : Nat) (k : Child) : (s.setKid c k).startQ = s.startQ := by unfold State.setKid; with_reducible rfl
@[simp] theorem State.setKid_heldQ (c : Nat) (k : Child) : (s.setKid c k).heldQ = s.heldQ := by unfold State.setKid; with_reducible rfl
@[simp] theorem State.setKid_form (c : Nat) (k : Child) : (s.setKid c k).form = s.form := by unfold State.setKid; with_reducible rfl
@[simp] theorem State.setKid_win (c : Nat) (k : Child) : (s.setKid c k).win = s.win := by unfold State.setKid; with_reducible rfl
@[simp] theorem State.setKid_alm (c : Nat) (k : Child) : (s.setKid c k).alm = s.alm := by unfold State.setKid; with_reducible rfl
@[simp] theorem State.setKid_expo (c : Nat) (k : Child) : (s.setKid c k).expo = s.expo := by unfold State.setKid; with_reducible rfl
@[simp] theorem State.setKid_markers (c : Nat) (k : Child) : (s.setKid c k).markers = s.markers := by unfold State.setKid; with_reducible rfl
@[simp] theorem State.setKid_awaits (c : Nat) (k : Child) : (s.setKid c k).awaits = s.awaits := by unfold State.setKid; with_reducible rfl
@[simp] theorem State.setKid_lastS (c : Nat) (k : Child) : (s.setKid c k).lastS = s.lastS := by unfold State.setKid; with_reducible rfl
@[simp] theorem State.setKid_lastF (c : Nat) (k : Child) : (s.setKid c k).lastF = s.lastF := by unfold State.setKid; with_reducible rfl
@[simp] theorem State.setKid_crossings (c : Nat) (k : Child) : (s.setKid c k).crossings = s.crossings := by unfold State.setKid; with_reducible rfl
@[simp] theorem State.setKid_bln (c : Nat) (k : Child) : (s.setKid c k).bln = s.bln := by unfold State.setKid; with_reducible rfl
@[simp] theorem State.setKid_ledger (c : Nat) (k : Child) : (s.setKid c k).ledger = s.ledger := by unfold State.setKid; with_reducible rfl
@[simp] theorem State.setKid_loop (c : Nat) (k : Child) : (s.setKid c k).loop = s.loop := by unfold State.setKid; with_reducible rfl
@[simp] theorem State.setKid_gen (c : Nat) (k : Child) : (s.setKid c k).gen = s.gen := by unfold State.setKid; with_reducible rfl
@[simp] theorem State.setKid_lastSp (c : Nat) (k : Child) : (s.setKid c k).lastSp = s.lastSp := by unfold State.setKid; with_reducible rfl
@[simp] theorem State.setKid_lastDf (c : Nat) (k : Child) : (s.setKid c k).lastDf = s.lastDf := by unfold State.setKid; with_reducible rfl
@[simp] theorem State.setKid_gov (c : Nat) (k : Child) : (s.setKid c k).gov = s.gov := by unfold State.setKid; with_reducible rfl
@[simp] theorem State.setKid_results (c : Nat) (k : Child) : (s.setKid c k).results = s.results := by unfold State.setKid; with_reducible rfl

/-! ### State.setGen -/

@[simp] theorem State.setGen_pending (g : Gen) : (s.setGen g).pending = s.pending := by unfold State.setGen; with_reducible rfl
@[simp] theorem State.setGen_due (g : Gen) : (s.setGen g).due = s.due := by unfold State.setGen; with_reducible rfl
@[simp] theorem State.setGen_recent (g : Gen) : (s.setGen g).recent = s.recent := by unfold State.setGen; with_reducible rfl
@[simp] theorem State.setGen_cyc (g : Gen) : (s.setGen g).cyc = s.cyc := by unfold State.setGen; with_reducible rfl
@[simp] theorem State.setGen_ctl (g : Gen) : (s.setGen g).ctl = s.ctl := by unfold State.setGen; with_reducible rfl
@[simp] theorem State.setGen_out (g : Gen) : (s.setGen g).out = s.out := by unfold State.setGen; with_reducible rfl
@[simp] theorem State.setGen_draws (g : Gen) : (s.setGen g).draws = s.draws := by unfold State.setGen; with_reducible rfl
@[simp] theorem State.setGen_tau (g : Gen) : (s.setGen g).tau = s.tau := by unfold State.setGen; with_reducible rfl
@[simp] theorem State.setGen_regs (g : Gen) : (s.setGen g).regs = s.regs := by unfold State.setGen; with_reducible rfl
@[simp] theorem State.setGen_hdrs (g : Gen) : (s.setGen g).hdrs = s.hdrs := by unfold State.setGen; with_reducible rfl
@[simp] theorem State.setGen_evlog (g : Gen) : (s.setGen g).evlog = s.evlog := by unfold State.setGen; with_reducible rfl
@[simp] theorem State.setGen_logWr (g : Gen) : (s.setGen g).logWr = s.logWr := by unfold State.setGen; with_reducible rfl
@[simp] theorem State.setGen_buckets (g : Gen) : (s.setGen g).buckets = s.buckets := by unfold State.setGen; with_reducible rfl
@[simp] theorem State.setGen_nv (g : Gen) : (s.setGen g).nv = s.nv := by unfold State.setGen; with_reducible rfl
@[simp] theorem State.setGen_nvCount (g : Gen) : (s.setGen g).nvCount = s.nvCount := by unfold State.setGen; with_reducible rfl
@[simp] theorem State.setGen_nvSlot (g : Gen) : (s.setGen g).nvSlot = s.nvSlot := by unfold State.setGen; with_reducible rfl
@[simp] theorem State.setGen_tp (g : Gen) : (s.setGen g).tp = s.tp := by unfold State.setGen; with_reducible rfl
@[simp] theorem State.setGen_cplData (g : Gen) : (s.setGen g).cplData = s.cplData := by unfold State.setGen; with_reducible rfl
@[simp] theorem State.setGen_spiData (g : Gen) : (s.setGen g).spiData = s.spiData := by unfold State.setGen; with_reducible rfl
@[simp] theorem State.setGen_cfgData (g : Gen) : (s.setGen g).cfgData = s.cfgData := by unfold State.setGen; with_reducible rfl
@[simp] theorem State.setGen_bar2Data (g : Gen) : (s.setGen g).bar2Data = s.bar2Data := by unfold State.setGen; with_reducible rfl
@[simp] theorem State.setGen_bar2Wait (g : Gen) : (s.setGen g).bar2Wait = s.bar2Wait := by unfold State.setGen; with_reducible rfl
@[simp] theorem State.setGen_bar4Data (g : Gen) : (s.setGen g).bar4Data = s.bar4Data := by unfold State.setGen; with_reducible rfl
@[simp] theorem State.setGen_clk (g : Gen) : (s.setGen g).clk = s.clk := by unfold State.setGen; with_reducible rfl
@[simp] theorem State.setGen_pins (g : Gen) : (s.setGen g).pins = s.pins := by unfold State.setGen; with_reducible rfl
@[simp] theorem State.setGen_link (g : Gen) : (s.setGen g).link = s.link := by unfold State.setGen; with_reducible rfl
@[simp] theorem State.setGen_rings (g : Gen) : (s.setGen g).rings = s.rings := by unfold State.setGen; with_reducible rfl
@[simp] theorem State.setGen_chans (g : Gen) : (s.setGen g).chans = s.chans := by unfold State.setGen; with_reducible rfl
@[simp] theorem State.setGen_burstNo (g : Gen) : (s.setGen g).burstNo = s.burstNo := by unfold State.setGen; with_reducible rfl
@[simp] theorem State.setGen_sram (g : Gen) : (s.setGen g).sram = s.sram := by unfold State.setGen; with_reducible rfl
@[simp] theorem State.setGen_dram (g : Gen) : (s.setGen g).dram = s.dram := by unfold State.setGen; with_reducible rfl
@[simp] theorem State.setGen_arb (g : Gen) : (s.setGen g).arb = s.arb := by unfold State.setGen; with_reducible rfl
@[simp] theorem State.setGen_test (g : Gen) : (s.setGen g).test = s.test := by unfold State.setGen; with_reducible rfl
@[simp] theorem State.setGen_tap (g : Gen) : (s.setGen g).tap = s.tap := by unfold State.setGen; with_reducible rfl
@[simp] theorem State.setGen_bsr (g : Gen) : (s.setGen g).bsr = s.bsr := by unfold State.setGen; with_reducible rfl
@[simp] theorem State.setGen_tdo (g : Gen) : (s.setGen g).tdo = s.tdo := by unfold State.setGen; with_reducible rfl
@[simp] theorem State.setGen_ctxs (g : Gen) : (s.setGen g).ctxs = s.ctxs := by unfold State.setGen; with_reducible rfl
@[simp] theorem State.setGen_startQ (g : Gen) : (s.setGen g).startQ = s.startQ := by unfold State.setGen; with_reducible rfl
@[simp] theorem State.setGen_heldQ (g : Gen) : (s.setGen g).heldQ = s.heldQ := by unfold State.setGen; with_reducible rfl
@[simp] theorem State.setGen_form (g : Gen) : (s.setGen g).form = s.form := by unfold State.setGen; with_reducible rfl
@[simp] theorem State.setGen_win (g : Gen) : (s.setGen g).win = s.win := by unfold State.setGen; with_reducible rfl
@[simp] theorem State.setGen_alm (g : Gen) : (s.setGen g).alm = s.alm := by unfold State.setGen; with_reducible rfl
@[simp] theorem State.setGen_expo (g : Gen) : (s.setGen g).expo = s.expo := by unfold State.setGen; with_reducible rfl
@[simp] theorem State.setGen_markers (g : Gen) : (s.setGen g).markers = s.markers := by unfold State.setGen; with_reducible rfl
@[simp] theorem State.setGen_awaits (g : Gen) : (s.setGen g).awaits = s.awaits := by unfold State.setGen; with_reducible rfl
@[simp] theorem State.setGen_lastS (g : Gen) : (s.setGen g).lastS = s.lastS := by unfold State.setGen; with_reducible rfl
@[simp] theorem State.setGen_lastF (g : Gen) : (s.setGen g).lastF = s.lastF := by unfold State.setGen; with_reducible rfl
@[simp] theorem State.setGen_crossings (g : Gen) : (s.setGen g).crossings = s.crossings := by unfold State.setGen; with_reducible rfl
@[simp] theorem State.setGen_bln (g : Gen) : (s.setGen g).bln = s.bln := by unfold State.setGen; with_reducible rfl
@[simp] theorem State.setGen_ledger (g : Gen) : (s.setGen g).ledger = s.ledger := by unfold State.setGen; with_reducible rfl
@[simp] theorem State.setGen_loop (g : Gen) : (s.setGen g).loop = s.loop := by unfold State.setGen; with_reducible rfl
@[simp] theorem State.setGen_gen (g : Gen) : (s.setGen g).gen = g := rfl
@[simp] theorem State.setGen_lastSp (g : Gen) : (s.setGen g).lastSp = s.lastSp := by unfold State.setGen; with_reducible rfl
@[simp] theorem State.setGen_lastDf (g : Gen) : (s.setGen g).lastDf = s.lastDf := by unfold State.setGen; with_reducible rfl
@[simp] theorem State.setGen_gov (g : Gen) : (s.setGen g).gov = s.gov := by unfold State.setGen; with_reducible rfl
@[simp] theorem State.setGen_cst (g : Gen) : (s.setGen g).cst = s.cst := by unfold State.setGen; with_reducible rfl
@[simp] theorem State.setGen_results (g : Gen) : (s.setGen g).results = s.results := by unfold State.setGen; with_reducible rfl

/-! ### State.setLoop -/

@[simp] theorem State.setLoop_pending (l : Loop) : (s.setLoop l).pending = s.pending := by unfold State.setLoop; with_reducible rfl
@[simp] theorem State.setLoop_due (l : Loop) : (s.setLoop l).due = s.due := by unfold State.setLoop; with_reducible rfl
@[simp] theorem State.setLoop_recent (l : Loop) : (s.setLoop l).recent = s.recent := by unfold State.setLoop; with_reducible rfl
@[simp] theorem State.setLoop_cyc (l : Loop) : (s.setLoop l).cyc = s.cyc := by unfold State.setLoop; with_reducible rfl
@[simp] theorem State.setLoop_ctl (l : Loop) : (s.setLoop l).ctl = s.ctl := by unfold State.setLoop; with_reducible rfl
@[simp] theorem State.setLoop_out (l : Loop) : (s.setLoop l).out = s.out := by unfold State.setLoop; with_reducible rfl
@[simp] theorem State.setLoop_draws (l : Loop) : (s.setLoop l).draws = s.draws := by unfold State.setLoop; with_reducible rfl
@[simp] theorem State.setLoop_tau (l : Loop) : (s.setLoop l).tau = s.tau := by unfold State.setLoop; with_reducible rfl
@[simp] theorem State.setLoop_regs (l : Loop) : (s.setLoop l).regs = s.regs := by unfold State.setLoop; with_reducible rfl
@[simp] theorem State.setLoop_hdrs (l : Loop) : (s.setLoop l).hdrs = s.hdrs := by unfold State.setLoop; with_reducible rfl
@[simp] theorem State.setLoop_evlog (l : Loop) : (s.setLoop l).evlog = s.evlog := by unfold State.setLoop; with_reducible rfl
@[simp] theorem State.setLoop_logWr (l : Loop) : (s.setLoop l).logWr = s.logWr := by unfold State.setLoop; with_reducible rfl
@[simp] theorem State.setLoop_buckets (l : Loop) : (s.setLoop l).buckets = s.buckets := by unfold State.setLoop; with_reducible rfl
@[simp] theorem State.setLoop_nv (l : Loop) : (s.setLoop l).nv = s.nv := by unfold State.setLoop; with_reducible rfl
@[simp] theorem State.setLoop_nvCount (l : Loop) : (s.setLoop l).nvCount = s.nvCount := by unfold State.setLoop; with_reducible rfl
@[simp] theorem State.setLoop_nvSlot (l : Loop) : (s.setLoop l).nvSlot = s.nvSlot := by unfold State.setLoop; with_reducible rfl
@[simp] theorem State.setLoop_tp (l : Loop) : (s.setLoop l).tp = s.tp := by unfold State.setLoop; with_reducible rfl
@[simp] theorem State.setLoop_cplData (l : Loop) : (s.setLoop l).cplData = s.cplData := by unfold State.setLoop; with_reducible rfl
@[simp] theorem State.setLoop_spiData (l : Loop) : (s.setLoop l).spiData = s.spiData := by unfold State.setLoop; with_reducible rfl
@[simp] theorem State.setLoop_cfgData (l : Loop) : (s.setLoop l).cfgData = s.cfgData := by unfold State.setLoop; with_reducible rfl
@[simp] theorem State.setLoop_bar2Data (l : Loop) : (s.setLoop l).bar2Data = s.bar2Data := by unfold State.setLoop; with_reducible rfl
@[simp] theorem State.setLoop_bar2Wait (l : Loop) : (s.setLoop l).bar2Wait = s.bar2Wait := by unfold State.setLoop; with_reducible rfl
@[simp] theorem State.setLoop_bar4Data (l : Loop) : (s.setLoop l).bar4Data = s.bar4Data := by unfold State.setLoop; with_reducible rfl
@[simp] theorem State.setLoop_clk (l : Loop) : (s.setLoop l).clk = s.clk := by unfold State.setLoop; with_reducible rfl
@[simp] theorem State.setLoop_pins (l : Loop) : (s.setLoop l).pins = s.pins := by unfold State.setLoop; with_reducible rfl
@[simp] theorem State.setLoop_link (l : Loop) : (s.setLoop l).link = s.link := by unfold State.setLoop; with_reducible rfl
@[simp] theorem State.setLoop_rings (l : Loop) : (s.setLoop l).rings = s.rings := by unfold State.setLoop; with_reducible rfl
@[simp] theorem State.setLoop_chans (l : Loop) : (s.setLoop l).chans = s.chans := by unfold State.setLoop; with_reducible rfl
@[simp] theorem State.setLoop_burstNo (l : Loop) : (s.setLoop l).burstNo = s.burstNo := by unfold State.setLoop; with_reducible rfl
@[simp] theorem State.setLoop_sram (l : Loop) : (s.setLoop l).sram = s.sram := by unfold State.setLoop; with_reducible rfl
@[simp] theorem State.setLoop_dram (l : Loop) : (s.setLoop l).dram = s.dram := by unfold State.setLoop; with_reducible rfl
@[simp] theorem State.setLoop_arb (l : Loop) : (s.setLoop l).arb = s.arb := by unfold State.setLoop; with_reducible rfl
@[simp] theorem State.setLoop_test (l : Loop) : (s.setLoop l).test = s.test := by unfold State.setLoop; with_reducible rfl
@[simp] theorem State.setLoop_tap (l : Loop) : (s.setLoop l).tap = s.tap := by unfold State.setLoop; with_reducible rfl
@[simp] theorem State.setLoop_bsr (l : Loop) : (s.setLoop l).bsr = s.bsr := by unfold State.setLoop; with_reducible rfl
@[simp] theorem State.setLoop_tdo (l : Loop) : (s.setLoop l).tdo = s.tdo := by unfold State.setLoop; with_reducible rfl
@[simp] theorem State.setLoop_ctxs (l : Loop) : (s.setLoop l).ctxs = s.ctxs := by unfold State.setLoop; with_reducible rfl
@[simp] theorem State.setLoop_startQ (l : Loop) : (s.setLoop l).startQ = s.startQ := by unfold State.setLoop; with_reducible rfl
@[simp] theorem State.setLoop_heldQ (l : Loop) : (s.setLoop l).heldQ = s.heldQ := by unfold State.setLoop; with_reducible rfl
@[simp] theorem State.setLoop_form (l : Loop) : (s.setLoop l).form = s.form := by unfold State.setLoop; with_reducible rfl
@[simp] theorem State.setLoop_win (l : Loop) : (s.setLoop l).win = s.win := by unfold State.setLoop; with_reducible rfl
@[simp] theorem State.setLoop_alm (l : Loop) : (s.setLoop l).alm = s.alm := by unfold State.setLoop; with_reducible rfl
@[simp] theorem State.setLoop_expo (l : Loop) : (s.setLoop l).expo = s.expo := by unfold State.setLoop; with_reducible rfl
@[simp] theorem State.setLoop_markers (l : Loop) : (s.setLoop l).markers = s.markers := by unfold State.setLoop; with_reducible rfl
@[simp] theorem State.setLoop_awaits (l : Loop) : (s.setLoop l).awaits = s.awaits := by unfold State.setLoop; with_reducible rfl
@[simp] theorem State.setLoop_lastS (l : Loop) : (s.setLoop l).lastS = s.lastS := by unfold State.setLoop; with_reducible rfl
@[simp] theorem State.setLoop_lastF (l : Loop) : (s.setLoop l).lastF = s.lastF := by unfold State.setLoop; with_reducible rfl
@[simp] theorem State.setLoop_crossings (l : Loop) : (s.setLoop l).crossings = s.crossings := by unfold State.setLoop; with_reducible rfl
@[simp] theorem State.setLoop_bln (l : Loop) : (s.setLoop l).bln = s.bln := by unfold State.setLoop; with_reducible rfl
@[simp] theorem State.setLoop_ledger (l : Loop) : (s.setLoop l).ledger = s.ledger := by unfold State.setLoop; with_reducible rfl
@[simp] theorem State.setLoop_loop (l : Loop) : (s.setLoop l).loop = l := rfl
@[simp] theorem State.setLoop_gen (l : Loop) : (s.setLoop l).gen = s.gen := by unfold State.setLoop; with_reducible rfl
@[simp] theorem State.setLoop_lastSp (l : Loop) : (s.setLoop l).lastSp = s.lastSp := by unfold State.setLoop; with_reducible rfl
@[simp] theorem State.setLoop_lastDf (l : Loop) : (s.setLoop l).lastDf = s.lastDf := by unfold State.setLoop; with_reducible rfl
@[simp] theorem State.setLoop_gov (l : Loop) : (s.setLoop l).gov = s.gov := by unfold State.setLoop; with_reducible rfl
@[simp] theorem State.setLoop_cst (l : Loop) : (s.setLoop l).cst = s.cst := by unfold State.setLoop; with_reducible rfl
@[simp] theorem State.setLoop_results (l : Loop) : (s.setLoop l).results = s.results := by unfold State.setLoop; with_reducible rfl

/-! ### State.setTile -/

@[simp] theorem State.setTile_pending (t : Nat) (x : Tile) : (s.setTile t x).pending = s.pending := by unfold State.setTile; with_reducible rfl
@[simp] theorem State.setTile_due (t : Nat) (x : Tile) : (s.setTile t x).due = s.due := by unfold State.setTile; with_reducible rfl
@[simp] theorem State.setTile_recent (t : Nat) (x : Tile) : (s.setTile t x).recent = s.recent := by unfold State.setTile; with_reducible rfl
@[simp] theorem State.setTile_cyc (t : Nat) (x : Tile) : (s.setTile t x).cyc = s.cyc := by unfold State.setTile; with_reducible rfl
@[simp] theorem State.setTile_ctl (t : Nat) (x : Tile) : (s.setTile t x).ctl = s.ctl := by unfold State.setTile; with_reducible rfl
@[simp] theorem State.setTile_out (t : Nat) (x : Tile) : (s.setTile t x).out = s.out := by unfold State.setTile; with_reducible rfl
@[simp] theorem State.setTile_draws (t : Nat) (x : Tile) : (s.setTile t x).draws = s.draws := by unfold State.setTile; with_reducible rfl
@[simp] theorem State.setTile_tau (t : Nat) (x : Tile) : (s.setTile t x).tau = s.tau := by unfold State.setTile; with_reducible rfl
@[simp] theorem State.setTile_regs (t : Nat) (x : Tile) : (s.setTile t x).regs = s.regs := by unfold State.setTile; with_reducible rfl
@[simp] theorem State.setTile_hdrs (t : Nat) (x : Tile) : (s.setTile t x).hdrs = s.hdrs := by unfold State.setTile; with_reducible rfl
@[simp] theorem State.setTile_evlog (t : Nat) (x : Tile) : (s.setTile t x).evlog = s.evlog := by unfold State.setTile; with_reducible rfl
@[simp] theorem State.setTile_logWr (t : Nat) (x : Tile) : (s.setTile t x).logWr = s.logWr := by unfold State.setTile; with_reducible rfl
@[simp] theorem State.setTile_buckets (t : Nat) (x : Tile) : (s.setTile t x).buckets = s.buckets := by unfold State.setTile; with_reducible rfl
@[simp] theorem State.setTile_nv (t : Nat) (x : Tile) : (s.setTile t x).nv = s.nv := by unfold State.setTile; with_reducible rfl
@[simp] theorem State.setTile_nvCount (t : Nat) (x : Tile) : (s.setTile t x).nvCount = s.nvCount := by unfold State.setTile; with_reducible rfl
@[simp] theorem State.setTile_nvSlot (t : Nat) (x : Tile) : (s.setTile t x).nvSlot = s.nvSlot := by unfold State.setTile; with_reducible rfl
@[simp] theorem State.setTile_tp (t : Nat) (x : Tile) : (s.setTile t x).tp = s.tp := by unfold State.setTile; with_reducible rfl
@[simp] theorem State.setTile_cplData (t : Nat) (x : Tile) : (s.setTile t x).cplData = s.cplData := by unfold State.setTile; with_reducible rfl
@[simp] theorem State.setTile_spiData (t : Nat) (x : Tile) : (s.setTile t x).spiData = s.spiData := by unfold State.setTile; with_reducible rfl
@[simp] theorem State.setTile_cfgData (t : Nat) (x : Tile) : (s.setTile t x).cfgData = s.cfgData := by unfold State.setTile; with_reducible rfl
@[simp] theorem State.setTile_bar2Data (t : Nat) (x : Tile) : (s.setTile t x).bar2Data = s.bar2Data := by unfold State.setTile; with_reducible rfl
@[simp] theorem State.setTile_bar2Wait (t : Nat) (x : Tile) : (s.setTile t x).bar2Wait = s.bar2Wait := by unfold State.setTile; with_reducible rfl
@[simp] theorem State.setTile_bar4Data (t : Nat) (x : Tile) : (s.setTile t x).bar4Data = s.bar4Data := by unfold State.setTile; with_reducible rfl
@[simp] theorem State.setTile_clk (t : Nat) (x : Tile) : (s.setTile t x).clk = s.clk := by unfold State.setTile; with_reducible rfl
@[simp] theorem State.setTile_pins (t : Nat) (x : Tile) : (s.setTile t x).pins = s.pins := by unfold State.setTile; with_reducible rfl
@[simp] theorem State.setTile_link (t : Nat) (x : Tile) : (s.setTile t x).link = s.link := by unfold State.setTile; with_reducible rfl
@[simp] theorem State.setTile_rings (t : Nat) (x : Tile) : (s.setTile t x).rings = s.rings := by unfold State.setTile; with_reducible rfl
@[simp] theorem State.setTile_chans (t : Nat) (x : Tile) : (s.setTile t x).chans = s.chans := by unfold State.setTile; with_reducible rfl
@[simp] theorem State.setTile_burstNo (t : Nat) (x : Tile) : (s.setTile t x).burstNo = s.burstNo := by unfold State.setTile; with_reducible rfl
@[simp] theorem State.setTile_sram (t : Nat) (x : Tile) : (s.setTile t x).sram = s.sram := by unfold State.setTile; with_reducible rfl
@[simp] theorem State.setTile_dram (t : Nat) (x : Tile) : (s.setTile t x).dram = s.dram := by unfold State.setTile; with_reducible rfl
@[simp] theorem State.setTile_arb (t : Nat) (x : Tile) : (s.setTile t x).arb = s.arb := by unfold State.setTile; with_reducible rfl
@[simp] theorem State.setTile_test (t : Nat) (x : Tile) : (s.setTile t x).test = s.test := by unfold State.setTile; with_reducible rfl
@[simp] theorem State.setTile_tap (t : Nat) (x : Tile) : (s.setTile t x).tap = s.tap := by unfold State.setTile; with_reducible rfl
@[simp] theorem State.setTile_bsr (t : Nat) (x : Tile) : (s.setTile t x).bsr = s.bsr := by unfold State.setTile; with_reducible rfl
@[simp] theorem State.setTile_tdo (t : Nat) (x : Tile) : (s.setTile t x).tdo = s.tdo := by unfold State.setTile; with_reducible rfl
@[simp] theorem State.setTile_ctxs (t : Nat) (x : Tile) : (s.setTile t x).ctxs = s.ctxs := by unfold State.setTile; with_reducible rfl
@[simp] theorem State.setTile_startQ (t : Nat) (x : Tile) : (s.setTile t x).startQ = s.startQ := by unfold State.setTile; with_reducible rfl
@[simp] theorem State.setTile_heldQ (t : Nat) (x : Tile) : (s.setTile t x).heldQ = s.heldQ := by unfold State.setTile; with_reducible rfl
@[simp] theorem State.setTile_win (t : Nat) (x : Tile) : (s.setTile t x).win = s.win := by unfold State.setTile; with_reducible rfl
@[simp] theorem State.setTile_alm (t : Nat) (x : Tile) : (s.setTile t x).alm = s.alm := by unfold State.setTile; with_reducible rfl
@[simp] theorem State.setTile_expo (t : Nat) (x : Tile) : (s.setTile t x).expo = s.expo := by unfold State.setTile; with_reducible rfl
@[simp] theorem State.setTile_markers (t : Nat) (x : Tile) : (s.setTile t x).markers = s.markers := by unfold State.setTile; with_reducible rfl
@[simp] theorem State.setTile_awaits (t : Nat) (x : Tile) : (s.setTile t x).awaits = s.awaits := by unfold State.setTile; with_reducible rfl
@[simp] theorem State.setTile_lastS (t : Nat) (x : Tile) : (s.setTile t x).lastS = s.lastS := by unfold State.setTile; with_reducible rfl
@[simp] theorem State.setTile_lastF (t : Nat) (x : Tile) : (s.setTile t x).lastF = s.lastF := by unfold State.setTile; with_reducible rfl
@[simp] theorem State.setTile_crossings (t : Nat) (x : Tile) : (s.setTile t x).crossings = s.crossings := by unfold State.setTile; with_reducible rfl
@[simp] theorem State.setTile_bln (t : Nat) (x : Tile) : (s.setTile t x).bln = s.bln := by unfold State.setTile; with_reducible rfl
@[simp] theorem State.setTile_ledger (t : Nat) (x : Tile) : (s.setTile t x).ledger = s.ledger := by unfold State.setTile; with_reducible rfl
@[simp] theorem State.setTile_loop (t : Nat) (x : Tile) : (s.setTile t x).loop = s.loop := by unfold State.setTile; with_reducible rfl
@[simp] theorem State.setTile_gen (t : Nat) (x : Tile) : (s.setTile t x).gen = s.gen := by unfold State.setTile; with_reducible rfl
@[simp] theorem State.setTile_lastSp (t : Nat) (x : Tile) : (s.setTile t x).lastSp = s.lastSp := by unfold State.setTile; with_reducible rfl
@[simp] theorem State.setTile_lastDf (t : Nat) (x : Tile) : (s.setTile t x).lastDf = s.lastDf := by unfold State.setTile; with_reducible rfl
@[simp] theorem State.setTile_gov (t : Nat) (x : Tile) : (s.setTile t x).gov = s.gov := by unfold State.setTile; with_reducible rfl
@[simp] theorem State.setTile_cst (t : Nat) (x : Tile) : (s.setTile t x).cst = s.cst := by unfold State.setTile; with_reducible rfl
@[simp] theorem State.setTile_results (t : Nat) (x : Tile) : (s.setTile t x).results = s.results := by unfold State.setTile; with_reducible rfl

/-! ### State.setEngine -/

@[simp] theorem State.setEngine_pending (i : Nat) (e : Engine) : (s.setEngine i e).pending = s.pending := by unfold State.setEngine; with_reducible rfl
@[simp] theorem State.setEngine_due (i : Nat) (e : Engine) : (s.setEngine i e).due = s.due := by unfold State.setEngine; with_reducible rfl
@[simp] theorem State.setEngine_recent (i : Nat) (e : Engine) : (s.setEngine i e).recent = s.recent := by unfold State.setEngine; with_reducible rfl
@[simp] theorem State.setEngine_cyc (i : Nat) (e : Engine) : (s.setEngine i e).cyc = s.cyc := by unfold State.setEngine; with_reducible rfl
@[simp] theorem State.setEngine_ctl (i : Nat) (e : Engine) : (s.setEngine i e).ctl = s.ctl := by unfold State.setEngine; with_reducible rfl
@[simp] theorem State.setEngine_out (i : Nat) (e : Engine) : (s.setEngine i e).out = s.out := by unfold State.setEngine; with_reducible rfl
@[simp] theorem State.setEngine_draws (i : Nat) (e : Engine) : (s.setEngine i e).draws = s.draws := by unfold State.setEngine; with_reducible rfl
@[simp] theorem State.setEngine_tau (i : Nat) (e : Engine) : (s.setEngine i e).tau = s.tau := by unfold State.setEngine; with_reducible rfl
@[simp] theorem State.setEngine_regs (i : Nat) (e : Engine) : (s.setEngine i e).regs = s.regs := by unfold State.setEngine; with_reducible rfl
@[simp] theorem State.setEngine_hdrs (i : Nat) (e : Engine) : (s.setEngine i e).hdrs = s.hdrs := by unfold State.setEngine; with_reducible rfl
@[simp] theorem State.setEngine_evlog (i : Nat) (e : Engine) : (s.setEngine i e).evlog = s.evlog := by unfold State.setEngine; with_reducible rfl
@[simp] theorem State.setEngine_logWr (i : Nat) (e : Engine) : (s.setEngine i e).logWr = s.logWr := by unfold State.setEngine; with_reducible rfl
@[simp] theorem State.setEngine_buckets (i : Nat) (e : Engine) : (s.setEngine i e).buckets = s.buckets := by unfold State.setEngine; with_reducible rfl
@[simp] theorem State.setEngine_nv (i : Nat) (e : Engine) : (s.setEngine i e).nv = s.nv := by unfold State.setEngine; with_reducible rfl
@[simp] theorem State.setEngine_nvCount (i : Nat) (e : Engine) : (s.setEngine i e).nvCount = s.nvCount := by unfold State.setEngine; with_reducible rfl
@[simp] theorem State.setEngine_nvSlot (i : Nat) (e : Engine) : (s.setEngine i e).nvSlot = s.nvSlot := by unfold State.setEngine; with_reducible rfl
@[simp] theorem State.setEngine_tp (i : Nat) (e : Engine) : (s.setEngine i e).tp = s.tp := by unfold State.setEngine; with_reducible rfl
@[simp] theorem State.setEngine_cplData (i : Nat) (e : Engine) : (s.setEngine i e).cplData = s.cplData := by unfold State.setEngine; with_reducible rfl
@[simp] theorem State.setEngine_spiData (i : Nat) (e : Engine) : (s.setEngine i e).spiData = s.spiData := by unfold State.setEngine; with_reducible rfl
@[simp] theorem State.setEngine_cfgData (i : Nat) (e : Engine) : (s.setEngine i e).cfgData = s.cfgData := by unfold State.setEngine; with_reducible rfl
@[simp] theorem State.setEngine_bar2Data (i : Nat) (e : Engine) : (s.setEngine i e).bar2Data = s.bar2Data := by unfold State.setEngine; with_reducible rfl
@[simp] theorem State.setEngine_bar2Wait (i : Nat) (e : Engine) : (s.setEngine i e).bar2Wait = s.bar2Wait := by unfold State.setEngine; with_reducible rfl
@[simp] theorem State.setEngine_bar4Data (i : Nat) (e : Engine) : (s.setEngine i e).bar4Data = s.bar4Data := by unfold State.setEngine; with_reducible rfl
@[simp] theorem State.setEngine_clk (i : Nat) (e : Engine) : (s.setEngine i e).clk = s.clk := by unfold State.setEngine; with_reducible rfl
@[simp] theorem State.setEngine_pins (i : Nat) (e : Engine) : (s.setEngine i e).pins = s.pins := by unfold State.setEngine; with_reducible rfl
@[simp] theorem State.setEngine_link (i : Nat) (e : Engine) : (s.setEngine i e).link = s.link := by unfold State.setEngine; with_reducible rfl
@[simp] theorem State.setEngine_rings (i : Nat) (e : Engine) : (s.setEngine i e).rings = s.rings := by unfold State.setEngine; with_reducible rfl
@[simp] theorem State.setEngine_chans (i : Nat) (e : Engine) : (s.setEngine i e).chans = s.chans := by unfold State.setEngine; with_reducible rfl
@[simp] theorem State.setEngine_burstNo (i : Nat) (e : Engine) : (s.setEngine i e).burstNo = s.burstNo := by unfold State.setEngine; with_reducible rfl
@[simp] theorem State.setEngine_sram (i : Nat) (e : Engine) : (s.setEngine i e).sram = s.sram := by unfold State.setEngine; with_reducible rfl
@[simp] theorem State.setEngine_dram (i : Nat) (e : Engine) : (s.setEngine i e).dram = s.dram := by unfold State.setEngine; with_reducible rfl
@[simp] theorem State.setEngine_arb (i : Nat) (e : Engine) : (s.setEngine i e).arb = s.arb := by unfold State.setEngine; with_reducible rfl
@[simp] theorem State.setEngine_test (i : Nat) (e : Engine) : (s.setEngine i e).test = s.test := by unfold State.setEngine; with_reducible rfl
@[simp] theorem State.setEngine_tap (i : Nat) (e : Engine) : (s.setEngine i e).tap = s.tap := by unfold State.setEngine; with_reducible rfl
@[simp] theorem State.setEngine_bsr (i : Nat) (e : Engine) : (s.setEngine i e).bsr = s.bsr := by unfold State.setEngine; with_reducible rfl
@[simp] theorem State.setEngine_tdo (i : Nat) (e : Engine) : (s.setEngine i e).tdo = s.tdo := by unfold State.setEngine; with_reducible rfl
@[simp] theorem State.setEngine_ctxs (i : Nat) (e : Engine) : (s.setEngine i e).ctxs = s.ctxs := by unfold State.setEngine; with_reducible rfl
@[simp] theorem State.setEngine_startQ (i : Nat) (e : Engine) : (s.setEngine i e).startQ = s.startQ := by unfold State.setEngine; with_reducible rfl
@[simp] theorem State.setEngine_heldQ (i : Nat) (e : Engine) : (s.setEngine i e).heldQ = s.heldQ := by unfold State.setEngine; with_reducible rfl
@[simp] theorem State.setEngine_win (i : Nat) (e : Engine) : (s.setEngine i e).win = s.win := by unfold State.setEngine; with_reducible rfl
@[simp] theorem State.setEngine_alm (i : Nat) (e : Engine) : (s.setEngine i e).alm = s.alm := by unfold State.setEngine; with_reducible rfl
@[simp] theorem State.setEngine_expo (i : Nat) (e : Engine) : (s.setEngine i e).expo = s.expo := by unfold State.setEngine; with_reducible rfl
@[simp] theorem State.setEngine_markers (i : Nat) (e : Engine) : (s.setEngine i e).markers = s.markers := by unfold State.setEngine; with_reducible rfl
@[simp] theorem State.setEngine_awaits (i : Nat) (e : Engine) : (s.setEngine i e).awaits = s.awaits := by unfold State.setEngine; with_reducible rfl
@[simp] theorem State.setEngine_lastS (i : Nat) (e : Engine) : (s.setEngine i e).lastS = s.lastS := by unfold State.setEngine; with_reducible rfl
@[simp] theorem State.setEngine_lastF (i : Nat) (e : Engine) : (s.setEngine i e).lastF = s.lastF := by unfold State.setEngine; with_reducible rfl
@[simp] theorem State.setEngine_crossings (i : Nat) (e : Engine) : (s.setEngine i e).crossings = s.crossings := by unfold State.setEngine; with_reducible rfl
@[simp] theorem State.setEngine_bln (i : Nat) (e : Engine) : (s.setEngine i e).bln = s.bln := by unfold State.setEngine; with_reducible rfl
@[simp] theorem State.setEngine_ledger (i : Nat) (e : Engine) : (s.setEngine i e).ledger = s.ledger := by unfold State.setEngine; with_reducible rfl
@[simp] theorem State.setEngine_loop (i : Nat) (e : Engine) : (s.setEngine i e).loop = s.loop := by unfold State.setEngine; with_reducible rfl
@[simp] theorem State.setEngine_gen (i : Nat) (e : Engine) : (s.setEngine i e).gen = s.gen := by unfold State.setEngine; with_reducible rfl
@[simp] theorem State.setEngine_lastSp (i : Nat) (e : Engine) : (s.setEngine i e).lastSp = s.lastSp := by unfold State.setEngine; with_reducible rfl
@[simp] theorem State.setEngine_lastDf (i : Nat) (e : Engine) : (s.setEngine i e).lastDf = s.lastDf := by unfold State.setEngine; with_reducible rfl
@[simp] theorem State.setEngine_gov (i : Nat) (e : Engine) : (s.setEngine i e).gov = s.gov := by unfold State.setEngine; with_reducible rfl
@[simp] theorem State.setEngine_cst (i : Nat) (e : Engine) : (s.setEngine i e).cst = s.cst := by unfold State.setEngine; with_reducible rfl
@[simp] theorem State.setEngine_results (i : Nat) (e : Engine) : (s.setEngine i e).results = s.results := by unfold State.setEngine; with_reducible rfl

end Sys2Proof.Machine
end

