-- ==== Sys2Proof/Laws/Store.lean ====
section
/-!
SUPPORT. Sys2Proof/Laws/Store.lean: reading after writing a sparse store, and that every store operation keeps the canonical
form; the same for a memory of bytes.
-/

namespace Sys2Proof.Machine

section
variable {β : Type} (d : β) (m : Store β) (j k : Nat) (v : β)

@[simp] theorem sget_nil : sget d [] k = d := rfl

theorem sget_sins_same : sget d (sins k v m) k = v := by
  induction m with
  | nil => simp [sins, sget]
  | cons p m ih =>
    unfold sins
    split
    · simp [sget]
    · split
      · simp [sget]
      · rename_i _ h
        simp [sget, ih, Ne.symm h]

theorem sget_sins_other (h : j ≠ k) : sget d (sins k v m) j = sget d m j := by
  induction m with
  | nil => simp [sins, sget, Ne.symm h]
  | cons p m ih =>
    unfold sins
    split
    · simp [sget, Ne.symm h]
    · split
      · rename_i _ h2
        simp [sget, ← h2, Ne.symm h]
      · simp [sget, ih]

theorem sget_sdel_other (h : j ≠ k) : sget d (sdel k m) j = sget d m j := by
  induction m with
  | nil => simp [sdel]
  | cons p m ih =>
    unfold sdel
    split
    · rename_i h2
      simp [sget, h2, Ne.symm h, ih]
    · simp [sget, ih]

theorem sget_sdel_same : sget d (sdel k m) k = d := by
  induction m with
  | nil => rfl
  | cons p m ih =>
    unfold sdel
    split
    · exact ih
    · rename_i h2
      simp [sget, h2, ih]

/-- A key that lies below every listed one reads as unlisted. -/
theorem sget_of_above {lo : Nat} (h : skeysAbove lo m = true) (hk : k ≤ lo) : sget d m k = d := by
  induction m generalizing lo with
  | nil => rfl
  | cons p m ih =>
    simp only [skeysAbove, Bool.and_eq_true, decide_eq_true_eq] at h
    have : p.1 ≠ k := by omega
    simp only [sget, this, if_false]
    exact ih h.2 (by omega)

end

section
variable {β : Type} [DecidableEq β] {d : β} {m : Store β} {j k : Nat} {v : β}

theorem swf_cons {p : Nat × β} (h : swf (fun _ => d) (p :: m) = true) :
    skeysAbove p.1 m = true ∧ p.2 ≠ d ∧ swf (fun _ => d) m = true := by
  simpa [swf, and_assoc] using h

/-- What a store reads at the key just written. -/
theorem sget_sput_same : sget d (sput d m k v) k = v := by
  unfold sput
  split
  · rename_i hv
    rw [hv, sget_sdel_same]
  · exact sget_sins_same d m k v

/-- A write leaves every other key alone, whatever that key reads as while unlisted. -/
theorem sget_sput_other {e : β} (h : j ≠ k) : sget e (sput d m k v) j = sget e m j := by
  unfold sput
  split
  · exact sget_sdel_other e m j k h
  · exact sget_sins_other e m j k v h

omit [DecidableEq β] in
theorem skeysAbove_sins {lo : Nat} (h : skeysAbove lo m = true) (hk : lo < k) : skeysAbove lo (sins k v m) = true := by
  induction m generalizing lo with
  | nil => simp [sins, skeysAbove, hk]
  | cons p m ih =>
    simp only [skeysAbove, Bool.and_eq_true, decide_eq_true_eq] at h
    unfold sins
    split
    · rename_i h1
      simp [skeysAbove, hk, h1, h.2]
    · split
      · rename_i h1 h2
        simp [skeysAbove, h2, h.1, h.2]
      · rename_i h1 h2
        simp [skeysAbove, h.1, ih h.2 (by omega)]

omit [DecidableEq β] in
theorem skeysAbove_mono {lo hi : Nat} (h : skeysAbove hi m = true) (hl : lo ≤ hi) : skeysAbove lo m = true := by
  cases m with
  | nil => rfl
  | cons p m =>
    simp only [skeysAbove, Bool.and_eq_true, decide_eq_true_eq] at h ⊢
    exact ⟨by omega, h.2⟩

omit [DecidableEq β] in
theorem skeysAbove_sdel {lo : Nat} (h : skeysAbove lo m = true) : skeysAbove lo (sdel k m) = true := by
  induction m generalizing lo with
  | nil => rfl
  | cons p m ih =>
    simp only [skeysAbove, Bool.and_eq_true, decide_eq_true_eq] at h
    unfold sdel
    split
    · exact ih (skeysAbove_mono h.2 (by omega))
    · simp [skeysAbove, h.1, ih h.2]

theorem swf_sins (h : swf (fun _ => d) m = true) (hv : v ≠ d) : swf (fun _ => d) (sins k v m) = true := by
  induction m with
  | nil => simp [sins, swf, skeysAbove, hv]
  | cons p m ih =>
    obtain ⟨ha, hp, hm⟩ := swf_cons h
    unfold sins
    split
    · rename_i h1
      simp [swf, skeysAbove, h1, ha, hv, hp, hm]
    · split
      · rename_i h1 h2
        subst h2
        simp [swf, ha, hv, hm]
      · rename_i h1 h2
        simp [swf, hp, ih hm, skeysAbove_sins ha (show p.1 < k by omega)]

theorem swf_sdel (h : swf (fun _ => d) m = true) : swf (fun _ => d) (sdel k m) = true := by
  induction m with
  | nil => rfl
  | cons p m ih =>
    obtain ⟨ha, hp, hm⟩ := swf_cons h
    unfold sdel
    split
    · exact ih hm
    · simp [swf, hp, ih hm, skeysAbove_sdel ha]

/-- Every write keeps the canonical form. -/
theorem swf_sput (h : swf (fun _ => d) m = true) : swf (fun _ => d) (sput d m k v) = true := by
  unfold sput
  split
  · exact swf_sdel h
  · rename_i hv
    exact swf_sins h hv

end

/-- A kept key reads as before, a dropped one as unlisted. -/
theorem sget_skeep {β : Type} (p : Nat → Bool) (d : β) (m : Store β) (k : Nat) :
    sget d (skeep p m) k = if p k then sget d m k else d := by
  induction m with
  | nil => simp [skeep, sget]
  | cons e m ih =>
    unfold skeep at ih ⊢
    by_cases he : p e.1 <;> by_cases hk : e.1 = k
    · subst hk; simp [sget, he]
    · simp [sget, he, hk, ih]
    · subst hk; simp [he, ih]
    · simp [sget, he, hk, ih]

/-! ### Memory of bytes -/

/-- One byte written keeps the canonical form. -/
theorem Memory.wf_memWrite {m : List (Nat × Byte)} (h : Memory.wf m = true) (a : Nat) (b : Byte) :
    Memory.wf (memWrite m a b) = true := swf_sput h

/-- A list of bytes written keeps the canonical form. -/
theorem Memory.wf_memWriteList {m : List (Nat × Byte)} (h : Memory.wf m = true) (a : Nat) (bs : List Byte) :
    Memory.wf (memWriteList m a bs) = true := by
  induction bs generalizing m a with
  | nil => exact h
  | cons b bs ih => exact ih (Memory.wf_memWrite h a b) (a + 1)

theorem memRead_memWrite_same (m : List (Nat × Byte)) (a : Nat) (b : Byte) : memRead (memWrite m a b) a = b :=
  sget_sput_same

theorem memRead_memWrite_other (m : List (Nat × Byte)) {a c : Nat} (b : Byte) (h : c ≠ a) :
    memRead (memWrite m a b) c = memRead m c := sget_sput_other h

/-- Bytes outside the range written read as before. -/
theorem memRead_memWriteList_other (m : List (Nat × Byte)) (a c : Nat) (bs : List Byte)
    (h : c < a ∨ a + bs.length ≤ c) : memRead (memWriteList m a bs) c = memRead m c := by
  induction bs generalizing m a with
  | nil => rfl
  | cons b bs ih =>
    simp only [List.length_cons] at h
    rw [memWriteList, ih (memWrite m a b) (a + 1) (by omega), memRead_memWrite_other m b (by omega)]

/-- The bytes written read back. -/
theorem memRead_memWriteList_same (m : List (Nat × Byte)) (a : Nat) (bs : List Byte) (i : Nat)
    (hi : i < bs.length) : memRead (memWriteList m a bs) (a + i) = bs[i] := by
  induction bs generalizing m a i with
  | nil => simp at hi
  | cons b bs ih =>
    rw [memWriteList]
    cases i with
    | zero =>
      rw [memRead_memWriteList_other _ _ _ _ (by omega)]
      exact memRead_memWrite_same m a b
    | succ i =>
      have := ih (memWrite m a b) (a + 1) i (by simpa using hi)
      rw [show a + (i + 1) = a + 1 + i by omega, this]
      rfl

end Sys2Proof.Machine
end

