-- ==== Sys2Proof/Laws/Ops.lean ====
section
/-!
SUPPORT. Sys2Proof/Laws/Ops.lean: what the shared operations can do, said once: registers, headers, occurrences, the access
log, writes under R35, the shapes of a meaning, and the end of a command.
-/

namespace Sys2Proof.Machine

variable (s : State)

/-! ### Reading what was written -/

@[simp] theorem State.reg_setReg_same (off : Nat) (v : Word) : (s.setReg off v).reg off = v := by
  unfold State.reg
  rw [State.setReg_regs, sget_sput_same]

theorem State.reg_setReg_other {off o : Nat} (v : Word) (h : o ≠ off) : (s.setReg off v).reg o = s.reg o := by
  unfold State.reg
  rw [State.setReg_regs, sget_sput_other h]

@[simp] theorem State.reg_setHdr (p : Nat) (h : Hdr) (o : Nat) : (s.setHdr p h).reg o = s.reg o := by
  unfold State.reg; rw [State.setHdr_regs]

@[simp] theorem State.hdr_setHdr_same (p : Nat) (h : Hdr) : (s.setHdr p h).hdr p = h := by
  unfold State.hdr
  rw [State.setHdr_hdrs, sget_sput_same]

theorem State.hdr_setHdr_other {p q : Nat} (h : Hdr) (hq : q ≠ p) : (s.setHdr p h).hdr q = s.hdr q := by
  unfold State.hdr
  rw [State.setHdr_hdrs, sget_sput_other hq]

@[simp] theorem State.ctx_setCtx_same (c : Nat) (x : Ctx) : (s.setCtx c x).ctx c = x := by
  unfold State.ctx
  rw [State.setCtx_ctxs, sget_sput_same]

theorem State.ctx_setCtx_other {c k : Nat} (x : Ctx) (h : k ≠ c) : (s.setCtx c x).ctx k = s.ctx k := by
  unfold State.ctx
  rw [State.setCtx_ctxs, sget_sput_other h]

@[simp] theorem State.bucket_setBucket_same (b : BucketSel) (v : Bucket) : (s.setBucket b v).bucket b = v := by
  unfold State.bucket
  rw [State.setBucket_buckets, sget_sput_same]

theorem State.bucket_setBucket_other {b k : BucketSel} (v : Bucket) (h : bucketKey k ≠ bucketKey b) :
    (s.setBucket b v).bucket k = s.bucket k := by
  unfold State.bucket
  rw [State.setBucket_buckets, sget_sput_other h]

/-! ### State.leaves -/

@[simp] theorem State.leaves_pending (m : OutMsg) : (s.leaves m).pending = s.pending := by
  unfold State.leaves; split <;> with_reducible rfl
@[simp] theorem State.leaves_due (m : OutMsg) : (s.leaves m).due = s.due := by
  unfold State.leaves; split <;> with_reducible rfl
@[simp] theorem State.leaves_recent (m : OutMsg) : (s.leaves m).recent = s.recent := by
  unfold State.leaves; split <;> with_reducible rfl
@[simp] theorem State.leaves_cyc (m : OutMsg) : (s.leaves m).cyc = s.cyc := by
  unfold State.leaves; split <;> with_reducible rfl
@[simp] theorem State.leaves_ctl (m : OutMsg) : (s.leaves m).ctl = s.ctl := by
  unfold State.leaves; split <;> with_reducible rfl
@[simp] theorem State.leaves_draws (m : OutMsg) : (s.leaves m).draws = s.draws := by
  unfold State.leaves; split <;> with_reducible rfl
@[simp] theorem State.leaves_tau (m : OutMsg) : (s.leaves m).tau = s.tau := by
  unfold State.leaves; split <;> with_reducible rfl
@[simp] theorem State.leaves_regs (m : OutMsg) : (s.leaves m).regs = s.regs := by
  unfold State.leaves; split <;> with_reducible rfl
@[simp] theorem State.leaves_hdrs (m : OutMsg) : (s.leaves m).hdrs = s.hdrs := by
  unfold State.leaves; split <;> with_reducible rfl
@[simp] theorem State.leaves_evlog (m : OutMsg) : (s.leaves m).evlog = s.evlog := by
  unfold State.leaves; split <;> with_reducible rfl
@[simp] theorem State.leaves_logWr (m : OutMsg) : (s.leaves m).logWr = s.logWr := by
  unfold State.leaves; split <;> with_reducible rfl
@[simp] theorem State.leaves_buckets (m : OutMsg) : (s.leaves m).buckets = s.buckets := by
  unfold State.leaves; split <;> with_reducible rfl
@[simp] theorem State.leaves_nv (m : OutMsg) : (s.leaves m).nv = s.nv := by
  unfold State.leaves; split <;> with_reducible rfl
@[simp] theorem State.leaves_nvCount (m : OutMsg) : (s.leaves m).nvCount = s.nvCount := by
  unfold State.leaves; split <;> with_reducible rfl
@[simp] theorem State.leaves_nvSlot (m : OutMsg) : (s.leaves m).nvSlot = s.nvSlot := by
  unfold State.leaves; split <;> with_reducible rfl
@[simp] theorem State.leaves_tp (m : OutMsg) : (s.leaves m).tp = s.tp := by
  unfold State.leaves; split <;> with_reducible rfl
@[simp] theorem State.leaves_cplData (m : OutMsg) : (s.leaves m).cplData = s.cplData := by
  unfold State.leaves; split <;> with_reducible rfl
@[simp] theorem State.leaves_spiData (m : OutMsg) : (s.leaves m).spiData = s.spiData := by
  unfold State.leaves; split <;> with_reducible rfl
@[simp] theorem State.leaves_cfgData (m : OutMsg) : (s.leaves m).cfgData = s.cfgData := by
  unfold State.leaves; split <;> with_reducible rfl
@[simp] theorem State.leaves_bar2Data (m : OutMsg) : (s.leaves m).bar2Data = s.bar2Data := by
  unfold State.leaves; split <;> with_reducible rfl
@[simp] theorem State.leaves_bar2Wait (m : OutMsg) : (s.leaves m).bar2Wait = s.bar2Wait := by
  unfold State.leaves; split <;> with_reducible rfl
@[simp] theorem State.leaves_bar4Data (m : OutMsg) : (s.leaves m).bar4Data = s.bar4Data := by
  unfold State.leaves; split <;> with_reducible rfl
@[simp] theorem State.leaves_clk (m : OutMsg) : (s.leaves m).clk = s.clk := by
  unfold State.leaves; split <;> with_reducible rfl
@[simp] theorem State.leaves_pins (m : OutMsg) : (s.leaves m).pins = s.pins := by
  unfold State.leaves; split <;> with_reducible rfl
@[simp] theorem State.leaves_link (m : OutMsg) : (s.leaves m).link = s.link := by
  unfold State.leaves; split <;> with_reducible rfl
@[simp] theorem State.leaves_rings (m : OutMsg) : (s.leaves m).rings = s.rings := by
  unfold State.leaves; split <;> with_reducible rfl
@[simp] theorem State.leaves_chans (m : OutMsg) : (s.leaves m).chans = s.chans := by
  unfold State.leaves; split <;> with_reducible rfl
@[simp] theorem State.leaves_burstNo (m : OutMsg) : (s.leaves m).burstNo = s.burstNo := by
  unfold State.leaves; split <;> with_reducible rfl
@[simp] theorem State.leaves_sram (m : OutMsg) : (s.leaves m).sram = s.sram := by
  unfold State.leaves; split <;> with_reducible rfl
@[simp] theorem State.leaves_dram (m : OutMsg) : (s.leaves m).dram = s.dram := by
  unfold State.leaves; split <;> with_reducible rfl
@[simp] theorem State.leaves_arb (m : OutMsg) : (s.leaves m).arb = s.arb := by
  unfold State.leaves; split <;> with_reducible rfl
@[simp] theorem State.leaves_test (m : OutMsg) : (s.leaves m).test = s.test := by
  unfold State.leaves; split <;> with_reducible rfl
@[simp] theorem State.leaves_tap (m : OutMsg) : (s.leaves m).tap = s.tap := by
  unfold State.leaves; split <;> with_reducible rfl
@[simp] theorem State.leaves_bsr (m : OutMsg) : (s.leaves m).bsr = s.bsr := by
  unfold State.leaves; split <;> with_reducible rfl
@[simp] theorem State.leaves_tdo (m : OutMsg) : (s.leaves m).tdo = s.tdo := by
  unfold State.leaves; split <;> with_reducible rfl
@[simp] theorem State.leaves_ctxs (m : OutMsg) : (s.leaves m).ctxs = s.ctxs := by
  unfold State.leaves; split <;> with_reducible rfl
@[simp] theorem State.leaves_startQ (m : OutMsg) : (s.leaves m).startQ = s.startQ := by
  unfold State.leaves; split <;> with_reducible rfl
@[simp] theorem State.leaves_heldQ (m : OutMsg) : (s.leaves m).heldQ = s.heldQ := by
  unfold State.leaves; split <;> with_reducible rfl
@[simp] theorem State.leaves_form (m : OutMsg) : (s.leaves m).form = s.form := by
  unfold State.leaves; split <;> with_reducible rfl
@[simp] theorem State.leaves_win (m : OutMsg) : (s.leaves m).win = s.win := by
  unfold State.leaves; split <;> with_reducible rfl
@[simp] theorem State.leaves_alm (m : OutMsg) : (s.leaves m).alm = s.alm := by
  unfold State.leaves; split <;> with_reducible rfl
@[simp] theorem State.leaves_expo (m : OutMsg) : (s.leaves m).expo = s.expo := by
  unfold State.leaves; split <;> with_reducible rfl
@[simp] theorem State.leaves_markers (m : OutMsg) : (s.leaves m).markers = s.markers := by
  unfold State.leaves; split <;> with_reducible rfl
@[simp] theorem State.leaves_awaits (m : OutMsg) : (s.leaves m).awaits = s.awaits := by
  unfold State.leaves; split <;> with_reducible rfl
@[simp] theorem State.leaves_lastS (m : OutMsg) : (s.leaves m).lastS = s.lastS := by
  unfold State.leaves; split <;> with_reducible rfl
@[simp] theorem State.leaves_lastF (m : OutMsg) : (s.leaves m).lastF = s.lastF := by
  unfold State.leaves; split <;> with_reducible rfl
@[simp] theorem State.leaves_crossings (m : OutMsg) : (s.leaves m).crossings = s.crossings := by
  unfold State.leaves; split <;> with_reducible rfl
@[simp] theorem State.leaves_bln (m : OutMsg) : (s.leaves m).bln = s.bln := by
  unfold State.leaves; split <;> with_reducible rfl
@[simp] theorem State.leaves_ledger (m : OutMsg) : (s.leaves m).ledger = s.ledger := by
  unfold State.leaves; split <;> with_reducible rfl
@[simp] theorem State.leaves_loop (m : OutMsg) : (s.leaves m).loop = s.loop := by
  unfold State.leaves; split <;> with_reducible rfl
@[simp] theorem State.leaves_gen (m : OutMsg) : (s.leaves m).gen = s.gen := by
  unfold State.leaves; split <;> with_reducible rfl
@[simp] theorem State.leaves_lastSp (m : OutMsg) : (s.leaves m).lastSp = s.lastSp := by
  unfold State.leaves; split <;> with_reducible rfl
@[simp] theorem State.leaves_lastDf (m : OutMsg) : (s.leaves m).lastDf = s.lastDf := by
  unfold State.leaves; split <;> with_reducible rfl
@[simp] theorem State.leaves_gov (m : OutMsg) : (s.leaves m).gov = s.gov := by
  unfold State.leaves; split <;> with_reducible rfl
@[simp] theorem State.leaves_cst (m : OutMsg) : (s.leaves m).cst = s.cst := by
  unfold State.leaves; split <;> with_reducible rfl
@[simp] theorem State.leaves_results (m : OutMsg) : (s.leaves m).results = s.results := by
  unfold State.leaves; split <;> with_reducible rfl

/-! ### State.emit -/

@[simp] theorem State.emit_pending (m : Tlp) : (s.emit m).pending = s.pending := by
  unfold State.emit; split <;> [simp [State.sendTlp]; with_reducible rfl]
@[simp] theorem State.emit_due (m : Tlp) : (s.emit m).due = s.due := by
  unfold State.emit; split <;> [simp [State.sendTlp]; with_reducible rfl]
@[simp] theorem State.emit_recent (m : Tlp) : (s.emit m).recent = s.recent := by
  unfold State.emit; split <;> [simp [State.sendTlp]; with_reducible rfl]
@[simp] theorem State.emit_cyc (m : Tlp) : (s.emit m).cyc = s.cyc := by
  unfold State.emit; split <;> [simp [State.sendTlp]; with_reducible rfl]
@[simp] theorem State.emit_ctl (m : Tlp) : (s.emit m).ctl = s.ctl := by
  unfold State.emit; split <;> [simp [State.sendTlp]; with_reducible rfl]
@[simp] theorem State.emit_draws (m : Tlp) : (s.emit m).draws = s.draws := by
  unfold State.emit; split <;> [simp [State.sendTlp]; with_reducible rfl]
@[simp] theorem State.emit_tau (m : Tlp) : (s.emit m).tau = s.tau := by
  unfold State.emit; split <;> [simp [State.sendTlp]; with_reducible rfl]
@[simp] theorem State.emit_regs (m : Tlp) : (s.emit m).regs = s.regs := by
  unfold State.emit; split <;> [simp [State.sendTlp]; with_reducible rfl]
@[simp] theorem State.emit_hdrs (m : Tlp) : (s.emit m).hdrs = s.hdrs := by
  unfold State.emit; split <;> [simp [State.sendTlp]; with_reducible rfl]
@[simp] theorem State.emit_evlog (m : Tlp) : (s.emit m).evlog = s.evlog := by
  unfold State.emit; split <;> [simp [State.sendTlp]; with_reducible rfl]
@[simp] theorem State.emit_logWr (m : Tlp) : (s.emit m).logWr = s.logWr := by
  unfold State.emit; split <;> [simp [State.sendTlp]; with_reducible rfl]
@[simp] theorem State.emit_buckets (m : Tlp) : (s.emit m).buckets = s.buckets := by
  unfold State.emit; split <;> [simp [State.sendTlp]; with_reducible rfl]
@[simp] theorem State.emit_nv (m : Tlp) : (s.emit m).nv = s.nv := by
  unfold State.emit; split <;> [simp [State.sendTlp]; with_reducible rfl]
@[simp] theorem State.emit_nvCount (m : Tlp) : (s.emit m).nvCount = s.nvCount := by
  unfold State.emit; split <;> [simp [State.sendTlp]; with_reducible rfl]
@[simp] theorem State.emit_nvSlot (m : Tlp) : (s.emit m).nvSlot = s.nvSlot := by
  unfold State.emit; split <;> [simp [State.sendTlp]; with_reducible rfl]
@[simp] theorem State.emit_tp (m : Tlp) : (s.emit m).tp = s.tp := by
  unfold State.emit; split <;> [simp [State.sendTlp]; with_reducible rfl]
@[simp] theorem State.emit_cplData (m : Tlp) : (s.emit m).cplData = s.cplData := by
  unfold State.emit; split <;> [simp [State.sendTlp]; with_reducible rfl]
@[simp] theorem State.emit_spiData (m : Tlp) : (s.emit m).spiData = s.spiData := by
  unfold State.emit; split <;> [simp [State.sendTlp]; with_reducible rfl]
@[simp] theorem State.emit_cfgData (m : Tlp) : (s.emit m).cfgData = s.cfgData := by
  unfold State.emit; split <;> [simp [State.sendTlp]; with_reducible rfl]
@[simp] theorem State.emit_bar2Data (m : Tlp) : (s.emit m).bar2Data = s.bar2Data := by
  unfold State.emit; split <;> [simp [State.sendTlp]; with_reducible rfl]
@[simp] theorem State.emit_bar2Wait (m : Tlp) : (s.emit m).bar2Wait = s.bar2Wait := by
  unfold State.emit; split <;> [simp [State.sendTlp]; with_reducible rfl]
@[simp] theorem State.emit_bar4Data (m : Tlp) : (s.emit m).bar4Data = s.bar4Data := by
  unfold State.emit; split <;> [simp [State.sendTlp]; with_reducible rfl]
@[simp] theorem State.emit_clk (m : Tlp) : (s.emit m).clk = s.clk := by
  unfold State.emit; split <;> [simp [State.sendTlp]; with_reducible rfl]
@[simp] theorem State.emit_pins (m : Tlp) : (s.emit m).pins = s.pins := by
  unfold State.emit; split <;> [simp [State.sendTlp]; with_reducible rfl]
@[simp] theorem State.emit_rings (m : Tlp) : (s.emit m).rings = s.rings := by
  unfold State.emit; split <;> [simp [State.sendTlp]; with_reducible rfl]
@[simp] theorem State.emit_chans (m : Tlp) : (s.emit m).chans = s.chans := by
  unfold State.emit; split <;> [simp [State.sendTlp]; with_reducible rfl]
@[simp] theorem State.emit_burstNo (m : Tlp) : (s.emit m).burstNo = s.burstNo := by
  unfold State.emit; split <;> [simp [State.sendTlp]; with_reducible rfl]
@[simp] theorem State.emit_sram (m : Tlp) : (s.emit m).sram = s.sram := by
  unfold State.emit; split <;> [simp [State.sendTlp]; with_reducible rfl]
@[simp] theorem State.emit_dram (m : Tlp) : (s.emit m).dram = s.dram := by
  unfold State.emit; split <;> [simp [State.sendTlp]; with_reducible rfl]
@[simp] theorem State.emit_arb (m : Tlp) : (s.emit m).arb = s.arb := by
  unfold State.emit; split <;> [simp [State.sendTlp]; with_reducible rfl]
@[simp] theorem State.emit_test (m : Tlp) : (s.emit m).test = s.test := by
  unfold State.emit; split <;> [simp [State.sendTlp]; with_reducible rfl]
@[simp] theorem State.emit_tap (m : Tlp) : (s.emit m).tap = s.tap := by
  unfold State.emit; split <;> [simp [State.sendTlp]; with_reducible rfl]
@[simp] theorem State.emit_bsr (m : Tlp) : (s.emit m).bsr = s.bsr := by
  unfold State.emit; split <;> [simp [State.sendTlp]; with_reducible rfl]
@[simp] theorem State.emit_tdo (m : Tlp) : (s.emit m).tdo = s.tdo := by
  unfold State.emit; split <;> [simp [State.sendTlp]; with_reducible rfl]
@[simp] theorem State.emit_ctxs (m : Tlp) : (s.emit m).ctxs = s.ctxs := by
  unfold State.emit; split <;> [simp [State.sendTlp]; with_reducible rfl]
@[simp] theorem State.emit_startQ (m : Tlp) : (s.emit m).startQ = s.startQ := by
  unfold State.emit; split <;> [simp [State.sendTlp]; with_reducible rfl]
@[simp] theorem State.emit_heldQ (m : Tlp) : (s.emit m).heldQ = s.heldQ := by
  unfold State.emit; split <;> [simp [State.sendTlp]; with_reducible rfl]
@[simp] theorem State.emit_form (m : Tlp) : (s.emit m).form = s.form := by
  unfold State.emit; split <;> [simp [State.sendTlp]; with_reducible rfl]
@[simp] theorem State.emit_win (m : Tlp) : (s.emit m).win = s.win := by
  unfold State.emit; split <;> [simp [State.sendTlp]; with_reducible rfl]
@[simp] theorem State.emit_alm (m : Tlp) : (s.emit m).alm = s.alm := by
  unfold State.emit; split <;> [simp [State.sendTlp]; with_reducible rfl]
@[simp] theorem State.emit_expo (m : Tlp) : (s.emit m).expo = s.expo := by
  unfold State.emit; split <;> [simp [State.sendTlp]; with_reducible rfl]
@[simp] theorem State.emit_markers (m : Tlp) : (s.emit m).markers = s.markers := by
  unfold State.emit; split <;> [simp [State.sendTlp]; with_reducible rfl]
@[simp] theorem State.emit_awaits (m : Tlp) : (s.emit m).awaits = s.awaits := by
  unfold State.emit; split <;> [simp [State.sendTlp]; with_reducible rfl]
@[simp] theorem State.emit_lastS (m : Tlp) : (s.emit m).lastS = s.lastS := by
  unfold State.emit; split <;> [simp [State.sendTlp]; with_reducible rfl]
@[simp] theorem State.emit_lastF (m : Tlp) : (s.emit m).lastF = s.lastF := by
  unfold State.emit; split <;> [simp [State.sendTlp]; with_reducible rfl]
@[simp] theorem State.emit_crossings (m : Tlp) : (s.emit m).crossings = s.crossings := by
  unfold State.emit; split <;> [simp [State.sendTlp]; with_reducible rfl]
@[simp] theorem State.emit_bln (m : Tlp) : (s.emit m).bln = s.bln := by
  unfold State.emit; split <;> [simp [State.sendTlp]; with_reducible rfl]
@[simp] theorem State.emit_ledger (m : Tlp) : (s.emit m).ledger = s.ledger := by
  unfold State.emit; split <;> [simp [State.sendTlp]; with_reducible rfl]
@[simp] theorem State.emit_loop (m : Tlp) : (s.emit m).loop = s.loop := by
  unfold State.emit; split <;> [simp [State.sendTlp]; with_reducible rfl]
@[simp] theorem State.emit_gen (m : Tlp) : (s.emit m).gen = s.gen := by
  unfold State.emit; split <;> [simp [State.sendTlp]; with_reducible rfl]
@[simp] theorem State.emit_lastSp (m : Tlp) : (s.emit m).lastSp = s.lastSp := by
  unfold State.emit; split <;> [simp [State.sendTlp]; with_reducible rfl]
@[simp] theorem State.emit_lastDf (m : Tlp) : (s.emit m).lastDf = s.lastDf := by
  unfold State.emit; split <;> [simp [State.sendTlp]; with_reducible rfl]
@[simp] theorem State.emit_gov (m : Tlp) : (s.emit m).gov = s.gov := by
  unfold State.emit; split <;> [simp [State.sendTlp]; with_reducible rfl]
@[simp] theorem State.emit_cst (m : Tlp) : (s.emit m).cst = s.cst := by
  unfold State.emit; split <;> [simp [State.sendTlp]; with_reducible rfl]
@[simp] theorem State.emit_results (m : Tlp) : (s.emit m).results = s.results := by
  unfold State.emit; split <;> [simp [State.sendTlp]; with_reducible rfl]

/-! ### State.sendVector -/

@[simp] theorem State.sendVector_pending (v : Nat) : (s.sendVector v).pending = s.pending := by
  unfold State.sendVector; split <;> [rfl; (split <;> [(with_reducible rfl); simp])]
@[simp] theorem State.sendVector_due (v : Nat) : (s.sendVector v).due = s.due := by
  unfold State.sendVector; split <;> [rfl; (split <;> [(with_reducible rfl); simp])]
@[simp] theorem State.sendVector_recent (v : Nat) : (s.sendVector v).recent = s.recent := by
  unfold State.sendVector; split <;> [rfl; (split <;> [(with_reducible rfl); simp])]
@[simp] theorem State.sendVector_cyc (v : Nat) : (s.sendVector v).cyc = s.cyc := by
  unfold State.sendVector; split <;> [rfl; (split <;> [(with_reducible rfl); simp])]
@[simp] theorem State.sendVector_ctl (v : Nat) : (s.sendVector v).ctl = s.ctl := by
  unfold State.sendVector; split <;> [rfl; (split <;> [(with_reducible rfl); simp])]
@[simp] theorem State.sendVector_draws (v : Nat) : (s.sendVector v).draws = s.draws := by
  unfold State.sendVector; split <;> [rfl; (split <;> [(with_reducible rfl); simp])]
@[simp] theorem State.sendVector_tau (v : Nat) : (s.sendVector v).tau = s.tau := by
  unfold State.sendVector; split <;> [rfl; (split <;> [(with_reducible rfl); simp])]
@[simp] theorem State.sendVector_regs (v : Nat) : (s.sendVector v).regs = s.regs := by
  unfold State.sendVector; split <;> [rfl; (split <;> [(with_reducible rfl); simp])]
@[simp] theorem State.sendVector_hdrs (v : Nat) : (s.sendVector v).hdrs = s.hdrs := by
  unfold State.sendVector; split <;> [rfl; (split <;> [(with_reducible rfl); simp])]
@[simp] theorem State.sendVector_evlog (v : Nat) : (s.sendVector v).evlog = s.evlog := by
  unfold State.sendVector; split <;> [rfl; (split <;> [(with_reducible rfl); simp])]
@[simp] theorem State.sendVector_logWr (v : Nat) : (s.sendVector v).logWr = s.logWr := by
  unfold State.sendVector; split <;> [rfl; (split <;> [(with_reducible rfl); simp])]
@[simp] theorem State.sendVector_buckets (v : Nat) : (s.sendVector v).buckets = s.buckets := by
  unfold State.sendVector; split <;> [rfl; (split <;> [(with_reducible rfl); simp])]
@[simp] theorem State.sendVector_nv (v : Nat) : (s.sendVector v).nv = s.nv := by
  unfold State.sendVector; split <;> [rfl; (split <;> [(with_reducible rfl); simp])]
@[simp] theorem State.sendVector_nvCount (v : Nat) : (s.sendVector v).nvCount = s.nvCount := by
  unfold State.sendVector; split <;> [rfl; (split <;> [(with_reducible rfl); simp])]
@[simp] theorem State.sendVector_nvSlot (v : Nat) : (s.sendVector v).nvSlot = s.nvSlot := by
  unfold State.sendVector; split <;> [rfl; (split <;> [(with_reducible rfl); simp])]
@[simp] theorem State.sendVector_tp (v : Nat) : (s.sendVector v).tp = s.tp := by
  unfold State.sendVector; split <;> [rfl; (split <;> [(with_reducible rfl); simp])]
@[simp] theorem State.sendVector_cplData (v : Nat) : (s.sendVector v).cplData = s.cplData := by
  unfold State.sendVector; split <;> [rfl; (split <;> [(with_reducible rfl); simp])]
@[simp] theorem State.sendVector_spiData (v : Nat) : (s.sendVector v).spiData = s.spiData := by
  unfold State.sendVector; split <;> [rfl; (split <;> [(with_reducible rfl); simp])]
@[simp] theorem State.sendVector_cfgData (v : Nat) : (s.sendVector v).cfgData = s.cfgData := by
  unfold State.sendVector; split <;> [rfl; (split <;> [(with_reducible rfl); simp])]
@[simp] theorem State.sendVector_bar2Data (v : Nat) : (s.sendVector v).bar2Data = s.bar2Data := by
  unfold State.sendVector; split <;> [rfl; (split <;> [(with_reducible rfl); simp])]
@[simp] theorem State.sendVector_bar2Wait (v : Nat) : (s.sendVector v).bar2Wait = s.bar2Wait := by
  unfold State.sendVector; split <;> [rfl; (split <;> [(with_reducible rfl); simp])]
@[simp] theorem State.sendVector_bar4Data (v : Nat) : (s.sendVector v).bar4Data = s.bar4Data := by
  unfold State.sendVector; split <;> [rfl; (split <;> [(with_reducible rfl); simp])]
@[simp] theorem State.sendVector_clk (v : Nat) : (s.sendVector v).clk = s.clk := by
  unfold State.sendVector; split <;> [rfl; (split <;> [(with_reducible rfl); simp])]
@[simp] theorem State.sendVector_pins (v : Nat) : (s.sendVector v).pins = s.pins := by
  unfold State.sendVector; split <;> [rfl; (split <;> [(with_reducible rfl); simp])]
@[simp] theorem State.sendVector_rings (v : Nat) : (s.sendVector v).rings = s.rings := by
  unfold State.sendVector; split <;> [rfl; (split <;> [(with_reducible rfl); simp])]
@[simp] theorem State.sendVector_chans (v : Nat) : (s.sendVector v).chans = s.chans := by
  unfold State.sendVector; split <;> [rfl; (split <;> [(with_reducible rfl); simp])]
@[simp] theorem State.sendVector_burstNo (v : Nat) : (s.sendVector v).burstNo = s.burstNo := by
  unfold State.sendVector; split <;> [rfl; (split <;> [(with_reducible rfl); simp])]
@[simp] theorem State.sendVector_sram (v : Nat) : (s.sendVector v).sram = s.sram := by
  unfold State.sendVector; split <;> [rfl; (split <;> [(with_reducible rfl); simp])]
@[simp] theorem State.sendVector_dram (v : Nat) : (s.sendVector v).dram = s.dram := by
  unfold State.sendVector; split <;> [rfl; (split <;> [(with_reducible rfl); simp])]
@[simp] theorem State.sendVector_arb (v : Nat) : (s.sendVector v).arb = s.arb := by
  unfold State.sendVector; split <;> [rfl; (split <;> [(with_reducible rfl); simp])]
@[simp] theorem State.sendVector_test (v : Nat) : (s.sendVector v).test = s.test := by
  unfold State.sendVector; split <;> [rfl; (split <;> [(with_reducible rfl); simp])]
@[simp] theorem State.sendVector_tap (v : Nat) : (s.sendVector v).tap = s.tap := by
  unfold State.sendVector; split <;> [rfl; (split <;> [(with_reducible rfl); simp])]
@[simp] theorem State.sendVector_bsr (v : Nat) : (s.sendVector v).bsr = s.bsr := by
  unfold State.sendVector; split <;> [rfl; (split <;> [(with_reducible rfl); simp])]
@[simp] theorem State.sendVector_tdo (v : Nat) : (s.sendVector v).tdo = s.tdo := by
  unfold State.sendVector; split <;> [rfl; (split <;> [(with_reducible rfl); simp])]
@[simp] theorem State.sendVector_ctxs (v : Nat) : (s.sendVector v).ctxs = s.ctxs := by
  unfold State.sendVector; split <;> [rfl; (split <;> [(with_reducible rfl); simp])]
@[simp] theorem State.sendVector_startQ (v : Nat) : (s.sendVector v).startQ = s.startQ := by
  unfold State.sendVector; split <;> [rfl; (split <;> [(with_reducible rfl); simp])]
@[simp] theorem State.sendVector_heldQ (v : Nat) : (s.sendVector v).heldQ = s.heldQ := by
  unfold State.sendVector; split <;> [rfl; (split <;> [(with_reducible rfl); simp])]
@[simp] theorem State.sendVector_form (v : Nat) : (s.sendVector v).form = s.form := by
  unfold State.sendVector; split <;> [rfl; (split <;> [(with_reducible rfl); simp])]
@[simp] theorem State.sendVector_win (v : Nat) : (s.sendVector v).win = s.win := by
  unfold State.sendVector; split <;> [rfl; (split <;> [(with_reducible rfl); simp])]
@[simp] theorem State.sendVector_alm (v : Nat) : (s.sendVector v).alm = s.alm := by
  unfold State.sendVector; split <;> [rfl; (split <;> [(with_reducible rfl); simp])]
@[simp] theorem State.sendVector_expo (v : Nat) : (s.sendVector v).expo = s.expo := by
  unfold State.sendVector; split <;> [rfl; (split <;> [(with_reducible rfl); simp])]
@[simp] theorem State.sendVector_markers (v : Nat) : (s.sendVector v).markers = s.markers := by
  unfold State.sendVector; split <;> [rfl; (split <;> [(with_reducible rfl); simp])]
@[simp] theorem State.sendVector_awaits (v : Nat) : (s.sendVector v).awaits = s.awaits := by
  unfold State.sendVector; split <;> [rfl; (split <;> [(with_reducible rfl); simp])]
@[simp] theorem State.sendVector_lastS (v : Nat) : (s.sendVector v).lastS = s.lastS := by
  unfold State.sendVector; split <;> [rfl; (split <;> [(with_reducible rfl); simp])]
@[simp] theorem State.sendVector_lastF (v : Nat) : (s.sendVector v).lastF = s.lastF := by
  unfold State.sendVector; split <;> [rfl; (split <;> [(with_reducible rfl); simp])]
@[simp] theorem State.sendVector_crossings (v : Nat) : (s.sendVector v).crossings = s.crossings := by
  unfold State.sendVector; split <;> [rfl; (split <;> [(with_reducible rfl); simp])]
@[simp] theorem State.sendVector_bln (v : Nat) : (s.sendVector v).bln = s.bln := by
  unfold State.sendVector; split <;> [rfl; (split <;> [(with_reducible rfl); simp])]
@[simp] theorem State.sendVector_ledger (v : Nat) : (s.sendVector v).ledger = s.ledger := by
  unfold State.sendVector; split <;> [rfl; (split <;> [(with_reducible rfl); simp])]
@[simp] theorem State.sendVector_loop (v : Nat) : (s.sendVector v).loop = s.loop := by
  unfold State.sendVector; split <;> [rfl; (split <;> [(with_reducible rfl); simp])]
@[simp] theorem State.sendVector_gen (v : Nat) : (s.sendVector v).gen = s.gen := by
  unfold State.sendVector; split <;> [rfl; (split <;> [(with_reducible rfl); simp])]
@[simp] theorem State.sendVector_lastSp (v : Nat) : (s.sendVector v).lastSp = s.lastSp := by
  unfold State.sendVector; split <;> [rfl; (split <;> [(with_reducible rfl); simp])]
@[simp] theorem State.sendVector_lastDf (v : Nat) : (s.sendVector v).lastDf = s.lastDf := by
  unfold State.sendVector; split <;> [rfl; (split <;> [(with_reducible rfl); simp])]
@[simp] theorem State.sendVector_gov (v : Nat) : (s.sendVector v).gov = s.gov := by
  unfold State.sendVector; split <;> [rfl; (split <;> [(with_reducible rfl); simp])]
@[simp] theorem State.sendVector_cst (v : Nat) : (s.sendVector v).cst = s.cst := by
  unfold State.sendVector; split <;> [rfl; (split <;> [(with_reducible rfl); simp])]
@[simp] theorem State.sendVector_results (v : Nat) : (s.sendVector v).results = s.results := by
  unfold State.sendVector; split <;> [rfl; (split <;> [(with_reducible rfl); simp])]

/-! ### State.raiseAs -/

@[simp] theorem State.raiseAs_pending (forced : Bool) (ev : EvId) (detail : Nat) (ctx : Option Nat) : (s.raiseAs forced ev detail ctx).pending = s.pending := by
  unfold State.raiseAs; dsimp only; split <;> split <;> simp [State.logEvent]
@[simp] theorem State.raiseAs_recent (forced : Bool) (ev : EvId) (detail : Nat) (ctx : Option Nat) : (s.raiseAs forced ev detail ctx).recent = s.recent := by
  unfold State.raiseAs; dsimp only; split <;> split <;> simp [State.logEvent]
@[simp] theorem State.raiseAs_cyc (forced : Bool) (ev : EvId) (detail : Nat) (ctx : Option Nat) : (s.raiseAs forced ev detail ctx).cyc = s.cyc := by
  unfold State.raiseAs; dsimp only; split <;> split <;> simp [State.logEvent]
@[simp] theorem State.raiseAs_ctl (forced : Bool) (ev : EvId) (detail : Nat) (ctx : Option Nat) : (s.raiseAs forced ev detail ctx).ctl = s.ctl := by
  unfold State.raiseAs; dsimp only; split <;> split <;> simp [State.logEvent]
@[simp] theorem State.raiseAs_draws (forced : Bool) (ev : EvId) (detail : Nat) (ctx : Option Nat) : (s.raiseAs forced ev detail ctx).draws = s.draws := by
  unfold State.raiseAs; dsimp only; split <;> split <;> simp [State.logEvent]
@[simp] theorem State.raiseAs_tau (forced : Bool) (ev : EvId) (detail : Nat) (ctx : Option Nat) : (s.raiseAs forced ev detail ctx).tau = s.tau := by
  unfold State.raiseAs; dsimp only; split <;> split <;> simp [State.logEvent]
@[simp] theorem State.raiseAs_regs (forced : Bool) (ev : EvId) (detail : Nat) (ctx : Option Nat) : (s.raiseAs forced ev detail ctx).regs = s.regs := by
  unfold State.raiseAs; dsimp only; split <;> split <;> simp [State.logEvent]
@[simp] theorem State.raiseAs_buckets (forced : Bool) (ev : EvId) (detail : Nat) (ctx : Option Nat) : (s.raiseAs forced ev detail ctx).buckets = s.buckets := by
  unfold State.raiseAs; dsimp only; split <;> split <;> simp [State.logEvent]
@[simp] theorem State.raiseAs_nv (forced : Bool) (ev : EvId) (detail : Nat) (ctx : Option Nat) : (s.raiseAs forced ev detail ctx).nv = s.nv := by
  unfold State.raiseAs; dsimp only; split <;> split <;> simp [State.logEvent]
@[simp] theorem State.raiseAs_nvCount (forced : Bool) (ev : EvId) (detail : Nat) (ctx : Option Nat) : (s.raiseAs forced ev detail ctx).nvCount = s.nvCount := by
  unfold State.raiseAs; dsimp only; split <;> split <;> simp [State.logEvent]
@[simp] theorem State.raiseAs_nvSlot (forced : Bool) (ev : EvId) (detail : Nat) (ctx : Option Nat) : (s.raiseAs forced ev detail ctx).nvSlot = s.nvSlot := by
  unfold State.raiseAs; dsimp only; split <;> split <;> simp [State.logEvent]
@[simp] theorem State.raiseAs_tp (forced : Bool) (ev : EvId) (detail : Nat) (ctx : Option Nat) : (s.raiseAs forced ev detail ctx).tp = s.tp := by
  unfold State.raiseAs; dsimp only; split <;> split <;> simp [State.logEvent]
@[simp] theorem State.raiseAs_cplData (forced : Bool) (ev : EvId) (detail : Nat) (ctx : Option Nat) : (s.raiseAs forced ev detail ctx).cplData = s.cplData := by
  unfold State.raiseAs; dsimp only; split <;> split <;> simp [State.logEvent]
@[simp] theorem State.raiseAs_spiData (forced : Bool) (ev : EvId) (detail : Nat) (ctx : Option Nat) : (s.raiseAs forced ev detail ctx).spiData = s.spiData := by
  unfold State.raiseAs; dsimp only; split <;> split <;> simp [State.logEvent]
@[simp] theorem State.raiseAs_cfgData (forced : Bool) (ev : EvId) (detail : Nat) (ctx : Option Nat) : (s.raiseAs forced ev detail ctx).cfgData = s.cfgData := by
  unfold State.raiseAs; dsimp only; split <;> split <;> simp [State.logEvent]
@[simp] theorem State.raiseAs_bar2Data (forced : Bool) (ev : EvId) (detail : Nat) (ctx : Option Nat) : (s.raiseAs forced ev detail ctx).bar2Data = s.bar2Data := by
  unfold State.raiseAs; dsimp only; split <;> split <;> simp [State.logEvent]
@[simp] theorem State.raiseAs_bar2Wait (forced : Bool) (ev : EvId) (detail : Nat) (ctx : Option Nat) : (s.raiseAs forced ev detail ctx).bar2Wait = s.bar2Wait := by
  unfold State.raiseAs; dsimp only; split <;> split <;> simp [State.logEvent]
@[simp] theorem State.raiseAs_bar4Data (forced : Bool) (ev : EvId) (detail : Nat) (ctx : Option Nat) : (s.raiseAs forced ev detail ctx).bar4Data = s.bar4Data := by
  unfold State.raiseAs; dsimp only; split <;> split <;> simp [State.logEvent]
@[simp] theorem State.raiseAs_clk (forced : Bool) (ev : EvId) (detail : Nat) (ctx : Option Nat) : (s.raiseAs forced ev detail ctx).clk = s.clk := by
  unfold State.raiseAs; dsimp only; split <;> split <;> simp [State.logEvent]
@[simp] theorem State.raiseAs_pins (forced : Bool) (ev : EvId) (detail : Nat) (ctx : Option Nat) : (s.raiseAs forced ev detail ctx).pins = s.pins := by
  unfold State.raiseAs; dsimp only; split <;> split <;> simp [State.logEvent]
@[simp] theorem State.raiseAs_rings (forced : Bool) (ev : EvId) (detail : Nat) (ctx : Option Nat) : (s.raiseAs forced ev detail ctx).rings = s.rings := by
  unfold State.raiseAs; dsimp only; split <;> split <;> simp [State.logEvent]
@[simp] theorem State.raiseAs_chans (forced : Bool) (ev : EvId) (detail : Nat) (ctx : Option Nat) : (s.raiseAs forced ev detail ctx).chans = s.chans := by
  unfold State.raiseAs; dsimp only; split <;> split <;> simp [State.logEvent]
@[simp] theorem State.raiseAs_burstNo (forced : Bool) (ev : EvId) (detail : Nat) (ctx : Option Nat) : (s.raiseAs forced ev detail ctx).burstNo = s.burstNo := by
  unfold State.raiseAs; dsimp only; split <;> split <;> simp [State.logEvent]
@[simp] theorem State.raiseAs_sram (forced : Bool) (ev : EvId) (detail : Nat) (ctx : Option Nat) : (s.raiseAs forced ev detail ctx).sram = s.sram := by
  unfold State.raiseAs; dsimp only; split <;> split <;> simp [State.logEvent]
@[simp] theorem State.raiseAs_dram (forced : Bool) (ev : EvId) (detail : Nat) (ctx : Option Nat) : (s.raiseAs forced ev detail ctx).dram = s.dram := by
  unfold State.raiseAs; dsimp only; split <;> split <;> simp [State.logEvent]
@[simp] theorem State.raiseAs_arb (forced : Bool) (ev : EvId) (detail : Nat) (ctx : Option Nat) : (s.raiseAs forced ev detail ctx).arb = s.arb := by
  unfold State.raiseAs; dsimp only; split <;> split <;> simp [State.logEvent]
@[simp] theorem State.raiseAs_test (forced : Bool) (ev : EvId) (detail : Nat) (ctx : Option Nat) : (s.raiseAs forced ev detail ctx).test = s.test := by
  unfold State.raiseAs; dsimp only; split <;> split <;> simp [State.logEvent]
@[simp] theorem State.raiseAs_tap (forced : Bool) (ev : EvId) (detail : Nat) (ctx : Option Nat) : (s.raiseAs forced ev detail ctx).tap = s.tap := by
  unfold State.raiseAs; dsimp only; split <;> split <;> simp [State.logEvent]
@[simp] theorem State.raiseAs_bsr (forced : Bool) (ev : EvId) (detail : Nat) (ctx : Option Nat) : (s.raiseAs forced ev detail ctx).bsr = s.bsr := by
  unfold State.raiseAs; dsimp only; split <;> split <;> simp [State.logEvent]
@[simp] theorem State.raiseAs_tdo (forced : Bool) (ev : EvId) (detail : Nat) (ctx : Option Nat) : (s.raiseAs forced ev detail ctx).tdo = s.tdo := by
  unfold State.raiseAs; dsimp only; split <;> split <;> simp [State.logEvent]
@[simp] theorem State.raiseAs_ctxs (forced : Bool) (ev : EvId) (detail : Nat) (ctx : Option Nat) : (s.raiseAs forced ev detail ctx).ctxs = s.ctxs := by
  unfold State.raiseAs; dsimp only; split <;> split <;> simp [State.logEvent]
@[simp] theorem State.raiseAs_startQ (forced : Bool) (ev : EvId) (detail : Nat) (ctx : Option Nat) : (s.raiseAs forced ev detail ctx).startQ = s.startQ := by
  unfold State.raiseAs; dsimp only; split <;> split <;> simp [State.logEvent]
@[simp] theorem State.raiseAs_heldQ (forced : Bool) (ev : EvId) (detail : Nat) (ctx : Option Nat) : (s.raiseAs forced ev detail ctx).heldQ = s.heldQ := by
  unfold State.raiseAs; dsimp only; split <;> split <;> simp [State.logEvent]
@[simp] theorem State.raiseAs_form (forced : Bool) (ev : EvId) (detail : Nat) (ctx : Option Nat) : (s.raiseAs forced ev detail ctx).form = s.form := by
  unfold State.raiseAs; dsimp only; split <;> split <;> simp [State.logEvent]
@[simp] theorem State.raiseAs_win (forced : Bool) (ev : EvId) (detail : Nat) (ctx : Option Nat) : (s.raiseAs forced ev detail ctx).win = s.win := by
  unfold State.raiseAs; dsimp only; split <;> split <;> simp [State.logEvent]
@[simp] theorem State.raiseAs_alm (forced : Bool) (ev : EvId) (detail : Nat) (ctx : Option Nat) : (s.raiseAs forced ev detail ctx).alm = s.alm := by
  unfold State.raiseAs; dsimp only; split <;> split <;> simp [State.logEvent]
@[simp] theorem State.raiseAs_expo (forced : Bool) (ev : EvId) (detail : Nat) (ctx : Option Nat) : (s.raiseAs forced ev detail ctx).expo = s.expo := by
  unfold State.raiseAs; dsimp only; split <;> split <;> simp [State.logEvent]
@[simp] theorem State.raiseAs_markers (forced : Bool) (ev : EvId) (detail : Nat) (ctx : Option Nat) : (s.raiseAs forced ev detail ctx).markers = s.markers := by
  unfold State.raiseAs; dsimp only; split <;> split <;> simp [State.logEvent]
@[simp] theorem State.raiseAs_awaits (forced : Bool) (ev : EvId) (detail : Nat) (ctx : Option Nat) : (s.raiseAs forced ev detail ctx).awaits = s.awaits := by
  unfold State.raiseAs; dsimp only; split <;> split <;> simp [State.logEvent]
@[simp] theorem State.raiseAs_lastS (forced : Bool) (ev : EvId) (detail : Nat) (ctx : Option Nat) : (s.raiseAs forced ev detail ctx).lastS = s.lastS := by
  unfold State.raiseAs; dsimp only; split <;> split <;> simp [State.logEvent]
@[simp] theorem State.raiseAs_lastF (forced : Bool) (ev : EvId) (detail : Nat) (ctx : Option Nat) : (s.raiseAs forced ev detail ctx).lastF = s.lastF := by
  unfold State.raiseAs; dsimp only; split <;> split <;> simp [State.logEvent]
@[simp] theorem State.raiseAs_crossings (forced : Bool) (ev : EvId) (detail : Nat) (ctx : Option Nat) : (s.raiseAs forced ev detail ctx).crossings = s.crossings := by
  unfold State.raiseAs; dsimp only; split <;> split <;> simp [State.logEvent]
@[simp] theorem State.raiseAs_bln (forced : Bool) (ev : EvId) (detail : Nat) (ctx : Option Nat) : (s.raiseAs forced ev detail ctx).bln = s.bln := by
  unfold State.raiseAs; dsimp only; split <;> split <;> simp [State.logEvent]
@[simp] theorem State.raiseAs_ledger (forced : Bool) (ev : EvId) (detail : Nat) (ctx : Option Nat) : (s.raiseAs forced ev detail ctx).ledger = s.ledger := by
  unfold State.raiseAs; dsimp only; split <;> split <;> simp [State.logEvent]
@[simp] theorem State.raiseAs_loop (forced : Bool) (ev : EvId) (detail : Nat) (ctx : Option Nat) : (s.raiseAs forced ev detail ctx).loop = s.loop := by
  unfold State.raiseAs; dsimp only; split <;> split <;> simp [State.logEvent]
@[simp] theorem State.raiseAs_gen (forced : Bool) (ev : EvId) (detail : Nat) (ctx : Option Nat) : (s.raiseAs forced ev detail ctx).gen = s.gen := by
  unfold State.raiseAs; dsimp only; split <;> split <;> simp [State.logEvent]
@[simp] theorem State.raiseAs_lastSp (forced : Bool) (ev : EvId) (detail : Nat) (ctx : Option Nat) : (s.raiseAs forced ev detail ctx).lastSp = s.lastSp := by
  unfold State.raiseAs; dsimp only; split <;> split <;> simp [State.logEvent]
@[simp] theorem State.raiseAs_lastDf (forced : Bool) (ev : EvId) (detail : Nat) (ctx : Option Nat) : (s.raiseAs forced ev detail ctx).lastDf = s.lastDf := by
  unfold State.raiseAs; dsimp only; split <;> split <;> simp [State.logEvent]
@[simp] theorem State.raiseAs_gov (forced : Bool) (ev : EvId) (detail : Nat) (ctx : Option Nat) : (s.raiseAs forced ev detail ctx).gov = s.gov := by
  unfold State.raiseAs; dsimp only; split <;> split <;> simp [State.logEvent]
@[simp] theorem State.raiseAs_cst (forced : Bool) (ev : EvId) (detail : Nat) (ctx : Option Nat) : (s.raiseAs forced ev detail ctx).cst = s.cst := by
  unfold State.raiseAs; dsimp only; split <;> split <;> simp [State.logEvent]
@[simp] theorem State.raiseAs_results (forced : Bool) (ev : EvId) (detail : Nat) (ctx : Option Nat) : (s.raiseAs forced ev detail ctx).results = s.results := by
  unfold State.raiseAs; dsimp only; split <;> split <;> simp [State.logEvent]

/-! ### State.raise -/

@[simp] theorem State.raise_pending (ev : EvId) (detail : Nat) : (s.raise ev detail).pending = s.pending := by
  unfold State.raise; simp
@[simp] theorem State.raise_recent (ev : EvId) (detail : Nat) : (s.raise ev detail).recent = s.recent := by
  unfold State.raise; simp
@[simp] theorem State.raise_cyc (ev : EvId) (detail : Nat) : (s.raise ev detail).cyc = s.cyc := by
  unfold State.raise; simp
@[simp] theorem State.raise_ctl (ev : EvId) (detail : Nat) : (s.raise ev detail).ctl = s.ctl := by
  unfold State.raise; simp
@[simp] theorem State.raise_draws (ev : EvId) (detail : Nat) : (s.raise ev detail).draws = s.draws := by
  unfold State.raise; simp
@[simp] theorem State.raise_tau (ev : EvId) (detail : Nat) : (s.raise ev detail).tau = s.tau := by
  unfold State.raise; simp
@[simp] theorem State.raise_regs (ev : EvId) (detail : Nat) : (s.raise ev detail).regs = s.regs := by
  unfold State.raise; simp
@[simp] theorem State.raise_buckets (ev : EvId) (detail : Nat) : (s.raise ev detail).buckets = s.buckets := by
  unfold State.raise; simp
@[simp] theorem State.raise_nv (ev : EvId) (detail : Nat) : (s.raise ev detail).nv = s.nv := by
  unfold State.raise; simp
@[simp] theorem State.raise_nvCount (ev : EvId) (detail : Nat) : (s.raise ev detail).nvCount = s.nvCount := by
  unfold State.raise; simp
@[simp] theorem State.raise_nvSlot (ev : EvId) (detail : Nat) : (s.raise ev detail).nvSlot = s.nvSlot := by
  unfold State.raise; simp
@[simp] theorem State.raise_tp (ev : EvId) (detail : Nat) : (s.raise ev detail).tp = s.tp := by
  unfold State.raise; simp
@[simp] theorem State.raise_cplData (ev : EvId) (detail : Nat) : (s.raise ev detail).cplData = s.cplData := by
  unfold State.raise; simp
@[simp] theorem State.raise_spiData (ev : EvId) (detail : Nat) : (s.raise ev detail).spiData = s.spiData := by
  unfold State.raise; simp
@[simp] theorem State.raise_cfgData (ev : EvId) (detail : Nat) : (s.raise ev detail).cfgData = s.cfgData := by
  unfold State.raise; simp
@[simp] theorem State.raise_bar2Data (ev : EvId) (detail : Nat) : (s.raise ev detail).bar2Data = s.bar2Data := by
  unfold State.raise; simp
@[simp] theorem State.raise_bar2Wait (ev : EvId) (detail : Nat) : (s.raise ev detail).bar2Wait = s.bar2Wait := by
  unfold State.raise; simp
@[simp] theorem State.raise_bar4Data (ev : EvId) (detail : Nat) : (s.raise ev detail).bar4Data = s.bar4Data := by
  unfold State.raise; simp
@[simp] theorem State.raise_clk (ev : EvId) (detail : Nat) : (s.raise ev detail).clk = s.clk := by
  unfold State.raise; simp
@[simp] theorem State.raise_pins (ev : EvId) (detail : Nat) : (s.raise ev detail).pins = s.pins := by
  unfold State.raise; simp
@[simp] theorem State.raise_rings (ev : EvId) (detail : Nat) : (s.raise ev detail).rings = s.rings := by
  unfold State.raise; simp
@[simp] theorem State.raise_chans (ev : EvId) (detail : Nat) : (s.raise ev detail).chans = s.chans := by
  unfold State.raise; simp
@[simp] theorem State.raise_burstNo (ev : EvId) (detail : Nat) : (s.raise ev detail).burstNo = s.burstNo := by
  unfold State.raise; simp
@[simp] theorem State.raise_sram (ev : EvId) (detail : Nat) : (s.raise ev detail).sram = s.sram := by
  unfold State.raise; simp
@[simp] theorem State.raise_dram (ev : EvId) (detail : Nat) : (s.raise ev detail).dram = s.dram := by
  unfold State.raise; simp
@[simp] theorem State.raise_arb (ev : EvId) (detail : Nat) : (s.raise ev detail).arb = s.arb := by
  unfold State.raise; simp
@[simp] theorem State.raise_test (ev : EvId) (detail : Nat) : (s.raise ev detail).test = s.test := by
  unfold State.raise; simp
@[simp] theorem State.raise_tap (ev : EvId) (detail : Nat) : (s.raise ev detail).tap = s.tap := by
  unfold State.raise; simp
@[simp] theorem State.raise_bsr (ev : EvId) (detail : Nat) : (s.raise ev detail).bsr = s.bsr := by
  unfold State.raise; simp
@[simp] theorem State.raise_tdo (ev : EvId) (detail : Nat) : (s.raise ev detail).tdo = s.tdo := by
  unfold State.raise; simp
@[simp] theorem State.raise_ctxs (ev : EvId) (detail : Nat) : (s.raise ev detail).ctxs = s.ctxs := by
  unfold State.raise; simp
@[simp] theorem State.raise_startQ (ev : EvId) (detail : Nat) : (s.raise ev detail).startQ = s.startQ := by
  unfold State.raise; simp
@[simp] theorem State.raise_heldQ (ev : EvId) (detail : Nat) : (s.raise ev detail).heldQ = s.heldQ := by
  unfold State.raise; simp
@[simp] theorem State.raise_form (ev : EvId) (detail : Nat) : (s.raise ev detail).form = s.form := by
  unfold State.raise; simp
@[simp] theorem State.raise_win (ev : EvId) (detail : Nat) : (s.raise ev detail).win = s.win := by
  unfold State.raise; simp
@[simp] theorem State.raise_alm (ev : EvId) (detail : Nat) : (s.raise ev detail).alm = s.alm := by
  unfold State.raise; simp
@[simp] theorem State.raise_expo (ev : EvId) (detail : Nat) : (s.raise ev detail).expo = s.expo := by
  unfold State.raise; simp
@[simp] theorem State.raise_markers (ev : EvId) (detail : Nat) : (s.raise ev detail).markers = s.markers := by
  unfold State.raise; simp
@[simp] theorem State.raise_awaits (ev : EvId) (detail : Nat) : (s.raise ev detail).awaits = s.awaits := by
  unfold State.raise; simp
@[simp] theorem State.raise_lastS (ev : EvId) (detail : Nat) : (s.raise ev detail).lastS = s.lastS := by
  unfold State.raise; simp
@[simp] theorem State.raise_lastF (ev : EvId) (detail : Nat) : (s.raise ev detail).lastF = s.lastF := by
  unfold State.raise; simp
@[simp] theorem State.raise_crossings (ev : EvId) (detail : Nat) : (s.raise ev detail).crossings = s.crossings := by
  unfold State.raise; simp
@[simp] theorem State.raise_bln (ev : EvId) (detail : Nat) : (s.raise ev detail).bln = s.bln := by
  unfold State.raise; simp
@[simp] theorem State.raise_ledger (ev : EvId) (detail : Nat) : (s.raise ev detail).ledger = s.ledger := by
  unfold State.raise; simp
@[simp] theorem State.raise_loop (ev : EvId) (detail : Nat) : (s.raise ev detail).loop = s.loop := by
  unfold State.raise; simp
@[simp] theorem State.raise_gen (ev : EvId) (detail : Nat) : (s.raise ev detail).gen = s.gen := by
  unfold State.raise; simp
@[simp] theorem State.raise_lastSp (ev : EvId) (detail : Nat) : (s.raise ev detail).lastSp = s.lastSp := by
  unfold State.raise; simp
@[simp] theorem State.raise_lastDf (ev : EvId) (detail : Nat) : (s.raise ev detail).lastDf = s.lastDf := by
  unfold State.raise; simp
@[simp] theorem State.raise_gov (ev : EvId) (detail : Nat) : (s.raise ev detail).gov = s.gov := by
  unfold State.raise; simp
@[simp] theorem State.raise_cst (ev : EvId) (detail : Nat) : (s.raise ev detail).cst = s.cst := by
  unfold State.raise; simp
@[simp] theorem State.raise_results (ev : EvId) (detail : Nat) : (s.raise ev detail).results = s.results := by
  unfold State.raise; simp

/-! ### State.raiseCtx -/

@[simp] theorem State.raiseCtx_pending (ev : EvId) (detail ctx : Nat) : (s.raiseCtx ev detail ctx).pending = s.pending := by
  unfold State.raiseCtx; simp
@[simp] theorem State.raiseCtx_recent (ev : EvId) (detail ctx : Nat) : (s.raiseCtx ev detail ctx).recent = s.recent := by
  unfold State.raiseCtx; simp
@[simp] theorem State.raiseCtx_cyc (ev : EvId) (detail ctx : Nat) : (s.raiseCtx ev detail ctx).cyc = s.cyc := by
  unfold State.raiseCtx; simp
@[simp] theorem State.raiseCtx_ctl (ev : EvId) (detail ctx : Nat) : (s.raiseCtx ev detail ctx).ctl = s.ctl := by
  unfold State.raiseCtx; simp
@[simp] theorem State.raiseCtx_draws (ev : EvId) (detail ctx : Nat) : (s.raiseCtx ev detail ctx).draws = s.draws := by
  unfold State.raiseCtx; simp
@[simp] theorem State.raiseCtx_tau (ev : EvId) (detail ctx : Nat) : (s.raiseCtx ev detail ctx).tau = s.tau := by
  unfold State.raiseCtx; simp
@[simp] theorem State.raiseCtx_regs (ev : EvId) (detail ctx : Nat) : (s.raiseCtx ev detail ctx).regs = s.regs := by
  unfold State.raiseCtx; simp
@[simp] theorem State.raiseCtx_buckets (ev : EvId) (detail ctx : Nat) : (s.raiseCtx ev detail ctx).buckets = s.buckets := by
  unfold State.raiseCtx; simp
@[simp] theorem State.raiseCtx_nv (ev : EvId) (detail ctx : Nat) : (s.raiseCtx ev detail ctx).nv = s.nv := by
  unfold State.raiseCtx; simp
@[simp] theorem State.raiseCtx_nvCount (ev : EvId) (detail ctx : Nat) : (s.raiseCtx ev detail ctx).nvCount = s.nvCount := by
  unfold State.raiseCtx; simp
@[simp] theorem State.raiseCtx_nvSlot (ev : EvId) (detail ctx : Nat) : (s.raiseCtx ev detail ctx).nvSlot = s.nvSlot := by
  unfold State.raiseCtx; simp
@[simp] theorem State.raiseCtx_tp (ev : EvId) (detail ctx : Nat) : (s.raiseCtx ev detail ctx).tp = s.tp := by
  unfold State.raiseCtx; simp
@[simp] theorem State.raiseCtx_cplData (ev : EvId) (detail ctx : Nat) : (s.raiseCtx ev detail ctx).cplData = s.cplData := by
  unfold State.raiseCtx; simp
@[simp] theorem State.raiseCtx_spiData (ev : EvId) (detail ctx : Nat) : (s.raiseCtx ev detail ctx).spiData = s.spiData := by
  unfold State.raiseCtx; simp
@[simp] theorem State.raiseCtx_cfgData (ev : EvId) (detail ctx : Nat) : (s.raiseCtx ev detail ctx).cfgData = s.cfgData := by
  unfold State.raiseCtx; simp
@[simp] theorem State.raiseCtx_bar2Data (ev : EvId) (detail ctx : Nat) : (s.raiseCtx ev detail ctx).bar2Data = s.bar2Data := by
  unfold State.raiseCtx; simp
@[simp] theorem State.raiseCtx_bar2Wait (ev : EvId) (detail ctx : Nat) : (s.raiseCtx ev detail ctx).bar2Wait = s.bar2Wait := by
  unfold State.raiseCtx; simp
@[simp] theorem State.raiseCtx_bar4Data (ev : EvId) (detail ctx : Nat) : (s.raiseCtx ev detail ctx).bar4Data = s.bar4Data := by
  unfold State.raiseCtx; simp
@[simp] theorem State.raiseCtx_clk (ev : EvId) (detail ctx : Nat) : (s.raiseCtx ev detail ctx).clk = s.clk := by
  unfold State.raiseCtx; simp
@[simp] theorem State.raiseCtx_pins (ev : EvId) (detail ctx : Nat) : (s.raiseCtx ev detail ctx).pins = s.pins := by
  unfold State.raiseCtx; simp
@[simp] theorem State.raiseCtx_rings (ev : EvId) (detail ctx : Nat) : (s.raiseCtx ev detail ctx).rings = s.rings := by
  unfold State.raiseCtx; simp
@[simp] theorem State.raiseCtx_chans (ev : EvId) (detail ctx : Nat) : (s.raiseCtx ev detail ctx).chans = s.chans := by
  unfold State.raiseCtx; simp
@[simp] theorem State.raiseCtx_burstNo (ev : EvId) (detail ctx : Nat) : (s.raiseCtx ev detail ctx).burstNo = s.burstNo := by
  unfold State.raiseCtx; simp
@[simp] theorem State.raiseCtx_sram (ev : EvId) (detail ctx : Nat) : (s.raiseCtx ev detail ctx).sram = s.sram := by
  unfold State.raiseCtx; simp
@[simp] theorem State.raiseCtx_dram (ev : EvId) (detail ctx : Nat) : (s.raiseCtx ev detail ctx).dram = s.dram := by
  unfold State.raiseCtx; simp
@[simp] theorem State.raiseCtx_arb (ev : EvId) (detail ctx : Nat) : (s.raiseCtx ev detail ctx).arb = s.arb := by
  unfold State.raiseCtx; simp
@[simp] theorem State.raiseCtx_test (ev : EvId) (detail ctx : Nat) : (s.raiseCtx ev detail ctx).test = s.test := by
  unfold State.raiseCtx; simp
@[simp] theorem State.raiseCtx_tap (ev : EvId) (detail ctx : Nat) : (s.raiseCtx ev detail ctx).tap = s.tap := by
  unfold State.raiseCtx; simp
@[simp] theorem State.raiseCtx_bsr (ev : EvId) (detail ctx : Nat) : (s.raiseCtx ev detail ctx).bsr = s.bsr := by
  unfold State.raiseCtx; simp
@[simp] theorem State.raiseCtx_tdo (ev : EvId) (detail ctx : Nat) : (s.raiseCtx ev detail ctx).tdo = s.tdo := by
  unfold State.raiseCtx; simp
@[simp] theorem State.raiseCtx_ctxs (ev : EvId) (detail ctx : Nat) : (s.raiseCtx ev detail ctx).ctxs = s.ctxs := by
  unfold State.raiseCtx; simp
@[simp] theorem State.raiseCtx_startQ (ev : EvId) (detail ctx : Nat) : (s.raiseCtx ev detail ctx).startQ = s.startQ := by
  unfold State.raiseCtx; simp
@[simp] theorem State.raiseCtx_heldQ (ev : EvId) (detail ctx : Nat) : (s.raiseCtx ev detail ctx).heldQ = s.heldQ := by
  unfold State.raiseCtx; simp
@[simp] theorem State.raiseCtx_form (ev : EvId) (detail ctx : Nat) : (s.raiseCtx ev detail ctx).form = s.form := by
  unfold State.raiseCtx; simp
@[simp] theorem State.raiseCtx_win (ev : EvId) (detail ctx : Nat) : (s.raiseCtx ev detail ctx).win = s.win := by
  unfold State.raiseCtx; simp
@[simp] theorem State.raiseCtx_alm (ev : EvId) (detail ctx : Nat) : (s.raiseCtx ev detail ctx).alm = s.alm := by
  unfold State.raiseCtx; simp
@[simp] theorem State.raiseCtx_expo (ev : EvId) (detail ctx : Nat) : (s.raiseCtx ev detail ctx).expo = s.expo := by
  unfold State.raiseCtx; simp
@[simp] theorem State.raiseCtx_markers (ev : EvId) (detail ctx : Nat) : (s.raiseCtx ev detail ctx).markers = s.markers := by
  unfold State.raiseCtx; simp
@[simp] theorem State.raiseCtx_awaits (ev : EvId) (detail ctx : Nat) : (s.raiseCtx ev detail ctx).awaits = s.awaits := by
  unfold State.raiseCtx; simp
@[simp] theorem State.raiseCtx_lastS (ev : EvId) (detail ctx : Nat) : (s.raiseCtx ev detail ctx).lastS = s.lastS := by
  unfold State.raiseCtx; simp
@[simp] theorem State.raiseCtx_lastF (ev : EvId) (detail ctx : Nat) : (s.raiseCtx ev detail ctx).lastF = s.lastF := by
  unfold State.raiseCtx; simp
@[simp] theorem State.raiseCtx_crossings (ev : EvId) (detail ctx : Nat) : (s.raiseCtx ev detail ctx).crossings = s.crossings := by
  unfold State.raiseCtx; simp
@[simp] theorem State.raiseCtx_bln (ev : EvId) (detail ctx : Nat) : (s.raiseCtx ev detail ctx).bln = s.bln := by
  unfold State.raiseCtx; simp
@[simp] theorem State.raiseCtx_ledger (ev : EvId) (detail ctx : Nat) : (s.raiseCtx ev detail ctx).ledger = s.ledger := by
  unfold State.raiseCtx; simp
@[simp] theorem State.raiseCtx_loop (ev : EvId) (detail ctx : Nat) : (s.raiseCtx ev detail ctx).loop = s.loop := by
  unfold State.raiseCtx; simp
@[simp] theorem State.raiseCtx_gen (ev : EvId) (detail ctx : Nat) : (s.raiseCtx ev detail ctx).gen = s.gen := by
  unfold State.raiseCtx; simp
@[simp] theorem State.raiseCtx_lastSp (ev : EvId) (detail ctx : Nat) : (s.raiseCtx ev detail ctx).lastSp = s.lastSp := by
  unfold State.raiseCtx; simp
@[simp] theorem State.raiseCtx_lastDf (ev : EvId) (detail ctx : Nat) : (s.raiseCtx ev detail ctx).lastDf = s.lastDf := by
  unfold State.raiseCtx; simp
@[simp] theorem State.raiseCtx_gov (ev : EvId) (detail ctx : Nat) : (s.raiseCtx ev detail ctx).gov = s.gov := by
  unfold State.raiseCtx; simp
@[simp] theorem State.raiseCtx_cst (ev : EvId) (detail ctx : Nat) : (s.raiseCtx ev detail ctx).cst = s.cst := by
  unfold State.raiseCtx; simp
@[simp] theorem State.raiseCtx_results (ev : EvId) (detail ctx : Nat) : (s.raiseCtx ev detail ctx).results = s.results := by
  unfold State.raiseCtx; simp

/-! ### State.logAcc -/

@[simp] theorem State.logAcc_pending (p : Party) (kind off : Nat) : (s.logAcc p kind off).pending = s.pending := by
  unfold State.logAcc; dsimp only; split <;> [rfl; (split <;> simp)]
@[simp] theorem State.logAcc_recent (p : Party) (kind off : Nat) : (s.logAcc p kind off).recent = s.recent := by
  unfold State.logAcc; dsimp only; split <;> [rfl; (split <;> simp)]
@[simp] theorem State.logAcc_cyc (p : Party) (kind off : Nat) : (s.logAcc p kind off).cyc = s.cyc := by
  unfold State.logAcc; dsimp only; split <;> [rfl; (split <;> simp)]
@[simp] theorem State.logAcc_ctl (p : Party) (kind off : Nat) : (s.logAcc p kind off).ctl = s.ctl := by
  unfold State.logAcc; dsimp only; split <;> [rfl; (split <;> simp)]
@[simp] theorem State.logAcc_draws (p : Party) (kind off : Nat) : (s.logAcc p kind off).draws = s.draws := by
  unfold State.logAcc; dsimp only; split <;> [rfl; (split <;> simp)]
@[simp] theorem State.logAcc_tau (p : Party) (kind off : Nat) : (s.logAcc p kind off).tau = s.tau := by
  unfold State.logAcc; dsimp only; split <;> [rfl; (split <;> simp)]
@[simp] theorem State.logAcc_buckets (p : Party) (kind off : Nat) : (s.logAcc p kind off).buckets = s.buckets := by
  unfold State.logAcc; dsimp only; split <;> [rfl; (split <;> simp)]
@[simp] theorem State.logAcc_nv (p : Party) (kind off : Nat) : (s.logAcc p kind off).nv = s.nv := by
  unfold State.logAcc; dsimp only; split <;> [rfl; (split <;> simp)]
@[simp] theorem State.logAcc_nvCount (p : Party) (kind off : Nat) : (s.logAcc p kind off).nvCount = s.nvCount := by
  unfold State.logAcc; dsimp only; split <;> [rfl; (split <;> simp)]
@[simp] theorem State.logAcc_nvSlot (p : Party) (kind off : Nat) : (s.logAcc p kind off).nvSlot = s.nvSlot := by
  unfold State.logAcc; dsimp only; split <;> [rfl; (split <;> simp)]
@[simp] theorem State.logAcc_tp (p : Party) (kind off : Nat) : (s.logAcc p kind off).tp = s.tp := by
  unfold State.logAcc; dsimp only; split <;> [rfl; (split <;> simp)]
@[simp] theorem State.logAcc_cplData (p : Party) (kind off : Nat) : (s.logAcc p kind off).cplData = s.cplData := by
  unfold State.logAcc; dsimp only; split <;> [rfl; (split <;> simp)]
@[simp] theorem State.logAcc_spiData (p : Party) (kind off : Nat) : (s.logAcc p kind off).spiData = s.spiData := by
  unfold State.logAcc; dsimp only; split <;> [rfl; (split <;> simp)]
@[simp] theorem State.logAcc_cfgData (p : Party) (kind off : Nat) : (s.logAcc p kind off).cfgData = s.cfgData := by
  unfold State.logAcc; dsimp only; split <;> [rfl; (split <;> simp)]
@[simp] theorem State.logAcc_bar2Data (p : Party) (kind off : Nat) : (s.logAcc p kind off).bar2Data = s.bar2Data := by
  unfold State.logAcc; dsimp only; split <;> [rfl; (split <;> simp)]
@[simp] theorem State.logAcc_bar2Wait (p : Party) (kind off : Nat) : (s.logAcc p kind off).bar2Wait = s.bar2Wait := by
  unfold State.logAcc; dsimp only; split <;> [rfl; (split <;> simp)]
@[simp] theorem State.logAcc_bar4Data (p : Party) (kind off : Nat) : (s.logAcc p kind off).bar4Data = s.bar4Data := by
  unfold State.logAcc; dsimp only; split <;> [rfl; (split <;> simp)]
@[simp] theorem State.logAcc_clk (p : Party) (kind off : Nat) : (s.logAcc p kind off).clk = s.clk := by
  unfold State.logAcc; dsimp only; split <;> [rfl; (split <;> simp)]
@[simp] theorem State.logAcc_pins (p : Party) (kind off : Nat) : (s.logAcc p kind off).pins = s.pins := by
  unfold State.logAcc; dsimp only; split <;> [rfl; (split <;> simp)]
@[simp] theorem State.logAcc_rings (p : Party) (kind off : Nat) : (s.logAcc p kind off).rings = s.rings := by
  unfold State.logAcc; dsimp only; split <;> [rfl; (split <;> simp)]
@[simp] theorem State.logAcc_chans (p : Party) (kind off : Nat) : (s.logAcc p kind off).chans = s.chans := by
  unfold State.logAcc; dsimp only; split <;> [rfl; (split <;> simp)]
@[simp] theorem State.logAcc_burstNo (p : Party) (kind off : Nat) : (s.logAcc p kind off).burstNo = s.burstNo := by
  unfold State.logAcc; dsimp only; split <;> [rfl; (split <;> simp)]
@[simp] theorem State.logAcc_sram (p : Party) (kind off : Nat) : (s.logAcc p kind off).sram = s.sram := by
  unfold State.logAcc; dsimp only; split <;> [rfl; (split <;> simp)]
@[simp] theorem State.logAcc_dram (p : Party) (kind off : Nat) : (s.logAcc p kind off).dram = s.dram := by
  unfold State.logAcc; dsimp only; split <;> [rfl; (split <;> simp)]
@[simp] theorem State.logAcc_arb (p : Party) (kind off : Nat) : (s.logAcc p kind off).arb = s.arb := by
  unfold State.logAcc; dsimp only; split <;> [rfl; (split <;> simp)]
@[simp] theorem State.logAcc_test (p : Party) (kind off : Nat) : (s.logAcc p kind off).test = s.test := by
  unfold State.logAcc; dsimp only; split <;> [rfl; (split <;> simp)]
@[simp] theorem State.logAcc_tap (p : Party) (kind off : Nat) : (s.logAcc p kind off).tap = s.tap := by
  unfold State.logAcc; dsimp only; split <;> [rfl; (split <;> simp)]
@[simp] theorem State.logAcc_bsr (p : Party) (kind off : Nat) : (s.logAcc p kind off).bsr = s.bsr := by
  unfold State.logAcc; dsimp only; split <;> [rfl; (split <;> simp)]
@[simp] theorem State.logAcc_tdo (p : Party) (kind off : Nat) : (s.logAcc p kind off).tdo = s.tdo := by
  unfold State.logAcc; dsimp only; split <;> [rfl; (split <;> simp)]
@[simp] theorem State.logAcc_ctxs (p : Party) (kind off : Nat) : (s.logAcc p kind off).ctxs = s.ctxs := by
  unfold State.logAcc; dsimp only; split <;> [rfl; (split <;> simp)]
@[simp] theorem State.logAcc_startQ (p : Party) (kind off : Nat) : (s.logAcc p kind off).startQ = s.startQ := by
  unfold State.logAcc; dsimp only; split <;> [rfl; (split <;> simp)]
@[simp] theorem State.logAcc_heldQ (p : Party) (kind off : Nat) : (s.logAcc p kind off).heldQ = s.heldQ := by
  unfold State.logAcc; dsimp only; split <;> [rfl; (split <;> simp)]
@[simp] theorem State.logAcc_form (p : Party) (kind off : Nat) : (s.logAcc p kind off).form = s.form := by
  unfold State.logAcc; dsimp only; split <;> [rfl; (split <;> simp)]
@[simp] theorem State.logAcc_win (p : Party) (kind off : Nat) : (s.logAcc p kind off).win = s.win := by
  unfold State.logAcc; dsimp only; split <;> [rfl; (split <;> simp)]
@[simp] theorem State.logAcc_alm (p : Party) (kind off : Nat) : (s.logAcc p kind off).alm = s.alm := by
  unfold State.logAcc; dsimp only; split <;> [rfl; (split <;> simp)]
@[simp] theorem State.logAcc_expo (p : Party) (kind off : Nat) : (s.logAcc p kind off).expo = s.expo := by
  unfold State.logAcc; dsimp only; split <;> [rfl; (split <;> simp)]
@[simp] theorem State.logAcc_markers (p : Party) (kind off : Nat) : (s.logAcc p kind off).markers = s.markers := by
  unfold State.logAcc; dsimp only; split <;> [rfl; (split <;> simp)]
@[simp] theorem State.logAcc_awaits (p : Party) (kind off : Nat) : (s.logAcc p kind off).awaits = s.awaits := by
  unfold State.logAcc; dsimp only; split <;> [rfl; (split <;> simp)]
@[simp] theorem State.logAcc_lastS (p : Party) (kind off : Nat) : (s.logAcc p kind off).lastS = s.lastS := by
  unfold State.logAcc; dsimp only; split <;> [rfl; (split <;> simp)]
@[simp] theorem State.logAcc_lastF (p : Party) (kind off : Nat) : (s.logAcc p kind off).lastF = s.lastF := by
  unfold State.logAcc; dsimp only; split <;> [rfl; (split <;> simp)]
@[simp] theorem State.logAcc_crossings (p : Party) (kind off : Nat) : (s.logAcc p kind off).crossings = s.crossings := by
  unfold State.logAcc; dsimp only; split <;> [rfl; (split <;> simp)]
@[simp] theorem State.logAcc_bln (p : Party) (kind off : Nat) : (s.logAcc p kind off).bln = s.bln := by
  unfold State.logAcc; dsimp only; split <;> [rfl; (split <;> simp)]
@[simp] theorem State.logAcc_ledger (p : Party) (kind off : Nat) : (s.logAcc p kind off).ledger = s.ledger := by
  unfold State.logAcc; dsimp only; split <;> [rfl; (split <;> simp)]
@[simp] theorem State.logAcc_loop (p : Party) (kind off : Nat) : (s.logAcc p kind off).loop = s.loop := by
  unfold State.logAcc; dsimp only; split <;> [rfl; (split <;> simp)]
@[simp] theorem State.logAcc_gen (p : Party) (kind off : Nat) : (s.logAcc p kind off).gen = s.gen := by
  unfold State.logAcc; dsimp only; split <;> [rfl; (split <;> simp)]
@[simp] theorem State.logAcc_lastSp (p : Party) (kind off : Nat) : (s.logAcc p kind off).lastSp = s.lastSp := by
  unfold State.logAcc; dsimp only; split <;> [rfl; (split <;> simp)]
@[simp] theorem State.logAcc_lastDf (p : Party) (kind off : Nat) : (s.logAcc p kind off).lastDf = s.lastDf := by
  unfold State.logAcc; dsimp only; split <;> [rfl; (split <;> simp)]
@[simp] theorem State.logAcc_gov (p : Party) (kind off : Nat) : (s.logAcc p kind off).gov = s.gov := by
  unfold State.logAcc; dsimp only; split <;> [rfl; (split <;> simp)]
@[simp] theorem State.logAcc_cst (p : Party) (kind off : Nat) : (s.logAcc p kind off).cst = s.cst := by
  unfold State.logAcc; dsimp only; split <;> [rfl; (split <;> simp)]
@[simp] theorem State.logAcc_results (p : Party) (kind off : Nat) : (s.logAcc p kind off).results = s.results := by
  unfold State.logAcc; dsimp only; split <;> [rfl; (split <;> simp)]

/-! ### State.changeHdr -/

@[simp] theorem State.changeHdr_pending (p : Nat) (f : Hdr → Hdr) : (s.changeHdr p f).pending = s.pending := by
  unfold State.changeHdr State.signalNew; dsimp only; split <;> simp
@[simp] theorem State.changeHdr_due (p : Nat) (f : Hdr → Hdr) : (s.changeHdr p f).due = s.due := by
  unfold State.changeHdr State.signalNew; dsimp only; split <;> simp
@[simp] theorem State.changeHdr_recent (p : Nat) (f : Hdr → Hdr) : (s.changeHdr p f).recent = s.recent := by
  unfold State.changeHdr State.signalNew; dsimp only; split <;> simp
@[simp] theorem State.changeHdr_cyc (p : Nat) (f : Hdr → Hdr) : (s.changeHdr p f).cyc = s.cyc := by
  unfold State.changeHdr State.signalNew; dsimp only; split <;> simp
@[simp] theorem State.changeHdr_ctl (p : Nat) (f : Hdr → Hdr) : (s.changeHdr p f).ctl = s.ctl := by
  unfold State.changeHdr State.signalNew; dsimp only; split <;> simp
@[simp] theorem State.changeHdr_draws (p : Nat) (f : Hdr → Hdr) : (s.changeHdr p f).draws = s.draws := by
  unfold State.changeHdr State.signalNew; dsimp only; split <;> simp
@[simp] theorem State.changeHdr_tau (p : Nat) (f : Hdr → Hdr) : (s.changeHdr p f).tau = s.tau := by
  unfold State.changeHdr State.signalNew; dsimp only; split <;> simp
@[simp] theorem State.changeHdr_regs (p : Nat) (f : Hdr → Hdr) : (s.changeHdr p f).regs = s.regs := by
  unfold State.changeHdr State.signalNew; dsimp only; split <;> simp
@[simp] theorem State.changeHdr_evlog (p : Nat) (f : Hdr → Hdr) : (s.changeHdr p f).evlog = s.evlog := by
  unfold State.changeHdr State.signalNew; dsimp only; split <;> simp
@[simp] theorem State.changeHdr_logWr (p : Nat) (f : Hdr → Hdr) : (s.changeHdr p f).logWr = s.logWr := by
  unfold State.changeHdr State.signalNew; dsimp only; split <;> simp
@[simp] theorem State.changeHdr_buckets (p : Nat) (f : Hdr → Hdr) : (s.changeHdr p f).buckets = s.buckets := by
  unfold State.changeHdr State.signalNew; dsimp only; split <;> simp
@[simp] theorem State.changeHdr_nv (p : Nat) (f : Hdr → Hdr) : (s.changeHdr p f).nv = s.nv := by
  unfold State.changeHdr State.signalNew; dsimp only; split <;> simp
@[simp] theorem State.changeHdr_nvCount (p : Nat) (f : Hdr → Hdr) : (s.changeHdr p f).nvCount = s.nvCount := by
  unfold State.changeHdr State.signalNew; dsimp only; split <;> simp
@[simp] theorem State.changeHdr_nvSlot (p : Nat) (f : Hdr → Hdr) : (s.changeHdr p f).nvSlot = s.nvSlot := by
  unfold State.changeHdr State.signalNew; dsimp only; split <;> simp
@[simp] theorem State.changeHdr_tp (p : Nat) (f : Hdr → Hdr) : (s.changeHdr p f).tp = s.tp := by
  unfold State.changeHdr State.signalNew; dsimp only; split <;> simp
@[simp] theorem State.changeHdr_cplData (p : Nat) (f : Hdr → Hdr) : (s.changeHdr p f).cplData = s.cplData := by
  unfold State.changeHdr State.signalNew; dsimp only; split <;> simp
@[simp] theorem State.changeHdr_spiData (p : Nat) (f : Hdr → Hdr) : (s.changeHdr p f).spiData = s.spiData := by
  unfold State.changeHdr State.signalNew; dsimp only; split <;> simp
@[simp] theorem State.changeHdr_cfgData (p : Nat) (f : Hdr → Hdr) : (s.changeHdr p f).cfgData = s.cfgData := by
  unfold State.changeHdr State.signalNew; dsimp only; split <;> simp
@[simp] theorem State.changeHdr_bar2Data (p : Nat) (f : Hdr → Hdr) : (s.changeHdr p f).bar2Data = s.bar2Data := by
  unfold State.changeHdr State.signalNew; dsimp only; split <;> simp
@[simp] theorem State.changeHdr_bar2Wait (p : Nat) (f : Hdr → Hdr) : (s.changeHdr p f).bar2Wait = s.bar2Wait := by
  unfold State.changeHdr State.signalNew; dsimp only; split <;> simp
@[simp] theorem State.changeHdr_bar4Data (p : Nat) (f : Hdr → Hdr) : (s.changeHdr p f).bar4Data = s.bar4Data := by
  unfold State.changeHdr State.signalNew; dsimp only; split <;> simp
@[simp] theorem State.changeHdr_clk (p : Nat) (f : Hdr → Hdr) : (s.changeHdr p f).clk = s.clk := by
  unfold State.changeHdr State.signalNew; dsimp only; split <;> simp
@[simp] theorem State.changeHdr_pins (p : Nat) (f : Hdr → Hdr) : (s.changeHdr p f).pins = s.pins := by
  unfold State.changeHdr State.signalNew; dsimp only; split <;> simp
@[simp] theorem State.changeHdr_rings (p : Nat) (f : Hdr → Hdr) : (s.changeHdr p f).rings = s.rings := by
  unfold State.changeHdr State.signalNew; dsimp only; split <;> simp
@[simp] theorem State.changeHdr_chans (p : Nat) (f : Hdr → Hdr) : (s.changeHdr p f).chans = s.chans := by
  unfold State.changeHdr State.signalNew; dsimp only; split <;> simp
@[simp] theorem State.changeHdr_burstNo (p : Nat) (f : Hdr → Hdr) : (s.changeHdr p f).burstNo = s.burstNo := by
  unfold State.changeHdr State.signalNew; dsimp only; split <;> simp
@[simp] theorem State.changeHdr_sram (p : Nat) (f : Hdr → Hdr) : (s.changeHdr p f).sram = s.sram := by
  unfold State.changeHdr State.signalNew; dsimp only; split <;> simp
@[simp] theorem State.changeHdr_dram (p : Nat) (f : Hdr → Hdr) : (s.changeHdr p f).dram = s.dram := by
  unfold State.changeHdr State.signalNew; dsimp only; split <;> simp
@[simp] theorem State.changeHdr_arb (p : Nat) (f : Hdr → Hdr) : (s.changeHdr p f).arb = s.arb := by
  unfold State.changeHdr State.signalNew; dsimp only; split <;> simp
@[simp] theorem State.changeHdr_test (p : Nat) (f : Hdr → Hdr) : (s.changeHdr p f).test = s.test := by
  unfold State.changeHdr State.signalNew; dsimp only; split <;> simp
@[simp] theorem State.changeHdr_tap (p : Nat) (f : Hdr → Hdr) : (s.changeHdr p f).tap = s.tap := by
  unfold State.changeHdr State.signalNew; dsimp only; split <;> simp
@[simp] theorem State.changeHdr_bsr (p : Nat) (f : Hdr → Hdr) : (s.changeHdr p f).bsr = s.bsr := by
  unfold State.changeHdr State.signalNew; dsimp only; split <;> simp
@[simp] theorem State.changeHdr_tdo (p : Nat) (f : Hdr → Hdr) : (s.changeHdr p f).tdo = s.tdo := by
  unfold State.changeHdr State.signalNew; dsimp only; split <;> simp
@[simp] theorem State.changeHdr_ctxs (p : Nat) (f : Hdr → Hdr) : (s.changeHdr p f).ctxs = s.ctxs := by
  unfold State.changeHdr State.signalNew; dsimp only; split <;> simp
@[simp] theorem State.changeHdr_startQ (p : Nat) (f : Hdr → Hdr) : (s.changeHdr p f).startQ = s.startQ := by
  unfold State.changeHdr State.signalNew; dsimp only; split <;> simp
@[simp] theorem State.changeHdr_heldQ (p : Nat) (f : Hdr → Hdr) : (s.changeHdr p f).heldQ = s.heldQ := by
  unfold State.changeHdr State.signalNew; dsimp only; split <;> simp
@[simp] theorem State.changeHdr_form (p : Nat) (f : Hdr → Hdr) : (s.changeHdr p f).form = s.form := by
  unfold State.changeHdr State.signalNew; dsimp only; split <;> simp
@[simp] theorem State.changeHdr_win (p : Nat) (f : Hdr → Hdr) : (s.changeHdr p f).win = s.win := by
  unfold State.changeHdr State.signalNew; dsimp only; split <;> simp
@[simp] theorem State.changeHdr_alm (p : Nat) (f : Hdr → Hdr) : (s.changeHdr p f).alm = s.alm := by
  unfold State.changeHdr State.signalNew; dsimp only; split <;> simp
@[simp] theorem State.changeHdr_expo (p : Nat) (f : Hdr → Hdr) : (s.changeHdr p f).expo = s.expo := by
  unfold State.changeHdr State.signalNew; dsimp only; split <;> simp
@[simp] theorem State.changeHdr_markers (p : Nat) (f : Hdr → Hdr) : (s.changeHdr p f).markers = s.markers := by
  unfold State.changeHdr State.signalNew; dsimp only; split <;> simp
@[simp] theorem State.changeHdr_awaits (p : Nat) (f : Hdr → Hdr) : (s.changeHdr p f).awaits = s.awaits := by
  unfold State.changeHdr State.signalNew; dsimp only; split <;> simp
@[simp] theorem State.changeHdr_lastS (p : Nat) (f : Hdr → Hdr) : (s.changeHdr p f).lastS = s.lastS := by
  unfold State.changeHdr State.signalNew; dsimp only; split <;> simp
@[simp] theorem State.changeHdr_lastF (p : Nat) (f : Hdr → Hdr) : (s.changeHdr p f).lastF = s.lastF := by
  unfold State.changeHdr State.signalNew; dsimp only; split <;> simp
@[simp] theorem State.changeHdr_crossings (p : Nat) (f : Hdr → Hdr) : (s.changeHdr p f).crossings = s.crossings := by
  unfold State.changeHdr State.signalNew; dsimp only; split <;> simp
@[simp] theorem State.changeHdr_bln (p : Nat) (f : Hdr → Hdr) : (s.changeHdr p f).bln = s.bln := by
  unfold State.changeHdr State.signalNew; dsimp only; split <;> simp
@[simp] theorem State.changeHdr_ledger (p : Nat) (f : Hdr → Hdr) : (s.changeHdr p f).ledger = s.ledger := by
  unfold State.changeHdr State.signalNew; dsimp only; split <;> simp
@[simp] theorem State.changeHdr_loop (p : Nat) (f : Hdr → Hdr) : (s.changeHdr p f).loop = s.loop := by
  unfold State.changeHdr State.signalNew; dsimp only; split <;> simp
@[simp] theorem State.changeHdr_gen (p : Nat) (f : Hdr → Hdr) : (s.changeHdr p f).gen = s.gen := by
  unfold State.changeHdr State.signalNew; dsimp only; split <;> simp
@[simp] theorem State.changeHdr_lastSp (p : Nat) (f : Hdr → Hdr) : (s.changeHdr p f).lastSp = s.lastSp := by
  unfold State.changeHdr State.signalNew; dsimp only; split <;> simp
@[simp] theorem State.changeHdr_lastDf (p : Nat) (f : Hdr → Hdr) : (s.changeHdr p f).lastDf = s.lastDf := by
  unfold State.changeHdr State.signalNew; dsimp only; split <;> simp
@[simp] theorem State.changeHdr_gov (p : Nat) (f : Hdr → Hdr) : (s.changeHdr p f).gov = s.gov := by
  unfold State.changeHdr State.signalNew; dsimp only; split <;> simp
@[simp] theorem State.changeHdr_cst (p : Nat) (f : Hdr → Hdr) : (s.changeHdr p f).cst = s.cst := by
  unfold State.changeHdr State.signalNew; dsimp only; split <;> simp
@[simp] theorem State.changeHdr_results (p : Nat) (f : Hdr → Hdr) : (s.changeHdr p f).results = s.results := by
  unfold State.changeHdr State.signalNew; dsimp only; split <;> simp

/-! ### State.sameCycle -/

@[simp] theorem State.sameCycle_pending (t : Tie) : (s.sameCycle t).pending = s.pending := by
  unfold State.sameCycle; split <;> with_reducible rfl
@[simp] theorem State.sameCycle_due (t : Tie) : (s.sameCycle t).due = s.due := by
  unfold State.sameCycle; split <;> with_reducible rfl
@[simp] theorem State.sameCycle_recent (t : Tie) : (s.sameCycle t).recent = s.recent := by
  unfold State.sameCycle; split <;> with_reducible rfl
@[simp] theorem State.sameCycle_ctl (t : Tie) : (s.sameCycle t).ctl = s.ctl := by
  unfold State.sameCycle; split <;> with_reducible rfl
@[simp] theorem State.sameCycle_out (t : Tie) : (s.sameCycle t).out = s.out := by
  unfold State.sameCycle; split <;> with_reducible rfl
@[simp] theorem State.sameCycle_draws (t : Tie) : (s.sameCycle t).draws = s.draws := by
  unfold State.sameCycle; split <;> with_reducible rfl
@[simp] theorem State.sameCycle_tau (t : Tie) : (s.sameCycle t).tau = s.tau := by
  unfold State.sameCycle; split <;> with_reducible rfl
@[simp] theorem State.sameCycle_regs (t : Tie) : (s.sameCycle t).regs = s.regs := by
  unfold State.sameCycle; split <;> with_reducible rfl
@[simp] theorem State.sameCycle_hdrs (t : Tie) : (s.sameCycle t).hdrs = s.hdrs := by
  unfold State.sameCycle; split <;> with_reducible rfl
@[simp] theorem State.sameCycle_evlog (t : Tie) : (s.sameCycle t).evlog = s.evlog := by
  unfold State.sameCycle; split <;> with_reducible rfl
@[simp] theorem State.sameCycle_logWr (t : Tie) : (s.sameCycle t).logWr = s.logWr := by
  unfold State.sameCycle; split <;> with_reducible rfl
@[simp] theorem State.sameCycle_buckets (t : Tie) : (s.sameCycle t).buckets = s.buckets := by
  unfold State.sameCycle; split <;> with_reducible rfl
@[simp] theorem State.sameCycle_nv (t : Tie) : (s.sameCycle t).nv = s.nv := by
  unfold State.sameCycle; split <;> with_reducible rfl
@[simp] theorem State.sameCycle_nvCount (t : Tie) : (s.sameCycle t).nvCount = s.nvCount := by
  unfold State.sameCycle; split <;> with_reducible rfl
@[simp] theorem State.sameCycle_nvSlot (t : Tie) : (s.sameCycle t).nvSlot = s.nvSlot := by
  unfold State.sameCycle; split <;> with_reducible rfl
@[simp] theorem State.sameCycle_tp (t : Tie) : (s.sameCycle t).tp = s.tp := by
  unfold State.sameCycle; split <;> with_reducible rfl
@[simp] theorem State.sameCycle_cplData (t : Tie) : (s.sameCycle t).cplData = s.cplData := by
  unfold State.sameCycle; split <;> with_reducible rfl
@[simp] theorem State.sameCycle_spiData (t : Tie) : (s.sameCycle t).spiData = s.spiData := by
  unfold State.sameCycle; split <;> with_reducible rfl
@[simp] theorem State.sameCycle_cfgData (t : Tie) : (s.sameCycle t).cfgData = s.cfgData := by
  unfold State.sameCycle; split <;> with_reducible rfl
@[simp] theorem State.sameCycle_bar2Data (t : Tie) : (s.sameCycle t).bar2Data = s.bar2Data := by
  unfold State.sameCycle; split <;> with_reducible rfl
@[simp] theorem State.sameCycle_bar2Wait (t : Tie) : (s.sameCycle t).bar2Wait = s.bar2Wait := by
  unfold State.sameCycle; split <;> with_reducible rfl
@[simp] theorem State.sameCycle_bar4Data (t : Tie) : (s.sameCycle t).bar4Data = s.bar4Data := by
  unfold State.sameCycle; split <;> with_reducible rfl
@[simp] theorem State.sameCycle_clk (t : Tie) : (s.sameCycle t).clk = s.clk := by
  unfold State.sameCycle; split <;> with_reducible rfl
@[simp] theorem State.sameCycle_pins (t : Tie) : (s.sameCycle t).pins = s.pins := by
  unfold State.sameCycle; split <;> with_reducible rfl
@[simp] theorem State.sameCycle_link (t : Tie) : (s.sameCycle t).link = s.link := by
  unfold State.sameCycle; split <;> with_reducible rfl
@[simp] theorem State.sameCycle_rings (t : Tie) : (s.sameCycle t).rings = s.rings := by
  unfold State.sameCycle; split <;> with_reducible rfl
@[simp] theorem State.sameCycle_chans (t : Tie) : (s.sameCycle t).chans = s.chans := by
  unfold State.sameCycle; split <;> with_reducible rfl
@[simp] theorem State.sameCycle_burstNo (t : Tie) : (s.sameCycle t).burstNo = s.burstNo := by
  unfold State.sameCycle; split <;> with_reducible rfl
@[simp] theorem State.sameCycle_sram (t : Tie) : (s.sameCycle t).sram = s.sram := by
  unfold State.sameCycle; split <;> with_reducible rfl
@[simp] theorem State.sameCycle_dram (t : Tie) : (s.sameCycle t).dram = s.dram := by
  unfold State.sameCycle; split <;> with_reducible rfl
@[simp] theorem State.sameCycle_arb (t : Tie) : (s.sameCycle t).arb = s.arb := by
  unfold State.sameCycle; split <;> with_reducible rfl
@[simp] theorem State.sameCycle_test (t : Tie) : (s.sameCycle t).test = s.test := by
  unfold State.sameCycle; split <;> with_reducible rfl
@[simp] theorem State.sameCycle_tap (t : Tie) : (s.sameCycle t).tap = s.tap := by
  unfold State.sameCycle; split <;> with_reducible rfl
@[simp] theorem State.sameCycle_bsr (t : Tie) : (s.sameCycle t).bsr = s.bsr := by
  unfold State.sameCycle; split <;> with_reducible rfl
@[simp] theorem State.sameCycle_tdo (t : Tie) : (s.sameCycle t).tdo = s.tdo := by
  unfold State.sameCycle; split <;> with_reducible rfl
@[simp] theorem State.sameCycle_ctxs (t : Tie) : (s.sameCycle t).ctxs = s.ctxs := by
  unfold State.sameCycle; split <;> with_reducible rfl
@[simp] theorem State.sameCycle_startQ (t : Tie) : (s.sameCycle t).startQ = s.startQ := by
  unfold State.sameCycle; split <;> with_reducible rfl
@[simp] theorem State.sameCycle_heldQ (t : Tie) : (s.sameCycle t).heldQ = s.heldQ := by
  unfold State.sameCycle; split <;> with_reducible rfl
@[simp] theorem State.sameCycle_form (t : Tie) : (s.sameCycle t).form = s.form := by
  unfold State.sameCycle; split <;> with_reducible rfl
@[simp] theorem State.sameCycle_win (t : Tie) : (s.sameCycle t).win = s.win := by
  unfold State.sameCycle; split <;> with_reducible rfl
@[simp] theorem State.sameCycle_alm (t : Tie) : (s.sameCycle t).alm = s.alm := by
  unfold State.sameCycle; split <;> with_reducible rfl
@[simp] theorem State.sameCycle_expo (t : Tie) : (s.sameCycle t).expo = s.expo := by
  unfold State.sameCycle; split <;> with_reducible rfl
@[simp] theorem State.sameCycle_markers (t : Tie) : (s.sameCycle t).markers = s.markers := by
  unfold State.sameCycle; split <;> with_reducible rfl
@[simp] theorem State.sameCycle_awaits (t : Tie) : (s.sameCycle t).awaits = s.awaits := by
  unfold State.sameCycle; split <;> with_reducible rfl
@[simp] theorem State.sameCycle_lastS (t : Tie) : (s.sameCycle t).lastS = s.lastS := by
  unfold State.sameCycle; split <;> with_reducible rfl
@[simp] theorem State.sameCycle_lastF (t : Tie) : (s.sameCycle t).lastF = s.lastF := by
  unfold State.sameCycle; split <;> with_reducible rfl
@[simp] theorem State.sameCycle_crossings (t : Tie) : (s.sameCycle t).crossings = s.crossings := by
  unfold State.sameCycle; split <;> with_reducible rfl
@[simp] theorem State.sameCycle_bln (t : Tie) : (s.sameCycle t).bln = s.bln := by
  unfold State.sameCycle; split <;> with_reducible rfl
@[simp] theorem State.sameCycle_ledger (t : Tie) : (s.sameCycle t).ledger = s.ledger := by
  unfold State.sameCycle; split <;> with_reducible rfl
@[simp] theorem State.sameCycle_loop (t : Tie) : (s.sameCycle t).loop = s.loop := by
  unfold State.sameCycle; split <;> with_reducible rfl
@[simp] theorem State.sameCycle_gen (t : Tie) : (s.sameCycle t).gen = s.gen := by
  unfold State.sameCycle; split <;> with_reducible rfl
@[simp] theorem State.sameCycle_lastSp (t : Tie) : (s.sameCycle t).lastSp = s.lastSp := by
  unfold State.sameCycle; split <;> with_reducible rfl
@[simp] theorem State.sameCycle_lastDf (t : Tie) : (s.sameCycle t).lastDf = s.lastDf := by
  unfold State.sameCycle; split <;> with_reducible rfl
@[simp] theorem State.sameCycle_gov (t : Tie) : (s.sameCycle t).gov = s.gov := by
  unfold State.sameCycle; split <;> with_reducible rfl
@[simp] theorem State.sameCycle_cst (t : Tie) : (s.sameCycle t).cst = s.cst := by
  unfold State.sameCycle; split <;> with_reducible rfl
@[simp] theorem State.sameCycle_results (t : Tie) : (s.sameCycle t).results = s.results := by
  unfold State.sameCycle; split <;> with_reducible rfl

/-! ### State.rewrites -/

@[simp] theorem State.rewrites_pending (r : Nat) : (s.rewrites r).pending = s.pending := by
  unfold State.rewrites; split <;> with_reducible rfl
@[simp] theorem State.rewrites_due (r : Nat) : (s.rewrites r).due = s.due := by
  unfold State.rewrites; split <;> with_reducible rfl
@[simp] theorem State.rewrites_recent (r : Nat) : (s.rewrites r).recent = s.recent := by
  unfold State.rewrites; split <;> with_reducible rfl
@[simp] theorem State.rewrites_cyc (r : Nat) : (s.rewrites r).cyc = s.cyc := by
  unfold State.rewrites; split <;> with_reducible rfl
@[simp] theorem State.rewrites_ctl (r : Nat) : (s.rewrites r).ctl = s.ctl := by
  unfold State.rewrites; split <;> with_reducible rfl
@[simp] theorem State.rewrites_out (r : Nat) : (s.rewrites r).out = s.out := by
  unfold State.rewrites; split <;> with_reducible rfl
@[simp] theorem State.rewrites_tau (r : Nat) : (s.rewrites r).tau = s.tau := by
  unfold State.rewrites; split <;> with_reducible rfl
@[simp] theorem State.rewrites_regs (r : Nat) : (s.rewrites r).regs = s.regs := by
  unfold State.rewrites; split <;> with_reducible rfl
@[simp] theorem State.rewrites_hdrs (r : Nat) : (s.rewrites r).hdrs = s.hdrs := by
  unfold State.rewrites; split <;> with_reducible rfl
@[simp] theorem State.rewrites_evlog (r : Nat) : (s.rewrites r).evlog = s.evlog := by
  unfold State.rewrites; split <;> with_reducible rfl
@[simp] theorem State.rewrites_logWr (r : Nat) : (s.rewrites r).logWr = s.logWr := by
  unfold State.rewrites; split <;> with_reducible rfl
@[simp] theorem State.rewrites_buckets (r : Nat) : (s.rewrites r).buckets = s.buckets := by
  unfold State.rewrites; split <;> with_reducible rfl
@[simp] theorem State.rewrites_nv (r : Nat) : (s.rewrites r).nv = s.nv := by
  unfold State.rewrites; split <;> with_reducible rfl
@[simp] theorem State.rewrites_nvCount (r : Nat) : (s.rewrites r).nvCount = s.nvCount := by
  unfold State.rewrites; split <;> with_reducible rfl
@[simp] theorem State.rewrites_nvSlot (r : Nat) : (s.rewrites r).nvSlot = s.nvSlot := by
  unfold State.rewrites; split <;> with_reducible rfl
@[simp] theorem State.rewrites_tp (r : Nat) : (s.rewrites r).tp = s.tp := by
  unfold State.rewrites; split <;> with_reducible rfl
@[simp] theorem State.rewrites_cplData (r : Nat) : (s.rewrites r).cplData = s.cplData := by
  unfold State.rewrites; split <;> with_reducible rfl
@[simp] theorem State.rewrites_spiData (r : Nat) : (s.rewrites r).spiData = s.spiData := by
  unfold State.rewrites; split <;> with_reducible rfl
@[simp] theorem State.rewrites_cfgData (r : Nat) : (s.rewrites r).cfgData = s.cfgData := by
  unfold State.rewrites; split <;> with_reducible rfl
@[simp] theorem State.rewrites_bar2Data (r : Nat) : (s.rewrites r).bar2Data = s.bar2Data := by
  unfold State.rewrites; split <;> with_reducible rfl
@[simp] theorem State.rewrites_bar2Wait (r : Nat) : (s.rewrites r).bar2Wait = s.bar2Wait := by
  unfold State.rewrites; split <;> with_reducible rfl
@[simp] theorem State.rewrites_bar4Data (r : Nat) : (s.rewrites r).bar4Data = s.bar4Data := by
  unfold State.rewrites; split <;> with_reducible rfl
@[simp] theorem State.rewrites_clk (r : Nat) : (s.rewrites r).clk = s.clk := by
  unfold State.rewrites; split <;> with_reducible rfl
@[simp] theorem State.rewrites_pins (r : Nat) : (s.rewrites r).pins = s.pins := by
  unfold State.rewrites; split <;> with_reducible rfl
@[simp] theorem State.rewrites_link (r : Nat) : (s.rewrites r).link = s.link := by
  unfold State.rewrites; split <;> with_reducible rfl
@[simp] theorem State.rewrites_rings (r : Nat) : (s.rewrites r).rings = s.rings := by
  unfold State.rewrites; split <;> with_reducible rfl
@[simp] theorem State.rewrites_chans (r : Nat) : (s.rewrites r).chans = s.chans := by
  unfold State.rewrites; split <;> with_reducible rfl
@[simp] theorem State.rewrites_burstNo (r : Nat) : (s.rewrites r).burstNo = s.burstNo := by
  unfold State.rewrites; split <;> with_reducible rfl
@[simp] theorem State.rewrites_dram (r : Nat) : (s.rewrites r).dram = s.dram := by
  unfold State.rewrites; split <;> with_reducible rfl
@[simp] theorem State.rewrites_arb (r : Nat) : (s.rewrites r).arb = s.arb := by
  unfold State.rewrites; split <;> with_reducible rfl
@[simp] theorem State.rewrites_test (r : Nat) : (s.rewrites r).test = s.test := by
  unfold State.rewrites; split <;> with_reducible rfl
@[simp] theorem State.rewrites_tap (r : Nat) : (s.rewrites r).tap = s.tap := by
  unfold State.rewrites; split <;> with_reducible rfl
@[simp] theorem State.rewrites_bsr (r : Nat) : (s.rewrites r).bsr = s.bsr := by
  unfold State.rewrites; split <;> with_reducible rfl
@[simp] theorem State.rewrites_tdo (r : Nat) : (s.rewrites r).tdo = s.tdo := by
  unfold State.rewrites; split <;> with_reducible rfl
@[simp] theorem State.rewrites_ctxs (r : Nat) : (s.rewrites r).ctxs = s.ctxs := by
  unfold State.rewrites; split <;> with_reducible rfl
@[simp] theorem State.rewrites_startQ (r : Nat) : (s.rewrites r).startQ = s.startQ := by
  unfold State.rewrites; split <;> with_reducible rfl
@[simp] theorem State.rewrites_heldQ (r : Nat) : (s.rewrites r).heldQ = s.heldQ := by
  unfold State.rewrites; split <;> with_reducible rfl
@[simp] theorem State.rewrites_form (r : Nat) : (s.rewrites r).form = s.form := by
  unfold State.rewrites; split <;> with_reducible rfl
@[simp] theorem State.rewrites_win (r : Nat) : (s.rewrites r).win = s.win := by
  unfold State.rewrites; split <;> with_reducible rfl
@[simp] theorem State.rewrites_alm (r : Nat) : (s.rewrites r).alm = s.alm := by
  unfold State.rewrites; split <;> with_reducible rfl
@[simp] theorem State.rewrites_expo (r : Nat) : (s.rewrites r).expo = s.expo := by
  unfold State.rewrites; split <;> with_reducible rfl
@[simp] theorem State.rewrites_markers (r : Nat) : (s.rewrites r).markers = s.markers := by
  unfold State.rewrites; split <;> with_reducible rfl
@[simp] theorem State.rewrites_awaits (r : Nat) : (s.rewrites r).awaits = s.awaits := by
  unfold State.rewrites; split <;> with_reducible rfl
@[simp] theorem State.rewrites_lastS (r : Nat) : (s.rewrites r).lastS = s.lastS := by
  unfold State.rewrites; split <;> with_reducible rfl
@[simp] theorem State.rewrites_lastF (r : Nat) : (s.rewrites r).lastF = s.lastF := by
  unfold State.rewrites; split <;> with_reducible rfl
@[simp] theorem State.rewrites_crossings (r : Nat) : (s.rewrites r).crossings = s.crossings := by
  unfold State.rewrites; split <;> with_reducible rfl
@[simp] theorem State.rewrites_bln (r : Nat) : (s.rewrites r).bln = s.bln := by
  unfold State.rewrites; split <;> with_reducible rfl
@[simp] theorem State.rewrites_ledger (r : Nat) : (s.rewrites r).ledger = s.ledger := by
  unfold State.rewrites; split <;> with_reducible rfl
@[simp] theorem State.rewrites_loop (r : Nat) : (s.rewrites r).loop = s.loop := by
  unfold State.rewrites; split <;> with_reducible rfl
@[simp] theorem State.rewrites_gen (r : Nat) : (s.rewrites r).gen = s.gen := by
  unfold State.rewrites; split <;> with_reducible rfl
@[simp] theorem State.rewrites_lastSp (r : Nat) : (s.rewrites r).lastSp = s.lastSp := by
  unfold State.rewrites; split <;> with_reducible rfl
@[simp] theorem State.rewrites_lastDf (r : Nat) : (s.rewrites r).lastDf = s.lastDf := by
  unfold State.rewrites; split <;> with_reducible rfl
@[simp] theorem State.rewrites_gov (r : Nat) : (s.rewrites r).gov = s.gov := by
  unfold State.rewrites; split <;> with_reducible rfl
@[simp] theorem State.rewrites_cst (r : Nat) : (s.rewrites r).cst = s.cst := by
  unfold State.rewrites; split <;> with_reducible rfl
@[simp] theorem State.rewrites_results (r : Nat) : (s.rewrites r).results = s.results := by
  unfold State.rewrites; split <;> with_reducible rfl

/-! ### Occurrences (R43, R46) -/

/-- An occurrence leaves exactly one class action due. -/
theorem State.raiseAs_due (forced : Bool) (ev : EvId) (detail : Nat) (ctx : Option Nat) :
    (s.raiseAs forced ev detail ctx).due = s.due ++ [⟨ev, (s.hdr ev.page).classOf ev.page ev.bit, ctx, forced, wbit (s.hdr ev.page).stat ev.bit⟩] := by
  unfold State.raiseAs; dsimp only; split <;> split <;> simp [State.logEvent]

/-! ### Writes under R35 -/

/-- Everything that a write alone in its cycle can do. -/
theorem State.decided_cases (a : Acc) (off : Nat) (act : State → State) :
    (s.judge a off = .unreached ∧ (s.decided (s.judge a off) a off act = s ∨
      s.decided (s.judge a off) a off act = s.hostMiss true)) ∨
    (s.judge a off = .gatedCount ∧ s.decided (s.judge a off) a off act = s.bump Reg.CTRL_GATED_CNT) ∨
    (∃ k, s.judge a off = .logged k ∧ s.decided (s.judge a off) a off act = s.logAcc a.party k (off + a.low.toNat)) ∨
    (s.judge a off = .accepted ∧ s.decided (s.judge a off) a off act = act s) := by
  cases h : s.judge a off
  · left; refine ⟨rfl, ?_⟩; unfold State.decided; dsimp only; split <;> [exact .inr rfl; exact .inl rfl]
  all_goals simp [State.decided]

/-- An access that shares its cycle with no command changes nothing before its effect. -/
@[simp] theorem State.sameCycle_alone : s.sameCycle .alone = s := rfl

@[simp] theorem State.sameCycle_both (v : Word) : s.sameCycle (.both v) = s := rfl

theorem State.writeAccess_taken {s : State} {a : Acc} {off : Nat} (act lost : State → State)
    (h : s.judge a off = .accepted) (ht : a.tie = .alone) : s.writeAccess a off act lost = act s := by
  simp [State.writeAccess, State.decided, h, ht]

/-! ### The shapes of a meaning -/

theorem rowWrite_taken {s : State} {a : Acc} {off : Nat} (act lost : State → State)
    (h : s.judge a off = .accepted) (ht : a.tie = .alone) : rowWrite a off act lost s = .next (act s).settle := by
  simp [rowWrite, finish, State.writeAccess_taken act lost h ht]

theorem fieldWrite_taken {s : State} {a : Acc} {off : Nat} (act : State → State)
    (h : s.judge a off = .accepted) (ht : a.tie = .alone) : fieldWrite a off act s = .next (act s).settle :=
  rowWrite_taken act act h ht

theorem cmdWrite_taken {s : State} {a : Acc} {off : Nat} (act : State → State)
    (h : s.judge a off = .accepted) (ht : a.tie = .alone) : cmdWrite a off act s = .next (act s).settle :=
  rowWrite_taken act id h ht

theorem onPage_live {s : State} {p : Nat} (act : State → State) (h : s.live p = true) :
    onPage p act s = .next (act s).settle := by
  simp [onPage, finish, h]

theorem onService_up {s : State} (act : State → State) (h : s.svcUp = true) : onService act s = .next (act s).settle := by
  simp [onService, finish, h]

theorem checked_ok {s : State} {ok : Bool} (run : State → Host.Outcome State Fault Refusal) (h : ok = true) :
    checked ok run s = run s := by
  simp [checked, h]

/-- A command whose operands nothing can deliver does nothing (log entry 100). -/
theorem checked_not {s : State} {ok : Bool} (run : State → Host.Outcome State Fault Refusal) (h : ok = false) :
    checked ok run s = finish s := by
  simp [checked, h]

/-- Whatever a meaning of these shapes answers, it is the end of its effect or of no effect. -/
theorem checked_cases (ok : Bool) (run : State → Host.Outcome State Fault Refusal) :
    checked ok run s = run s ∨ checked ok run s = finish s := by
  cases ok <;> simp [checked]

@[simp] theorem State.tied_alone (ev : EvId) : s.tied .alone ev = none := rfl

@[simp] theorem State.tied_both {s : State} (v : Word) (ev : EvId) (h : s.due = []) : s.tied (.both v) ev = none := by
  simp [State.tied, State.cycleOccs, h]

@[simp] theorem State.tiedReal_alone (ev : EvId) : s.tiedReal .alone ev = false := rfl

/-- A real occurrence of a cycle is an occurrence of it. -/
theorem State.tied_of_tiedReal {s : State} {t : Tie} {ev : EvId} (h : s.tiedReal t ev = true) : (s.tied t ev).isSome = true := by
  simp only [State.tiedReal, List.any_eq_true, Bool.and_eq_true] at h
  obtain ⟨o, hm, he, -⟩ := h
  exact List.find?_isSome.mpr ⟨o, hm, he⟩

/-- An operation that writes a region without errors changes nothing (R354). -/
theorem State.rewrites_clean {s : State} {r : Nat} (h : s.sram.err.any (fun p => keyRegion p.1 == r) = false) :
    s.rewrites r = s := by
  simp [State.rewrites, h]

/-- What an operation that writes a region leaves of an error of a byte is the error itself, or nothing (R354). -/
theorem State.rewrites_err (r k : Nat) :
    sget 0 (s.rewrites r).sram.err k = sget 0 s.sram.err k ∨ sget 0 (s.rewrites r).sram.err k = 0 := by
  unfold State.rewrites
  split
  · dsimp only
    rw [sget_skeep]
    split <;> simp
  · exact .inl rfl

/-- It leaves the errors of every other region (R354). -/
theorem State.rewrites_other {s : State} {r k : Nat} (h : keyRegion k ≠ r) :
    sget 0 (s.rewrites r).sram.err k = sget 0 s.sram.err k := by
  unfold State.rewrites
  split
  · dsimp only
    rw [sget_skeep]
    simp [h]
  · rfl

/-- While the pins follow the boundary register no completion reaches the host (R420). -/
theorem State.completes_held {s : State} (f : State → State) (h : jtagDrives s.tap = true) : s.completes f = s := by
  simp [State.completes, h]

theorem State.completes_free {s : State} (f : State → State) (h : jtagDrives s.tap = false) : s.completes f = f s := by
  simp [State.completes, h]

/-! ### Messages and the DRAM port -/

/-- Everything that the arrival of a message can do before its own effect. -/
theorem State.receive_cases (p : Nat) (type : Byte) (len : Nat) (rx : Rx) (act : State → State) :
    (s.portUsed p = false ∧ s.receive p type len rx act = s) ∨
    (s.receive p type len rx act = s.useCorruption.bump Reg.CST_LINK_ERR ∧ s.auxCorrupts (rx.lane p) = true) ∨
    (s.receive p type len rx act = s.bump Reg.CST_LINK_ERR ∧ (rx.body.length ≠ len ∨ crcGood rx.body rx.crc = false ∨ rx.body.headD 0 ≠ type)) ∨
    (s.receive p type len rx act = s ∧ seqTaken (sget (0, 0) s.cst.rx p).1 (sget (0, 0) s.cst.rx p).2 rx.seq = none) ∨
    ∃ w, seqTaken (sget (0, 0) s.cst.rx p).1 (sget (0, 0) s.cst.rx p).2 rx.seq = some w ∧
      s.receive p type len rx act = act { s with cst := { s.cst with rx := sput (0, 0) s.cst.rx p w } } := by
  unfold State.receive
  split
  case isTrue h => exact .inl ⟨by simpa using h, rfl⟩
  split
  case isTrue h => exact .inr (.inl ⟨rfl, h⟩)
  split
  case isTrue h => exact .inr (.inr (.inl ⟨rfl, by simpa [or_assoc] using h⟩))
  cases h : seqTaken (sget (0, 0) s.cst.rx p).1 (sget (0, 0) s.cst.rx p).2 rx.seq with
  | none => exact .inr (.inr (.inr (.inl ⟨by simp only [h], rfl⟩)))
  | some w => exact .inr (.inr (.inr (.inr ⟨w, rfl, by simp only [h]⟩)))

/-- A request already raised at an input is not raised again. -/
theorem State.portRaise_raised {i : Nat} (h : (s.arb.input i).req = true) : s.portRaise i = s := by
  simp [State.portRaise, h]

/-- The zero read of a block that nothing has written, once the first has been reported (R366). -/
theorem State.dramReadLine_never {i l : Nat} (h : s.dram.never l = true) (hz : s.dram.zread = true) :
    s.dramReadLine i l = (⟨true, List.replicate 64 0, 4⟩, s.portRaise i) := by
  have e : (s.portRaise i).dram = s.dram := by unfold State.portRaise; split <;> rfl
  simp [State.dramReadLine, e, h, hz]

/-! ### Completions and adoptions -/

/-- A completion whose digest is right is taken as it is. -/
@[simp] theorem cplTaken_sound {st : Cpl} (f : Cpl → State → State) (h : st ≠ .ecrc) : cplTaken f st s = f st s := by
  simp [cplTaken, h]

/-- Everything that a completion can do: its own effect, that of a success, or a report with a free header. -/
theorem cplTaken_cases (f : Cpl → State → State) (st : Cpl) :
    cplTaken f st s = f st s ∨ cplTaken f st s = f .ok s ∨ cplTaken f st s = s.drawHdr.ecrcSeen s.freeHdr := by
  unfold cplTaken
  split
  · exact .inl rfl
  · split
    · exact .inr (.inr rfl)
    · exact .inr (.inl rfl)

/-- With no command in progress a RELEASE gives nothing early. -/
@[simp] theorem State.adoptEarly_idle {s : State} (c : Nat) (h : s.ledger.job = none) : s.adoptEarly c = s := by
  simp [State.adoptEarly, h]

/-! ### The end of a command -/

/-- A request that may go, with none before it, leaves at once; any other waits behind those that wait (log entry 50). -/
theorem State.emit_cases (t : Tlp) :
    s.link.held = [] ∧ s.mayIssue t = true ∧ s.emit t = s.sendTlp t ∨
      s.emit t = { s with link := { s.link with held := s.link.held ++ [t] } } := by
  unfold State.emit
  split
  case isTrue h =>
    simp only [Bool.and_eq_true, List.isEmpty_iff] at h
    exact .inl ⟨h.1, h.2, rfl⟩
  · exact .inr rfl

/-- With nothing that waits there is nothing to issue. -/
theorem State.issueHeld_nil {s : State} (h : s.link.held = []) : s.issueHeld = s := by
  unfold State.issueHeld; rw [h]; rfl

theorem State.takeActions_nil {s : State} (h : s.due = []) (hf : s.ledger.fresh = []) (ht : s.ledger.topping = []) (n : Nat) :
    s.takeActions n = s := by
  cases n <;> simp [State.takeActions, h, hf, ht]

end Sys2Proof.Machine
end

