-- ==== Sys2Proof/Laws/Memory.lean ====
section
/-!
SUPPORT. Sys2Proof/Laws/Memory.lean: every operation over DRAM keeps the canonical form of its bytes, and a line written
whole reads back as written.
-/

namespace Sys2Proof.Machine

variable (s : State)

/-! ### What the records of a read leave alone -/

@[simp] theorem State.memLog_dram (d : Bool) (k so de lo : Nat) : (s.memLog d k so de lo).dram = s.dram := by
  unfold State.memLog; with_reducible rfl

@[simp] theorem State.bucketAdd_dram (b : BucketSel) (ev : EvId) (d : Nat) (c : Option Nat) :
    (s.bucketAdd b ev d c).dram = s.dram := by
  unfold State.bucketAdd; dsimp only; split <;> simp

@[simp] theorem State.dramCorrected_dram (i l n : Nat) : (s.dramCorrected i l n).dram = s.dram := by
  unfold State.dramCorrected; simp

@[simp] theorem State.dramBad_dram (i l : Nat) : (s.dramBad i l).dram = s.dram := by
  unfold State.dramBad; simp

@[simp] theorem State.portRaise_dram (i : Nat) : (s.portRaise i).dram = s.dram := by
  unfold State.portRaise; split <;> rfl

@[simp] theorem Dram.setPoison_data (m : Dram) (l v : Nat) : (m.setPoison l v).data = m.data := by
  unfold Dram.setPoison; with_reducible rfl

@[simp] theorem Dram.clearErr_data (m : Dram) (l : Nat) : (m.clearErr l).data = m.data := by
  unfold Dram.clearErr; with_reducible rfl

@[simp] theorem Dram.fill_data (m : Dram) (l : Nat) : (m.fill l).data = m.data := by
  unfold Dram.fill; split <;> [rfl; (split <;> rfl)]

@[simp] theorem State.makePoison_data (i l m : Nat) : (s.makePoison i l m).dram.data = s.dram.data := by
  unfold State.makePoison; dsimp only; split <;> simp

/-! ### The canonical form -/

theorem State.dramStore_wf {s : State} (h : s.DramWf) (l mark : Nat) (bs : List Byte) : (s.dramStore l mark bs).DramWf := by
  unfold State.dramStore State.DramWf
  simpa using Memory.wf_memWriteList h _ _

theorem State.dramCorrected_wf {s : State} (h : s.DramWf) (i l n : Nat) : (s.dramCorrected i l n).DramWf := by
  unfold State.DramWf at *; simpa using h

theorem State.dramBad_wf {s : State} (h : s.DramWf) (i l : Nat) : (s.dramBad i l).DramWf := by
  unfold State.DramWf at *; simpa using h

theorem State.makePoison_wf {s : State} (h : s.DramWf) (i l m : Nat) : (s.makePoison i l m).DramWf := by
  unfold State.DramWf at *; simpa using h

theorem State.portRaise_wf {s : State} (h : s.DramWf) (i : Nat) : (s.portRaise i).DramWf := by
  unfold State.DramWf at *; simpa using h

theorem State.dramReadLine_wf {s : State} (h : s.DramWf) (i l : Nat) : (s.dramReadLine i l).2.DramWf := by
  have hp := State.portRaise_wf h i
  unfold State.dramReadLine
  dsimp only
  split
  · split
    · exact hp
    · unfold State.DramWf at *; simpa using hp
  · split
    · exact hp
    · exact State.dramCorrected_wf (State.dramStore_wf (State.portRaise_wf hp 10) _ _ _) _ _ _
    · unfold State.DramWf at *; simpa using hp
    · exact State.dramBad_wf hp _ _

theorem State.dramWriteLine_wf {s : State} (h : s.DramWf) (i l : Nat) (new : List (Option Byte)) :
    (s.dramWriteLine i l new).DramWf := by
  have hq := State.portRaise_wf h i
  have hp : (if (s.portRaise i).dram.never l then (s.portRaise i).portRaise 10 else s.portRaise i).DramWf := by
    split
    · exact State.portRaise_wf hq 10
    · exact hq
  unfold State.dramWriteLine
  dsimp only
  generalize (if (s.portRaise i).dram.never l then (s.portRaise i).portRaise 10 else s.portRaise i) = u at hp
  split
  · exact h
  · split
    · exact State.dramStore_wf hp _ _ _
    · split
      · exact State.dramStore_wf hp _ _ _
      · split
        · exact State.dramStore_wf hp _ _ _
        · exact State.dramCorrected_wf (State.dramStore_wf hp _ _ _) _ _ _
        · exact State.makePoison_wf (State.dramStore_wf hp _ _ _) _ _ _
        · exact State.dramStore_wf hp _ _ _

/-- Every DRAM write keeps the canonical form. -/
theorem State.dramWrite_wf {s : State} (h : s.DramWf) (i addr : Nat) (bytes : List (Option Byte)) :
    (s.dramWrite i addr bytes).DramWf := by
  unfold State.dramWrite
  dsimp only
  generalize List.range _ = l
  induction l generalizing s with
  | nil => exact h
  | cons x xs ih => exact ih (State.dramWriteLine_wf h _ _ _)

theorem State.dramReadLines_wf {s : State} (h : s.DramWf) (i l n : Nat) : (s.dramReadLines i l n).2.DramWf := by
  induction n generalizing s l with
  | zero => exact h
  | succ n ih => exact ih (State.dramReadLine_wf h i l) (l + 1)

/-- Every DRAM read keeps the canonical form. -/
theorem State.dramRead_wf {s : State} (h : s.DramWf) (i addr len : Nat) : (s.dramRead i addr len).2.DramWf :=
  State.dramReadLines_wf h _ _ _

theorem State.retireLine_wf {s : State} (h : s.DramWf) (l : Nat) : (s.retireLine l).DramWf := by
  unfold State.retireLine
  dsimp only
  split
  · exact State.dramReadLine_wf h _ _
  · exact State.dramStore_wf (State.dramReadLine_wf h _ _) _ _ _

/-- DRAM lists nothing at reset. -/
theorem State.reset_wf : State.reset.DramWf := by unfold State.DramWf; rfl

end Sys2Proof.Machine
end

