-- ==== Sys2Proof/Laws/PerInstr.lean ====
section
/-!
SUPPORT. Sys2Proof/Laws/PerInstr.lean: the family Fields: a command that is not well formed is one of those whose operands a
link, a sensor or a measurement restricts.
-/

namespace Sys2Proof

/-- The commands some of whose operands no link, sensor or measurement can deliver. -/
def Instr.restricted : Instr → Bool
  | .registerWrite _ _ _ => false
  | .spiRead _ _ _ => true
  | .spiWrite _ _ _ => false
  | .evtStatClear _ _ _ => false
  | .evtForce _ _ _ => false
  | .evtClassWrite _ _ _ => false
  | .evtEnWrite _ _ _ => false
  | .pageCtlWrite _ _ _ => false
  | .pageLock _ _ _ => false
  | .cntClr _ _ _ => true
  | .lbCfgWrite _ _ _ => true
  | .lbLeak _ => true
  | .nvProgramDone _ => false
  | .propose _ => false
  | .tpValidateDone => false
  | .confirm _ => false
  | .tpApply => false
  | .withdraw _ => false
  | .reject _ => false
  | .timeout => false
  | .geomPitchWrite _ _ => false
  | .load _ _ => false
  | .loadDone => false
  | .start _ _ => false
  | .cancel _ _ => false
  | .abort _ _ => false
  | .release _ _ => false
  | .resume _ _ => false
  | .primingEntry => false
  | .jobLevel => false
  | .exposingEntry _ => true
  | .stripeDone => false
  | .densBandParse _ _ _ => true
  | .rasterParse _ _ => true
  | .decodeResume _ _ => true
  | .bitmapDecodeDone _ _ => true
  | .jobFaultInfoClear _ _ => false
  | .bandEnqueue _ _ => true
  | .pieceDispatch _ => false
  | .pieceDone _ _ => true
  | .tileLate => false
  | .workspaceFault _ _ => true
  | .rastEngEnWrite _ _ _ => false
  | .rastCtlWrite _ _ => false
  | .rastProbeCmd _ _ => false
  | .rastProbeDone _ => true
  | .doseFormation _ _ => true
  | .tileHandoff => false
  | .corrCtlWrite _ _ => false
  | .corrProbeCmd _ _ => false
  | .corrProbeDone _ _ => true
  | .sigCompare _ => false
  | .sigMisInfoClear _ _ => false
  | .sigCapCmd _ _ => false
  | .transitFire _ => true
  | .markerSend _ => true
  | .statusRecord _ _ _ => true
  | .statusTimeout _ => false
  | .auxDown _ => false
  | .kill => false
  | .commandResend => false
  | .blnRemapCmd _ _ => false
  | .laneWakeDone _ => true
  | .blnCalCmd _ _ => false
  | .calDone _ _ _ _ => true
  | .blnLaneTapWrite _ _ => false
  | .setFail _ => false
  | .clearFail _ => false
  | .blnTestCtlWrite _ _ => false
  | .inj _ => false
  | .blnCtlWrite _ _ => false
  | .blnAuxWrite _ _ => false
  | .metSample _ _ _ _ => true
  | .sampleTimeout _ => false
  | .stripeArmed _ _ => true
  | .startLate => false
  | .usePrimary _ => false
  | .trkSnap _ => false
  | .trkSnapDone => false
  | .trkConfigWrite _ _ _ => false
  | .move _ _ => false
  | .stop _ => false
  | .clearPend _ => false
  | .setPos _ _ => false
  | .motSnap _ _ => false
  | .motSnapDone => false
  | .tick => false
  | .motProfileWrite _ _ _ => false
  | .motCfgWrite _ _ => false
  | .camWrite _ _ _ _ => false
  | .swap _ => false
  | .deflectionIdle => false
  | .planCycle _ _ => true
  | .report _ _ => true
  | .reportTimeout => false
  | .plan _ => true
  | .join _ _ => true
  | .joinSend => false
  | .grant _ => true
  | .timeReqSend => false
  | .timeReq _ _ _ => true
  | .timeRsp _ => true
  | .setpt _ => true
  | .halt _ => true
  | .linkDegraded _ => true
  | .cstLoss _ _ => false
  | .cstOrphan _ => false
  | .govConfigWrite _ _ _ => true
  | .cstCfgWrite _ _ => false
  | .rejoin _ => false
  | .cstSnap _ => false
  | .cstSnapDone => false
  | .generate _ _ _ => false
  | .generateDone => false
  | .adopt _ _ _ => false
  | .adoptDone => false
  | .topupHeld _ => false
  | .discardHeld _ => false
  | .ldgTailWrite _ _ => false
  | .ldgAreaWrite _ _ _ => true
  | .configRequest _ _ _ _ => false
  | .bar2Write _ _ => true
  | .bar2Read _ _ => true
  | .msixAccess _ _ _ => true
  | .unsupportedRequest _ _ => true
  | .poisonRx _ => true
  | .flr => false
  | .linkDown => false
  | .linkUp _ _ => true
  | .d3hotEntry => false
  | .d0Return => false
  | .hostWinWrite _ _ => false
  | .ringCfgWrite _ _ _ _ => true
  | .ringStart _ _ _ => false
  | .ringStop _ _ => false
  | .doorbell _ _ => false
  | .descriptorFetch _ _ _ _ _ => true
  | .parkReread _ _ _ _ => false
  | .dmaBurst _ => false
  | .descriptorComplete _ => false
  | .waitTimeout _ => false
  | .ringiEvtWrite _ _ _ => false
  | .dmaErrInfoClear _ _ => false
  | .hostCplTmo _ _ _ => false
  | .sramZeroed => false
  | .zreadClear _ _ => false
  | .memRemapCmd _ _ => false
  | .memRemapDone => false
  | .dramRetCmd _ _ => false
  | .retireDone => false
  | .arbitration _ _ _ _ => true
  | .arbWrite _ _ _ => true
  | .dramReady => false
  | .clkFail _ _ => false
  | .srcFail _ _ _ => false
  | .rcRestart => false
  | .rcLost => false
  | .srcUp _ _ _ => false
  | .sourceMove => false
  | .sourceChanged => false
  | .loopRelock => false
  | .islandSwitchDone _ => false
  | .selectXtal _ => false
  | .selectSys _ => false
  | .selectRc _ => false
  | .service _ => false
  | .holdExit _ => false
  | .svcCold _ => false
  | .svcWarm _ => false
  | .clkPwrWrite _ _ => false
  | .clkGateWrite _ _ _ => false
  | .clkCfgWrite _ _ _ => false
  | .powerOn => false
  | .perstN _ => false
  | .brownout => false
  | .tempSense _ => false
  | .xtalTimeout => false
  | .ready => false
  | .darkNFall => false
  | .darkNRise => false
  | .testCtlWrite _ _ => false
  | .testXingCfgWrite _ _ => false
  | .testDramDlyWrite _ _ => false
  | .testMetCtlWrite _ _ => false
  | .testMetStepWrite _ _ => false
  | .testLaneCntWrite _ _ => false
  | .testSigWrite _ _ => false
  | .testMonWrite _ _ => false
  | .flipSram _ => false
  | .flipDram _ => false
  | .readDram _ => false
  | .memDone _ => false
  | .jtagTapReset => false
  | .jtagInstruction _ _ => false
  | .almLoadCmd _ _ => false
  | .almLoadDone _ => true
  | .registerRead _ _ _ => true
  | .hostCompletion _ _ _ _ _ => false
  | .vaux33Loss => false
  | .vaux33Return => false
  | .symbolLock _ => true
  | .checkerLock _ _ => false

end Sys2Proof

namespace Sys2Proof.Laws.Fields

/-- An ill-formed command has restricted operands. -/
def Statement (i : Instr) : Prop := i.wf = false → i.restricted = true

theorem registerWrite (x0 : _) (x1 : _) (x2 : _) : Statement (.registerWrite x0 x1 x2) := fun h => h.symm
theorem spiRead (x0 : _) (x1 : _) (x2 : _) : Statement (.spiRead x0 x1 x2) := fun _ => rfl
theorem spiWrite (x0 : _) (x1 : _) (x2 : _) : Statement (.spiWrite x0 x1 x2) := fun h => h.symm
theorem evtStatClear (x0 : _) (x1 : _) (x2 : _) : Statement (.evtStatClear x0 x1 x2) := fun h => h.symm
theorem evtForce (x0 : _) (x1 : _) (x2 : _) : Statement (.evtForce x0 x1 x2) := fun h => h.symm
theorem evtClassWrite (x0 : _) (x1 : _) (x2 : _) : Statement (.evtClassWrite x0 x1 x2) := fun h => h.symm
theorem evtEnWrite (x0 : _) (x1 : _) (x2 : _) : Statement (.evtEnWrite x0 x1 x2) := fun h => h.symm
theorem pageCtlWrite (x0 : _) (x1 : _) (x2 : _) : Statement (.pageCtlWrite x0 x1 x2) := fun h => h.symm
theorem pageLock (x0 : _) (x1 : _) (x2 : _) : Statement (.pageLock x0 x1 x2) := fun h => h.symm
theorem cntClr (x0 : _) (x1 : _) (x2 : _) : Statement (.cntClr x0 x1 x2) := fun _ => rfl
theorem lbCfgWrite (x0 : _) (x1 : _) (x2 : _) : Statement (.lbCfgWrite x0 x1 x2) := fun _ => rfl
theorem lbLeak (x0 : _) : Statement (.lbLeak x0) := fun _ => rfl
theorem nvProgramDone (x0 : _) : Statement (.nvProgramDone x0) := fun h => h.symm
theorem propose (x0 : _) : Statement (.propose x0) := fun h => h.symm
theorem tpValidateDone : Statement (.tpValidateDone) := fun h => h.symm
theorem confirm (x0 : _) : Statement (.confirm x0) := fun h => h.symm
theorem tpApply : Statement (.tpApply) := fun h => h.symm
theorem withdraw (x0 : _) : Statement (.withdraw x0) := fun h => h.symm
theorem reject (x0 : _) : Statement (.reject x0) := fun h => h.symm
theorem timeout : Statement (.timeout) := fun h => h.symm
theorem geomPitchWrite (x0 : _) (x1 : _) : Statement (.geomPitchWrite x0 x1) := fun h => h.symm
theorem load (x0 : _) (x1 : _) : Statement (.load x0 x1) := fun h => h.symm
theorem loadDone : Statement (.loadDone) := fun h => h.symm
theorem start (x0 : _) (x1 : _) : Statement (.start x0 x1) := fun h => h.symm
theorem cancel (x0 : _) (x1 : _) : Statement (.cancel x0 x1) := fun h => h.symm
theorem abort (x0 : _) (x1 : _) : Statement (.abort x0 x1) := fun h => h.symm
theorem release (x0 : _) (x1 : _) : Statement (.release x0 x1) := fun h => h.symm
theorem resume (x0 : _) (x1 : _) : Statement (.resume x0 x1) := fun h => h.symm
theorem primingEntry : Statement (.primingEntry) := fun h => h.symm
theorem jobLevel : Statement (.jobLevel) := fun h => h.symm
theorem exposingEntry (x0 : _) : Statement (.exposingEntry x0) := fun _ => rfl
theorem stripeDone : Statement (.stripeDone) := fun h => h.symm
theorem densBandParse (x0 : _) (x1 : _) (x2 : _) : Statement (.densBandParse x0 x1 x2) := fun _ => rfl
theorem rasterParse (x0 : _) (x1 : _) : Statement (.rasterParse x0 x1) := fun _ => rfl
theorem decodeResume (x0 : _) (x1 : _) : Statement (.decodeResume x0 x1) := fun _ => rfl
theorem bitmapDecodeDone (x0 : _) (x1 : _) : Statement (.bitmapDecodeDone x0 x1) := fun _ => rfl
theorem jobFaultInfoClear (x0 : _) (x1 : _) : Statement (.jobFaultInfoClear x0 x1) := fun h => h.symm
theorem bandEnqueue (x0 : _) (x1 : _) : Statement (.bandEnqueue x0 x1) := fun _ => rfl
theorem pieceDispatch (x0 : _) : Statement (.pieceDispatch x0) := fun h => h.symm
theorem pieceDone (x0 : _) (x1 : _) : Statement (.pieceDone x0 x1) := fun _ => rfl
theorem tileLate : Statement (.tileLate) := fun h => h.symm
theorem workspaceFault (x0 : _) (x1 : _) : Statement (.workspaceFault x0 x1) := fun _ => rfl
theorem rastEngEnWrite (x0 : _) (x1 : _) (x2 : _) : Statement (.rastEngEnWrite x0 x1 x2) := fun h => h.symm
theorem rastCtlWrite (x0 : _) (x1 : _) : Statement (.rastCtlWrite x0 x1) := fun h => h.symm
theorem rastProbeCmd (x0 : _) (x1 : _) : Statement (.rastProbeCmd x0 x1) := fun h => h.symm
theorem rastProbeDone (x0 : _) : Statement (.rastProbeDone x0) := fun _ => rfl
theorem doseFormation (x0 : _) (x1 : _) : Statement (.doseFormation x0 x1) := fun _ => rfl
theorem tileHandoff : Statement (.tileHandoff) := fun h => h.symm
theorem corrCtlWrite (x0 : _) (x1 : _) : Statement (.corrCtlWrite x0 x1) := fun h => h.symm
theorem corrProbeCmd (x0 : _) (x1 : _) : Statement (.corrProbeCmd x0 x1) := fun h => h.symm
theorem corrProbeDone (x0 : _) (x1 : _) : Statement (.corrProbeDone x0 x1) := fun _ => rfl
theorem sigCompare (x0 : _) : Statement (.sigCompare x0) := fun h => h.symm
theorem sigMisInfoClear (x0 : _) (x1 : _) : Statement (.sigMisInfoClear x0 x1) := fun h => h.symm
theorem sigCapCmd (x0 : _) (x1 : _) : Statement (.sigCapCmd x0 x1) := fun h => h.symm
theorem transitFire (x0 : _) : Statement (.transitFire x0) := fun _ => rfl
theorem markerSend (x0 : _) : Statement (.markerSend x0) := fun _ => rfl
theorem statusRecord (x0 : _) (x1 : _) (x2 : _) : Statement (.statusRecord x0 x1 x2) := fun _ => rfl
theorem statusTimeout (x0 : _) : Statement (.statusTimeout x0) := fun h => h.symm
theorem auxDown (x0 : _) : Statement (.auxDown x0) := fun h => h.symm
theorem kill : Statement (.kill) := fun h => h.symm
theorem commandResend : Statement (.commandResend) := fun h => h.symm
theorem blnRemapCmd (x0 : _) (x1 : _) : Statement (.blnRemapCmd x0 x1) := fun h => h.symm
theorem laneWakeDone (x0 : _) : Statement (.laneWakeDone x0) := fun _ => rfl
theorem blnCalCmd (x0 : _) (x1 : _) : Statement (.blnCalCmd x0 x1) := fun h => h.symm
theorem calDone (x0 : _) (x1 : _) (x2 : _) (x3 : _) : Statement (.calDone x0 x1 x2 x3) := fun _ => rfl
theorem blnLaneTapWrite (x0 : _) (x1 : _) : Statement (.blnLaneTapWrite x0 x1) := fun h => h.symm
theorem setFail (x0 : _) : Statement (.setFail x0) := fun h => h.symm
theorem clearFail (x0 : _) : Statement (.clearFail x0) := fun h => h.symm
theorem blnTestCtlWrite (x0 : _) (x1 : _) : Statement (.blnTestCtlWrite x0 x1) := fun h => h.symm
theorem inj (x0 : _) : Statement (.inj x0) := fun h => h.symm
theorem blnCtlWrite (x0 : _) (x1 : _) : Statement (.blnCtlWrite x0 x1) := fun h => h.symm
theorem blnAuxWrite (x0 : _) (x1 : _) : Statement (.blnAuxWrite x0 x1) := fun h => h.symm
theorem metSample (x0 : _) (x1 : _) (x2 : _) (x3 : _) : Statement (.metSample x0 x1 x2 x3) := fun _ => rfl
theorem sampleTimeout (x0 : _) : Statement (.sampleTimeout x0) := fun h => h.symm
theorem stripeArmed (x0 : _) (x1 : _) : Statement (.stripeArmed x0 x1) := fun _ => rfl
theorem startLate : Statement (.startLate) := fun h => h.symm
theorem usePrimary (x0 : _) : Statement (.usePrimary x0) := fun h => h.symm
theorem trkSnap (x0 : _) : Statement (.trkSnap x0) := fun h => h.symm
theorem trkSnapDone : Statement (.trkSnapDone) := fun h => h.symm
theorem trkConfigWrite (x0 : _) (x1 : _) (x2 : _) : Statement (.trkConfigWrite x0 x1 x2) := fun h => h.symm
theorem move (x0 : _) (x1 : _) : Statement (.move x0 x1) := fun h => h.symm
theorem stop (x0 : _) : Statement (.stop x0) := fun h => h.symm
theorem clearPend (x0 : _) : Statement (.clearPend x0) := fun h => h.symm
theorem setPos (x0 : _) (x1 : _) : Statement (.setPos x0 x1) := fun h => h.symm
theorem motSnap (x0 : _) (x1 : _) : Statement (.motSnap x0 x1) := fun h => h.symm
theorem motSnapDone : Statement (.motSnapDone) := fun h => h.symm
theorem tick : Statement (.tick) := fun h => h.symm
theorem motProfileWrite (x0 : _) (x1 : _) (x2 : _) : Statement (.motProfileWrite x0 x1 x2) := fun h => h.symm
theorem motCfgWrite (x0 : _) (x1 : _) : Statement (.motCfgWrite x0 x1) := fun h => h.symm
theorem camWrite (x0 : _) (x1 : _) (x2 : _) (x3 : _) : Statement (.camWrite x0 x1 x2 x3) := fun h => h.symm
theorem swap (x0 : _) : Statement (.swap x0) := fun h => h.symm
theorem deflectionIdle : Statement (.deflectionIdle) := fun h => h.symm
theorem planCycle (x0 : _) (x1 : _) : Statement (.planCycle x0 x1) := fun _ => rfl
theorem report (x0 : _) (x1 : _) : Statement (.report x0 x1) := fun _ => rfl
theorem reportTimeout : Statement (.reportTimeout) := fun h => h.symm
theorem plan (x0 : _) : Statement (.plan x0) := fun _ => rfl
theorem join (x0 : _) (x1 : _) : Statement (.join x0 x1) := fun _ => rfl
theorem joinSend : Statement (.joinSend) := fun h => h.symm
theorem grant (x0 : _) : Statement (.grant x0) := fun _ => rfl
theorem timeReqSend : Statement (.timeReqSend) := fun h => h.symm
theorem timeReq (x0 : _) (x1 : _) (x2 : _) : Statement (.timeReq x0 x1 x2) := fun _ => rfl
theorem timeRsp (x0 : _) : Statement (.timeRsp x0) := fun _ => rfl
theorem setpt (x0 : _) : Statement (.setpt x0) := fun _ => rfl
theorem halt (x0 : _) : Statement (.halt x0) := fun _ => rfl
theorem linkDegraded (x0 : _) : Statement (.linkDegraded x0) := fun _ => rfl
theorem cstLoss (x0 : _) (x1 : _) : Statement (.cstLoss x0 x1) := fun h => h.symm
theorem cstOrphan (x0 : _) : Statement (.cstOrphan x0) := fun h => h.symm
theorem govConfigWrite (x0 : _) (x1 : _) (x2 : _) : Statement (.govConfigWrite x0 x1 x2) := fun _ => rfl
theorem cstCfgWrite (x0 : _) (x1 : _) : Statement (.cstCfgWrite x0 x1) := fun h => h.symm
theorem rejoin (x0 : _) : Statement (.rejoin x0) := fun h => h.symm
theorem cstSnap (x0 : _) : Statement (.cstSnap x0) := fun h => h.symm
theorem cstSnapDone : Statement (.cstSnapDone) := fun h => h.symm
theorem generate (x0 : _) (x1 : _) (x2 : _) : Statement (.generate x0 x1 x2) := fun h => h.symm
theorem generateDone : Statement (.generateDone) := fun h => h.symm
theorem adopt (x0 : _) (x1 : _) (x2 : _) : Statement (.adopt x0 x1 x2) := fun h => h.symm
theorem adoptDone : Statement (.adoptDone) := fun h => h.symm
theorem topupHeld (x0 : _) : Statement (.topupHeld x0) := fun h => h.symm
theorem discardHeld (x0 : _) : Statement (.discardHeld x0) := fun h => h.symm
theorem ldgTailWrite (x0 : _) (x1 : _) : Statement (.ldgTailWrite x0 x1) := fun h => h.symm
theorem ldgAreaWrite (x0 : _) (x1 : _) (x2 : _) : Statement (.ldgAreaWrite x0 x1 x2) := fun _ => rfl
theorem configRequest (x0 : _) (x1 : _) (x2 : _) (x3 : _) : Statement (.configRequest x0 x1 x2 x3) := fun h => h.symm
theorem bar2Write (x0 : _) (x1 : _) : Statement (.bar2Write x0 x1) := fun _ => rfl
theorem bar2Read (x0 : _) (x1 : _) : Statement (.bar2Read x0 x1) := fun _ => rfl
theorem msixAccess (x0 : _) (x1 : _) (x2 : _) : Statement (.msixAccess x0 x1 x2) := fun _ => rfl
theorem unsupportedRequest (x0 : _) (x1 : _) : Statement (.unsupportedRequest x0 x1) := fun _ => rfl
theorem poisonRx (x0 : _) : Statement (.poisonRx x0) := fun _ => rfl
theorem flr : Statement (.flr) := fun h => h.symm
theorem linkDown : Statement (.linkDown) := fun h => h.symm
theorem linkUp (x0 : _) (x1 : _) : Statement (.linkUp x0 x1) := fun _ => rfl
theorem d3hotEntry : Statement (.d3hotEntry) := fun h => h.symm
theorem d0Return : Statement (.d0Return) := fun h => h.symm
theorem hostWinWrite (x0 : _) (x1 : _) : Statement (.hostWinWrite x0 x1) := fun h => h.symm
theorem ringCfgWrite (x0 : _) (x1 : _) (x2 : _) (x3 : _) : Statement (.ringCfgWrite x0 x1 x2 x3) := fun _ => rfl
theorem ringStart (x0 : _) (x1 : _) (x2 : _) : Statement (.ringStart x0 x1 x2) := fun h => h.symm
theorem ringStop (x0 : _) (x1 : _) : Statement (.ringStop x0 x1) := fun h => h.symm
theorem doorbell (x0 : _) (x1 : _) : Statement (.doorbell x0 x1) := fun h => h.symm
theorem descriptorFetch (x0 : _) (x1 : _) (x2 : _) (x3 : _) (x4 : _) : Statement (.descriptorFetch x0 x1 x2 x3 x4) := fun _ => rfl
theorem parkReread (x0 : _) (x1 : _) (x2 : _) (x3 : _) : Statement (.parkReread x0 x1 x2 x3) := fun h => h.symm
theorem dmaBurst (x0 : _) : Statement (.dmaBurst x0) := fun h => h.symm
theorem descriptorComplete (x0 : _) : Statement (.descriptorComplete x0) := fun h => h.symm
theorem waitTimeout (x0 : _) : Statement (.waitTimeout x0) := fun h => h.symm
theorem ringiEvtWrite (x0 : _) (x1 : _) (x2 : _) : Statement (.ringiEvtWrite x0 x1 x2) := fun h => h.symm
theorem dmaErrInfoClear (x0 : _) (x1 : _) : Statement (.dmaErrInfoClear x0 x1) := fun h => h.symm
theorem hostCplTmo (x0 : _) (x1 : _) (x2 : _) : Statement (.hostCplTmo x0 x1 x2) := fun h => h.symm
theorem sramZeroed : Statement (.sramZeroed) := fun h => h.symm
theorem zreadClear (x0 : _) (x1 : _) : Statement (.zreadClear x0 x1) := fun h => h.symm
theorem memRemapCmd (x0 : _) (x1 : _) : Statement (.memRemapCmd x0 x1) := fun h => h.symm
theorem memRemapDone : Statement (.memRemapDone) := fun h => h.symm
theorem dramRetCmd (x0 : _) (x1 : _) : Statement (.dramRetCmd x0 x1) := fun h => h.symm
theorem retireDone : Statement (.retireDone) := fun h => h.symm
theorem arbitration (x0 : _) (x1 : _) (x2 : _) (x3 : _) : Statement (.arbitration x0 x1 x2 x3) := fun _ => rfl
theorem arbWrite (x0 : _) (x1 : _) (x2 : _) : Statement (.arbWrite x0 x1 x2) := fun _ => rfl
theorem dramReady : Statement (.dramReady) := fun h => h.symm
theorem clkFail (x0 : _) (x1 : _) : Statement (.clkFail x0 x1) := fun h => h.symm
theorem srcFail (x0 : _) (x1 : _) (x2 : _) : Statement (.srcFail x0 x1 x2) := fun h => h.symm
theorem rcRestart : Statement (.rcRestart) := fun h => h.symm
theorem rcLost : Statement (.rcLost) := fun h => h.symm
theorem srcUp (x0 : _) (x1 : _) (x2 : _) : Statement (.srcUp x0 x1 x2) := fun h => h.symm
theorem sourceMove : Statement (.sourceMove) := fun h => h.symm
theorem sourceChanged : Statement (.sourceChanged) := fun h => h.symm
theorem loopRelock : Statement (.loopRelock) := fun h => h.symm
theorem islandSwitchDone (x0 : _) : Statement (.islandSwitchDone x0) := fun h => h.symm
theorem selectXtal (x0 : _) : Statement (.selectXtal x0) := fun h => h.symm
theorem selectSys (x0 : _) : Statement (.selectSys x0) := fun h => h.symm
theorem selectRc (x0 : _) : Statement (.selectRc x0) := fun h => h.symm
theorem service (x0 : _) : Statement (.service x0) := fun h => h.symm
theorem holdExit (x0 : _) : Statement (.holdExit x0) := fun h => h.symm
theorem svcCold (x0 : _) : Statement (.svcCold x0) := fun h => h.symm
theorem svcWarm (x0 : _) : Statement (.svcWarm x0) := fun h => h.symm
theorem clkPwrWrite (x0 : _) (x1 : _) : Statement (.clkPwrWrite x0 x1) := fun h => h.symm
theorem clkGateWrite (x0 : _) (x1 : _) (x2 : _) : Statement (.clkGateWrite x0 x1 x2) := fun h => h.symm
theorem clkCfgWrite (x0 : _) (x1 : _) (x2 : _) : Statement (.clkCfgWrite x0 x1 x2) := fun h => h.symm
theorem powerOn : Statement (.powerOn) := fun h => h.symm
theorem perstN (x0 : _) : Statement (.perstN x0) := fun h => h.symm
theorem brownout : Statement (.brownout) := fun h => h.symm
theorem tempSense (x0 : _) : Statement (.tempSense x0) := fun h => h.symm
theorem xtalTimeout : Statement (.xtalTimeout) := fun h => h.symm
theorem ready : Statement (.ready) := fun h => h.symm
theorem darkNFall : Statement (.darkNFall) := fun h => h.symm
theorem darkNRise : Statement (.darkNRise) := fun h => h.symm
theorem testCtlWrite (x0 : _) (x1 : _) : Statement (.testCtlWrite x0 x1) := fun h => h.symm
theorem testXingCfgWrite (x0 : _) (x1 : _) : Statement (.testXingCfgWrite x0 x1) := fun h => h.symm
theorem testDramDlyWrite (x0 : _) (x1 : _) : Statement (.testDramDlyWrite x0 x1) := fun h => h.symm
theorem testMetCtlWrite (x0 : _) (x1 : _) : Statement (.testMetCtlWrite x0 x1) := fun h => h.symm
theorem testMetStepWrite (x0 : _) (x1 : _) : Statement (.testMetStepWrite x0 x1) := fun h => h.symm
theorem testLaneCntWrite (x0 : _) (x1 : _) : Statement (.testLaneCntWrite x0 x1) := fun h => h.symm
theorem testSigWrite (x0 : _) (x1 : _) : Statement (.testSigWrite x0 x1) := fun h => h.symm
theorem testMonWrite (x0 : _) (x1 : _) : Statement (.testMonWrite x0 x1) := fun h => h.symm
theorem flipSram (x0 : _) : Statement (.flipSram x0) := fun h => h.symm
theorem flipDram (x0 : _) : Statement (.flipDram x0) := fun h => h.symm
theorem readDram (x0 : _) : Statement (.readDram x0) := fun h => h.symm
theorem memDone (x0 : _) : Statement (.memDone x0) := fun h => h.symm
theorem jtagTapReset : Statement (.jtagTapReset) := fun h => h.symm
theorem jtagInstruction (x0 : _) (x1 : _) : Statement (.jtagInstruction x0 x1) := fun h => h.symm
theorem almLoadCmd (x0 : _) (x1 : _) : Statement (.almLoadCmd x0 x1) := fun h => h.symm
theorem almLoadDone (x0 : _) : Statement (.almLoadDone x0) := fun _ => rfl
theorem registerRead (x0 : _) (x1 : _) (x2 : _) : Statement (.registerRead x0 x1 x2) := fun _ => rfl
theorem hostCompletion (x0 : _) (x1 : _) (x2 : _) (x3 : _) (x4 : _) : Statement (.hostCompletion x0 x1 x2 x3 x4) := fun h => h.symm
theorem vaux33Loss : Statement (.vaux33Loss) := fun h => h.symm
theorem vaux33Return : Statement (.vaux33Return) := fun h => h.symm
theorem symbolLock (x0 : _) : Statement (.symbolLock x0) := fun _ => rfl
theorem checkerLock (x0 : _) (x1 : _) : Statement (.checkerLock x0 x1) := fun h => h.symm

end Sys2Proof.Laws.Fields
end

