-- ==== Sys2Proof/Tests/Slice0.lean ====
section
/-!
SUPPORT. Sys2Proof/Tests/Slice0.lean: ill-formed commands that WellFormed tells and that do nothing, small checks against
worked examples of the spec, and for every obligation concrete states that meet the hypotheses of its clauses.
-/

namespace Sys2Proof.Tests

set_option Elab.async false

open Sys2Proof.Machine

/-! ### States for the witnesses -/

/-- A running device: READY in SERVICE from SYSREF, all blocks clocked, DARK_N high, and the function taking and
making memory requests. -/
def up : State :=
  { State.reset with
    clk := { Clk.reset with
      active := 2, rcOk := true, xtalOk := true, sysOk := true, rcStarting := false, ready := true, mode := 0, held := 0,
      inReset := false, seq := 10, safe := 0, step5 := 255 },
    pins := { Pins.reset with darkN := true },
    link := { Link.reset with cfg := [(1, 0x00100006), (38, 0x1000)] },
    sram := { Sram.reset with zeroed := true },
    dram := { Dram.reset with ready := true } }

/-- The same device while the function takes no memory requests and makes none. -/
def deaf : State := { up with link := { Link.reset with cfg := [(1, 0x00100000)] } }

/-- An access of each party, alone in its cycle. -/
def pcie : Acc := ⟨.pcie, true, 0, .alone⟩

def spi : Acc := ⟨.spi, true, 0, .alone⟩

/-- A context of one band in a state. -/
def job (st : Nat) : Ctx :=
  { Ctx.reset with
    st := st, d := { Ctx.reset.d with level := 1, bands := 1 }, samp := { Ctx.reset.samp with pitch := 640 } }

/-- The running device with context 5 in a state. -/
def withJob (st : Nat) : State := { up with ctxs := [(5, job st)] }

/-- An exposure of context 5. -/
def expo : Expo :=
  { ctx := 5, armed := true, origin := 0, xref := 0, secOfs := 0, retWin := 100, feY := 10, feX := 10, xchk := 5, ofs := 0,
    ymax := 0, fired := none, low := 0, admitted := 1, enqueued := 1, late := [], healed := 0, darkRun := 0, lateRun := none,
    holdRun := none, lateBands := [], unservedBands := [], suspects := [], susRaised := false, startHold := false,
    firedNow := false, bits := [], wAct := [], entryAlm := [] }

/-- The running device with context 5 EXPOSING. -/
def exposing : State := { withJob 5 with expo := some expo }

/-- The running device with a register. -/
def reg (off : Nat) (v : Word) : State := up.setReg off v

theorem wit_live : ∀ p < 21, up.live p = true ∧ exposing.live p = true := by decide +kernel

/-! ### Chapter 02 and 04: control, geometry, jobs -/

/-- A device whose CTRL page denies PCIe, with a locked TRK page and a worn word. -/
def guarded : State :=
  { up with
    nv := [(5, 0xFFFFFFFC)], nvCount := [(334, 100000)],
    hdrs := [(16, { Hdr.reset with lock := true })], regs := [(Reg.CLK_GATE, 0)] }

/-- A byte of a log with two wrong bits, and the hit that meets it. -/
def torn : State := { up with sram := { up.sram with err := [(cellKey 90 0 0, 3)] } }

def logHit : TabHit := ⟨⟨90, 0, 0⟩, none⟩

theorem wit_ReadsReturnTheWord :
    (up.mainUp = true ∧ deaf.memOn = false) ∧
    (up.memOn = true ∧ pcie.single = true ∧ pcie.low = 0 ∧ Reg.TRK_CFG / 0x1000 < 21 ∧ up.gated (Reg.TRK_CFG / 0x1000) = false) ∧
    (0x40 ≤ Reg.TRK_CFG % 0x1000 ∧ guarded.mainUp = true ∧ guarded.memOn = true ∧ guarded.gated (Reg.TRK_CFG / 0x1000) = true) ∧
    ((0x1040 : Nat) % 4 = 0 ∧ up.reaches .spi 1 = true ∧ up.gated 1 = false ∧ up.raNeeded 0x1040 ≤ 1000 ∧
      999 < up.raNeeded 0x1040) ∧
    (up.memOn = true ∧ 21 ≤ 4 * (0x5400 : BitVec 22).toNat / 0x1000 ∧ State.reset.mainUp = false) ∧
    (up.raNeeded 0x9040 ≤ 1000 ∧ State.reset.raNeeded 0x9040 ≤ 1000 ∧ State.reset.reaches .spi 9 = false ∧
      up.reaches .spi 9 = true ∧ 0x9041 % 4 ≠ 0 ∧ up.raNeeded 0x15000 ≤ 1000 ∧ up.reaches .spi 21 = true ∧
      guarded.raNeeded 0x10044 ≤ 1000 ∧ guarded.reaches .spi 16 = true ∧ guarded.gated 16 = true) ∧
    (logWord Reg.TRK_CFG = false ∧ Reg.TRK_CFG ≠ Reg.ALM_QUERY ∧ logWord Reg.CTRL_LOG_E0 = true ∧
      [logHit].all TabHit.readable = true ∧ (torn.tabHits ([logHit].filter fun b => b.hit.inGroups 90 91)).1 ≠ []) := by
  decide +kernel

theorem wit_WritesFollowTheChecks :
    (State.reset.reaches .pcie 16 = false ∧ State.reset.mainUp = false) ∧
    (deaf.reaches .pcie 16 = false ∧ deaf.mainUp = true) ∧ up.reaches .pcie 20 = true ∧ (21 ≤ 0x15000 / 0x1000) ∧
    guarded.gated 16 = true ∧
    (guarded.mapAllows .pcie 0 = false ∧ inBank .pcie 0x40 = false ∧ 0x40 % 0x1000 ≠ 0x10) ∧
    inBank (otherParty .pcie) 0x180 = true ∧
    ((guarded.hdr 16).lock = true ∧ lockGuards .pcie 0x10014 = true) ∧
    isDp 0x40 = true ∧
    (isDp 0x7040 = false ∧ ((nvIdx 0x7040).any fun i => guarded.nvWorn i) = true) ∧
    Taken pcie Reg.JOB_DESC_LO up ∧ Taken pcie Reg.GOV_BAND_SEL up ∧ Taken ⟨.spi, true, 0, .alone⟩ Reg.LDG_ARG up ∧
    up.reaches .spi 9 = true ∧
    up.judge ⟨.pcie, true, 0, .both 7⟩ Reg.JOB_DESC_LO = .accepted ∧ up.judge ⟨.spi, true, 0, .both 7⟩ Reg.JOB_DESC_LO = .accepted := by
  unfold Taken; decide +kernel

theorem wit_HeaderCommandsChangeTheirHeader :
    Taken pcie (0x1000 * (20 : PageNo).toNat + 0x10) up ∧ Taken pcie (0x1000 * (20 : PageNo).toNat + 0x14) up ∧
    Taken spi (0x1000 * (0 : PageNo).toNat + 0x08) up ∧ Taken spi (0x1000 * (0 : PageNo).toNat + 0x20) up ∧
    (Taken pcie (0x1000 * (4 : PageNo).toNat + 0x18) (reg Reg.TEST_CTL 1) ∧ (reg Reg.TEST_CTL 1).testEn = true) ∧
    (Taken pcie (0x1000 * (4 : PageNo).toNat + 0x18) up ∧ up.testEn = false) ∧
    (Taken pcie (0x1000 * (4 : PageNo).toNat + 0x1C) up ∧ wbit 0x80020002 31 = true ∧ evtInfo 4 (fld 0x80020002 16 5) = some (2, 2) ∧
      2 ≤ fld 0x80020002 0 3 ∧ fld 0x80020002 0 3 ≤ 3 ∧ fld 0x80020001 0 3 < 2 ∧ 3 < fld 0x80020004 0 3) ∧
    evtInfo 4 (fld 0x801F0000 16 5) = none ∧ wbit 0x00020002 31 = false ∧
    up.judge ⟨.pcie, true, 0, .device⟩ (0x1000 * (20 : PageNo).toNat + 0x10) = .accepted ∧
    up.judge ⟨.pcie, true, 0, .both 7⟩ (0x1000 * (4 : PageNo).toNat + 0x1C) = .accepted ∧
    up.judge ⟨.spi, true, 0, .both 7⟩ (0x1000 * (4 : PageNo).toNat + 0x1C) = .accepted := by
  unfold Taken; decide +kernel

theorem wit_CountersClearAndWordsProgram :
    (∀ p ∈ cntClrPages, ∃ q ∈ cntClrOf p, Taken pcie q.1 up) ∧
    (up.svcUp = true ∧ up.nvPending (0 : BitVec 10).toNat = false) ∧
    (let s : State := { up with nvSlot := [(334, true)], nvCount := [(334, 94999)] }
     s.svcUp = true ∧ s.mainUp = true ∧ s.nvPending 334 = true ∧ s.nvc 334 + 1 = 95000) ∧
    (let s : State := { State.reset with nvSlot := [(334, true)], nvCount := [(334, 94999)] }
     s.svcUp = true ∧ s.mainUp = false ∧ s.nvPending 334 = true ∧ s.nvc 334 + 1 = 95000) ∧
    (let s : State := { up with nvSlot := [(1023, true)] }
     s.nvPending (1023 : BitVec 10).toNat = true ∧ s.nvc 1023 + 1 ≠ 95000) := by
  unfold Taken; decide +kernel

/-- The device with a proposal in a phase. -/
def proposal (ph : TpPhase) (pairs : List (Nat × Word)) : State := { up with tp := ⟨ph, .pcie, pairs, 0, 0⟩ }

theorem wit_TwoPartyCommandsMoveTheProposal :
    (Taken pcie (Reg.TP_CMD + bankOf .pcie) up ∧ up.tp.phase = .none) ∧
    (Taken spi (Reg.TP_CMD + bankOf .spi) (proposal .pending []) ∧ (proposal .pending []).tp.phase = .pending ∧
      (proposal .pending []).live 0 = true) ∧
    (let s := ((proposal .pending [(0x40, 1)]).setReg Reg.TP_NONCE 7).setReg (Reg.TP_CONF_NONCE + bankOf .spi) 7
     let s1 := s.setReg (Reg.TP_CONF_DIGEST + bankOf .spi) (tpDigest [(0x40, 1)])
     s1.tp.proposer ≠ .spi ∧ s1.reg (Reg.TP_CONF_NONCE + bankOf .spi) = s1.reg Reg.TP_NONCE ∧
     s1.reg (Reg.TP_CONF_DIGEST + bankOf .spi) = tpDigest s1.tp.pairs ∧
     s.reg (Reg.TP_CONF_DIGEST + bankOf .spi) ≠ tpDigest s.tp.pairs) ∧
    (Taken pcie (Reg.TP_CMD + bankOf .pcie) (proposal .validating []) ∧ (proposal .validating []).tp.phase = .validating) ∧
    (Taken pcie (Reg.TP_CMD + bankOf .pcie) (proposal .confirmed []) ∧ (proposal .confirmed []).tp.phase = .confirmed) ∧
    (let a : Acc := ⟨.spi, true, 0, .both 1⟩
     up.judge a (Reg.TP_CMD + bankOf a.party) = .accepted ∧
     up.judge (otherAcc a) (Reg.TP_CMD + bankOf (otherParty a.party)) = .accepted ∧ up.tp.phase = .none ∧ fld 1 0 3 = 1) ∧
    (let a : Acc := ⟨.pcie, true, 0, .both 3⟩
     let s := proposal .pending []
     s.judge a (Reg.TP_CMD + bankOf a.party) = .accepted ∧
     s.judge (otherAcc a) (Reg.TP_CMD + bankOf (otherParty a.party)) = .accepted ∧ s.tp.proposer = a.party ∧ fld 3 0 3 = 3) := by
  unfold Taken; decide +kernel

theorem wit_ProposalsAreValidatedAndApplied :
    ((proposal .validating []).live 0 = true ∧
      tpCheck ((proposal .validating []).rf (Reg.TP_COUNT + bankOf .pcie) 0 4) ((proposal .validating []).bankPairs .pcie) ≠ 0) ∧
    (let s := (proposal .validating []).setReg Reg.TP_COUNT 1
     let t := (s.setReg Reg.TP_ADDR0 0x40).setReg Reg.TP_DATA0 1
     tpCheck (t.rf (Reg.TP_COUNT + bankOf .pcie) 0 4) (t.bankPairs .pcie) = 0) ∧
    ((proposal .confirmed [(0x40, 1)]).tpRefused = false ∧
      ([((0x40 : Nat), (1 : Word))].any fun q => (nvIdx q.1).any fun i => (proposal .confirmed [(0x40, 1)]).nvWorn i) = false) ∧
    (let s : State := { proposal .confirmed [(0x40, 1)] with nvCount := [(0, 100000)] }
     s.tpRefused = false ∧ (s.tp.pairs.any fun q => (nvIdx q.1).any fun i => s.nvWorn i) = true) ∧
    ({ exposing with tp := ⟨.confirmed, .pcie, [(0x40, 2)], 0, 0⟩ } : State).tpRefused = true := by
  decide +kernel

theorem wit_PitchKeepsItsRange :
    Taken pcie Reg.GEOM_PITCH up ∧ up.running = false ∧ Taken pcie Reg.GEOM_PITCH exposing ∧ exposing.running = true ∧
    320 ≤ fld 320 0 11 ∧ fld 1280 0 11 ≤ 1280 ∧ fld 319 0 11 < 320 ∧ 1280 < fld 1281 0 11 := by
  unfold Taken; decide +kernel

theorem wit_JobCommandsMoveTheContext :
    (Taken pcie Reg.JOB_CMD up ∧ (up.ctx 127).st = 0 ∧ up.loadingAny = false) ∧ (withJob 1).loadingAny = true ∧
    (Taken pcie Reg.JOB_CMD (withJob 2) ∧ ((withJob 2).ctx 5).st = 2 ∧ (withJob 2).heldBack 5 = false ∧
      ((withJob 2).ctx 5).side.topup = false) ∧
    ((withJob 3).ctx 5).st = 3 ∧ ((withJob 4).ctx 5).st = 4 ∧
    (Taken pcie Reg.JOB_CMD exposing ∧ exposing.expo = some expo ∧ expo.ctx = (5 : BitVec 7).toNat ∧ expo.ctx ≠ (6 : BitVec 7).toNat) ∧
    up.expo = none ∧
    (let s : State := { up with ctxs := [(5, { job 2 with side := { LdgSide.reset with topup := true } })] }
     (s.ctx 5).st = 2 ∧ s.heldBack 5 = false ∧ (s.ctx 5).side.topup = true) ∧
    (((withJob 6).ctx 5).st = 6 ∧ (withJob 6).holdsOpen 5 = false) ∧
    (((withJob 1).ctx 5).st ∉ [2, 6, 7]) ∧
    (({ up with heldQ := true } : State).heldQ = true ∧ up.heldQ = false) := by
  unfold Taken; decide +kernel

theorem wit_LoadIsCheckedInOrder :
    ((withJob 1).live 9 = true ∧
      ((withJob 1).ctxs.find? fun p => p.2.st == 1 && (withJob 1).genTarget != some p.1) = some (5, job 1) ∧
      (withJob 1).sram.zeroed = true ∧ (job 1).descAddr + 128 ≤ 2 ^ 35) ∧
    (let s : State := { withJob 1 with sram := Sram.reset }
     s.live 9 = true ∧ s.sram.zeroed = false) ∧
    (let x : Ctx := { job 1 with descAddr := 2 ^ 35 - 127 }
     let s : State := { up with ctxs := [(5, x)] }
     (s.ctxs.find? fun p => p.2.st == 1 && s.genTarget != some p.1) = some (5, x) ∧ 2 ^ 35 < x.descAddr + 128) ∧
    (((withJob 1).dramRead 4 0 128).1.isSome = true ∧ (descChecks 1 (List.replicate 128 0)) = some (1, 0)) ∧
    (let s : State := { withJob 1 with dram := { up.dram with pois := [(0, 1)], written := [(0, 1)] } }
     (s.dramRead 4 0 128).1 = none) := by
  decide +kernel

theorem wit_StripesEnterPrimingInOrder :
    (let s : State := { withJob 3 with startQ := [5] }
     s.live 9 = true ∧ s.startQ = 5 :: [] ∧ s.priming = none ∧ s.heldQ = false ∧ s.rf Reg.CLK_PWR 0 2 = 0 ∧
       (s.ctx 5).d.level = s.level) ∧
    (let s : State := { withJob 3 with startQ := [5], heldQ := true }
     s.live 9 = true ∧ s.startQ = 5 :: [] ∧ s.heldQ = true) ∧
    (let s : State := { withJob 3 with startQ := [5], nv := [(0, 7)] }
     s.live 9 = true ∧ s.startQ = 5 :: [] ∧ (s.ctx 5).d.level ≠ s.level) ∧
    (let s : State := { withJob 3 with startQ := [5], regs := [(Reg.BLN_TEST_CTL, 1)] }
     s.rf Reg.BLN_TEST_CTL 0 2 ≠ 0 ∧ s.mapped (s.rf Reg.BLN_TEST_CTL 16 7) = true) ∧
    (let x := { job 3 with side := { LdgSide.reset with topup := true, linkV := true, link := 6, pitch := 320 } }
     let s : State := { up with ctxs := [(5, x)], startQ := [5] }
     x.side.topup = true ∧ (s.sample.pitch != (s.ctx x.side.link).side.pitch) = true) := by
  decide +kernel

theorem wit_StripesExposeAndEnd :
    ((withJob 4).live 9 = true ∧ (withJob 4).priming = some 5 ∧ (withJob 4).expo = none ∧ (withJob 4).killsWaiting = false ∧
      (withJob 4).clk.hold = false ∧ (withJob 4).writeOk = true ∧ (withJob 4).pins.darkN = true) ∧
    (let s : State := { withJob 4 with pins := { up.pins with darkN := false } }
     s.live 9 = true ∧ s.priming = some 5 ∧ s.pins.darkN = false) ∧
    (let s : State := { exposing with expo := some { expo with fired := some (exposing.ctx 5).lastTransit } }
     s.live 9 = true ∧ ((s.markers.any fun m => m.ctx == 5) || (s.awaits.any fun w => w.ctx == 5)) = false) ∧
    (exposing.live 9 = true ∧ exposing.expo = some expo ∧ expo.fired ≠ some (exposing.ctx 5).lastTransit) ∧
    Taken pcie Reg.JOB_FAULT_INFO up ∧ wbit 0x80000000 31 = true ∧ wbit 0 31 = false := by
  unfold Taken; decide +kernel

/-! A job of one band that passes every check of R69. -/

/-- Little-endian words. -/
def wordBytes (ws : List Nat) : List Byte := ws.flatMap (leBytes 4)

def goodDesc : List Byte :=
  wordBytes ([0x101, 0, 1, 0, 0, 100, 7, 0] ++ [0x10000, 0, 64, 0, 0x1000, 0, 0x2000, 0, 0x3000, 0, 0, 0] ++
    List.replicate 12 0)

def goodXform : List Byte := wordBytes (0x1001 :: List.replicate 31 0)

/-- A dose table of zero taps, and a pass table that gives code `d` the lowest `d` passes. -/
def goodDose : List Byte := wordBytes (0x101 :: List.replicate 767 0)

def goodPass : List Byte :=
  wordBytes ((1 :: List.replicate 15 0) ++ (List.range 528).map fun i => 2 ^ (i / 16) - 1)

/-- A word of a table of words. -/
theorem tabWord_wordBytes (ws : List Nat) (i : Nat) : tabWord (wordBytes ws) (4 * i) = ws.getD i 0 % 2 ^ 32 := by
  induction ws generalizing i with
  | nil => simp [tabWord, wordBytes, leNat]
  | cons w ws ih =>
    cases i with
    | zero => simp [tabWord, wordBytes, leBytes, leNat]; omega
    | succ i => simpa [tabWord, wordBytes, leBytes, Nat.mul_succ] using ih i

theorem leNat_zeros (k : Nat) : leNat (List.replicate k (0 : Byte)) = 0 := by
  induction k with
  | zero => rfl
  | succ k ih => rw [List.replicate_succ, leNat, ih]; rfl

theorem goodDose_zero (o n : Nat) (h : 4 ≤ o) : leNat ((goodDose.drop o).take n) = 0 := by
  have e : goodDose = leBytes 4 0x101 ++ List.replicate 3068 (0 : Byte) := by decide +kernel
  obtain ⟨k, rfl⟩ := Nat.exists_eq_add_of_le h
  have d := List.drop_length_add_append (l₁ := leBytes 4 0x101) (l₂ := List.replicate 3068 (0 : Byte)) (i := k)
  rw [e, show 4 + k = (leBytes 4 0x101).length + k from rfl, d, List.drop_replicate, List.take_replicate, leNat_zeros]

theorem goodDose_ok : doseOk goodDose = true := by
  have nk : doseNk goodDose = 1 := by decide +kernel
  have h0 : nfld (leNat (goodDose.take 4)) 0 8 = 1 ∧ nfld (leNat (goodDose.take 4)) 10 22 = 0 := by decide +kernel
  have ta : tapA goodDose 0 = fun _ => 0 := funext fun n => goodDose_zero _ _ (by omega)
  simp (disch := omega) [doseOk, nk, tabWord, tabHalf, ta, tapA, tapB, goodDose_zero, h0]

theorem goodPass_mask : ∀ d < 33, ∀ p < 16, passMask goodPass d p = 2 ^ d - 1 := by
  intro d hd p hp
  rw [passMask, show 0x40 + 4 * (16 * d + p) = 4 * (16 + 16 * d + p) by omega, goodPass, tabWord_wordBytes]
  have h : (16 * d + p) / 16 = d := by omega
  rw [List.getD_eq_getElem?_getD, List.getElem?_append_right (by simp; omega)]
  simp only [List.length_cons, List.length_replicate, Nat.reduceAdd]
  rw [show 16 + 16 * d + p - 16 = 16 * d + p by omega, List.getElem?_map, List.getElem?_range (by omega)]
  simp only [Option.map_some, Option.getD_some, h]
  clear hp h p
  revert d
  decide +kernel

theorem goodPass_ok : passOk goodPass = true := by
  have h : ∀ d < 33, popcount (2 ^ d - 1) = d := by decide +kernel
  have h0 : (nfld (tabWord goodPass 0) 0 8 == 1 && nfld (tabWord goodPass 0) 8 24 == 0 &&
    (List.range 15).all fun i => tabWord goodPass (4 + 4 * i) == 0) = true := by decide +kernel
  simp only [passOk, h0, Bool.true_and, List.all_eq_true, List.mem_range, beq_iff_eq]
  intro d hd p hp
  rw [goodPass_mask d hd p hp, h d hd]

/-- The descriptor in DRAM, with a line that is poisoned. -/
def loaded (line : Nat) : State :=
  { withJob 1 with
    dram := { up.dram with data := memWriteList [] 0 goodDesc, written := [(0, 1)], pois := [(line, 1)] } }

theorem wit_LoadIsCheckedInOrder_tables :
    (((loaded 999).dramRead 4 0 128).1 = some goodDesc ∧ descChecks (loaded 999).level goodDesc = none) ∧
    ((loaded 64).dramRead 4 (descPair goodDesc 0x30) 128).1 = none ∧
    ((loaded 128).dramRead 4 (descPair goodDesc 0x38) 3072).1 = none ∧
    ((loaded 192).dramRead 4 (descPair goodDesc 0x40) 2176).1 = none ∧
    xformOk (descOf goodDesc).bands goodXform = true ∧
    xformOk 1 (List.replicate 128 0) = false ∧ doseOk (List.replicate 64 0) = false ∧ passOk (List.replicate 64 0) = false ∧
    doseOk goodDose = true ∧ passOk goodPass = true :=
  ⟨by decide +kernel, by decide +kernel, by decide +kernel, by decide +kernel, by decide +kernel, by decide +kernel,
    by decide +kernel, by decide +kernel, goodDose_ok, goodPass_ok⟩

/-! ### Chapters 03 to 07: geometry, forming, signatures, almanac loads -/

/-- Cells of a list of words at an address. -/
def wordCells (base : Nat) (ws : List Nat) : List Host.Cell :=
  ((wordBytes ws).zipIdx.filter fun p => p.1 != 0).map fun p => (base + p.2, p.1)

/-- DRAM with words at address 0. -/
def dramOf (ws : List Nat) : Dram := { up.dram with data := wordCells 0 ws, written := [(0, 1)] }

/-- One band with a rectangle of one pixel and a bitmap of one raw byte, the second one undecodable on request. -/
def shapes (token : Nat) : List Nat :=
  [2, 7, 2, 0, 0x10010003, 0, 256, 256, 512, 512, 0x40010004, 0x01000000, 0, 0, 2, 0, 0x700 + token, 0]

/-- Context 5 with that geometry, EXPOSING or in another state. -/
def shaped (st : Nat) (ws : List Nat) : State :=
  { withJob st with
    ctxs := [(5, { job st with
      d := { (job st).d with geomSize := 128 }, samp := { (job st).samp with horizon := 64 } })],
    dram := dramOf ws, expo := if st = 5 then some expo else none }

/-- A stored byte with two wrong bits. -/
def spoil (s : State) (g : Nat) : State := { s with sram := { s.sram with err := [(cellKey g 0 0, 3)] } }

/-- The same with the prep of context 5 and engine 0 replaced. -/
def shapedAt (ws : List Nat) (p : Prep) (e : Engine) : State :=
  let s := shaped 5 ws
  { s with
    ctxs := [(5, { s.ctx 5 with prep := p })], form := { s.form with engines := sput Engine.reset [] 0 e } }

theorem wit_ParsersTakeOneListOrRecord :
    (Instr.wf (.densBandParse [] 0 0) = true ∧ up.live 11 = true ∧ up.parseTarget = none) ∧
    (let s := shaped 5 (shapes 0)
     let e := dirEntry (s.geom 5) 0
     s.live 11 = true ∧ s.parseTarget = some 5 ∧ (s.sramHits []).1 = [] ∧ (s.parseDir 0 5 0).1 = .ok 2 ∧
       ((s.parseDir 0 5 0).2.parseList 0 5 0 e.off (e.off + e.len) e.count (e.len + 1) e.off 0).1 = .ok 9) ∧
    (let s := shaped 5 (shapes 15)
     let e := dirEntry (s.geom 5) 0
     ((s.parseDir 0 5 0).2.parseList 0 5 0 e.off (e.off + e.len) e.count (e.len + 1) e.off 0).1 = .ok 9) ∧
    (let s := shaped 5 [2, 7, 3, 0, 0x10010003, 0, 256, 256, 512, 512, 0x40010004, 0x01000000, 0, 0, 2, 0, 0x700, 0]
     let e := dirEntry (s.geom 5) 0
     ((s.parseDir 0 5 0).2.parseList 0 5 0 e.off (e.off + e.len) e.count (e.len + 1) e.off 0).1 = .fault 8 2) ∧
    ((shaped 5 [2, 7, 2, 1]).parseTarget = some 5 ∧ ((shaped 5 [2, 7, 2, 1]).parseDir 0 5 0).1 = .fault 9 0) ∧
    (let s : State := { shaped 5 (shapes 0) with dram := { dramOf (shapes 0) with pois := [(0, 1)] } }
     s.live 10 = true ∧ s.exposing = some 5 ∧ (s.parseDir 0 5 0).1 = .mem 0) ∧
    (let s : State := spoil { shaped 5 (shapes 0) with dram := { dramOf (shapes 0) with pois := [(0, 1)] } } 72
     Instr.wf (.densBandParse [⟨72, 0, 0⟩] 0 2) = true ∧ (s.sramHits [⟨72, 0, 0⟩]).1 = [⟨72, 0, 0⟩] ∧
       (s.refetch 5 2 [⟨72, 0, 0⟩]).1 = some 0) ∧
    (let s := spoil (shaped 5 (shapes 0)) 68
     Instr.wf (.densBandParse [⟨68, 0, 0⟩] 0 0) = true ∧ (s.sramHits [⟨68, 0, 0⟩]).1 = [⟨68, 0, 0⟩]) ∧
    (let s := shaped 5 []
     Instr.wf (.rasterParse true []) = true ∧ s.live 10 = true ∧ s.exposing = some 5 ∧ (s.meets [] 5 0).1 = true ∧
       (s.ctx 5).prep.again = [] ∧ (s.ctx 5).prep.band < s.srcBands 5 ∧ (s.ctx 5).prep.inside = false ∧
       (s.parseDir 1 5 0).1 = .ok 0 ∧ (dirEntry (s.geom 5) 0).len = 0 ∧ (dirEntry (s.geom 5) 0).count = 0) ∧
    (((spoil (shaped 5 []) 88).meets [⟨88, 0, 0⟩] 5 0).1 = false ∧ Instr.wf (.rasterParse true [⟨88, 0, 0⟩]) = true) ∧
    ((dirEntry ((shaped 5 [0, 0, 1, 0]).geom 5) 0).len = 0 ∧ (dirEntry ((shaped 5 [0, 0, 1, 0]).geom 5) 0).count ≠ 0) ∧
    (let s := shapedAt (shapes 0) { Prep.reset with again := [(0, 0)] } Engine.reset
     (s.meets [] 5 0).1 = true ∧ (s.ctx 5).prep.again = (0, 0) :: []) ∧
    (let s := shapedAt (shapes 0) { Prep.reset with inside := true, gran := 5, count := 1 } Engine.reset
     s.live 10 = true ∧ s.exposing = some 5 ∧ (s.ctx 5).prep.inside = true ∧ (s.parseRecord 1 5 0 2 9 5).1 = .ok 9 ∧
       (s.ctx 5).prep.count + 1 = (dirEntry (s.geom 5) 0).count) ∧
    (let s := shapedAt (shapes 0) { Prep.reset with inside := true, gran := 5 } Engine.reset
     (s.ctx 5).prep.count + 1 ≠ (dirEntry (s.geom 5) 0).count) ∧
    ((shapedAt (shapes 0) Prep.reset Engine.reset).parseRecord 1 5 0 2 9 2).1 = .ok 5 ∧
    ((shapedAt [2, 7, 2, 0, 0xF0010003] Prep.reset Engine.reset).parseRecord 1 5 0 2 9 2).1 = .fault 1 2 ∧
    (let s : State :=
       { shapedAt (shapes 0) Prep.reset Engine.reset with dram := { dramOf (shapes 0) with pois := [(0, 1)] } }
     (s.parseRecord 1 5 0 2 9 2).1 = .mem 0) ∧
    (let s := shapedAt (shapes 0) { Prep.reset with band := 1 } Engine.reset
     s.exposing = some 5 ∧ s.srcBands 5 ≤ (s.ctx 5).prep.band) ∧
    (recDens ((shaped 5 (shapes 0)).geom 5) 2 = false ∧ recDens ((shaped 5 [2, 7, 2, 0, 0x18010003]).geom 5) 2 = true) := by
  decide +kernel

/-- A piece of tile 0. -/
def piece : Piece := ⟨0, none⟩

/-- Context 5 EXPOSING with engine 0 as given and the two records in the bucket of tile 0. -/
def filed (token : Nat) (e : Engine) : State :=
  let s := shapedAt (shapes token) { Prep.reset with parsed := 1, band := 1 } e
  (s.fileRec 5 2 fun _ => true).fileRec 5 5 fun _ => true

theorem wit_PiecesPassThroughTheEngines :
    (let s := shapedAt (shapes 0) { Prep.reset with parsed := 1 } Engine.reset
     let s1 : State := { s with expo := some { expo with enqueued := 0 } }
     Instr.wf (.bandEnqueue [] 0) = true ∧ s1.live 10 = true ∧ (s1.meets [] 5 0).1 = true ∧ 0 < expo.admitted ∧
       0 < (s1.ctx 5).prep.parsed) ∧
    (exposing.live 10 = true ∧ exposing.expo = some expo ∧ expo.admitted ≤ expo.enqueued) ∧
    (((spoil (shaped 5 []) 71).meets [⟨71, 0, 0⟩] 5 9).1 = false ∧ Instr.wf (.bandEnqueue [⟨71, 0, 0⟩] 9) = true) ∧
    (let s := shapedAt (shapes 0) Prep.reset Engine.reset
     let s1 : State := { s with form := { s.form with queue := [piece] } }
     s1.live 10 = true ∧ s1.expo = some expo ∧ s1.form.queue = piece :: [] ∧
       ((List.range 48).find? fun i => s1.enginesOn.testBit i && (s1.engine i).piece.isNone) = some 0) ∧
    (let s := ((shapedAt (shapes 0) Prep.reset Engine.reset).setReg Reg.RAST_ENG_EN_LO 1).setReg Reg.RAST_ENG_EN_HI 0
     let s1 := s.setEngine 0 { Engine.reset with piece := some piece }
     ((List.range 48).find? fun i => s1.enginesOn.testBit i && (s1.engine i).piece.isNone) = none) ∧
    (up.live 10 = true ∧ up.expo = none) ∧
    (let s := filed 0 { Engine.reset with piece := some piece, stopped := true }
     (0 : BitVec 6).toNat < 48 ∧ s.live 10 = true ∧ s.exposing = some 5 ∧ (s.engine 0).stopped = true ∧
       s.decoding 5 0 = some 5 ∧ s.bitmapNeed 5 5 = 1) ∧
    (let s := filed 0 { Engine.reset with piece := some piece, made := 1 }
     (s.engine 0).stopped = false ∧ (s.engine 0).held = false ∧ (s.engine 0).piece = some piece ∧
       s.decoding 5 0 = some 5 ∧ s.bitmapNeed 5 5 ≤ (s.engine 0).made ∧ (s.decoderReads 5 5).1 = none ∧
       decodeBitmap (s.geom (s.sourceOf 5)) 5 = .bytes [7]) ∧
    (let s := filed 0 { Engine.reset with piece := some piece }
     (s.engine 0).made < s.bitmapNeed 5 5) ∧
    (let s : State :=
       { filed 0 { Engine.reset with piece := some piece, made := 1 } with
         dram := { dramOf (shapes 0) with pois := [(0, 1)] } }
     (s.decoderReads 5 5).1 = some 0) ∧
    decodeBitmap ((shaped 5 (shapes 3)).geom 5) 5 = .fault 3 0 := by
  decide +kernel

/-- An attempt at tile 0 in a stage, with pieces left. -/
def attempt (stage left : Nat) : Tile := ⟨false, false, left, stage, 0, false, [], 0, 0, false⟩

/-- The same as `filed` with an attempt at tile 0 and engine 0 on it, its bitmaps decoded as given. -/
def atWork (stage left : Nat) (raws : List (List Byte)) : State :=
  let s := filed 0 { Engine.reset with piece := some piece, raws := raws }
  { s with form := { s.form with tiles := [(0, attempt stage left)] } }

theorem wit_PiecesCompleteOrAreAbandoned :
    (let s := atWork 0 1 [[7]]
     (47 : BitVec 6).toNat < 48 ∧ s.live 10 = true ∧ s.expo = some expo ∧ (s.engine 0).piece = some piece ∧
       s.tile? 0 = some (attempt 0 1) ∧ (s.engine 0).held = false ∧ s.bucketFull 5 0 = true ∧
       (bucketBits (s.bucketOf 5 0)).length = (s.engine 0).raws.length) ∧
    (let s := atWork 0 1 []
     (bucketBits (s.bucketOf 5 0)).length ≠ (s.engine 0).raws.length) ∧
    (1 < (attempt 0 4).left ∧ (atWork 0 4 [[7]]).tile? 0 = some (attempt 0 4)) ∧
    (exposing.live 10 = true ∧ exposing.expo = some expo ∧ up.live 10 = true ∧ up.expo = none) ∧
    (Instr.wf (.workspaceFault 0 ⟨60, 0, 0⟩) = true ∧ Instr.wf (.workspaceFault 47 ⟨67, 0, 0⟩) = true ∧
      Instr.wf (.workspaceFault 0 ⟨87, 0, 0⟩) = true ∧ ((atWork 0 1 []).sramRead 60 0 0).1 ≠ .bad) ∧
    (let s := spoil (atWork 0 1 []) 60
     s.exposing = some 5 ∧ (s.engine 0).piece = some piece ∧ (s.sramRead 60 0 0).1 = .bad) := by
  decide +kernel

theorem wit_FormationSettingsKeepTheirRanges :
    (Taken pcie Reg.RAST_ENG_EN_HI up ∧ Taken pcie Reg.RAST_ENG_EN_LO up ∧ (up.writeRw Reg.RAST_ENG_EN_LO 0).enginesOn ≠ 0 ∧
      ((reg Reg.RAST_ENG_EN_HI 0).writeRw Reg.RAST_ENG_EN_LO 0).enginesOn = 0 ∧
      Taken pcie Reg.RAST_ENG_EN_LO (reg Reg.RAST_ENG_EN_HI 0)) ∧
    (Taken pcie Reg.RAST_CTL up ∧ 64 ≤ fld 0x400000 16 10 ∧ fld 0x3F0000 16 10 < 64) ∧
    (Taken pcie Reg.CORR_CTL up ∧ 64 ≤ fld 64 0 11 ∧ fld 1024 0 11 ≤ 1024 ∧ fld 63 0 11 < 64 ∧ 1024 < fld 1025 0 11) ∧
    (Taken pcie Reg.RAST_PROBE_CMD (withJob 5) ∧ ((withJob 5).ctx (fld 5 0 7)).st = 5 ∧
      ((withJob 5).ctx (fld 6 0 7)).st = 0) ∧
    (let s := shapedAt (shapes 0) { Prep.reset with parsed := 1 } Engine.reset
     Taken pcie Reg.CORR_PROBE_CMD s ∧ s.densHeld 5 0 = true ∧ (up.densHeld 5 0) = false) ∧
    (let w : Waiting := ⟨[], [], some 5⟩
     let s : State := { up with results := [(Reg.RAST_PROBE_STAT, w), (Reg.CORR_PROBE_STAT, w)] }
     s.live 10 = true ∧ s.live 11 = true ∧ w.ctx = some 5 ∧ Instr.wf (.rastProbeDone [⟨88, 0, 0⟩]) = true ∧
       Instr.wf (.corrProbeDone [⟨68, 0, 0⟩] 1) = true ∧
       (s.results.find? fun p => p.1 == Reg.CORR_PROBE_STAT) = some (Reg.CORR_PROBE_STAT, w) ∧
       ((spoil s 68).meets [⟨68, 0, 0⟩] 5 1).2.results.find? (fun p => p.1 == Reg.CORR_PROBE_STAT) =
         some (Reg.CORR_PROBE_STAT, w) ∧
       (s.meets [⟨88, 0, 0⟩] 5 0).2.results.find? (fun p => p.1 == Reg.RAST_PROBE_STAT) = some (Reg.RAST_PROBE_STAT, w)) := by
  unfold Taken; decide +kernel

theorem wit_DoseFormationHandsTilesOff :
    (let s := atWork 1 0 []
     s.live 11 = true ∧ s.exposing = some 5 ∧ Instr.wf (.doseFormation [] 0) = true ∧ (s.sramHits []).1 = [] ∧
       (s.form.tiles.any fun p => p.2.stage == 2) = false ∧ s.doseNext 5 = some 0 ∧ s.tile? 0 = some (attempt 1 0)) ∧
    (let s := atWork 2 0 []
     (s.sramHits []).1 = [] ∧ (s.form.tiles.any fun p => p.2.stage == 2) = true ∧
       (s.form.tiles.find? fun p => p.2.stage == 2) = some (0, attempt 2 0) ∧ (s.ctx 5).d.sigEn = false) ∧
    (let s := atWork 1 0 []
     Instr.wf (.doseFormation [⟨88, 0, 0⟩, ⟨68, 0, 0⟩] 0) = true ∧ ((spoil s 88).sramHits [⟨88, 0, 0⟩]).1 ≠ []) ∧
    (let s := atWork 2 0 []
     (0 : Nat) ∉ s.form.sigDark ∧ (s.dramReadLine 3 0).1.usable = true ∧
       (0 : Nat) ∈ ({ s with form := { s.form with sigDark := [0] } } : State).form.sigDark ∧ s.capIs 5 0 = false ∧
       State.capIs { s with form := { s.form with cap := some (5, 0) } } 5 0 = true) := by
  decide +kernel

theorem wit_SignaturesDecideTiles :
    (let s := atWork 3 0 []
     s.live 12 = true ∧ s.exposing = some 5 ∧ s.tile? (0 : BitVec 20).toNat = some (attempt 3 0) ∧ (attempt 3 0).stage = 3 ∧
       s.deadlinePassed 0 = false ∧ (s.ctx 5).samp.regenEn = false ∧ (attempt 3 0).regen = false ∧
       (attempt 3 0).sig = (attempt 3 0).expect ∧ s.forceIs 5 0 = false) ∧
    (let s : State := { atWork 3 0 [] with test := { up.test with sigArmed := true }, regs := [(Reg.TEST_SIG, 0x00500000)] }
     s.forceIs 5 0 = true ∧ (attempt 3 0).sig ^^^ 1 ≠ (attempt 3 0).expect) ∧
    (let s := atWork 3 0 []
     let s1 := s.setCtx 5 { s.ctx 5 with samp := { (s.ctx 5).samp with regenEn := true } }
     (s1.ctx 5).samp.regenEn = true ∧ s1.deadlinePassed 0 = false) ∧
    (Taken pcie Reg.SIG_CAP_CMD (withJob 2) ∧ 32 * ((withJob 2).ctx (fld 0x0050001F 20 7)).band0 ≤ fld 0x0050001F 0 20 ∧
      fld 0x0050001F 0 20 < 32 * ((withJob 2).ctx (fld 0x0050001F 20 7)).bandEnd ∧
      32 * ((withJob 2).ctx (fld 0x00500020 20 7)).bandEnd ≤ fld 0x00500020 0 20 ∧ ((withJob 2).ctx 5).st = 2) ∧
    Taken pcie Reg.SIG_MIS_INFO up ∧ wbit 0x80000000 31 = true ∧ wbit 1 31 = false := by
  unfold Taken; decide +kernel

/-- An almanac load in progress from an address. -/
def almLoading (a : Nat) : State := { up with alm := { up.alm with loading := some a } }

theorem wit_AlmanacLoadsAreChecked :
    (Taken pcie Reg.ALM_LOAD_CMD up ∧ wbit 1 0 = true ∧ wbit 2 0 = false) ∧
    ((almLoading (2 ^ 35 - 65536)).live 14 = true ∧ (almLoading (2 ^ 35 - 65536)).alm.loading = some (2 ^ 35 - 65536) ∧
      (2 ^ 35 - 65536) % 64 = 0 ∧ 2 ^ 35 - 65536 + 65536 ≤ 2 ^ 35) ∧
    ((almLoading 32).alm.loading = some 32 ∧ 32 % 64 ≠ 0) ∧
    (2 ^ 35 < 2 ^ 35 - 65472 + 65536 ∧ (2 ^ 35 - 65472) % 64 = 0) ∧
    (Instr.wf (.almLoadDone [⟨89, 0, 0⟩]) = true ∧ ((spoil (almLoading 0) 89).sramHits [⟨89, 0, 0⟩]).1 ≠ []) ∧
    (up.live 14 = true ∧ up.alm.loading = none) ∧
    (let s : State := { almLoading 0 with dram := { up.dram with pois := [(3, 1)], written := [(0, 1)] } }
     (s.dramRead 5 0 256).1 = none) ∧
    (((imageStates (List.replicate 64 0)).find? fun p => p.2 == 3) = none ∧
      ((imageStates (List.replicate 63 0 ++ [0xC0])).find? fun p => p.2 == 3) = some (255, 3)) := by
  unfold Taken; decide +kernel

/-! ### Chapters 08 to 10: lanes, transits, motion -/

/-- Context 5 EXPOSING, locked and moving, with transit 0 at its boundary. -/
def moving : State := { exposing with loop := { Loop.reset with st := 2, p := 0, v := 2 ^ 32, locked := true } }

theorem wit_TransitsFireAtTheirBoundary :
    (moving.live 16 = true ∧ moving.travelCheck.expo = some expo ∧ moving.leftTravel = false ∧ expo.firedNow = false ∧
      expo.armed = true ∧ moving.travelCheck.loop.locked = true ∧ 0 < moving.travelCheck.loop.v ∧
      expo.next ≤ (moving.travelCheck.ctx expo.ctx).lastTransit ∧ moving.travelCheck.nearEnough expo expo.next = true ∧
      [(⟨⟨89, 4095, 255⟩, none⟩ : TabHit)].all TabHit.ok = true) ∧
    (exposing.live 16 = true ∧ exposing.travelCheck.expo = some expo ∧ exposing.travelCheck.loop.locked = false) ∧
    (let s : State := { moving with loop := { moving.loop with p := -(2 ^ 40) } }
     s.travelCheck.nearEnough expo expo.next = false) ∧
    (let s : State := { moving with nv := [(326, 0x7FFF)] }
     s.leftTravel = true) ∧
    (let e : Expo := { expo with fired := some (moving.ctx 5).lastTransit }
     (moving.ctx 5).lastTransit < e.next) := by
  decide +kernel

/-- A marker of transit 0 with one bit on lane 0. -/
def marker : Marker := ⟨0, 5, 64, 0, true, false, [(0, false)]⟩

theorem wit_MarkersLeaveInOrder :
    (let s : State := { moving with markers := [marker] }
     s.live 15 = true ∧ s.markers = marker :: [] ∧ s.lanesIdle = false ∧ s.darkPin.1 = false ∧
       (marker.abort || s.clk.hold || s.darkPin.1 || !marker.served || s.testUnsafe) = false ∧
     [(⟨⟨92, 0, 0⟩, 85⟩ : FrameHit)].all FrameHit.ok = true) ∧
    (let s : State := { moving with markers := [marker], pins := { up.pins with darkN := false } }
     s.darkPin.1 = true) ∧
    (up.pins.darkWait = 0 ∧ ({ up.pins with darkWait := 33 } : Pins).darkWait ≠ 0) ∧
    (let s : State := { moving with markers := [marker], clk := { up.clk with safe := 32 } }
     s.live 15 = true ∧ s.lanesIdle = true) ∧
    jtagDrives moving.tap = false := by
  decide +kernel

/-- A transit that awaits lane 0, and the device that waits for it. -/
def await : Await := ⟨0, 5, 1, 0, moving.maker 5, []⟩

/-- A status record for transit 0 that reports lane 0 as fired, and its CRC-32. -/
def record : List Byte := [2, 0, 0, 0, 0, 0, 0, 0, 1, 0, 0, 0, 0, 0, 0, 0, 0, 0, 0, 0]

/-- The CRC-32 that belongs to a body. -/
def crcOf (body : List Byte) : Word := BitVec.ofNat 32 (crc32 body)

def awaiting : State := { moving with awaits := [await] }

theorem wit_StatusRecordsAreTakenAndDecided :
    (awaiting.live 15 = true ∧ wbit (awaiting.reg Reg.BLN_AUX) (0 : BitVec 2).toNat = true ∧
      awaiting.auxCorrupts (0 : BitVec 2).toNat = false ∧ record.length = 20 ∧
      (crc32 record == (crcOf record).toNat && bodyNat record 0 1 == 2) = true ∧ (bodyNat record 1 1).testBit 2 = false ∧
      ((awaiting.takeAck 0).awaits.find? fun w => w.n == bodyNat record 4 4 && !(w.got.any fun p => p.1 == 0)) =
        some await ∧ (crc32 record == (0 : Word).toNat) = false) ∧
    (awaiting.awaits.find? fun w => w.n == (0 : BitVec 32).toNat) = some await ∧
    (let s := awaiting.setReg Reg.BLN_AUX 2
     s.live 15 = true ∧ wbit (s.reg Reg.BLN_AUX) 0 = false ∧ wbit (s.reg Reg.BLN_AUX) 1 = true) ∧
    (let s := (awaiting.setReg Reg.TEST_LANE_CNT 1).setReg Reg.TEST_LANE_CFG 0x80300001
     wbit (s.reg Reg.BLN_AUX) 3 = true ∧ s.auxCorrupts 3 = true) ∧
    (awaiting.awaits.find? fun w => w.n == 1) = none ∧
    (let s : State := { awaiting with bln := { awaiting.bln with down := 8 } }
     wbit (s.reg Reg.BLN_AUX) 3 = true ∧ s.bln.down.testBit 3 = true ∧ awaiting.bln.down.testBit 3 = false) ∧
    (await.got = [] ∧ await.lanes ≠ 0 ∧ ({ await with lanes := 0 } : Await).lanes = 0 ∧
      ({ await with got := [(0, 1), (3, 2)] } : Await).got.map Prod.snd = 1 :: [2]) := by
  decide +kernel

/-- A device with blanker commands waiting. -/
def commands (cs : List BCmd) : State := { up with bln := { up.bln with cmds := cs } }

theorem wit_BlankerCommandsAreSentAndRepeated :
    (up.live 15 = true ∧ up.bln.cmds = [] ∧ up.lanesIdle = false) ∧
    (let s := commands [⟨7, 2, 0, 10, 3⟩, ⟨8, 1, 0, 1, 0⟩]
     s.live 15 = true ∧ s.bln.cmds ≠ [] ∧ s.lanesIdle = false) ∧
    (Taken pcie Reg.BLN_REMAP_CMD up ∧ up.bln.fo = none ∧
      ((up.bln.fo.map Failover.lane) == some 85 || up.bln.foWait.any fun p => p.1 == 85) = false) ∧
    (let s : State := { up with bln := { up.bln with fo := some ⟨85, 85, 86, some 7, false⟩ } }
     Taken pcie Reg.BLN_REMAP_CMD s ∧ s.bln.fo ≠ none ∧ (s.bln.fo.map Failover.lane) = some 85 ∧
       (s.bln.fo.bind Failover.seq) = some 7 ∧ (7 : Nat) < 65536 ∧ (5 : Nat) < 2 ^ 32 ∧ (4 : Nat) < 256) ∧
    ((95 : BitVec 7).toNat < 96 ∧ (up.plane 95).pwr ≠ 3 ∧ ((up.setPlane 95 { up.plane 95 with pwr := 3 }).plane 95).pwr = 3) := by
  unfold Taken; decide +kernel

theorem wit_CalibrationSetsTheTaps :
    (Taken pcie Reg.BLN_CAL_CMD up ∧ up.bln.cal = false ∧ wbit 1 0 = true ∧ wbit 0 0 = false ∧
      (up.expo.isSome || up.bln.fo.isSome || decide (up.rf Reg.BLN_TEST_CTL 0 2 ≠ 0)) = false ∧
      Taken pcie Reg.BLN_CAL_CMD exposing ∧ exposing.expo.isSome = true) ∧
    (let s : State := { up with bln := { up.bln with cal := true, calTodo := [5], calSeq := some 7 } }
     Taken pcie Reg.BLN_CAL_CMD s ∧ s.live 15 = true ∧ s.bln.cal = true ∧ s.bln.calTodo ≠ [] ∧
       (List.replicate 96 (0 : BitVec 16)).length = 96 ∧ s.bln.calTodo = 5 :: [] ∧ (s.plane 5).failed = false ∧
       s.bln.calSeq ≠ none ∧ s.bln.calSeq = some 7 ∧ ackReaches 7 7 = true ∧ ackReaches 6 7 = false ∧ s.bln.fo = none ∧
       ∀ x ∈ s.bln.cmds, x.op ≠ 2) ∧
    (let s : State := { up with bln := { up.bln with cal := true } }
     s.bln.cal = true ∧ s.bln.calTodo = []) ∧
    (let s (p : Nat) : State := { up with bln := { up.bln with calTodo := [p] } }
     (s 5).bln.calTodo = 5 :: [] ∧ (s 5).bln.calSeq = none ∧ ((s 5).plane 5).pwr < 2 ∧ ((s 5).plane 5).failed = false ∧
       2 ≤ ((s 95).plane 95).pwr ∧ ((s 95).plane 95).failed = false ∧
       (((s 5).setPlane 5 { (s 5).plane 5 with failed := true }).plane 5).failed = true) ∧
    (Taken pcie Reg.BLN_LANE_TAP (reg Reg.BLN_LANE_SEL 95) ∧ (reg Reg.BLN_LANE_SEL 95).expo = none ∧
      (reg Reg.BLN_LANE_SEL 95).rf Reg.BLN_LANE_SEL 0 7 ≤ 95 ∧ 95 < (reg Reg.BLN_LANE_SEL 96).rf Reg.BLN_LANE_SEL 0 7) := by
  unfold Taken; decide +kernel

theorem wit_LaneCommandsTestsAndSettings :
    (let s := reg Reg.BLN_LANE_SEL 86
     Taken pcie Reg.BLN_LANE_CMD s ∧ s.rf Reg.BLN_LANE_SEL 0 7 ≤ 95 ∧ s.mapped 86 = false ∧ s.mapped 85 = true) ∧
    (Taken pcie Reg.BLN_TEST_CTL up ∧ fld 0x005F0401 16 7 ≤ 95 ∧ fld 0x005F0401 8 3 ≤ 4 ∧ up.mapped (fld 0x005F0401 16 7) = false ∧
      fld 0x005F0403 0 2 = 3 ∧ 95 < fld 0x00600000 16 7 ∧ 4 < fld 0x00000500 8 3 ∧ exposing.running = true ∧
      Taken pcie Reg.BLN_TEST_CTL exposing ∧ fld 0x00550001 0 2 ≠ 0 ∧ exposing.mapped (fld 0x00550001 16 7) = true ∧
      fld 0x00550000 0 2 = 0 ∧ fld 0x00550000 8 3 ≤ 4) ∧
    (up.underTest (up.rf Reg.BLN_TEST_CTL 16 7) = false ∧
      (let s := reg Reg.BLN_TEST_CTL 0x00050001
       s.underTest (s.rf Reg.BLN_TEST_CTL 16 7) = true ∧ (s.plane (s.rf Reg.BLN_TEST_CTL 16 7)).pwr < 2) ∧
      (let s := reg Reg.BLN_TEST_CTL 0x005F0001
       s.underTest (s.rf Reg.BLN_TEST_CTL 16 7) = true ∧ 2 ≤ (s.plane (s.rf Reg.BLN_TEST_CTL 16 7)).pwr)) ∧
    (up.judge ⟨.pcie, true, 0, .both 7⟩ Reg.BLN_TEST_CTL = .accepted ∧
      up.judge ⟨.spi, true, 0, .both 7⟩ Reg.BLN_TEST_CTL = .accepted) ∧
    (up.rf Reg.BLN_TEST_CTL 0 2 = 0 ∧ (reg Reg.BLN_TEST_CTL 1).rf Reg.BLN_TEST_CTL 0 2 ≠ 0 ∧
      (reg Reg.BLN_TEST_CTL 1).live 15 = true) ∧
    (Taken pcie Reg.BLN_CTL up ∧ 2 ≤ fld 0x00020A00 16 8 ∧ fld 0x003C0A00 16 8 ≤ 60 ∧ fld 0x003C0A00 8 4 ≤ 10 ∧
      fld 0x00010000 16 8 < 2 ∧ 60 < fld 0x003D0000 16 8 ∧ 10 < fld 0x00020B00 8 4) ∧
    (Taken pcie Reg.BLN_AUX up ∧ up.expo = none ∧ fld 0x401 0 4 ≠ 0 ∧ fld 0x401 8 3 ≤ 4 ∧ fld 0x400 0 4 = 0 ∧ 4 < fld 0x501 8 3 ∧
      Taken pcie Reg.BLN_AUX exposing ∧ exposing.expo ≠ none) := by
  unfold Taken; decide +kernel

/-- A device whose loop runs on A4. -/
def tracking : State := { reg Reg.TRK_CFG 1 with loop := { Loop.reset with st := 2, a4 := ⟨some 0, some 0, 0, 0, none⟩ } }

/-- A sample of Y = 5 with number 32,767. -/
def sample : List Byte := [5, 0, 0, 0, 0, 0, 0, 0, 0, 0, 0, 0, 1, 0, 0xFF, 0x7F]

theorem wit_MetrologySamplesDriveTheLoop :
    (tracking.live 16 = true ∧ wbit (tracking.reg Reg.TRK_CFG) 0 = true ∧ tracking.auxCorrupts 4 = false ∧
      ((tracking.loop.lane false).ref.any fun r => decide (3072 < r + 3072)) = false ∧
      ((tracking.loop.lane false).ref.any fun r => decide (3071 < r + 3072)) = true ∧
      sample.length = 16 ∧ (crc32 sample == (crcOf sample).toNat) = true ∧ bodyNat sample 14 2 = 32767 ∧
      (BitVec.ofNat 16 (bodyNat sample 12 2)).getLsbD 0 = true ∧
      tracking.metSelected false = false ∧ corrected false (BitVec.ofNat 48 (bodyNat sample 0 6)) = some 5 ∧
      corrected true (BitVec.ofInt 48 (-(2 ^ 47))) = none) ∧
    (up.live 16 = true ∧ wbit (up.reg Reg.TRK_CFG) 0 = false) ∧
    (let s := (tracking.setReg Reg.TEST_LANE_CNT 1).setReg Reg.TEST_LANE_CFG 0x80400001
     s.auxCorrupts 4 = true) ∧
    (let s := (tracking.setReg Reg.TEST_CTL 1).setReg Reg.TEST_MET_CTL 0x02010000
     s.metSelected false = true ∧ s.rf Reg.TEST_MET_CTL 16 8 ≠ 0) ∧
    (tracking.loop.feeds false = true ∧ tracking.loop.feeds true = false ∧ tracking.laneUp false = false) ∧
    (Loop.reset.st = 0 ∧ ({ Loop.reset with st := 1 } : Loop).t1 < 1 ∧ ({ Loop.reset with st := 1 } : Loop).t1 ≥ 0 ∧
      tracking.loop.st = 2) := by
  decide +kernel

theorem wit_ArmingAndTrackingCommands :
    (let e : Expo := { expo with armed := false, origin := 1 }
     let s : State := { moving with expo := some e, loop := { moving.loop with v := 0 } }
     s.live 16 = true ∧ s.expo = some e ∧ e.armed = false ∧ s.loop.locked = true ∧ s.roomAhead e = true ∧
       s.lanesAsleep = false ∧ [(⟨⟨93, 0, 0⟩, 0⟩ : FrameHit)].all FrameHit.ok = true) ∧
    (let e : Expo := { expo with armed := false, origin := -1 }
     let s : State := { moving with expo := some e }
     e.armed = false ∧ 0 < s.loop.v ∧ s.boundary e 0 - s.ahead < s.posMu ∧ s.roomAhead e = false) ∧
    (moving.expo = some expo ∧ expo.armed = true) ∧
    (Taken pcie Reg.TRK_CMD exposing ∧ exposing.expo ≠ none ∧ Taken pcie Reg.TRK_CMD up ∧ up.expo = none ∧
      up.loop.sec = false ∧ ({ up with loop := { Loop.reset with sec := true } } : State).loop.sec = true) ∧
    (let w : Waiting := ⟨[], [], none⟩
     let s : State := { up with results := [(Reg.TRK_SNAP_STAT, w)] }
     s.live 16 = true ∧ w.ctx = none ∧ (s.results.find? fun p => p.1 == Reg.TRK_SNAP_STAT) = some (Reg.TRK_SNAP_STAT, w)) ∧
    (Taken pcie (Reg.TRK_CFG + 4 * (0 : BitVec 2).toNat) up ∧ Taken pcie (Reg.TRK_CFG + 4 * (3 : BitVec 2).toNat) up ∧
      fld 0x4401 4 2 ≠ 3 ∧ ¬ 4 < fld 0x4401 8 3 ∧ ¬ 4 < fld 0x4401 12 3 ∧ fld 0x30 4 2 = 3 ∧ 4 < fld 0x500 8 3 ∧
      fld 0x01010001 16 8 ≠ 0 ∧ fld 0x01000001 16 8 = 0) := by
  unfold Taken; decide +kernel

theorem wit_MotionCommandsWaitForTheTick :
    (Taken pcie Reg.MOT_CMD (reg Reg.CST_CFG 2) ∧ (reg Reg.CST_CFG 2).conductor = false) ∧
    (Taken pcie Reg.MOT_CMD up ∧ up.conductor = true ∧ up.inTravel false up.motTgt = true ∧ up.rf Reg.MOT_VEL 0 23 ≠ 0 ∧
      up.rf Reg.MOT_VEL 0 23 ≤ 256 * up.vlim false ∧ (reg Reg.MOT_VEL 0).rf Reg.MOT_VEL 0 23 = 0) ∧
    (let s : State := { up.setReg Reg.MOT_TGT_HI 0x7FFF with nv := [(328, 0)] }
     s.conductor = true ∧ s.inTravel false s.motTgt = false) ∧
    (let w : Waiting := ⟨[], [], none⟩
     let s : State := { up with results := [(Reg.MOT_SNAP_STAT, w)] }
     s.live 17 = true ∧ w.ctx = none ∧ (s.results.find? fun p => p.1 == Reg.MOT_SNAP_STAT) = some (Reg.MOT_SNAP_STAT, w)) ∧
    (Taken pcie (Reg.MOT_VEL + 4 * (0 : BitVec 2).toNat) up ∧ Taken pcie (Reg.MOT_VEL + 4 * (3 : BitVec 2).toNat) up ∧
      up.gen.st = 0) ∧
    (Taken pcie Reg.MOT_CFG up ∧ fld 0x3144 8 4 ≠ 0 ∧ fld 0x3144 0 3 ≤ 4 ∧ fld 0x3144 4 3 = 4 ∧ fld 0x3044 8 4 = 0 ∧
      4 < fld 0x3145 0 3 ∧ fld 0x3124 4 3 = 2 ∧ Taken pcie Reg.MOT_CFG exposing) := by
  unfold Taken; decide +kernel

theorem wit_TickRunsTheGenerator :
    ((reg Reg.CST_CFG 2).live 17 = true ∧ (reg Reg.CST_CFG 2).conductor = false) ∧
    (up.live 17 = true ∧ up.conductor = true ∧ up.gen.st = 0 ∧ up.gen.pend = none ∧ up.gen.cmds = [] ∧
      up.anyJoined = false) ∧
    (let s : State := { up with gen := { Gen.reset with pend := some (false, 5) } }
     s.conductor = true ∧ s.gen.st = 0 ∧ s.gen.pend = some (false, 5)) ∧
    (let s : State := { reg Reg.CST_CFG 1 with cst := { Cst.reset with kids := [(0, { Child.reset with joined := true })] } }
     s.live 17 = true ∧ s.conductor = true ∧ s.anyJoined = true) ∧
    (({ Gen.reset with st := 3, toTgt := true } : Gen).toTgt = true ∧ Gen.reset.toTgt = false) := by
  decide +kernel

theorem wit_CamBanksSwapAtATransit :
    (Taken pcie (Reg.CAM0_0 + 4 * (255 : BitVec 8).toNat) up ∧ up.camBank = false ∧
      Taken pcie (Reg.CAM1_0 + 4 * (0 : BitVec 8).toNat) up) ∧
    (Taken pcie Reg.CAM_CTL up ∧ wbit (up.reg Reg.CAM_CTL) 2 = false ∧ up.armed = false ∧ exposing.armed = true ∧
      wbit ((reg Reg.CAM_CTL 4).reg Reg.CAM_CTL) 2 = true ∧ Taken pcie Reg.CAM_CTL (reg Reg.CAM_CTL 4)) ∧
    ((up.setReg Reg.MOT_CFG 0x2000).live 17 = true ∧ wbit ((up.setReg Reg.MOT_CFG 0x2000).reg Reg.MOT_CFG) 13 = true ∧
      (up.setReg Reg.MOT_CFG 0x2000).streamsOff = false ∧ up.gen.dfHeld = false ∧ up.lastDf = [] ∧ up.gen.shot = none) ∧
    (let s : State := { up.setReg Reg.MOT_CFG 0x2000 with gen := { Gen.reset with dfHeld := true }, lastDf := [0, 0, 0, 0, 0, 0] }
     s.gen.dfHeld = true ∧ s.lastDf ≠ []) := by
  unfold Taken; decide +kernel

/-! ### Chapters 11 to 13: the tree, the ledger, the host interface -/

/-- A message of a TYPE with SEQ 5 and `n` body bytes, and the same with another check. -/
def msg (type : Byte) (n : Nat) : Rx :=
  let body := type :: 0 :: 5 :: List.replicate (n - 3) 0
  ⟨true, body, crcOf body⟩

def bad (rx : Rx) : Rx := { rx with crc := rx.crc + 1 }

/-- A root with a child on port 1. -/
def root : State :=
  { reg Reg.CST_CFG 1 with cst := { Cst.reset with kids := [(0, { Child.reset with joined := true })], locks := 60 } }

/-- A member of a tree, before and after it joins. -/
def orphan : State := { reg Reg.CST_CFG 2 with cst := { Cst.reset with joined := false, locks := 3, good := 2 } }

def member : State := { reg Reg.CST_CFG 2 with cst := { Cst.reset with id := 1, depth := 1, locks := 15 } }

theorem wit_MessagesAreReceivedOnce :
    (root.live 19 = true ∧ up.portUsed (kidPort false) = false ∧ root.portUsed (kidPort true) = true ∧
      root.portUsed 0 = false ∧ member.live 19 = true ∧ member.portUsed 0 = true ∧
      root.auxCorrupts ((msg 0x11 16).lane (kidPort true)) = false ∧ member.auxCorrupts ((msg 0x40 28).lane 0) = false) ∧
    (let s := (root.setReg Reg.TEST_LANE_CNT 1).setReg Reg.TEST_LANE_CFG 0x80D00001
     s.auxCorrupts ((msg 0x11 16).lane (kidPort true)) = true) ∧
    (crcGood (bad (msg 0x41 8)).body (bad (msg 0x41 8)).crc = false ∧ crcGood (msg 0x41 8).body (msg 0x41 8).crc = true ∧
      (msg 0x41 8).body.headD 0 ≠ 0x40) ∧
    (let s : State := { member with cst := { member.cst with rx := [(0, (6, 2))] } }
     seqTaken (sget (0, 0) s.cst.rx 0).1 (sget (0, 0) s.cst.rx 0).2 (msg 0x41 8).seq = none) ∧
    (seqTaken 0 1 32767 = some (32767, 2 ^ 32767 + 1) ∧ seqTaken 0 1 32768 = some (0, 1 + 2 ^ 32768) ∧
      seqTaken 0 1 65535 = some (0, 3)) ∧
    ((msg 0x41 7).body.length ≠ 8 ∧ Instr.wf (.halt (msg 0x41 7)) = true) ∧
    (∀ p : Bool, Instr.wf (.join p (msg 0x11 16)) = true ∧ Instr.wf (.timeReq p (msg 0x20 12) 5) = true ∧
      Instr.wf (.report p (msg 0x30 528)) = true) ∧
    Instr.wf (.grant (msg 0x12 8)) = true ∧ Instr.wf (.timeRsp (msg 0x21 28)) = true ∧ Instr.wf (.plan (msg 0x31 20)) = true ∧
    Instr.wf (.setpt (msg 0x40 28)) = true ∧ Instr.wf (.halt (msg 0x41 8)) = true := by
  decide +kernel

theorem wit_MembersJoinTheTree :
    (Arrives root (kidPort true) 0x11 (msg 0x11 16) (5, 1) ∧ (msg 0x11 16).body.length = 16 ∧ root.live 19 = true ∧
      root.cst.joined = true ∧ root.role = 1 ∧ bodyNat (msg 0x11 16).body 6 1 ≤ 11 ∧ root.countAll + 1 ≤ 2048 ∧
      (root.kid 0).joined = true ∧ (root.kid 1).joined = false) ∧
    (let s : State := { root with cst := { root.cst with kids := [(0, { Child.reset with joined := true, members := 2047 })] } }
     Arrives s (kidPort false) 0x11 (msg 0x11 16) (5, 1) ∧
       2048 < ((s.took (kidPort false) (5, 1)).setKid 0 (s.kid 0)).countAll + 1) ∧
    (Arrives orphan (kidPort false) 0x11 (msg 0x11 16) (5, 1) ∧ orphan.cst.joined = false) ∧
    (let body : List Byte := [0x11, 0, 5, 0, 1, 0, 12, 0, 0, 0, 0, 0, 0, 0, 0, 0]
     Arrives member (kidPort false) 0x11 ⟨true, body, crcOf body⟩ (5, 1) ∧ member.cst.joined = true ∧ member.role ≠ 1 ∧
       11 < bodyNat body 6 1 ∧ Arrives member (kidPort false) 0x11 (msg 0x11 16) (5, 1)) := by
  decide +kernel

theorem wit_MembersJoinTheTree_grant :
    (orphan.live 19 = true ∧ orphan.role = 2 ∧ orphan.cst.refused = false ∧ orphan.portUp 0 = true ∧ 2 ≤ orphan.cst.good ∧
      Arrives orphan 0 0x12 (msg 0x12 8) (5, 1) ∧ bodyNat (msg 0x12 8).body 7 1 = 0 ∧ (msg 0x12 8).body.length = 8 ∧
      Arrives member 0 0x12 (msg 0x12 8) (5, 1) ∧ member.live 19 = true) ∧
    (let body : List Byte := [0x12, 0, 5, 0, 1, 0, 1, 2]
     Arrives orphan 0 0x12 ⟨true, body, crcOf body⟩ (5, 1) ∧ bodyNat body 7 1 ≠ 0) ∧
    (({ orphan with cst := { orphan.cst with good := 0, asked := true } } : State).cst.asked = true ∧
      orphan.cst.asked = false ∧ ({ orphan with cst := { orphan.cst with good := 1 } } : State).cst.good < 2) ∧
    Taken pcie Reg.CST_CMD orphan ∧ root.role ≠ 2 := by
  unfold Taken; decide +kernel

theorem wit_PlansAreReducedAndPassedDown :
    (up.live 18 = true ∧ (up.kid 0).joined = false ∧ (up.kid 1).joined = false ∧
      Instr.wf (.planCycle [] 0) = true ∧ up.exposing = none ∧ exposing.exposing = some 5) ∧
    (let k : Child := { Child.reset with joined := true }
     let s : State := { root with cst := { root.cst with kids := [(0, k), (1, k)] } }
     s.live 18 = true ∧ (s.kid 0).joined = true ∧ (s.kid 1).joined = true ∧ s.kids.all Child.got = false) ∧
    (let k : Child := { Child.reset with joined := true, got := true }
     let s : State := { root with cst := { root.cst with kids := [(0, k)] }, gov := { Gov.reset with waiting := true } }
     s.live 18 = true ∧ s.gov.waiting = true ∧ s.kids.all Child.got = true ∧ root.gov.waiting = false) ∧
    (member.role = 2 ∧ member.cst.joined = true ∧ Arrives member 0 0x31 (msg 0x31 20) (5, 1) ∧ member.live 19 = true ∧
      (msg 0x31 20).body.length = 20 ∧ Arrives orphan 0 0x31 (msg 0x31 20) (5, 1) ∧ orphan.cst.joined = false) ∧
    (orphan.conductor = false ∧
      (let m (i : Nat) : Nat := if i = 128 then 100 else (List.replicate 128 100).getD i noLimit
       (∀ i < 129, min noLimit (m 0) ≤ m i) ∧ roomFor ((0 + 1) * 2 ^ 16 - 0) 0 (min noLimit (m 0)) = true)) := by
  decide +kernel

/-- A body with its own check is good. -/
theorem crcGood_crcOf (body : List Byte) : crcGood body (crcOf body) = true := by
  simp [crcGood, crcOf, crc32]

theorem wit_PlansAreReducedAndPassedDown_report :
    (msg 0x30 528).body.length = 528 ∧ root.live 19 = true ∧ root.conductor = true ∧ (root.kid 0).joined = true ∧
    (root.kid 0).lost = false ∧ (bodyNat (msg 0x30 528).body 14 1).testBit 1 = false ∧
    (root.kid (kidPort true - 1)).joined = false ∧
    (∀ port, Arrives root (kidPort port) 0x30 (msg 0x30 528) (5, 1)) ∧
    (let body := (msg 0x30 528).body.set 14 2
     Arrives root (kidPort false) 0x30 ⟨true, body, crcOf body⟩ (5, 1) ∧ (bodyNat body 14 1).testBit 1 = true) :=
  ⟨by decide +kernel, by decide +kernel, by decide +kernel, by decide +kernel, by decide +kernel, by decide +kernel,
    by decide +kernel,
    fun port => ⟨by revert port; decide +kernel, by revert port; decide +kernel, crcGood_crcOf _, rfl,
      by revert port; decide +kernel⟩,
    ⟨by decide +kernel, by decide +kernel, crcGood_crcOf _, rfl, by decide +kernel⟩, by decide +kernel⟩

theorem wit_MembersKeepTheTimeOfTheirParent :
    (member.live 19 = true ∧ member.role = 2 ∧ member.portUp 0 = true ∧ up.live 19 = true ∧ up.role ≠ 2) ∧
    (Arrives root (kidPort false) 0x20 (msg 0x20 12) (5, 1) ∧ root.cst.joined = true ∧ (msg 0x20 12).body.length = 12 ∧
      Arrives orphan (kidPort false) 0x20 (msg 0x20 12) (5, 1) ∧ orphan.cst.joined = false) ∧
    (let s : State := { member with cst := { member.cst with t1 := some 0 } }
     Arrives s 0 0x21 (msg 0x21 28) (5, 1) ∧ (msg 0x21 28).body.length = 28 ∧ bodyNat (msg 0x21 28).body 4 8 = 0 ∧
       s.cst.joined = true ∧ member.cst.t1 ≠ some 0 ∧ Arrives member 0 0x21 (msg 0x21 28) (5, 1)) ∧
    (let s : State := { orphan with cst := { orphan.cst with t1 := some 0 } }
     Arrives s 0 0x21 (msg 0x21 28) (5, 1) ∧ s.cst.joined = false) := by
  decide +kernel

theorem wit_HaltsLossesAndTreeSettings :
    (orphan.live 19 = true ∧ orphan.role = 2 ∧ orphan.cst.joined = false ∧
      Arrives orphan 0 0x40 (msg 0x40 28) (5, 1) ∧ Arrives orphan 0 0x41 (msg 0x41 8) (5, 1) ∧ member.live 19 = true ∧
      member.role = 2 ∧ member.cst.joined = true ∧ Arrives member 0 0x40 (msg 0x40 28) (5, 1) ∧
      Arrives member 0 0x41 (msg 0x41 8) (5, 1) ∧ (msg 0x40 28).body.length = 28 ∧ (msg 0x41 8).body.length = 8 ∧
      bodyNat (msg 0x41 8).body 4 1 ≠ 4) ∧
    (let body : List Byte := [0x41, 0, 5, 0, 4, 0, 0, 0]
     Arrives member 0 0x41 ⟨true, body, crcOf body⟩ (5, 1) ∧ bodyNat body 4 1 = 4) := by
  decide +kernel

theorem wit_HaltsLossesAndTreeSettings_ports :
    (member.portUsed 0 = true ∧ member.cst.locks.testBit 0 = true ∧ member.cst.locks.testBit (otherLane 0) = true ∧
      member.cst.locks.testBit 4 = false ∧ member.portLocked 0 = true ∧ up.portUsed 0 = false) ∧
    (let s : State := { member with cst := { member.cst with locks := 1 } }
     s.cst.locks.testBit 0 = true ∧ s.cst.locks.testBit (otherLane 0) = false ∧ s.cst.locks.testBit 1 = false ∧
       s.portLocked 0 = true) ∧
    (let s : State := { up with cst := { Cst.reset with locks := 1 } }
     s.live 19 = true ∧ s.portUsed 0 = false ∧ s.cst.locks.testBit 0 = true ∧ s.portLocked 0 = true ∧
       up.cst.locks.testBit 0 = false ∧ up.portLocked 0 = false) ∧
    (root.live 19 = true ∧ root.portUsed (kidPort false) = true ∧ root.portLocked (kidPort false) = true) ∧
    (let s : State := { root with cst := { root.cst with kids := [(0, { Child.reset with joined := true, missed := 4 })] } }
     (s.kid 0).joined = true ∧ 4 ≤ (s.kid 0).missed) ∧
    (({ member with cst := { member.cst with planMiss := 4 } } : State).cst.planMiss = 4 ∧ member.cst.planMiss < 4) ∧
    (Taken pcie (Reg.GOV_CTL + 4 * (0 : BitVec 2).toNat) up ∧ Taken pcie (Reg.GOV_CTL + 4 * (1 : BitVec 2).toNat) up ∧
      Taken pcie (Reg.GOV_CTL + 4 * (2 : BitVec 2).toNat) up ∧ 16 ≤ fld 0x160000 16 5 ∧ fld 0x160000 16 5 ≤ 22 ∧
      up.running = false ∧ up.gen.st = 0) ∧
    (Taken pcie Reg.CST_CFG up ∧ fld 0x31 0 2 = 1 ∧ fld 0x31 4 3 = 3 ∧ fld 0x31 0 2 ≠ up.role ∧ fld 0x40 0 2 = up.role ∧
      fld 0x40 4 3 = 4) ∧
    (Taken pcie Reg.CST_CMD up ∧
      (let w : Waiting := ⟨[], [], none⟩
       let s : State := { up with results := [(Reg.CST_SNAP_STAT, w)] }
       s.live 19 = true ∧ w.ctx = none ∧
         (s.results.find? fun p => p.1 == Reg.CST_SNAP_STAT) = some (Reg.CST_SNAP_STAT, w))) := by
  unfold Taken; decide +kernel

/-- An OPEN record of context 5, in a ring that holds it. -/
def openRec : Rec := ⟨0, 1, 0, 0, 5, 0, 0, 7, 0, 0, 0, 0, 0, 0, 0, false, none, 0, 0, false⟩

def owing (r : Rec) : State := { withJob 6 with ledger := ⟨[r], [], [], 1, none⟩ }

theorem wit_TopUpsTakeTheirRecords :
    (let s := owing openRec
     Taken pcie Reg.LDG_CMD s ∧ s.ledger.job = none ∧ s.givesRecords 5 = true ∧ (s.ctx 5).side.topup = false ∧
       (s.ctx 6).st = 0 ∧ s.loadingAny = false ∧ (s.ctx 5).side.genMax < 15 ∧ s.openOnly 5 ≠ [] ∧
       s.givesRecords 6 = false) ∧
    (let x : Ctx := { job 6 with side := { LdgSide.reset with genMax := 15 } }
     let s : State := { up with ctxs := [(5, x)] }
     s.givesRecords 5 = true ∧ s.loadingAny = false ∧ 15 ≤ (s.ctx 5).side.genMax) ∧
    ((withJob 6).givesRecords 5 = true ∧ (withJob 6).openOnly 5 = []) ∧
    (let j : LdgJob := ⟨1, 5, 6, [0], 1⟩
     let s : State := { owing openRec with ledger := ⟨[openRec], [], [], 1, some j⟩ }
     s.live 20 = true ∧ s.ledger.job = some j ∧ j.op = 1 ∧ (s.ctx j.target).side.topup = false ∧
       Taken pcie Reg.LDG_CMD s ∧ s.ledger.job ≠ none) ∧
    (let y : Ctx := { job 1 with side := { LdgSide.reset with topup := true } }
     let j : LdgJob := ⟨1, 5, 6, [0], 1⟩
     let s : State := { up with ctxs := [(5, job 6), (6, y)], ledger := ⟨[openRec], [], [], 1, some j⟩ }
     s.live 20 = true ∧ s.ledger.job = some j ∧ (s.ctx j.target).side.topup = true) ∧
    (up.live 20 = true ∧ up.ledger.job = none) := by
  unfold Taken; decide +kernel

theorem wit_AdoptionsAndHeldRecords :
    (let s : State := { owing openRec with ctxs := [(5, job 6), (6, job 2)] }
     Taken pcie Reg.LDG_CMD s ∧ s.ledger.job = none ∧ s.givesRecords 5 = true ∧
       (s.ledger.recs.any fun r => r.ctx == 5 && r.st == 3) = false ∧ (s.ctx 6).st = 2 ∧
       ((s.ctx 6).d.bands != (s.ctx 5).d.bands) = false ∧ (s.ctx 7).st ≠ 2) ∧
    (let j : LdgJob := ⟨2, 5, 6, [0], 1⟩
     let s : State := { owing openRec with ledger := ⟨[openRec], [], [], 1, some j⟩ }
     s.live 20 = true ∧ s.ledger.job = some j ∧ j.op = 2 ∧ Taken pcie Reg.LDG_CMD s) ∧
    (let r : Rec := { openRec with st := 2, cause := 2 }
     let s := owing r
     Taken pcie Reg.LDG_CMD s ∧ s.inRing r = true ∧ sourceData r.cause = false ∧
       (s.ledger.recs.find? fun r => r.id == (s.reg Reg.LDG_ARG).toNat && s.inRing r) = some r ∧
       sourceData 4 = true ∧ (openRec.st ≠ 2)) ∧
    (Taken pcie Reg.LDG_TAIL (owing openRec) ∧ idDiff (owing openRec).ldgTail (1 : Word).toNat = 1 ∧
      idDiff (owing openRec).ldgTail (owing openRec).ledger.head = 1 ∧
      ((owing openRec).ledger.recs.any fun r => r.st != 4 && r.st != 5) = true ∧
      ((owing { openRec with st := 4 }).ledger.recs.any fun r => r.st != 4 && r.st != 5) = false ∧
      idDiff up.ldgTail up.ledger.head < idDiff up.ldgTail (1 : Word).toNat) ∧
    (let s : State := { owing openRec with ctxs := [(5, { job 6 with side := { LdgSide.reset with adopting := true } })] }
     (s.ctx 5).side.adopting = true ∧ s.holdsOpen 5 = true ∧ s.holdsOpen 6 = false) ∧
    (let s : State := { up with ctxs := [(127, { job 2 with side := { LdgSide.reset with adopting := true } })] }
     (127 : Nat) < 128 ∧ (s.ctx 127).side.adopting = true ∧ s.holdsOpen 127 = false) ∧
    (Taken pcie Reg.LDG_CMD up ∧ up.ledger.job = none ∧ up.givesRecords 5 = false ∧ up.live 20 = true ∧
      (up.ledger.job.any fun j => j.op == 2 || j.op == 3) = false ∧
      (up.ledger.recs.find? fun r => r.id == (up.reg Reg.LDG_ARG).toNat && up.inRing r) = none ∧
      ((owing openRec).ledger.recs.find? fun r => r.id == ((owing openRec).reg Reg.LDG_ARG).toNat && (owing openRec).inRing r)
        = some openRec) ∧
    (let s := owing { openRec with st := 4 }
     Taken pcie Reg.LDG_TAIL s ∧ idDiff s.ldgTail (1 : Word).toNat ≤ idDiff s.ldgTail s.ledger.head) ∧
    ((owing openRec).ldgTail ≠ (owing openRec).ledger.head ∧ (withJob 4).running = true ∧
      Taken pcie (Reg.LDG_BASE_LO + 4 * (2 : BitVec 2).toNat) (withJob 4)) ∧
    (Taken pcie (Reg.LDG_BASE_LO + 4 * (0 : BitVec 2).toNat) up ∧ Taken pcie (Reg.LDG_BASE_LO + 4 * (2 : BitVec 2).toNat) up ∧
      up.ldgTail = up.ledger.head ∧ up.running = false ∧ fld 0x000C0400 16 5 = 12 ∧ 1024 ≤ fld 0x000C0400 0 16 ∧
      fld 0x000C0400 0 16 ≤ 2 ^ 11 ∧ 2 ^ 11 < fld 0x000C0801 0 16) := by
  unfold Taken; decide +kernel

/-- The running device with a double-word of configuration space. -/
def cfgWith (dw : Nat) (v : Word) : State := { up with link := { up.link with cfg := (dw, v) :: up.link.cfg } }

theorem wit_AdoptionsAndHeldRecords_early :
    (let j : LdgJob := ⟨2, 5, 6, [0], 1⟩
     let s : State := { owing openRec with ledger := ⟨[openRec], [], [], 1, some j⟩ }
     s.ledger.job = some j ∧ j.op = 2 ∧ j.src = 5 ∧ (s.ledger.job.any fun k => k.op == 2 && k.src == 6) = false) ∧
    (let j : LdgJob := ⟨3, 5, 6, [0], 1⟩
     let s : State := { owing openRec with ledger := ⟨[openRec], [], [], 1, some j⟩ }
     s.live 20 = true ∧ s.ledger.job = some j ∧ j.op = 3) := by
  decide +kernel

theorem wit_ThePcieFunctionAnswers :
    (up.live 2 = true ∧ up.mainUp = true ∧ up.memOn = true ∧ deaf.memOn = false ∧ deaf.live 2 = true ∧
      (1023 : BitVec 10).toNat ∉ [Cfg.command, Cfg.pmcsr, Cfg.msix, Cfg.devCtl] ∧
      (0x3FFC : BitVec 14).toNat % 4 = 0 ∧ (0x3FFC : BitVec 14).toNat + 4 * [(0 : Word)].length ≤ 2 ^ 14) ∧
    (up.rf Reg.CLK_PWR 0 2 ≠ 2 ∧ up.bar2Wait = [] ∧ (reg Reg.CLK_PWR 2).live 2 = true ∧ (reg Reg.CLK_PWR 2).mainUp = true ∧
      (reg Reg.CLK_PWR 2).memOn = true ∧ (reg Reg.CLK_PWR 2).rf Reg.CLK_PWR 0 2 = 2 ∧
      ({ up with bar2Wait := [.write 0 [some 1]] } : State).bar2Wait ≠ [] ∧ up.sram.zeroed = true ∧
      (let s : State := { up with sram := Sram.reset }
       s.live 2 = true ∧ s.mainUp = true ∧ s.memOn = true ∧ s.sram.zeroed = false) ∧ jtagDrives up.tap = false ∧
      (0xFFFFFFFF : BitVec 32).toNat + [some (0 : Byte)].length ≤ 2 ^ 32) ∧
    (wbit ((cfgWith 70 0x100).cfg Cfg.aerControl) 8 = true ∧ wbit ((cfgWith 70 0).cfg Cfg.aerControl) 8 = false) ∧
    (let s : State := { up with dram := { up.dram with written := [(0, 1)] } }
     s.dram.never 0 = false ∧ s.dram.unknown 0 = false ∧ s.dram.poison 0 = 0 ∧ s.dram.lineErr 0 = [] ∧
       ((s.dramReadLines 9 0 1).1.all LineRead.usable) = true) ∧
    (Taken pcie Reg.HOST_WIN up ∧ fld 28 0 5 ≤ 28 ∧ 28 < fld 29 0 5 ∧ (List.replicate 4 (0 : Word)).length = 4) := by
  unfold Taken; decide +kernel

/-- A ring in a state, on a device with 16 slots in ring 63. -/
def ringed (g : Ring) : State :=
  { up.setReg (Reg.RING_BASE_LO + 32 * 63 + 8) 0x00040000 with rings := [(63, g)] }

def ring0 : Ring := ⟨2, false, 0, 0, 0, 0, false, 0, 0, [], 0, [], false, 0⟩

theorem wit_FunctionResetsAndPowerStates :
    up.live 2 = true ∧ (1 : BitVec 3).toNat < 3 ∧ 3 ≤ (5 : BitVec 3).toNat ∧ (16 : BitVec 5).toNat ∈ [1, 2, 4, 8, 16] ∧
    ((ringed ring0).ring 63).st = 2 ∧ (up.ring 0).st = 0 ∧ ((ringed { ring0 with st := 5 }).ring 63).st = 5 ∧
    ((ringed { ring0 with stopReq := true }).ring 63).stopReq = true ∧ (up.ring 63).stopReq = false := by
  decide +kernel

theorem wit_RingsStartStopAndRing :
    (Taken pcie (Reg.RING_BASE_LO + 32 * (63 : BitVec 6).toNat + 4 * (0 : BitVec 2).toNat) up ∧
      Taken pcie (Reg.RING_BASE_LO + 32 * (63 : BitVec 6).toNat + 4 * (2 : BitVec 2).toNat) up ∧ (up.ring 63).free = true ∧
      (let t := up.writeRw (Reg.RING_BASE_LO + 32 * 63 + 8) 0x80100000
       arrayTooHigh (t.ringBase 63) (fld (t.ringCfg 63) 16 5) = false ∧ fld (t.ringCfg 63) 16 5 = 16) ∧
      (ring0.free = false ∧ ({ ring0 with st := 1 } : Ring).free = true)) ∧
    (Taken pcie (Reg.RING_BASE_LO + 32 * (63 : BitVec 6).toNat + 0x10) (ringed ring0) ∧
      (15 : BitVec 16).toNat < 2 ^ fld ((ringed ring0).ringCfg 63) 16 5 ∧
      2 ^ fld ((ringed ring0).ringCfg 63) 16 5 ≤ (16 : BitVec 16).toNat ∧
      Taken pcie (Reg.RING_BASE_LO + 32 * (63 : BitVec 6).toNat + 0x0C) (ringed ring0) ∧
      Taken pcie (Reg.RING_BASE_LO + 32 * (63 : BitVec 6).toNat + 0x18) (ringed ring0)) ∧
    (∀ n < 6, ((ringed { ring0 with st := n }).ring 63).st = n) ∧
    ((ringed { ring0 with bursts := [⟨0, [⟨0, 64, []⟩], false⟩] }).ring 63).bursts ≠ [] ∧
    (let w : Tlp := .hostWrite 0 64 [1] false false
     let r : Tlp := .hostRead 0 64 64 false false
     let s : State := { up with link := { up.link with held := [w] } }
     let t : State := { deaf with link := { deaf.link with held := [w] } }
     w.isRead = false ∧ r.isRead = true ∧ up.link.held = [] ∧ up.mayIssue w = true ∧ up.mayIssue r = true ∧
       deaf.mayIssue w = false ∧ ({ up with sram := Sram.reset } : State).mayIssue r = false ∧ s.link.held = w :: [] ∧
       s.link.held ≠ [] ∧ ({ s with link := { s.link with held := [] } } : State).mayIssue w = true ∧
       t.link.held = w :: [] ∧ ({ t with link := { t.link with held := [] } } : State).mayIssue w = false ∧
       w.isMsix = false) ∧
    (let m : Tlp := .msix 2 0 0
     let s : State := { up with link := { up.link with held := [m], msixEn := true } }
     s.link.held = m :: [] ∧ s.mainUp = true ∧ s.link.msixEn = true ∧ s.msixHeld 2 = true ∧ up.link.msixEn = false ∧
       ({ s with link := { s.link with msixTab := [(11, 0)] } } : State).msixHeld 2 = false) ∧
    (let t (v w : Word) : State := { up with link := { up.link with cfg := [(30, v), (38, w)] } }
     (t 0 0x1000).maxReads = 512 ∧ (t 0x100 0).maxReads = 256 ∧ (t 0 0).maxReads = 32) ∧
    (Taken pcie Reg.DMA_ERR_INFO up ∧ wbit 0x80000000 31 = true ∧ wbit 0 31 = false) := by
  unfold Taken; decide +kernel

/-- A COPY of 64 bytes from DRAM or from the host, a WAIT for the value 1 of ring 0, and a NOP. -/
def copyDesc (dev : Nat) : List Nat := [0x01020000 + dev, 0, 0, 0, 64, 0, 1, 0, 64, 0, 64, 0, 1, 0, 0, 0]

theorem wit_DescriptorsAreFetchedAndChecked :
    (let s := ringed { ring0 with fetch := true }
     s.live 3 = true ∧ (s.ring 63).st = 2 ∧ (s.ring 63).fetch = true ∧ (s.hostHits []).1 = false ∧
       ((spoil s 90).hostHits [⟨90, 0, 0⟩]).1 = true ∧ (((spoil s 90).hostHits [⟨90, 0, 0⟩]).2.ring 63).fetch = true ∧
       Instr.wf (.descriptorFetch 63 false .ok (List.replicate 16 0) []) = true ∧
       Instr.wf (.descriptorFetch 63 false .ok (List.replicate 16 0) [⟨90, 0, 0⟩]) = true ∧
       descCheck 63 [0x03000000, 0, 0, 0, 0, 0, 0, 0, 0, 0, 0, 0, 0, 0, 0, 0] ≠ 0 ∧
       descCheck 63 [0x02000000, 0, 1, 1, 0, 0, 0, 0, 0, 0, 0, 0, 0, 0, 0, 0] = 0 ∧
       waitHolds (s.ring 0).evt 1 = false ∧ waitHolds (s.ring 0).evt 0 = true ∧ (List.replicate 16 (0 : Word)).length = 16 ∧
       descCheck 63 [0, 0, 0, 0, 0, 0, 0, 0, 0, 0, 0, 0, 0, 0, 0, 0] = 0 ∧ Cpl.ok ≠ Cpl.ecrc ∧
       Instr.wf (.descriptorFetch 63 false .ecrc (List.replicate 16 0) []) = true ∧
       Instr.wf (.descriptorFetch 63 true .ecrc (List.replicate 16 0) []) = true ∧ (cfgWith 70 0x100).live 3 = true) ∧
    (let s := ringed { ring0 with st := 3, reread := 2, late := 1 }
     s.live 3 = true ∧ (s.ring 63).st = 3 ∧ (s.ring 63).reread ≠ 0 ∧ (s.ring 63).fetch = false ∧ (s.ring 63).late ≠ 0 ∧
       (s.ring 0).late = 0 ∧ s.sram.zeroed = true ∧
       (let t (v : Word) : State := { s with link := { s.link with cfg := [(1, 0x00100006), (38, v)] } }
        wbit ((t 0).cfg Cfg.devCtl2) 4 = false ∧ ¬ wbit ((t 0x10).cfg Cfg.devCtl2) 4 = false)) ∧
    (({ up with sram := Sram.reset } : State).live 3 = true ∧ ({ up with sram := Sram.reset } : State).sram.zeroed = false) ∧
    ((Tlp.hostWrite 63 0 [1] false false).writesFor 63 = true ∧ (Tlp.hostWrite 0 0 [1] false false).writesFor 63 = false) ∧
    (let g : Ring := { ring0 with desc := copyDesc 0, moved := 64 }
     g.st = 2 ∧ g.fetch = false ∧ dw g.desc 0 24 4 = 1 ∧ copyTotal g.desc ≤ g.moved ∧ g.bursts.isEmpty = true ∧
       g.reread = 0 ∧ g.late = 0) ∧
    (let g : Ring := { ring0 with desc := copyDesc 0, moved := 2, bursts := [⟨0, [⟨0, 2, [1]⟩], false⟩] }
     g.awaits 0 = true ∧ g.awaits 1 = false) ∧
    (let g : Ring := { ring0 with st := 4, desc := [0x02000000, 0, 1] }
     (ringed g).live 3 = true ∧ ((ringed g).ring 63).st = 4 ∧
       waitHolds ((ringed g).ring (dw g.desc 1 0 6)).evt (g.desc.getD 2 0) = false ∧
       waitHolds (({ ringed g with rings := [(0, { ring0 with evt := 1 }), (63, g)] } : State).ring 0).evt (g.desc.getD 2 0)
         = true) := by
  decide +kernel

theorem wit_CopiesMoveInBursts :
    (up.live 3 = true ∧ up.chooseRing 0 = none) ∧
    (let s := ringed { ring0 with desc := copyDesc 0x10000 }
     s.live 3 = true ∧ s.chooseRing 0 = some 63 ∧ (srcSide (s.ring 63).desc).dev = true ∧
       descCheck 63 (s.ring 63).desc = 0 ∧ s.dramOpen = true ∧ (s.dramRead 8 0 64).1 ≠ none) ∧
    (let s := ringed { ring0 with desc := copyDesc 0 }
     s.chooseRing 0 = some 63 ∧ descCheck 63 (copyDesc 0) = 0 ∧ (srcSide (s.ring 63).desc).dev = false ∧
       s.dramOpen = true ∧ s.readsOpen + 1 + 64 ≤ s.maxReads ∧
       (let g := s.ring 63
        let many : List Req := List.replicate 448 ⟨0, 1, []⟩
        let t : State := { s with rings := [(0, { ring0 with bursts := [⟨0, many, false⟩] }), (63, g)] }
        0 < t.readsOpen ∧ t.maxReads < t.readsOpen + 1 + 64)) ∧
    (let b : Burst := ⟨0, [⟨0, 2, [1]⟩, ⟨2, 2, []⟩], false⟩
     let s := ringed { ring0 with desc := copyDesc 0, moved := 4, bursts := [b] }
     s.live 3 = true ∧ (s.ring 63).awaits 2 = true ∧ (s.ring 63).awaits 4 = false ∧ (s.ring 63).bursts = [b] ∧
       b.bad = false ∧ (b.reqs.all fun q => decide (q.len ≤ q.got.length)) = false ∧
       ((⟨0, [⟨0, 1, [1]⟩], false⟩ : Burst).reqs.all fun q => decide (q.len ≤ q.got.length)) = true ∧
       ((dstSide (copyDesc 0)).dev && !s.dramOpen) = false ∧ ({ b with bad := true } : Burst).bad = true) ∧
    (ring0.bursts = [] ∧ ring0.stopReq = false ∧ ({ ring0 with stopReq := true } : Ring).stopReq = true) := by
  decide +kernel

/-! ### Chapters 14 to 16 and the whole block -/

/-- The device with a running stripe. -/
def running : State := withJob 4

/-- The device in the power-up step that waits for the memories. -/
def starting : State :=
  { up with clk := { up.clk with seq := 6, ready := false, mode := 1 }, sram := Sram.reset, dram := Dram.reset }

theorem wit_SparesReplaceRowsAndPages :
    (starting.live 4 = true ∧ starting.live 5 = true ∧ starting.clk.seq = 6 ∧ starting.sram.zeroed = false ∧
      starting.dram.ready = false ∧ up.live 4 = true ∧ up.live 5 = true ∧ up.clk.seq ≠ 6) ∧
    (Taken pcie Reg.DRAM_STAT up ∧ Taken pcie Reg.MEM_REMAP_CMD up ∧ Taken pcie Reg.DRAM_RET_CMD up) ∧
    (fld 0x5F123 12 7 = 95 ∧ 95 < fld 0x60000 12 7 ∧ sget 0 up.sram.used 95 < 64 ∧
      (let s : State := { up with sram := { up.sram with used := [(95, 64)] } }
       64 ≤ sget 0 s.sram.used 95 ∧ s.sram.remap = none)) ∧
    (let s : State := { up with sram := { up.sram with remap := some (95, 4095) } }
     s.live 4 = true ∧ s.sram.remap = some (95, 4095) ∧ s.sram.zeroed = true ∧ Taken pcie Reg.MEM_REMAP_CMD s ∧
       (let t : State := { s with sram := { s.sram with zeroed := false } }
        t.live 4 = true ∧ t.sram.zeroed = false)) ∧
    (let s : State := { up with dram := { up.dram with retUsed := 4096 } }
     4096 ≤ s.dram.retUsed ∧ s.dram.retire = none ∧ up.dram.retUsed < 4096) ∧
    (let s : State := { up with dram := { up.dram with retire := some (2 ^ 23 - 1) } }
     s.live 5 = true ∧ s.dram.retire = some (2 ^ 23 - 1) ∧ Taken pcie Reg.DRAM_RET_CMD s ∧ s.sram.zeroed = true ∧
       ({ s with sram := { s.sram with zeroed := false } } : State).live 5 = true) := by
  unfold Taken; decide +kernel

theorem wit_TheArbiterGrantsByPriorityAndAge :
    (up.live 5 = true ∧ Instr.wf (.arbitration 0x0801 256 false []) = true ∧ up.arb.owner = 0 ∧
      (arbitrate 0 0 false [] up).arb.owner = 0 ∧ (arbitrate 0x0801 0 false [] up).arb.owner ≠ 0 ∧
      (arbitrate 0x0801 0 false [] up).arb.number % up.rf Reg.ARB_CTL 0 7 ≠ 0) ∧
    (let s : State := { up with arb := { up.arb with number := 15 } }
     (arbitrate 0x0801 0 false [] s).arb.number % s.rf Reg.ARB_CTL 0 7 = 0) ∧
    (let s := arbitrate 0x0800 0 false [] up
     s.arb.owner = 12 ∧ (s.arb.input 11).burst ≤ (16 : BitVec 9).toNat ∧ ¬ (s.arb.input 11).burst ≤ (15 : BitVec 9).toNat ∧ (s.arb.input 0).req = false ∧
       Taken pcie (Reg.ARB_REQ0 + 4 * (11 : BitVec 5).toNat) s ∧ (s.arb.input 11).req = true) ∧
    (let m : Dram := { up.dram with written := [(0, 1)], err := [(0, 1)] }
     m.never 0 = false ∧ (m.decide 0).1 = .corrected 1 ∧ up.dram.never 0 = true) ∧
    Taken pcie (Reg.ARB_REQ0 + 4 * (11 : BitVec 5).toNat) up ∧ (up.arb.input 11).req = false ∧
    ([none, some (5 : Byte)].any Option.isSome) = true ∧
    Taken pcie (Reg.ARB_REQ0 + 4 * (12 : BitVec 5).toNat) up ∧ Taken pcie (Reg.ARB_REQ0 + 4 * (15 : BitVec 5).toNat) up ∧
    Taken pcie Reg.ARB_CTL up ∧ fld 2 0 7 = 2 ∧ fld 64 0 7 = 64 ∧ 64 < fld 65 0 7 ∧ fld 1 0 7 < 2 := by
  unfold Taken; decide +kernel

/-- The device whose first block of DRAM has been written. -/
def wrote : State := { up with dram := { up.dram with written := [(0, 1)] } }

theorem wit_DramKeepsTheBytesOutsideAWrite :
    Memory.wf up.dram.data = true ∧ up.dram.never 0 = true ∧ (List.replicate 64 (some (7 : Byte))).length = 64 ∧
    wrote.dram.never 0 = false ∧ wrote.dram.unknown 0 = false ∧ wrote.dram.lineErr 0 = [] ∧ wrote.dram.poison 0 = 0 ∧
    wrote.live 2 = true ∧ wrote.mainUp = true ∧ wrote.memOn = true ∧ wrote.rings = [] ∧ wrote.ledger.fresh = [] ∧
    wrote.due = [] ∧ wrote.running = false ∧ wrote.clk.ungated = 0 ∧ wrote.testEn = false ∧
    wrote.bar2Wait = [] ∧ wrote.rf Reg.CLK_PWR 0 2 ≠ 2 ∧ wrote.ledger.topping = [] ∧ wrote.link.held = [] ∧
    wrote.sram.zeroed = true := by
  decide +kernel

/-- The device on RC. -/
def onRc : State := { up with clk := { up.clk with active := 0 } }

theorem wit_TripsStartTheFallback :
    (up.svcUp = true ∧ up.monitors up.clk.active .fine = true ∧ up.trips up.clk.active .fine 0 = false ∧
      up.trips up.clk.active .fine 0x7FFF = true ∧ up.clk.fallback = 0 ∧ up.mainUp = true ∧
      onRc.monitors onRc.clk.active .coarse = false ∧ onRc.monitors onRc.clk.active .activity = true) ∧
    (let s : State := { up with clk := { up.clk with fallback := 1 } }
     s.monitors s.clk.active .activity = true ∧ s.trips s.clk.active .activity 0 = true ∧ s.clk.fallback ≠ 0) ∧
    (let s : State := { State.reset with clk := { Clk.reset with rcOk := true } }
     s.svcUp = true ∧ s.mainUp = false ∧ s.clk.fallback = 0 ∧ s.monitors s.clk.active .activity = true ∧
       s.trips s.clk.active .activity 0 = true) ∧
    ((srcNum .xtal != 0 && srcNum .xtal != up.clk.active && TripKind.coarse != .lock && up.monitors (srcNum .xtal) .coarse) =
        true ∧ up.trips (srcNum .xtal) .coarse 1044 = false ∧ up.trips (srcNum .xtal) .coarse 1045 = true ∧
      up.trips (srcNum .xtal) .coarse 1003 = true ∧ (srcNum .rc != 0) = false) ∧
    (up.clk.svcOnly = false ∧
      (let s : State := { up with clk := { up.clk with svcOnly := true } }
       s.svcUp = true ∧ s.clk.fallback = 0 ∧ s.clk.svcOnly = true ∧ s.monitors s.clk.active .activity = true ∧
         s.trips s.clk.active .activity 0 = true)) ∧
    (up.clk.active ≠ 0 ∧ up.clk.rcOk = true ∧ onRc.clk.active = 0 ∧
      (let s : State := { (reg Reg.TEST_CTL 1).setReg Reg.TEST_MON 1 with clk := { up.clk with rcOk := false } }
       s.svcUp = true ∧ s.clk.active ≠ 0 ∧ s.clk.rcOk = false ∧ s.monForced 0 .activity = true) ∧
      ({ up with clk := { up.clk with rcOk := false } } : State).monForced 0 .activity = false) ∧
    (let s : State := { up with clk := { up.clk with rcOk := false, rcStarting := true } }
     s.svcUp = true ∧ s.clk.rcStarting = true ∧ s.clk.rcOk = false) ∧
    (let s : State := { up with clk := { up.clk with fallback := 2 } }
     s.svcUp = true ∧ s.clk.fallback = 2 ∧ s.clk.inReset = false ∧ s.clk.svcOnly = false) ∧
    (let s : State := { up with clk := { up.clk with switching := 0x81, stops := 0x80, goal := 1 } }
     s.clk.switching.testBit 7 = true ∧ s.clk.stops.testBit 7 = true ∧ s.clk.switching.testBit 0 = true ∧
       s.clk.stops.testBit 0 = false ∧ s.clk.switching.testBit 1 = false ∧ s.clk.safe.testBit 1 = false) ∧
    (let s : State := { up with clk := { up.clk with seq := 5, move := 1, moveTo := 1, upSrc := 0 } }
     s.clk.fallback = 0 ∧ s.clk.move ≠ 2 ∧ s.clk.seq = 5) ∧
    (let s : State := { up with clk := { up.clk with switching := 0x80 } }
     s.svcUp = true ∧ s.clk.switching.testBit (7 : BitVec 3).toNat = true ∧
       s.clk.switching.testBit (0 : BitVec 3).toNat = false ∧ maskBit s.clk.switching 7 false = 0 ∧
       maskBit 0x81 7 false ≠ 0) := by
  decide +kernel

theorem wit_SourcesComeUpAndMove :
    (let s : State := { up with clk := { up.clk with rcOk := false, rcStarting := true, xtalOk := false, sysOk := false } }
     s.svcUp = true ∧ s.clk.rcOk = false ∧ s.clk.rcStarting = true ∧ up.clk.rcOk = true) ∧
    (let s : State := { up with clk := { up.clk with xtalOk := false, sysOk := false } }
     s.svcUp = true ∧ s.clk.rcOk = true ∧ s.clk.xtalOk = false ∧ 1004 ≤ (1004 : BitVec 12).toNat % 2 ^ 11 ∧
       (1044 : BitVec 12).toNat % 2 ^ 11 ≤ 1044 ∧ (1003 : BitVec 12).toNat % 2 ^ 11 < 1004 ∧
       1044 < (1045 : BitVec 12).toNat % 2 ^ 11) ∧
    (let s : State := { up with clk := { up.clk with sysOk := false } }
     let passes (n f : Nat) : Bool :=
       decide (2007 ≤ n ∧ n ≤ 2089 ∧ 763 * (sext 16 f).natAbs ≤ 100 * s.rf Reg.CLK_CTL 16 16)
     s.svcUp = true ∧ s.clk.sysOk = false ∧ s.clk.rcOk = true ∧ s.clk.xtalOk = true ∧ passes 2007 0 = true ∧
       passes 2089 13 = true ∧ passes 2089 0xFFF3 = true ∧ passes 2090 0 = false ∧ passes 2006 0 = false ∧
       passes 2048 0x7FFF = false) ∧
    (let s : State := { up with clk := { up.clk with xtalOk := false, sysOk := false, seq := 4, active := 0 } }
     s.svcUp = true ∧ s.clk.seq = 4 ∧ s.clk.xtalOk = false ∧ s.clk.fallback = 0 ∧ up.clk.seq ≠ 4) ∧
    (let s : State := { up with clk := { up.clk with move := 1, moveTo := 0 } }
     s.svcUp = true ∧ s.moveTarget = some 0 ∧ s.mainUp = true ∧ s.clk.fallback = 0 ∧ s.clk.seq ≠ 4 ∧ s.clk.seq ≠ 5 ∧
       0 ≠ s.clk.active) ∧
    (let s : State := { up with clk := { up.clk with move := 1, moveTo := 2 } }
     s.moveTarget = some 2 ∧ 2 = s.clk.active) ∧
    up.moveTarget = none ∧
    (let s : State := { up with clk := { up.clk with move := 3, moveTo := 0 } }
     s.svcUp = true ∧ s.clk.move = 3 ∧ s.clk.switching = 0 ∧ up.clk.move ≠ 3) ∧
    (let s : State := { up with clk := { up.clk with seq := 6, ready := false, mode := 1 } }
     s.svcUp = true ∧ s.clk.seq = 6 ∧ s.sram.zeroed = true ∧ s.dram.ready = true ∧ s.clk.fallback = 0 ∧ s.clk.mode = 1 ∧
       up.clk.seq ≠ 6) := by
  decide +kernel

/-- The device with a force of a monitor armed and the test enable on. -/
def forcing (kind : Word) : State :=
  { (reg Reg.TEST_CTL 1).setReg Reg.TEST_MON kind with clk := { up.clk with xtalOk := false, sysOk := false } }

theorem wit_SourcesComeUpAndMove_forced :
    ((forcing 4).svcUp = true ∧ (forcing 4).clk.rcOk = true ∧ (forcing 4).monForced 1 .coarse = true ∧ up.monForced 1 .coarse = false) ∧
    ((forcing 5).monForced 2 .coarse = true ∧ (forcing 6).monForced 2 .coarse = false ∧ (forcing 6).monForced 2 .fine = true ∧
      (up.monForced 2 .coarse || up.monForced 2 .fine) = false ∧ up.clk.active = 2 ∧ onRc.clk.active ≠ 2 ∧ onRc.clk.active ≠ 1) := by
  decide +kernel

theorem wit_SourcesComeUpAndMove_select :
    (Taken pcie Reg.CLK_CMD up ∧ up.running = false ∧ up.clk.okOf 0 = true ∧ up.clk.okOf 1 = true ∧ up.clk.active = 2 ∧
      up.clk.move = 0 ∧ up.autoTarget = none) ∧
    (Taken pcie Reg.CLK_CMD onRc ∧ onRc.clk.active = 0) ∧
    (let s : State := { up with clk := { up.clk with active := 1, autoHeld := true } }
     Taken pcie Reg.CLK_CMD s ∧ s.clk.okOf 2 = true ∧ s.clk.active ≠ 2 ∧ s.clk.move = 0 ∧ s.running = false ∧
       s.autoTarget = none) ∧
    (let s : State := { reg Reg.CLK_CTL 2 with clk := { up.clk with active := 1 } }
     Taken pcie Reg.CLK_CMD s ∧ s.autoTarget ≠ none) ∧
    Taken pcie Reg.CLK_CMD running ∧ running.running = true := by
  unfold Taken; decide +kernel

theorem wit_ModesGatesAndPowerStates :
    (Taken pcie Reg.CLK_CMD up ∧ up.clk.active ≠ 0 ∧ up.clk.coast = false ∧ up.clk.hold = false ∧ up.clk.mode ≠ 1 ∧
      up.clk.mode ≠ 2 ∧ ({ up with clk := { up.clk with mode := 2 } } : State).clk.mode = 2) ∧
    (let s : State := { up with clk := { up.clk with hold := true } }
     Taken pcie Reg.CLK_CMD s ∧ s.clk.hold = true ∧ s.clk.svcOnly = false ∧ s.fatalBit = false) ∧
    (Taken pcie Reg.CLK_PWR up ∧ fld 2 0 2 ≠ 3 ∧ fld 2 0 2 ≠ 0 ∧ up.running = false ∧ Taken pcie Reg.CLK_PWR running ∧
      running.running = true) ∧
    ((∀ n < 4, Taken pcie (Reg.CLK_GATE + 4 * (BitVec.ofNat 2 n).toNat) running) ∧
      (let s : State := { (running.setReg Reg.CLK_GATE 0xFFFFFFFF).setReg (Reg.CLK_GATE + 4) 0xFFFFFFFF with pins := up.pins }
       ∃ b < 13, wbit s.gateSet b = true ∧ wbit (s.writeRw (Reg.CLK_GATE + 4 * 0) 0).gateSet b = false)) ∧
    (Taken pcie Reg.CLK_SWITCH up ∧ fld 0xFF00 8 8 ≠ 0 ∧ up.clk.switching = 0 ∧ Taken pcie Reg.CLK_CTL up ∧
      fld 0x00320000 16 16 = 50 ∧ fld 0x03E80000 16 16 = 1000 ∧ 1000 < fld 0x03E90000 16 16) := by
  unfold Taken; decide +kernel

theorem wit_ResetsSuppliesAndSensors :
    (up.clk.seq ≠ 9 ∧ up.pins.perstN = true ∧ up.pins.vin12 = true ∧ up.pins.darkN = true ∧ up.pins.shutdown = false ∧
      up.pins.armed = false ∧ Taken spi Reg.CLK_SVC up ∧ Taken pcie Reg.CLK_SVC up ∧ spi.party = .spi) ∧
    (let s : State := { up with pins := { up.pins with perstN := false, darkN := false, vin12 := false, armed := true } }
     s.pins.perstN = false ∧ s.pins.darkN = false ∧ s.pins.vin12 = false ∧ s.pins.armed = true) ∧
    (let s : State := { up with pins := { up.pins with aux33 := true, shutdown := true, vin12 := false } }
     s.pins.aux33 = true ∧ s.pins.shutdown = true ∧ s.pins.vin12 = false ∧ up.pins.aux33 = false) ∧
    (125 ≤ (125 : Byte).toNat ∧ 100 ≤ (100 : Byte).toNat ∧ (100 : Byte).toNat < 125 ∧ (95 : Byte).toNat ≤ 95 ∧
      (99 : Byte).toNat < 100) := by
  unfold Taken; decide +kernel

theorem wit_SvcWarmKeepsDram :
    spi.party = .spi ∧ Taken spi Reg.CLK_SVC wrote ∧ wrote.clk.seq ≠ 9 ∧
    (let s : State := { up with dram := { up.dram with pois := [(1, 1)] } }
     s.dram.poison 1 ≠ 0 ∧ s.dram.poison 0 = 0 ∧ ∀ p ∈ s.dram.pois, p.1 ≠ 0) := by
  unfold Taken; decide +kernel

theorem wit_BrownoutHoldsTheDeviceUntilPowerOn :
    (up.due = [] ∧ up.running = false ∧ up.clk.ungated = 0 ∧ up.testEn = false ∧ up.bar2Wait = [] ∧ up.pins.vin12 = true ∧
      up.clk.hold = false ∧ up.ledger.topping = [] ∧ up.link.held = []) ∧
    (let s : State := { State.reset with
        clk := { Clk.reset with seq := 9 }, pins := { Pins.reset with vin12 := false, armed := true, aux33 := true } }
     s.clk.inReset = true ∧ s.clk.seq = 9 ∧ s.pending = [] ∧ s.pins.armed = true ∧ s.pins.aux33 = true ∧ s.due = [] ∧
       s.running = false ∧ s.clk.ungated = 0 ∧ s.testEn = false ∧ s.ledger.topping = [] ∧ s.link.held = []) ∧
    (let s : State := { up with pins := { up.pins with aux33 := true } }
     s.pins.aux33 = true ∧ s.pins.vin12 = true ∧ up.pins.aux33 = false ∧ up.rings = [] ∧ up.ledger.fresh = []) ∧
    (let s := (brownoutAct up).settle
     s.clk.inReset = true ∧ s.clk.seq = 9 ∧ s.pending = [] ∧ Instr.powerOn ≠ Instr.sramZeroed) := by
  decide +kernel

/-- The device with the test enable. -/
def testing : State := { reg Reg.TEST_CTL 1 with clk := { up.clk with mode := 2 } }

theorem wit_TheTestEnableGuardsTheTestBlock :
    (Taken pcie Reg.TEST_CTL up ∧ Taken spi Reg.TEST_CTL up ∧ up.testEn = false ∧ Taken spi Reg.TEST_CTL testing ∧
      testing.testEn = true ∧ wbit 1 0 = true ∧ wbit 0 0 = false) ∧
    (Taken pcie (0x1000 * (0 : PageNo).toNat + 0x18) testing ∧ 31 < (evtTable (0 : PageNo).toNat).length + 31 ∧
      Taken pcie (0x1000 * (20 : PageNo).toNat + 0x18) up) ∧
    (∀ off ∈ [Reg.TEST_XING_CFG, Reg.TEST_DRAM_DLY, Reg.TEST_MET_CTL, Reg.TEST_MET_STEP, Reg.TEST_LANE_CNT, Reg.TEST_SIG,
        Reg.TEST_MON, Reg.TEST_MEM_CMD, Reg.TEST_XING_SEL],
      Taken pcie off up ∧ Taken spi off up ∧ 0x6040 ≤ off ∧ off < 0x7000 ∧ off ≠ Reg.TEST_CTL ∧ off % 4 = 0 ∧
        (regRow off).isSome = true) := by
  unfold Taken; decide +kernel

theorem wit_PerturbationsAreArmedAndRun :
    (testing.testEn = true ∧ (∀ off ∈ [Reg.TEST_XING_CFG, Reg.TEST_DRAM_DLY, Reg.TEST_MET_CTL, Reg.TEST_MET_STEP,
        Reg.TEST_LANE_CNT, Reg.TEST_SIG, Reg.TEST_MON, Reg.TEST_MEM_CMD], Taken pcie off testing) ∧
      fld 0x03000000 24 2 = 3 ∧ fld 0x02000000 24 2 ≠ 3 ∧ fld 0xFFFF0000 0 16 = 0 ∧
      (0x000000FF : Word) &&& 0xFFFFFF00 = 0 ∧ (0x00000100 : Word) &&& 0xFFFFFF00 ≠ 0 ∧
      testing.monRuns (fld 7 0 3) = true ∧ testing.test.memOp = 0 ∧
      ({ testing with clk := { testing.clk with rcOk := false } } : State).monRuns (fld 2 0 3) = false) ∧
    (let mem (op : Nat) (a m : Word) : State := { testing with test := { testing.test with memOp := op, memAddr := a, memMask := m } }
     let held (op : Nat) (a m : Word) : State := { mem op a m with arb := { testing.arb with owner := 12 } }
     (∀ op < 4, (mem op 0 0).mainUp = true ∧ (mem op 0 0).test.memOp = op ∧ (mem op 0 0).arb.owner ≠ 12) ∧
       (mem 1 0 0).sram.zeroed = true ∧ ({ mem 1 0 0 with sram := Sram.reset } : State).sram.zeroed = false ∧
       fld (mem 1 0x5F000000 0x1001).test.memAddr 24 7 = 95 ∧
       ((List.range 13).filter fun i => (fld (mem 1 0x5F000000 0x1001).test.memMask 0 13).testBit i).length = 2 ∧
       ((List.range 13).filter fun i => (fld (mem 1 0 7).test.memMask 0 13).testBit i).length = 3 ∧
       95 < fld (mem 1 0x60000000 0).test.memAddr 24 7 ∧
       (fld (held 2 0 0x0001A047).test.memMask 0 7 = 71 ∧ fld (held 2 0 0x0001A047).test.memMask 13 3 = 5 ∧
         fld (held 2 0 0x0001A047).test.memMask 16 8 ≠ 0 ∧ (held 2 0 0x0001A047).arb.owner = 12 ∧
         (held 3 0 0).arb.owner = 12 ∧ (held 2 0 0).sram.zeroed = true ∧ (held 3 0 0).sram.zeroed = true ∧ 71 < fld (held 2 0 0x00012048).test.memMask 0 7) ∧
       testing.dram.never 0 = true ∧ wrote.dram.never 0 = false) := by
  unfold Taken; decide +kernel

theorem wit_PerturbationsAreArmedAndRun_jtag :
    (0 ∈ [(0 : Byte), 3, 4, 5, 6] ∧ 7 ∉ [(0 : Byte), 3, 4, 5, 6] ∧ up.svcUp = true ∧ up.mainUp = true ∧
      State.reset.svcUp = true ∧ State.reset.mainUp = false) ∧
    (up.bsr.length = 171 ∧ (List.replicate 171 true).length = 171 ∧ up.tap ∉ [(0 : Byte), 2, 3, 4] ∧
      up.tap ∉ [(0 : Byte), 3, 4, 5, 6]) ∧
    (∀ op ∈ [(0 : Byte), 2, 3, 4, 5, 6], ({ up with tap := op } : State).tap = op ∧ op ≠ up.tap) ∧
    (some [true] ≠ (none : Option (List Bool))) ∧
    (∀ b ∈ [Ball.sdo, .alertN, .tripN, .thermN, .beamTx 95, .auxTx 15, .pcieTx 15],
      b.observes = false ∧ boundaryCells.idxOf b < up.bsr.length) := by
  decide +kernel

theorem wit_LoggedAccessesAreCountedAndRaised :
    (up.mainUp = true ∧ up.judge pcie 0x15000 = .logged 2 ∧ up.judge ⟨.pcie, false, 0, .alone⟩ 0 = .logged 0 ∧
      up.judge ⟨.pcie, true, 1, .alone⟩ 0 = .logged 1 ∧ (∀ v, pcie.tie ≠ .both v) ∧ State.reset.mainUp = false) ∧
    (up.memOn = true ∧ (⟨.pcie, false, 0, .alone⟩ : Acc).single = false ∧ (⟨.pcie, true, 3, .alone⟩ : Acc).low ≠ 0 ∧
      ([] : List TabHit).all TabHit.readable = true) ∧
    up.reaches .spi ((0x1000 : BitVec 24).toNat / 0x1000) = true :=
  ⟨⟨by decide +kernel, by decide +kernel, by decide +kernel, by decide +kernel, fun _ => Tie.noConfusion, by decide +kernel⟩,
    by decide +kernel, by decide +kernel⟩

theorem wit_BucketsRaiseAtTheirThreshold :
    (let b : BucketSel := .lane 0
     b.ok = true ∧ up.live (bucketPage b) = true ∧ Taken pcie (bucketCfg b) up ∧ (up.bucket b).armed = true ∧
       (up.setReg (bucketCfg b) 0).rf (bucketCfg b) 0 16 = 0 ∧ (up.setReg (bucketCfg b) 0x00010001).rf (bucketCfg b) 0 16 ≠ 0 ∧
       (let s := up.setReg (bucketCfg b) 0x00010001
        (s.bucket b).armed && decide (s.rf (bucketCfg b) 16 16 ≠ 0) &&
          decide (min ((s.bucket b).count + 1) 65535 = s.rf (bucketCfg b) 16 16)) = true) ∧
    (let b : BucketSel := .lane 0
     let s := up.setReg (bucketCfg b) 0x00010001
     let s1 := s.bucketAdd b Ev.BLN_LANE_BURST 0 none
     b.ok = true ∧ s1.live (bucketPage b) = true ∧ s1.rf (bucketCfg b) 0 16 ≠ 0 ∧
       s1.rf (bucketCfg b) 16 16 = s.rf (bucketCfg b) 16 16) := by
  unfold Taken; decide +kernel

theorem wit_StepRunsTheFrontCommand :
    up.pending = [] ∧ step { up with pending := [.sramZeroed] } = exec .sramZeroed up := by
  exact ⟨rfl, rfl⟩

theorem wit_QuietStatesKeepAllElse :
    up.due = [] ∧ up.running = false ∧ up.clk.ungated = 0 ∧ up.testEn = false ∧ up.bar2Wait = [] ∧ up.rings = [] ∧
    up.ledger.fresh = [] ∧ up.ledger.topping = [] ∧ up.link.held = [] ∧
    ∀ off ∈ [Reg.JOB_DESC_LO, Reg.JOB_DESC_HI, Reg.RAST_PROBE_X, Reg.CORR_PROBE_X, Reg.PASS_CTL, Reg.TRK_FE,
      Reg.MOT_TGT_LO, Reg.LDG_ARG, Reg.GOV_BAND_SEL, Reg.BLN_LANE_SEL], Taken pcie off up ∧ off % 4 = 0 := by
  unfold Taken; decide +kernel

theorem wit_PinsShowTheirConditions : up.svcUp = true ∧ State.reset.svcUp = true ∧
    ({ up with pins := { up.pins with vin12 := false } } : State).svcUp = false := by
  decide +kernel

theorem wit_StepsEndSettled_and_EveryCommandCompletes :
    (let o : Occ := ⟨Ev.BLN_IGNORED, 0, none, false, false⟩
     let s : State := { up with due := [o] }
     s.due = o :: [] ∧ up.due = [] ∧ up.ledger.fresh = [] ∧ up.ledger.topping = []) ∧
    ({ up with ledger := { up.ledger with fresh := [openRec] } } : State).ledger.fresh ≠ [] ∧
    ({ up with ledger := { up.ledger with topping := [5] } } : State).ledger.topping ≠ [] ∧
    up.pending = [] ∧ State.reset.pending = [] ∧ Instr.sramZeroed.wf = true ∧ (Instr.laneWakeDone 96).wf = false := by
  decide +kernel

/-! ### Cycles that several commands share, lines that cannot be read, and words that name no command -/

/-- A device whose test enable is set, with a real occurrence of an event of page 4 in the cycle. -/
def inCycle (forced : Bool) : State := { reg Reg.TEST_CTL 1 with recent := [⟨Ev.MEM_TABLE_FAULT, 1, none, forced, false⟩] }

/-- A device whose CTRL page denies PCIe but not SPI. -/
def noPcie : State := { reg Reg.TEST_CTL 1 with nv := [(5, 0xFFFFFFFE)] }

theorem wit_HeaderCommandsChangeTheirHeader_cycle :
    (let a : Acc := ⟨.pcie, true, 0, .device⟩
     let s := inCycle false
     s.testEn = true ∧ s.judge a (0x1000 * (4 : PageNo).toNat + 0x18) = .accepted ∧
       Ev.MEM_TABLE_FAULT.bit < (evtTable (4 : PageNo).toNat).length ∧
       s.tiedReal .device ⟨4, Ev.MEM_TABLE_FAULT.bit⟩ = true ∧
       (inCycle true).tiedReal .device ⟨4, Ev.MEM_TABLE_FAULT.bit⟩ = false ∧
       wbit ((inCycle true).tiedBits .device 4) Ev.MEM_TABLE_FAULT.bit = true) ∧
    (let a : Acc := ⟨.spi, true, 0, .both 0⟩
     noPcie.testEn = true ∧ noPcie.judge a (0x1000 * (0 : PageNo).toNat + 0x18) = .accepted ∧
       noPcie.judge (otherAcc a) 0x18 = .logged 3 ∧ noPcie.mainUp = true ∧
       Ev.CTRL_ACCESS_DENIED.bit < (evtTable (0 : PageNo).toNat).length) := by
  decide +kernel

theorem wit_WritesFollowTheChecks_spi :
    (let low (a : BitVec 24) : BitVec 2 := a.extractLsb' 0 2
     low 0x9041 ≠ 0 ∧ low 0x15040 = 0 ∧ 21 ≤ (0x15040 : BitVec 24).toNat / 0x1000 ∧ low 0x10044 = 0) ∧
    (State.reset.reaches .spi 9 = false ∧ up.reaches .spi 9 = true ∧ up.reaches .spi 21 = true) ∧
    (guarded.reaches .spi 16 = true ∧ guarded.gated 16 = true ∧ 0x40 ≤ 0x10044 % 0x1000) ∧
    (guarded.reaches .spi 0 = true ∧ guarded.mapAllows .spi 0 = false ∧ inBank .spi 0x44 = false ∧ 0x44 % 0x1000 ≠ 0x10 ∧
      guarded.gated 0 = false) ∧
    (up.mapAllows .spi 0 = true ∧ inBank .pcie (Reg.TP_COUNT + bankOf .pcie) = true ∧ Reg.TP_COUNT % 4 = 0) ∧
    (guarded.mapAllows .spi 16 = true ∧ inBank .pcie 0x10014 = false ∧ (guarded.hdr 16).lock = true ∧
      lockGuards .spi 0x10014 = true) ∧
    (isDp 0x40 = true ∧ inBank .pcie 0x40 = false ∧ (up.hdr 0).lock = false) ∧
    (guarded.mapAllows .spi 7 = true ∧ inBank .pcie 0x7040 = false ∧ (guarded.hdr 7).lock = false ∧ isDp 0x7040 = false ∧
      ((nvIdx 0x7040).any fun i => guarded.nvWorn i) = true) := by
  decide +kernel

theorem wit_LoggedAccessesAreCountedAndRaised_spi :
    guarded.judge ⟨.spi, true, (0x41 : BitVec 24).extractLsb' 0 2, .alone⟩ ((0x41 : BitVec 24).toNat / 4 * 4) = .logged 1 ∧
    guarded.judge ⟨.spi, true, 0, .alone⟩ 0x7040 = .logged 7 := by
  decide +kernel

/-- An access of a party in the cycle of one of the other, or of the device too, that carries a word. -/
def withOther (p : Party) (v : Word) : Acc := ⟨p, true, 0, .both v⟩

theorem wit_TwoPartyCommandsMoveTheProposal_cycle :
    (∀ p ∈ [Party.pcie, Party.spi], ∀ ph ∈ [TpPhase.none, .validating, .pending, .confirmed],
      let s := proposal ph []
      s.judge (withOther p 1) (Reg.TP_CMD + bankOf p) = .accepted ∧
        s.judge (otherAcc (withOther p 1)) (Reg.TP_CMD + bankOf (otherParty p)) = .accepted ∧ s.tp.phase = ph ∧
        s.tp.proposer = .pcie) ∧
    (∀ n < 8, fld (BitVec.ofNat 32 n) 0 3 = n) ∧
    (let s : State := { up with recent := [⟨Ev.CTRL_TP_DONE, 1, none, false, false⟩] }
     (s.recent.any fun o => !o.forced && (o.ev = Ev.CTRL_TP_DONE || o.ev = Ev.CTRL_TP_PROPOSED)) = true ∧
       s.judge ⟨.spi, true, 0, .device⟩ (Reg.TP_CMD + bankOf .spi) = .accepted ∧
       s.judge ⟨.spi, true, 0, .bothDevice 1⟩ (Reg.TP_CMD + bankOf .spi) = .accepted ∧
       s.judge (otherAcc ⟨.spi, true, 0, .bothDevice 1⟩) (Reg.TP_CMD + bankOf .pcie) = .accepted) ∧
    4 * (BitVec.ofNat 22 (Reg.TP_CMD / 4)).toNat = Reg.TP_CMD + bankOf .pcie := by
  decide +kernel

theorem wit_command_words :
    (Taken pcie Reg.JOB_CMD up ∧ Taken pcie Reg.MOT_CMD up ∧ Taken pcie Reg.LDG_CMD up ∧ Taken pcie Reg.CLK_CMD up ∧
      Taken pcie Reg.DMA_FAIR up ∧ Taken pcie (Reg.RING_BASE_LO + 32 * 63 + 0x10) up) ∧
    (Taken spi Reg.TEST_MEM_CMD (reg Reg.TEST_CTL 1) ∧ Taken spi Reg.TEST_XING_SEL (reg Reg.TEST_CTL 1) ∧
      Taken spi Reg.TEST_LANE_CFG (reg Reg.TEST_CTL 1) ∧ (reg Reg.TEST_CTL 1).testEn = true) ∧
    (up.judge (withOther .pcie 7) Reg.JOB_CMD = .accepted ∧ up.judge (withOther .spi 7) Reg.JOB_CMD = .accepted ∧
      up.judge (withOther .pcie 7) Reg.MOT_CMD = .accepted ∧ up.judge (withOther .spi 7) Reg.MOT_CMD = .accepted) ∧
    (4 * (BitVec.ofNat 22 (Reg.JOB_CMD / 4)).toNat = Reg.JOB_CMD ∧ 4 * (BitVec.ofNat 22 (Reg.TEST_MEM_CMD / 4)).toNat = Reg.TEST_MEM_CMD) ∧
    (fld 1 0 7 = 1 ∧ fld 65 0 7 = 65 ∧ fld 64 0 7 = 64 ∧ fld 0xC0000000 30 2 = 3 ∧ fld 0x00018D01 8 10 = 397 ∧
      fld 0x80600001 20 4 = 6) := by
  unfold Taken; decide +kernel

theorem wit_PiecesPassThroughTheEngines_rewrites :
    keyRegion (cellKey 60 0 0) = 1 ∧ keyRegion (cellKey 90 0 0) ≠ 1 ∧ (spoil up 60).sram.err ≠ [] := by decide +kernel

theorem wit_DoseFormationHandsTilesOff_unusable :
    let s : State := { atWork 2 0 [] with dram := { (atWork 2 0 []).dram with written := [(0, 1)], pois := [(0, 1)] } }
    (0 : Nat) ∉ s.form.sigDark ∧ (s.dramReadLine 3 0).1.usable = false ∧ s.classNow Ev.SIG_MEM_FAULT ≠ 1 ∧
      (let t := s.changeHdr 12 fun h => { h with cls := [(Ev.SIG_MEM_FAULT.bit, 1)] }
       t.classNow Ev.SIG_MEM_FAULT = 1 ∧ (t.dramReadLine 3 0).1.usable = false) := by
  decide +kernel

theorem wit_TickRunsTheGenerator_moves :
    (let g : Gen := { Gen.reset with st := 1, mj := 1, acc := 1, dec := 1, vt := 100, up := true, tgt := 1000000 }
     g.mustStop = false ∧ ¬ g.vt ≤ g.v + rampGain g.mj g.a ∧ ({ g with st := 2, v := 1000, tgt := 0 } : Gen).mustStop = true) ∧
    (let g : Gen := { Gen.reset with st := 1, mj := 1, acc := 1, vt := 100, v := 99, a := 1, up := true }
     g.vt ≤ g.v + rampGain g.mj 2 ∧ toward g.mj g.a 0 = 0 ∧ toward g.mj 2 0 ≠ 0) ∧
    (stopTick 1 1 10 0 = some (9, -1) ∧ stopTick 1 1 1 0 = none ∧ (0 : Int) ≤ 1) := by
  decide +kernel

theorem wit_MembersJoinTheTree_again :
    let s : State := { root with cst := { root.cst with kids := [(0, ({ Child.reset with joined := true, members := 2047 }.grants 0 7))] } }
    Arrives s (kidPort false) 0x11 (msg 0x11 16) (5, 1) ∧ ((s.kid 0).granted.any fun g => g.1 == 0) = true ∧
      ((root.kid 0).granted.any fun g => g.1 == 0) = false := by
  decide +kernel

theorem wit_PlansAreReducedAndPassedDown_reduction :
    (up.conductor = true ∧ 0 < (up.formOwn 16 0).gov.own.length) ∧
    (member.conductor = false ∧ member.cst.joined = true ∧ member.portUp 0 = true) ∧
    (let k : Child := { Child.reset with base := 0 }
     (0 : Int) ≤ 127 - k.base ∧ 127 - k.base < 128 ∧ -1 - k.base < 0 ∧ 128 ≤ 128 - k.base) := by
  decide +kernel

theorem wit_TopUpsTakeTheirRecords_lines :
    (let s : State := { up with dram := { up.dram with written := [(0, 1)], pois := [(0, 1)] } }
     (s.dramReadLine 7 0).1.usable = false ∧ (s.ledgerGet 5 0).1 = none ∧ (up.dramReadLine 7 0).1.usable = true ∧
       (up.ledgerGet 5 0).1 ≠ none) ∧
    (let x (b : Bool) (m : List Nat) : State :=
       { up with ctxs := [(5, { job 4 with side := { LdgSide.reset with blind := b, snapBad := m } })] }
     ((x true []).ctx 5).side.blind = true ∧ ((x false [0]).ctx 5).side.snapBad = [0] ∧
       ((x false [0]).ctx 5).side.blind = false ∧ 511 / 16 ∉ ((x false [0]).ctx 5).side.snapBad) := by
  decide +kernel

theorem wit_ThePcieFunctionAnswers_unusable :
    (let s : State := { up with dram := { up.dram with written := [(0, 1)], pois := [(0, 1)] } }
     ((s.dramReadLines 9 0 1).1.all LineRead.usable) = false) ∧ (128 : Nat) ≤ 128 ∧ (0 : Nat) ≤ 256 := by
  decide +kernel

theorem wit_RingsStartStopAndRing_cycle :
    let s : State := { up with cyc := { up.cyc with incs := [63, 63] } }
    s.judge ⟨.pcie, true, 0, .device⟩ (Reg.RING_BASE_LO + 32 * (63 : BitVec 6).toNat + 0x18) = .accepted ∧
      s.cyc.incs.count (63 : BitVec 6).toNat = 2 := by
  decide +kernel

theorem wit_DescriptorsAreFetchedAndChecked_codes :
    descCheck 0 (copyDesc 0) = 0 ∧ descReservedZero (copyDesc 0) = true ∧
    descReservedZero [0x00800000, 0, 0, 0, 0, 0, 0, 0, 0, 0, 0, 0, 0, 0, 0, 0] = false ∧
    (let d := [0x01000000, 0, 0, 0, 64, 0, 1, 0, 64, 0, 64, 0, 1, 0, 0, 0]
     descReservedZero d = true ∧ (srcSide d).dev = false ∧ (dstSide d).dev = false) ∧
    (let d := [0x02000000, 5, 1, 0, 0, 0, 0, 0, 0, 0, 0, 0, 0, 0, 0, 0]
     descReservedZero d = true ∧ dw d 1 0 6 = 5 ∧ dw d 3 0 24 = 0) ∧
    descCheck 0 [0x01020000, 0, 1, 0, 64, 0, 1, 0, 64, 0, 64, 0, 1, 0, 0, 0] = 3 ∧
    descCheck 0 [0x01020000, 0, 0, 0, 64, 0, 2, 0, 64, 0, 64, 0, 1, 0, 0, 0] = 4 ∧
    descCheck 0 [0x01020000, 0, 0, 0, 64, 0, 1, 0, 0, 8, 64, 0, 1, 0, 0, 0] = 5 := by
  decide +kernel

theorem wit_CopiesMoveInBursts_choice :
    (let s := ringed { ring0 with desc := copyDesc 0 }
     fld (s.ringCfg 63) 0 4 = 0 ∧ (s.ring 63).fetch = false ∧ (s.ring 63).stopReq = false ∧ dw (s.ring 63).desc 0 24 4 = 1 ∧
       (s.ring 63).moved < copyTotal (s.ring 63).desc ∧ s.rf Reg.DMA_FAIR 0 7 = 16 ∧
       ¬ ((s.chan 0).count + 1) % 16 = 0) ∧
    (let s := (ringed { ring0 with desc := copyDesc 0 }).setReg Reg.DMA_FAIR 2
     let t : State := { s with chans := [(0, ⟨1, []⟩)] }
     t.rf Reg.DMA_FAIR 0 7 = 2 ∧ ((t.chan 0).count + 1) % 2 = 0 ∧ t.chooseRing 0 = some 63) ∧
    (0 < (srcSide (copyDesc 0)).len ∧ 0 < (dstSide (copyDesc 0)).len ∧
      burstLen (srcSide (copyDesc 0)) (dstSide (copyDesc 0)) 0 = 64) := by
  decide +kernel

theorem wit_ModesGatesAndPowerStates_hold :
    up.clk.hold = false ∧ (let s : State := { up with clk := { up.clk with hold := true } }; s.clk.hold = true) := by
  decide +kernel

theorem wit_SourcesComeUpAndMove_fallback :
    let s : State := { up with clk := { up.clk with fallback := 1, active := 1 } }
    Taken pcie Reg.CLK_CMD s ∧ s.clk.fallback ≠ 0 ∧ s.clk.okOf 2 = true := by
  unfold Taken; decide +kernel

theorem wit_StepsEndSettled_cycle :
    (let s : State := { up with cyc := { up.cyc with same := true } }
     s.cyc.same = true ∧ up.cyc.same = false) ∧
    (let s : State := { up with logWr := 1 }
     s.cyc.seen ≠ s.seenNow ∧ up.cyc.seen = up.seenNow) := by
  decide +kernel

theorem wit_HaltsLossesAndTreeSettings_stop :
    up.conductor = true ∧ up.gen.st = 0 ∧ up.exposingAnywhere = false ∧
    (let s : State := { exposing with gen := { Gen.reset with st := 1 } }
     s.conductor = true ∧ s.gen.st ≠ 0 ∧ s.exposingAnywhere = true) ∧ (reg Reg.CST_CFG 2).conductor = false := by
  decide +kernel

/-! ### Ill-formed commands are refused by WellFormed, and do nothing (log entry 100) -/

/-- The command does nothing right after reset. -/
def idles (c : Instr) : Bool :=
  match exec c State.reset with
  | .next t => decide (t = State.reset.settle)
  | _ => false

theorem test_ill_formed_device :
    ∀ c ∈ ([.cntClr pcie 4 0, .lbCfgWrite pcie (.lane 86) 0, .lbLeak (.lane 127), .exposingEntry [⟨⟨87, 0, 0⟩, none⟩],
   .densBandParse [⟨88, 0, 0⟩] 0 0, .rasterParse true [⟨87, 0, 0⟩], .decodeResume 48 0, .bitmapDecodeDone 63 0,
   .bandEnqueue [⟨72, 0, 0⟩] 0, .pieceDone 48 0, .workspaceFault 48 ⟨60, 0, 0⟩, .workspaceFault 0 ⟨68, 0, 0⟩,
   .rastProbeDone [⟨90, 0, 0⟩], .doseFormation [⟨72, 0, 0⟩] 0, .corrProbeDone [⟨67, 0, 0⟩] 0,
   .transitFire [⟨⟨90, 0, 0⟩, none⟩], .markerSend [⟨⟨91, 0, 0⟩, 0⟩], .markerSend [⟨⟨92, 0, 0⟩, 86⟩],
   .laneWakeDone 96, .calDone true [] [] [], .stripeArmed [] [⟨⟨94, 0, 0⟩, 0⟩]] : List Instr),
      c.wf = false ∧ idles c = true := by
  decide +kernel

theorem test_ill_formed_tree :
    ∀ c ∈ ([.planCycle [⟨80, 0, 0⟩] 0, .report false (msg 0x31 528), .join true (msg 0x40 16), .grant (msg 0x11 8),
   .timeRsp (msg 0x20 28), .setpt (msg 0x21 28), .linkDegraded 6, .symbolLock 7, .govConfigWrite pcie 3 0,
   .ldgAreaWrite pcie 3 0] : List Instr),
      c.wf = false ∧ idles c = true := by
  decide +kernel

theorem test_ill_formed_host :
    ∀ c ∈ ([.bar2Write 0 [], .bar2Write 0xFFFFFFFF [none, none], .bar2Read 0 0, .msixAccess false 2 [0], .msixAccess true 0x3FFC [0, 0],
   .unsupportedRequest .io [], .poisonRx [0, 0, 0], .linkUp 0 1, .linkUp 6 1, .linkUp 1 3, .ringCfgWrite pcie 0 3 0,
   .descriptorFetch 0 false .ok [] [], .descriptorFetch 0 false .ur [] [⟨89, 0, 0⟩],
   .arbitration 0 0 false [⟨⟨89, 0, 0⟩, true, 0⟩], .arbWrite pcie 17 0, .almLoadDone [⟨87, 0, 0⟩],
   .registerRead pcie 0 [⟨⟨92, 0, 0⟩, none⟩], .spiRead 0 0 [⟨⟨87, 0, 0⟩, none⟩]] : List Instr),
      c.wf = false ∧ idles c = true := by
  decide +kernel

theorem test_boundaries_well_formed :
    ∀ c ∈ [Instr.lbLeak (.lane 85), .decodeResume 47 0, .workspaceFault 47 ⟨67, 0, 0⟩, .doseFormation [⟨89, 0, 0⟩] 0,
      .markerSend [⟨⟨93, 0, 0⟩, 85⟩], .join true (msg 0x11 16), .join true (msg 0x99 16), .laneWakeDone 95, .symbolLock 5,
      .linkUp 5 16, .arbWrite pcie 16 0, .bar2Read 0xFFFFFFFF 1, .statusRecord 0 [] 0, .metSample false 0 [] 0,
      .plan (msg 0x31 19), .timeReq false (msg 0x20 13) 0, .halt (msg 0x41 7)], c.wf = true := by
  decide +kernel

/-! ### Worked examples of the spec -/

/-- The ASCII string 123456789. -/
def digits : List Nat := [49, 50, 51, 52, 53, 54, 55, 56, 57]

/-- R196: its CRC-32. -/
theorem test_crc32 : crc32 (digits.map (BitVec.ofNat 8)) = 0xCBF43926 := by decide +kernel

/-- R145: the two messages of the signature's CRC-64. -/
theorem test_crc64 : crc64 digits = 0x6C40DF5F0B497347 ∧ crc64 [1] = 0x42F0E1EBA9EA3693 := by decide +kernel

/-- Chapter 06: the preamble of tile 1,605. -/
theorem test_preamble : sigPreamble 1605 1 2 = [0x45, 6, 0, 0, 1, 2, 0, 0] := by decide +kernel

/-- R42: tags run from 1 to 65,535 and start again at 1. -/
theorem test_tag : nextTag 0 = 1 ∧ nextTag 0x11 = 0x12 ∧ nextTag 65535 = 1 := by decide +kernel

/-- R56: the digest of the example is 0x50 + 0x17 + 0x54 + 0x03. -/
theorem test_digest : tpDigest [(0x50, 0x17), (0x54, 3)] = 0xBE := by decide +kernel

/-- R48: the eighth error raises the event, and the leak to 4 arms the bucket again. -/
theorem test_bucket :
    (Bucket.mk 7 7 true).fires 8 = true ∧ (Bucket.mk 6 7 true).fires 8 = false ∧
    ((Bucket.mk 7 7 true).add 8).armed = false ∧ ((Bucket.mk 6 8 false).leak 8).armed = false ∧
    ((Bucket.mk 5 8 false).leak 8) = ⟨4, 8, true⟩ := by decide +kernel

/-- R22 and the example of chapter 01: pixel (1234, 5000) with Y0 = 1,000. -/
theorem test_pass_transits :
    passTransit 1234 5000 0 1000 = 6032 ∧ passTransit 1234 5000 31 1000 = 13968 ∧ passBeam 1234 31 = 512 * 498 + 77 ∧
    beamX 498 77 = 1234 ∧ beamY 13968 498 1000 = 5000 ∧ pixelPhase 1234 5000 = 2 := by decide +kernel

/-- The trapezoid of chapter 04: its coverage of the four pixels, and the contribution with DOSE 160. -/
theorem test_coverage :
    let r := CovRec.tris 160 [⟨10248, 7592⟩, ⟨10312, 7592⟩, ⟨10312, 7768⟩, ⟨10072, 7768⟩]
    covAt r 39 29 = 15 ∧ covAt r 40 29 = 24 ∧ covAt r 39 30 = 40 ∧ covAt r 40 30 = 20 ∧ covSum [r] 39 29 = 19 ∧
    covSum [r] 40 30 = 25 := by decide +kernel

/-- The bitmap of chapter 03: RUNS of 128 zeros and 128 ones, then a FILL of 64 ones; and the same FILL of two segments. -/
theorem test_bitmap :
    decodeTokens 320 9 [] [1, 0x7F, 0, 0x7F, 0xFF, 2, 0, 0xFF] = .bytes (List.replicate 128 0 ++ List.replicate 192 0xFF) ∧
    decodeTokens 320 9 [] [1, 0x7F, 0, 0x7F, 0xFF, 2, 1, 0xFF] = .fault 1 256 := by
  decide +kernel

/-- The factors and codes of chapter 05. -/
theorem test_dose_codes :
    pixelFactor (fun i _ => if i = 10 then 23040 else 24064) 1400 12800 = 23492 ∧ doseCode 2 256 23492 = 23 ∧
    doseCode 2 19 23492 = 2 ∧ codeRaw 510 23492 = 46 ∧ doseCode 2 510 23492 = 30 := by decide +kernel

/-- Chapter 07: passes 5 and 23 cannot be used, and the bit of pass 5 moves to pass 24. -/
theorem test_healing : heal 0x007FFFFF 0x00800020 = (0x017FFFDF, 0) := by decide +kernel

/-- Chapter 08: header, payload byte and marker of the frame of transit 6,032. -/
theorem test_frame :
    frameHeader 6032 0 false false 8 3200 = [0x90, 0x17, 0, 0, 0, 0x40, 0x80, 0x0C] ∧
    (payload 0 [(512 * 2 + 77, true)])[137]? = some 0x20 ∧ markerByte 6032 (412 * 64 + 37) true false = 0x25 := by
  decide +kernel

/-- R192: D16.4, D23.0 and D0.2 from negative disparity and D11.7 from positive, as Clause 36 lists them; K28.5 K28.0 turns
the disparity of a lane. -/
theorem test_line_code :
    (Group.d 0x90).encode false = (0b0110110010, false) ∧ (Group.d 0x17).encode false = (0b1110100100, false) ∧
    (Group.d 0x40).encode false = (0b1001110101, true) ∧ (Group.d 0xEB).encode true = (0b1101001000, false) ∧
    Group.com.encode false = (0b0011111010, true) ∧ (encodeGroups false [.com, .skp]).2 = true := by decide +kernel

/-- R360, by hand: line 33 lies in pseudo-channel 1 xor 1, bank 1, index 1; line 31 in stack 1. -/
theorem test_place : place 33 = (0, 1, 1) ∧ stackOf 31 = 1 := by decide +kernel

/-- R234: F of 53,687 units has PHASE 55 and S(n) = 836. -/
theorem test_flash : 53687 % 64 = 55 ∧ slotOf 53687 = 836 ∧ markerByte 0 53687 true false = 55 := by decide +kernel

/-- Chapter 10: phi of samples 0 and 26, and the interpolated entry with XERR 3. -/
theorem test_cam :
    camPhi 5300 163840 640 0 = 12926 ∧ camPhi 5300 163840 640 26 = 638 ∧
    (let s := (up.setReg (Reg.CAM0_0 + 200) 0xFC18).setReg (Reg.CAM0_0 + 204) 0xFC04
     (s.camSample 12926 3).1 = -1007) := by decide +kernel

/-- Chapter 11: the ceiling of the dense band, and the time of a denser one. -/
theorem test_ceiling : bandCeil 640 4096 102560 = 408960 ∧ (273494 + 3) / 4 = 68374 := by decide +kernel

/-- Chapter 12: the record of lane 0 at transit 6,032 meets band 19 alone. -/
theorem test_region :
    let r : Rec := { openRec with kind := 5, cause := 9, a := 6032, b := 6032, y0 := 1000, lanes := 1 }
    (r.bandSpans 40).all (fun p => p == (19, 19)) = true ∧ (r.bandSpans 40).length = 6 ∧ r.meetsTile 40 4 19 = true ∧
    r.meetsTile 40 4 18 = false := by decide +kernel

/-- Chapter 13: the descriptor of ring 3 passes every check, and its first burst is one host line. -/
theorem test_descriptor :
    let d := [0xE1020123, 0, 0, 2, 0x600, 0x800, 0x28, 0, 0x40000000, 0, 0xF000, 0, 1, 0, 0, 0]
    descCheck 3 d = 0 ∧ copyTotal d = 61440 ∧ burstLen (srcSide d) (dstSide d) 0 = 1536 ∧
    sideAddr (srcSide d) 1536 = 0x200000800 := by decide +kernel

/-- Chapter 14: the stored form of the byte 0xB4, and the correction of its bit 5. -/
theorem test_sram_code :
    encodeByte 0xB4 = 0x09B4 ∧ decodeByte (0x09B4 ^^^ 0x20) = (.corrected 10, 0xB4) := by decide +kernel

/-- Chapter 14: normal grants go to the raster parser, the fourth grant to the input that has waited longest. -/
theorem test_arbitration :
    let w (p since : Nat) : ArbIn := ⟨true, since, 0, 0, p, 64⟩
    let m (k : Nat) : State :=
      { reg Reg.ARB_CTL 4 with arb := { up.arb with number := k, ins := [(1, w 7 9), (8, w 2 2), (9, w 2 3), (11, w 0 1)] } }
    (arbitrate 0 0 false [] (m 0)).arb.owner = 1 + 1 ∧ (arbitrate 0 0 false [] (m 3)).arb.owner = 11 + 1 := by
  decide +kernel

/-- What a step shows of the state it reaches. -/
def shows {α : Type} (c : Instr) (s : State) (f : State → α) : Option α :=
  match exec c s with
  | .next t => some (f t)
  | _ => none

/-- R399: step 5 goes on with the source it took, whatever SELECT_XTAL has asked for since. -/
theorem test_step5_keeps_its_source :
    shows (.islandSwitchDone 0)
      { up with clk := { up.clk with seq := 5, switching := 1, active := 0, upSrc := 0, move := 1, moveTo := 1 } }
      (fun t => (t.clk.seq, t.clk.active, t.clk.moveTo)) = some (6, 0, 1) := by
  decide +kernel

/-- R416: an armed force of the coarse window of the crystal trips at its first evaluation and is spent. -/
theorem test_forced_window :
    shows (.srcUp .xtal 1024 0) (forcing 4) (fun t => (t.clk.xtalOk, t.monForced 1 .coarse)) = some (false, false) := by
  decide +kernel

/-- Chapter 17: the identification of the ALM page, and the place of ALM_KILL5. -/
theorem test_register_map :
    up.readWord 0xE000 = 0x0016000E ∧ up.readWord 0xE004 = 0x00010001 ∧ nvIdx 0xE114 = some 266 ∧ isDp 0xE114 = true := by
  decide +kernel

end Sys2Proof.Tests
end

section
/-!
PROOFS. Leaky buckets (R47, R48): what a counted error, a leak and a write of LB_CFG do to a bucket, said once, and the
obligation that rests on them.
-/

namespace Sys2Proof.Machine

/-! ### One bucket -/

section
variable (b : Bucket) (thresh : Nat)

/-- COUNT saturates at 65,535. -/
theorem satAdd_sixteen_one (count : Nat) : satAdd 16 count 1 = min (count + 1) 65535 := rfl

theorem Bucket.fires_eq :
    b.fires thresh = (b.armed && decide (thresh ≠ 0) && decide (min (b.count + 1) 65535 = thresh)) := by
  rw [Bucket.fires, satAdd_sixteen_one, beq_eq_decide]

/-- While THRESH = 0 the bucket raises no event. -/
theorem Bucket.fires_of_thresh_zero : b.fires 0 = false := by
  simp [Bucket.fires_eq]

theorem Bucket.add_eq :
    b.add thresh =
      ⟨min (b.count + 1) 65535, max b.peak (min (min (b.count + 1) 65535) 32767), b.armed && !b.fires thresh⟩ := by
  rw [Bucket.add, satAdd_sixteen_one]

theorem Bucket.leak_eq :
    b.leak thresh = ⟨b.count - 1, b.peak, b.armed || decide (b.count - 1 ≤ thresh / 2)⟩ := rfl

end

/-! ### A counted error -/

section
variable (s : State) (b : BucketSel) (ev : EvId) (detail : Nat) (ctx : Option Nat)

/-- An occurrence of an event changes no bucket. -/
@[simp] theorem State.bucket_raiseAs (forced : Bool) (k : BucketSel) :
    (s.raiseAs forced ev detail ctx).bucket k = s.bucket k := by
  simp [State.bucket]

theorem State.bucketAdd_of_fires (h : (s.bucket b).fires (s.rf (bucketCfg b) 16 16) = true) :
    s.bucketAdd b ev detail ctx =
      (s.setBucket b ((s.bucket b).add (s.rf (bucketCfg b) 16 16))).raiseAs false ev detail ctx :=
  if_pos h

theorem State.bucketAdd_of_not_fires (h : (s.bucket b).fires (s.rf (bucketCfg b) 16 16) = false) :
    s.bucketAdd b ev detail ctx = s.setBucket b ((s.bucket b).add (s.rf (bucketCfg b) 16 16)) :=
  if_neg (Bool.eq_false_iff.mp h)

/-- Whether or not the event is raised, the bucket holds the counted error. -/
@[simp] theorem State.bucket_bucketAdd :
    (s.bucketAdd b ev detail ctx).bucket b = (s.bucket b).add (s.rf (bucketCfg b) 16 16) := by
  cases h : (s.bucket b).fires (s.rf (bucketCfg b) 16 16) with
  | true => rw [s.bucketAdd_of_fires b ev detail ctx h, State.bucket_raiseAs, State.bucket_setBucket_same]
  | false => rw [s.bucketAdd_of_not_fires b ev detail ctx h, State.bucket_setBucket_same]

end

/-! ### LB_LEAK and LB_CFG_WRITE -/

section
variable {s : State} {b : BucketSel}

theorem lbLeakAct_of_no_period (h : s.rf (bucketCfg b) 0 16 = 0) : lbLeakAct b s = s :=
  if_pos h

theorem lbLeakAct_of_period (h : s.rf (bucketCfg b) 0 16 ≠ 0) :
    lbLeakAct b s = s.setBucket b ((s.bucket b).leak (s.rf (bucketCfg b) 16 16)) :=
  if_neg h

theorem exec_lbLeak_of_live (hb : b.ok = true) (hl : s.live (bucketPage b) = true) :
    exec (.lbLeak b) s = .next (lbLeakAct b s).settle :=
  calc exec (.lbLeak b) s
    _ = execLbLeak b s := rfl
    _ = onPage (bucketPage b) (lbLeakAct b) s := checked_ok _ hb
    _ = .next (lbLeakAct b s).settle := onPage_live _ hl

/-- A leak of a bucket with a period, in a state whose block runs. -/
theorem exec_lbLeak_of_period (hb : b.ok = true) (hl : s.live (bucketPage b) = true)
    (hp : s.rf (bucketCfg b) 0 16 ≠ 0) :
    exec (.lbLeak b) s =
      .next (s.setBucket b ((s.bucket b).leak (s.rf (bucketCfg b) 16 16))).settle := by
  rw [exec_lbLeak_of_live hb hl, lbLeakAct_of_period hp]

theorem exec_lbCfgWrite_of_taken {a : Acc} (v : Word) (hb : b.ok = true) (ht : Taken a (bucketCfg b) s) :
    exec (.lbCfgWrite a b v) s = .next (lbCfgAct b v s).settle :=
  calc exec (.lbCfgWrite a b v) s
    _ = execLbCfgWrite a b v s := rfl
    _ = fieldWrite a (bucketCfg b) (lbCfgAct b v) s := checked_ok _ hb
    _ = .next (lbCfgAct b v s).settle := fieldWrite_taken _ ht.1 ht.2

theorem lbCfgAct_eq (v : Word) :
    lbCfgAct b v s =
      { s.writeRw (bucketCfg b) v with
        buckets := (bucketsOf b).foldl (fun m k => sput Bucket.reset m k ⟨0, 0, true⟩) s.buckets } := by
  rw [lbCfgAct, State.writeRw_buckets, Bucket.reset]

end

end Sys2Proof.Machine

namespace Sys2Proof

open Machine

/-- Settles O54: one clause each for a counted error, a leak, an error with the leak that follows it, and a write of
LB_CFG; a leak after an error is a leak of the bucket that the error left. -/
theorem bucketsRaiseAtTheirThreshold : Obligations.BucketsRaiseAtTheirThreshold := by
  unfold Obligations.BucketsRaiseAtTheirThreshold
  refine ⟨?counted, ?leak, ?countedThenLeak, ?cfgWrite⟩
  case counted =>
    intro s b ev detail ctx
    simp only [← Bucket.fires_eq, ← Bucket.add_eq]
    refine ⟨s.bucketAdd_of_fires b ev detail ctx, s.bucketAdd_of_not_fires b ev detail ctx,
      s.bucket_bucketAdd b ev detail ctx, fun hth => ?_⟩
    simp [hth, Bucket.fires_of_thresh_zero]
  case leak =>
    intro s b hb hl
    refine ⟨fun hp => ?_, fun hp => ?_⟩
    · rw [exec_lbLeak_of_live hb hl, lbLeakAct_of_no_period hp]
    · rw [exec_lbLeak_of_period hb hl hp, Bucket.leak_eq]
  case countedThenLeak =>
    intro s b ev detail ctx hb
    dsimp only
    intro hl hp hth
    rw [exec_lbLeak_of_period hb hl hp, hth, State.bucket_bucketAdd, Bucket.leak_eq, Bucket.add_eq, Bucket.fires_eq]
  case cfgWrite =>
    intro s a b v hb ht
    rw [exec_lbCfgWrite_of_taken v hb ht, lbCfgAct_eq]

end Sys2Proof
end

section
/-!
PROOFS. SVC_WARM (R396, R397): what a reset of islands 0 to 7 keeps and returns to its reset values, what DRAM is after a
warm one, said once, and the obligation that rests on them.
-/

namespace Sys2Proof.Machine

/-! ### A store whose entries all take one value -/

section
variable {β : Type} {d v : β} {m : Store β} {k : Nat}

theorem sget_of_unlisted (h : ∀ p ∈ m, p.1 ≠ k) : sget d m k = d := by
  induction m with
  | nil => rfl
  | cons p m ih =>
    obtain ⟨hp, hm⟩ := List.forall_mem_cons.mp h
    rw [sget, if_neg hp, ih hm]

/-- An unlisted key stays unlisted. -/
theorem sget_mapConst_of_unlisted (h : ∀ p ∈ m, p.1 ≠ k) : sget d (m.map fun p => (p.1, v)) k = d :=
  sget_of_unlisted (List.forall_mem_map.mpr h)

/-- A key that does not read as the default is listed, and takes the value. -/
theorem sget_mapConst_of_ne (h : sget d m k ≠ d) : sget d (m.map fun p => (p.1, v)) k = v := by
  induction m with
  | nil => exact absurd rfl h
  | cons p m ih =>
    by_cases hk : p.1 = k
    · simp [sget, hk]
    · simp only [sget, hk, if_false] at h
      simp [sget, hk, ih h]

end

/-! ### DRAM after SVC_WARM (R365, R366, R397) -/

section
variable (m : Dram)

@[simp] theorem Dram.warm_data : m.warm.data = m.data := rfl

@[simp] theorem Dram.warm_err : m.warm.err = m.err := rfl

@[simp] theorem Dram.never_warm (line : Nat) : m.warm.never line = false := rfl

/-- No line has a table entry: the marks of the poisoned ones all say so. -/
@[simp] theorem Dram.poisonCount_warm : m.warm.poisonCount = 0 := by
  rw [Dram.poisonCount, List.length_eq_zero_iff, List.filter_eq_nil_iff]
  exact List.forall_mem_map.mpr fun _ _ => by simp

variable {m} {line : Nat}

theorem Dram.poison_warm_of_poisoned (h : m.poison line ≠ 0) : m.warm.poison line = 1 :=
  sget_mapConst_of_ne h

theorem Dram.poison_warm_of_unlisted (h : ∀ p ∈ m.pois, p.1 ≠ line) : m.warm.poison line = 0 :=
  sget_mapConst_of_unlisted h

end

/-! ### A reset that islands 0 to 7 can leave (R396, R399) -/

section
variable (s : State)

/-- The power-up sequence moves the clock state alone. -/
theorem State.startUp_eq_updClk : ∃ f, s.startUp = s.updClk f := by
  have hleave : ∃ f, s.leaveReset = s.updClk f := by
    unfold State.leaveReset
    split
    case isTrue => exact ⟨_, rfl⟩
    case isFalse => exact ⟨id, rfl⟩
  obtain ⟨f, hf⟩ := hleave
  unfold State.startUp
  rw [hf]
  dsimp only
  split
  case isTrue => exact ⟨fun c => ((s.updClk f).beginStep5 1).clk, rfl⟩
  case isFalse => exact ⟨f, rfl⟩

/-- Only the CLK page keeps its registers. -/
theorem State.reg_resetMain_keeping (warm : Bool) (off : Nat) :
    (s.resetMain warm true).reg off = if off / 0x1000 = 1 then s.reg off else regReset off :=
  calc (s.resetMain warm true).reg off
    _ = sget (regReset off) (skeep (fun k => k / 0x1000 == 1) s.regs) off := rfl
    _ = if off / 0x1000 == 1 then s.reg off else regReset off := sget_skeep _ _ _ _
    _ = if off / 0x1000 = 1 then s.reg off else regReset off := by simp only [beq_iff_eq]

variable {s}

/-- Outside the hold of a BROWNOUT the reset is carried out, and what follows it moves the clock state alone. -/
theorem State.mainReset_eq_updClk (cause : Nat) (warm : Bool) (h : s.clk.seq ≠ 9) :
    ∃ f, s.mainReset cause warm = ((s.resetMain warm true).setReg Reg.CLK_RESET (w32 cause)).updClk f := by
  rw [State.mainReset, if_neg h]
  exact State.startUp_eq_updClk _

theorem State.mainReset_warm_dram (cause : Nat) (h : s.clk.seq ≠ 9) : (s.mainReset cause true).dram = s.dram.warm := by
  obtain ⟨f, hf⟩ := State.mainReset_eq_updClk cause true h
  rw [hf, State.updClk_dram, State.setReg_dram]
  rfl

theorem State.mainReset_ledger (cause : Nat) (warm : Bool) (h : s.clk.seq ≠ 9) :
    (s.mainReset cause warm).ledger = State.reset.ledger := by
  obtain ⟨f, hf⟩ := State.mainReset_eq_updClk cause warm h
  rw [hf, State.updClk_ledger, State.setReg_ledger]
  rfl

/-- Every register page but CLK returns to its reset values. -/
theorem State.reg_mainReset_of_page (cause : Nat) (warm : Bool) (h : s.clk.seq ≠ 9) {off : Nat} (hoff : off / 0x1000 ≠ 1) :
    (s.mainReset cause warm).reg off = regReset off := by
  have hne : off ≠ Reg.CLK_RESET := by
    rintro rfl
    exact hoff (by decide)
  obtain ⟨f, hf⟩ := State.mainReset_eq_updClk cause warm h
  calc (s.mainReset cause warm).reg off
    _ = ((s.resetMain warm true).setReg Reg.CLK_RESET (w32 cause)).reg off := by rw [hf]; rfl
    _ = (s.resetMain warm true).reg off := State.reg_setReg_other _ _ hne
    _ = regReset off := by rw [State.reg_resetMain_keeping, if_neg hoff]

end

/-! ### SVC_WARM -/

theorem clkSvcAct_warm_of_spi {party : Party} (h : party = .spi) (s : State) :
    clkSvcAct party 2 s = s.mainReset 3 true := by
  subst h; rfl

theorem exec_svcWarm_of_taken {s : State} {a : Acc} (hp : a.party = .spi) (ht : Taken a Reg.CLK_SVC s) :
    exec (.svcWarm a) s = .next (s.mainReset 3 true).settle :=
  calc exec (.svcWarm a) s
    _ = cmdWrite a Reg.CLK_SVC (clkSvcAct a.party 2) s := rfl
    _ = .next (clkSvcAct a.party 2 s).settle := cmdWrite_taken _ ht.1 ht.2
    _ = .next (s.mainReset 3 true).settle := by rw [clkSvcAct_warm_of_spi hp]

end Sys2Proof.Machine

namespace Sys2Proof

open Machine

/-- Settles O49: SVC_WARM is a warm reset, after which DRAM is `Dram.warm` of what it was, every page but CLK reads its
reset values, and the ledger is that of the reset state. -/
theorem svcWarmKeepsDram : Obligations.SvcWarmKeepsDram := by
  unfold Obligations.SvcWarmKeepsDram
  intro s a hp ht hseq
  have hdram := State.mainReset_warm_dram 3 hseq
  have hledger := State.mainReset_ledger 3 true hseq
  dsimp only
  rw [hdram, hledger]
  exact ⟨exec_svcWarm_of_taken hp ht, s.dram.warm_data, s.dram.warm_err, s.dram.never_warm, s.dram.poisonCount_warm,
    fun _ => Dram.poison_warm_of_poisoned, fun _ _ => Dram.poison_warm_of_unlisted,
    fun _ => State.reg_mainReset_of_page 3 true hseq, rfl, rfl, rfl⟩

end Sys2Proof
end

section
/-!
PROOFS. The end of a command (R43, R44, R393, R403; log entries 1, 17): every command is one effect followed by the end of
a command, that end leaves a settled state, and in a quiet state it changes nothing but what is kept for the cycle.
-/

namespace Sys2Proof.Machine

/-! ### The shape of a command -/

/-- Every command checks its operands, then has one effect, which the end of a command follows. -/
theorem exec_eq_checked_finish (c : Instr) : ∃ f : State → State, ∀ s, exec c s = checked c.wf (fun s => finish (f s)) s := by
  cases c <;> exact ⟨_, fun _ => rfl⟩

theorem exec_of_ill_formed {c : Instr} (h : c.wf = false) (s : State) : exec c s = .next s.settle := by
  obtain ⟨f, hf⟩ := exec_eq_checked_finish c
  rw [hf, checked_not _ h, finish]

/-- Every command answers the end of a command. -/
theorem exec_settles (c : Instr) (s : State) : ∃ u : State, exec c s = .next u.settle := by
  obtain ⟨f, hf⟩ := exec_eq_checked_finish c
  rcases checked_cases s c.wf fun s => finish (f s) with h | h
  · exact ⟨f s, by rw [hf, h, finish]⟩
  · exact ⟨s, by rw [hf, h, finish]⟩

theorem step_settles (s : State) : ∃ u : State, step s = .next u.settle := by
  unfold step
  split
  · exact ⟨_, rfl⟩
  · exact exec_settles _ _

/-! ### The last rounds: gates, the test block, the cycle -/

section
variable (s : State)

theorem State.running_setMode (m : Nat) : (s.setMode m).running = s.running := by
  unfold State.setMode State.regate
  split <;> rfl

theorem State.ungated_setMode_of_idle (m : Nat) (h : s.running = false) : (s.setMode m).clk.ungated = s.clk.ungated := by
  have h' : ({ s with clk := { s.clk with mode := m } } : State).running = false := h
  simp [State.setMode, State.regate, h']

@[simp] theorem State.regs_setMode (m : Nat) : (s.setMode m).regs = s.regs := by
  unfold State.setMode State.regate
  split <;> rfl

@[simp] theorem State.reg_setMode (m off : Nat) : (s.setMode m).reg off = s.reg off := by
  rw [State.reg, State.regs_setMode, State.reg]

theorem State.running_disarm : s.disarm.running = s.running := State.running_setMode _ _

theorem State.ungated_disarm_of_idle (h : s.running = false) : s.disarm.clk.ungated = s.clk.ungated :=
  State.ungated_setMode_of_idle _ _ h

theorem State.testEn_disarm : s.disarm.testEn = false := by
  unfold State.disarm State.testEn
  rw [State.reg_setMode]
  exact (congrArg (wbit · 0) (by
    simp only [State.setRf]
    rw [show ∀ (t : State) (x : Test) o, ({ t with test := x } : State).reg o = t.reg o from fun _ _ _ => rfl,
      State.reg_setReg_other _ _ (by decide), State.reg_setReg_other _ _ (by decide),
      State.reg_setReg_other _ _ (by decide), State.reg_setReg_same])).trans rfl

theorem State.running_gateAgain : s.gateAgain.running = s.running := by
  unfold State.gateAgain
  split <;> rfl

theorem State.ungated_gateAgain_of_idle (h : s.running = false) : s.gateAgain.clk.ungated = 0 := by
  simp [State.gateAgain, h, State.updClk]

theorem State.running_testGate : s.testGate.running = s.running := by
  unfold State.testGate
  split
  · exact s.running_disarm
  · rfl

theorem State.ungated_testGate_of_idle (h : s.running = false) : s.testGate.clk.ungated = s.clk.ungated := by
  unfold State.testGate
  split
  · exact s.ungated_disarm_of_idle h
  · rfl

/-- After the test block's gate is looked at, the test enable is set only with the block clocked (R403). -/
theorem State.blockGated_testGate_of_testEn (h : s.testGate.testEn = true) : s.testGate.blockGated 6 = false := by
  by_cases hg : (s.testEn && s.blockGated 6) = true
  · rw [State.testGate, if_pos hg, State.testEn_disarm] at h
    cases h
  · rw [State.testGate, if_neg hg] at h ⊢
    simpa [h] using hg

@[simp] theorem State.seenNow_rewrites (r : Nat) : (s.rewrites r).seenNow = s.seenNow := by
  unfold State.rewrites
  split <;> rfl

@[simp] theorem State.seenNow_logsWritten : s.logsWritten.seenNow = s.seenNow := by
  unfold State.logsWritten
  split
  · rfl
  · exact s.seenNow_rewrites 5

/-- What region 5 loses is errors of bytes alone. -/
theorem State.logsWritten_eq : ∃ (m : Sram) (d : Nat), s.logsWritten = { s with sram := m, draws := d } := by
  unfold State.logsWritten State.rewrites
  split
  · exact ⟨_, _, rfl⟩
  · split <;> exact ⟨_, _, rfl⟩

/-- The closing of a cycle moves neither clocks, registers nor contexts. -/
theorem State.closeCycle_eq : ∃ (m : Sram) (d : Nat) (c : Cycle),
    s.closeCycle = { s with sram := m, draws := d, cyc := c, due := [] } := by
  obtain ⟨m, d, h⟩ := s.logsWritten_eq
  exact ⟨m, d, _, by rw [State.closeCycle, h]⟩

theorem State.cyc_closeCycle : s.closeCycle.cyc =
    ⟨false, (if s.cyc.same = true then s.cyc.incs else []) ++ s.cyc.incsNow, [], s.seenNow⟩ := rfl

/-- The rounds at the end of a command leave a settled state. -/
theorem State.settled_of_rounds : s.gateAgain.testGate.closeCycle.Settled := by
  obtain ⟨m, d, c, h⟩ := s.gateAgain.testGate.closeCycle_eq
  have hseen : s.gateAgain.testGate.closeCycle.seenNow = s.gateAgain.testGate.seenNow :=
    s.gateAgain.testGate.seenNow_logsWritten
  refine ⟨rfl, fun hr => ?_, fun ht => ?_, ?_, ?_, ?_⟩
  · rw [h] at hr ⊢
    have hidle : s.running = false := by rw [← s.running_gateAgain, ← s.gateAgain.running_testGate]; exact hr
    exact (s.gateAgain.ungated_testGate_of_idle (s.running_gateAgain.trans hidle)).trans (s.ungated_gateAgain_of_idle hidle)
  · rw [h] at ht ⊢
    exact s.gateAgain.blockGated_testGate_of_testEn ht
  · rw [State.cyc_closeCycle]
  · rw [State.cyc_closeCycle]
  · rw [hseen, State.cyc_closeCycle]

theorem State.settled_settle : s.settle.Settled := State.settled_of_rounds _

end

/-! ### Quiet states -/

theorem State.bar2Flush_of_none {s : State} (h : s.bar2Wait = []) : s.bar2Flush = s := by
  have heta : ({ s with bar2Wait := [] } : State) = s := by rw [← h]
  unfold State.bar2Flush
  rw [h, heta, List.foldl_nil, ite_self]

theorem State.dmaFlush_of_none {s : State} (h : ∀ p ∈ s.rings, p.2.bursts = []) : s.dmaFlush = s := by
  have hnone : (s.rings.filter fun p => !p.2.bursts.isEmpty) = [] := by
    rw [List.filter_eq_nil_iff]
    intro p hp
    simp [h p hp]
  unfold State.dmaFlush
  rw [hnone]
  simp

theorem State.gateAgain_of_ungated {s : State} (h : s.running = false → s.clk.ungated = 0) : s.gateAgain = s := by
  unfold State.gateAgain
  split
  case isTrue => rfl
  case isFalse hr =>
    have hu := h (Bool.eq_false_iff.mpr hr)
    unfold State.updClk
    rw [← hu]

theorem State.testGate_of_clocked {s : State} (h : s.testEn = true → s.blockGated 6 = false) : s.testGate = s := by
  unfold State.testGate
  split
  case isTrue hb =>
    rw [Bool.and_eq_true] at hb
    rw [h hb.1] at hb
    cases hb.2
  case isFalse => rfl

/-- The end of a command changes nothing in a quiet state but what is kept for a write of the same cycle. -/
theorem State.settle_of_quiet {s : State} (h : s.Quiet) : s.settle = { s with recent := [], cyc := { s.cyc with incs := [] } } := by
  obtain ⟨⟨hdue, hung, htest, hsame, hincs, hseen⟩, hbar, hrings, hfresh, htop, hheld⟩ := h
  have hopen : s.openCycle = { s with recent := [] } := by simp [State.openCycle, hsame]
  unfold State.settle
  rw [State.bar2Flush_of_none hbar, State.dmaFlush_of_none hrings, State.issueHeld_nil hheld, hopen,
    State.takeActions_nil (s := { s with recent := [] }) hdue hfresh htop,
    State.gateAgain_of_ungated (s := { s with recent := [] }) hung,
    State.testGate_of_clocked (s := { s with recent := [] }) htest]
  unfold State.closeCycle State.logsWritten
  rw [if_pos (show ({ s with recent := [] } : State).cyc.seen = ({ s with recent := [] } : State).seenNow from hseen)]
  change ({ s with
      recent := [], due := []
      cyc := ⟨false, (if s.cyc.same = true then s.cyc.incs else []) ++ s.cyc.incsNow, [], s.seenNow⟩ } : State) =
    { s with recent := [], cyc := ⟨s.cyc.same, [], s.cyc.incsNow, s.cyc.seen⟩ }
  rw [hsame, hincs, hseen, hdue]
  rfl

end Sys2Proof.Machine

namespace Sys2Proof

open Machine

/-- Settles O58: the end of a command is settled, and a command with operands that nothing can deliver is that end alone. -/
theorem everyCommandCompletes : Obligations.EveryCommandCompletes := by
  unfold Obligations.EveryCommandCompletes
  refine ⟨fun c s => ?_, fun c s h => exec_of_ill_formed h s⟩
  obtain ⟨u, hu⟩ := exec_settles c s
  exact ⟨u.settle, hu, u.settled_settle⟩

/-- Settles O57: a step answers the end of a command, whose last rounds leave a settled state; the rounds themselves are the
model's, one equation per case. -/
theorem stepsEndSettled : Obligations.StepsEndSettled := by
  unfold Obligations.StepsEndSettled
  refine ⟨fun s t h => ?settled, fun s => rfl, fun s => ⟨fun h => ?same, fun h => ?opened, fun h => ?unseen, fun h => ?seen, rfl⟩,
    fun s n => ⟨fun o os h => ?due, fun h hf => ?fresh, fun h hf ht => ?topping, fun h hf ht => s.takeActions_nil h hf ht n⟩⟩
  case settled =>
    obtain ⟨u, hu⟩ := step_settles s
    rw [hu] at h
    cases h
    exact u.settled_settle
  case same => simp [State.openCycle, h]
  case opened => simp [State.openCycle, h]
  case unseen => exact if_pos h
  case seen => exact if_neg h
  case due => rw [State.takeActions, h]; rfl
  case fresh => simp [State.takeActions, h, hf]
  case topping => simp [State.takeActions, h, hf, ht]

end Sys2Proof
end

section
/-!
PROOFS. The output pins as functions of the state (R44, R441, R442, R448, R449), the state after POWER_ON (R42, R396, R399),
one step, and a plain setting accepted in a quiet state.
-/

namespace Sys2Proof.Machine

/-! ### Pins -/

theorem Hdr.anyClass_iff (h : Hdr) (p : Nat) (f : Nat → Bool) :
    h.anyClass p f = true ↔ ∃ b < 32, wbit h.stat b = true ∧ f (h.classOf p b) = true := by
  simp [Hdr.anyClass, List.any_eq_true]

section
variable (s : State)

/-- A page holds a set bit of class Device-fatal. -/
theorem State.fatalBit_iff :
    s.fatalBit = true ↔ ∃ p < 21, ∃ b < 32, wbit (s.hdr p).stat b = true ∧ (s.hdr p).classOf p b = 3 := by
  simp [State.fatalBit, List.any_eq_true, Hdr.anyClass_iff, pageCount]

/-- A page drives SVC_ALERT_N. -/
theorem State.anyAlert_iff :
    (List.range pageCount).any s.pageAlert = true ↔
      (∃ p < 21, ∃ b < 32, wbit (s.hdr p).stat b = true ∧ 3 ≤ (s.hdr p).classOf p b) ∨
      ∃ p < 21, (s.hdr p).stat &&& (s.hdr p).en ≠ 0 ∧ (s.hdr p).alertEn = true := by
  simp only [State.pageAlert, List.any_eq_true, List.mem_range, Bool.or_eq_true, Hdr.anyClass_iff, decide_eq_true_eq,
    Bool.and_eq_true, bne_iff_ne, pageCount, and_or_left, exists_or]

variable {s}

theorem State.tripLow_iff (h : s.svcUp = true) :
    s.tripLow = true ↔
      s.clk.ready = false ∨ s.clk.hold = true ∨ s.clk.svcOnly = true ∨ s.pins.shutdown = true ∨ s.fatalBit = true := by
  simp [State.tripLow, h, or_assoc]

theorem State.alertLow_iff (h : s.svcUp = true) :
    s.alertLow = true ↔ s.clk.svcOnly = true ∨ (List.range pageCount).any s.pageAlert = true := by
  simp only [State.alertLow, h, Bool.true_and, Bool.or_eq_true]

theorem State.thermLow_iff (h : s.svcUp = true) :
    s.thermLow = true ↔ s.pins.thermHot = true ∨ s.pins.shutdown = true := by
  simp [State.thermLow, h]

end

/-! ### The state after POWER_ON -/

theorem State.reg_reset (off : Nat) : State.reset.reg off = regReset off := rfl

theorem regReset_of_row {off : Nat} {r : RegRow} (h : regRow off = some r) : regReset off = BitVec.ofNat 32 r.reset := by
  rw [regReset, h]; rfl

theorem State.nvw_reset (i : Nat) : State.reset.nvw i = nvMfg i := rfl

theorem State.settled_reset : State.reset.Settled :=
  ⟨rfl, fun _ => rfl, fun h => absurd h (by decide), rfl, rfl, rfl⟩

/-! ### A plain setting -/

/-- Registers of the tables whose write only stores its RW bits. -/
def plainRegs : List Nat :=
  [Reg.JOB_DESC_LO, Reg.JOB_DESC_HI, Reg.RAST_PROBE_X, Reg.CORR_PROBE_X, Reg.PASS_CTL, Reg.TRK_FE, Reg.MOT_TGT_LO,
    Reg.LDG_ARG, Reg.GOV_BAND_SEL, Reg.BLN_LANE_SEL]

section
variable {off : Nat} (h : off ∈ plainRegs)
include h

theorem regWriteAct_plain (a : Acc) (v : Word) (s : State) : regWriteAct a off v s = s.writeRw off v := by
  simp only [plainRegs, List.mem_cons, List.not_mem_nil, or_false] at h
  rcases h with rfl | rfl | rfl | rfl | rfl | rfl | rfl | rfl | rfl | rfl <;> rfl

/-- None is the command register of the two-party protocol. -/
theorem plainRegs_ne_tpCmd (p : Party) : off ≠ Reg.TP_CMD + bankOf p := by
  rintro rfl
  cases p <;> revert h <;> decide

theorem anyWrite_plain {a : Acc} {s : State} (v : Word) (ht : Taken a off s) : anyWrite a off v s = s.writeRw off v := by
  rw [anyWrite, if_neg (plainRegs_ne_tpCmd h a.party), State.writeAccess_taken _ _ ht.1 ht.2, regWriteAct_plain h]

end

theorem exec_registerWrite_plain {a : Acc} {w : BitVec 22} {s : State} (v : Word) (h : 4 * w.toNat ∈ plainRegs)
    (ht : Taken a (4 * w.toNat) s) : exec (.registerWrite a w v) s = .next (s.writeRw (4 * w.toNat) v).settle :=
  congrArg finish (anyWrite_plain h v ht)

theorem State.reg_writeRw_same (s : State) (off : Nat) (v : Word) :
    (s.writeRw off v).reg off = ((v &&& regMask off) ||| (s.reg off &&& ~~~ regMask off)) :=
  State.reg_setReg_same _ _ _

theorem State.reg_writeRw_other (s : State) {off o : Nat} (v : Word) (h : o ≠ off) : (s.writeRw off v).reg o = s.reg o :=
  State.reg_setReg_other _ _ h

/-- A write of a register outside the CLK and TEST pages keeps a quiet state quiet: what gates blocks and enables tests
stands in those pages alone. -/
theorem State.quiet_writeRw {s : State} {off : Nat} (v : Word) (hq : s.Quiet)
    (hoff : off ∉ [Reg.CLK_GATE, Reg.CLK_PWR, Reg.CLK_RUN_EN, Reg.CLK_SLEEP_EN, Reg.CLK_DEEP_EN, Reg.TEST_CTL]) :
    (s.writeRw off v).Quiet := by
  simp only [List.mem_cons, List.not_mem_nil, or_false, not_or] at hoff
  obtain ⟨hgate, hpwr, hrun, hsleep, hdeep, htest⟩ := hoff
  have hset : (s.writeRw off v).gateSet = s.gateSet := by
    unfold State.gateSet State.rf
    rw [State.reg_writeRw_other _ _ (Ne.symm hgate), State.reg_writeRw_other _ _ (Ne.symm hpwr),
      State.reg_writeRw_other _ _ (Ne.symm hrun), State.reg_writeRw_other _ _ (Ne.symm hsleep),
      State.reg_writeRw_other _ _ (Ne.symm hdeep), State.writeRw_clk]
  have hen : (s.writeRw off v).testEn = s.testEn := by
    rw [State.testEn, State.reg_writeRw_other _ _ (Ne.symm htest), State.testEn]
  have hblock : (s.writeRw off v).blockGated 6 = s.blockGated 6 := by
    rw [State.blockGated, hset, State.writeRw_clk, State.blockGated]
  obtain ⟨⟨hdue, hung, htst, hcyc⟩, hrest⟩ := hq
  exact ⟨⟨hdue, hung, fun h => hblock.trans (htst (hen.symm.trans h)), hcyc⟩, hrest⟩

theorem plainRegs_not_gate {off : Nat} (h : off ∈ plainRegs) :
    off ∉ [Reg.CLK_GATE, Reg.CLK_PWR, Reg.CLK_RUN_EN, Reg.CLK_SLEEP_EN, Reg.CLK_DEEP_EN, Reg.TEST_CTL] := by
  revert off
  decide

end Sys2Proof.Machine

namespace Sys2Proof

open Machine

/-- Settles O60: each pin's level is its list of conditions, and a set bit of a page is one of 32 bits of one of 21 pages. -/
theorem pinsShowTheirConditions : Obligations.PinsShowTheirConditions := by
  unfold Obligations.PinsShowTheirConditions
  refine ⟨fun s h => ⟨?_, ?_, State.thermLow_iff h⟩, fun s h => ?_⟩
  · rw [State.tripLow_iff h, State.fatalBit_iff]
  · rw [State.alertLow_iff h, State.anyAlert_iff]
  · simp [State.tripLow, State.alertLow, State.thermLow, h]

/-- Settles O55: a step is `exec` of the front command, and no table word spells one. -/
theorem stepRunsTheFrontCommand : Obligations.StepRunsTheFrontCommand := by
  unfold Obligations.StepRunsTheFrontCommand
  refine ⟨fun s c rest => rfl, fun s h => ?_, fun _ _ => rfl, fun _ _ _ => rfl⟩
  rw [step, h]
  rfl

/-- Settles O56: at reset nothing is listed, so every store reads its default. -/
theorem resetLeavesTheValuesOfTheSpec : Obligations.ResetLeavesTheValuesOfTheSpec := by
  unfold Obligations.ResetLeavesTheValuesOfTheSpec
  refine ⟨State.settled_reset, rfl, State.reset_wf, by decide, fun off r h => regReset_of_row h, fun _ => rfl,
    rfl, fun i hlo hhi => ?_, rfl, rfl, rfl, rfl, rfl, by decide, fun _ => rfl, rfl, rfl, fun _ => rfl, fun _ => rfl,
    fun _ => rfl⟩
  rw [State.nvw_reset, nvMfg, if_neg (by omega), if_pos ⟨hlo, hhi⟩]

/-- Settles O59: in a quiet state the end of a command changes what is kept for the cycle alone, and a plain write keeps the
state quiet. -/
theorem quietStatesKeepAllElse : Obligations.QuietStatesKeepAllElse := by
  unfold Obligations.QuietStatesKeepAllElse
  refine ⟨fun s h => State.settle_of_quiet h, fun s a w v hq ht hoff => ?_⟩
  have hplain : 4 * w.toNat ∈ plainRegs := hoff
  refine ⟨_, exec_registerWrite_plain v hplain ht, ?_⟩
  rw [State.settle_of_quiet (State.quiet_writeRw v hq (plainRegs_not_gate hplain))]
  exact ⟨s.reg_writeRw_same _ v, fun off h => s.reg_writeRw_other v h, fun _ => rfl, rfl, rfl, rfl, rfl, rfl, rfl, rfl, rfl,
    rfl, rfl, rfl⟩

end Sys2Proof
end

section
/-!
PROOFS. What a command answers once its checks have passed: one lemma for each shape of a meaning (R35, R393, R428).
-/

namespace Sys2Proof.Machine

section
variable {s t : State}

theorem finish_eq (s : State) : finish s = .next s.settle := rfl

/-- A row whose register write is accepted, alone in its cycle, answers the end of its act. -/
theorem rowWrite_answers {a : Acc} {off : Nat} {act lost : State → State} (ht : Taken a off s) (h : act s = t) :
    rowWrite a off act lost s = .next t.settle := by
  rw [rowWrite_taken act lost ht.1 ht.2, h]

/-- A command of a block that runs answers the end of its act. -/
theorem onPage_answers {p : Nat} {act : State → State} (hl : s.live p = true) (h : act s = t) :
    onPage p act s = .next t.settle := by
  rw [onPage_live act hl, h]

theorem onService_answers {act : State → State} (hl : s.svcUp = true) (h : act s = t) :
    onService act s = .next t.settle := by
  rw [onService_up act hl, h]

theorem checked_answers {ok : Bool} {run : State → Host.Outcome State Fault Refusal} {o : Host.Outcome State Fault Refusal}
    (hok : ok = true) (h : run s = o) : checked ok run s = o := by
  rw [checked_ok run hok, h]

theorem checked_finish_answers {ok : Bool} {f : State → State} (hok : ok = true) (h : f s = t) :
    checked ok (fun s => finish (f s)) s = .next t.settle := by
  rw [checked_ok _ hok, h, finish]

/-- A command whose block does not run does nothing (log entry 3). -/
theorem onPage_held {p : Nat} (act : State → State) (hl : s.live p = false) : onPage p act s = .next s.settle := by
  simp [onPage, finish, hl]

/-! ### Writes of any register -/

section
variable {a : Acc} {off : Nat}

theorem anyWrite_taken (v : Word) (hne : off ≠ Reg.TP_CMD + bankOf a.party) (ht : Taken a off s) :
    anyWrite a off v s = regWriteAct a off v s := by
  rw [anyWrite, if_neg hne, State.writeAccess_taken _ _ ht.1 ht.2]

/-- A register write that is accepted, alone in its cycle, answers the end of what the register does. -/
theorem registerWrite_answers {w : BitVec 22} {v : Word} (hw : 4 * w.toNat = off)
    (hne : off ≠ Reg.TP_CMD + bankOf a.party) (ht : Taken a off s) (h : regWriteAct a off v s = t) :
    exec (.registerWrite a w v) s = .next t.settle := by
  subst hw
  exact congrArg finish ((anyWrite_taken v hne ht).trans h)

/-- The PCIe half of two accepted writes of one cycle comes first, and at a command register it is dropped (R428). -/
theorem writeBoth_pcie {act lost : State → State} {v : Word}
    (hp : s.judge ⟨.pcie, true, 0, .both v⟩ off = .accepted) (hs : s.judge ⟨.spi, true, 0, .both v⟩ off = .accepted)
    (hcam : off ≠ Reg.CAM_CTL) (hforce : isForce off = false) :
    s.writeAccess ⟨.pcie, true, 0, .both v⟩ off act lost =
      regWriteAct ⟨.spi, true, 0, .both v⟩ off v (if isCommand off then lost s else act s) := by
  have hcam' : (off == Reg.CAM_CTL) = false := by simpa using hcam
  simp only [State.writeAccess, State.sameCycle_both, State.writeBoth, otherAcc, otherParty, hp, hs, hcam', hforce]
  cases isCommand off <;> rfl

theorem writeBoth_spi {act lost : State → State} {v : Word}
    (hp : s.judge ⟨.pcie, true, 0, .both v⟩ off = .accepted) (hs : s.judge ⟨.spi, true, 0, .both v⟩ off = .accepted)
    (hcam : off ≠ Reg.CAM_CTL) (hforce : isForce off = false) :
    s.writeAccess ⟨.spi, true, 0, .both v⟩ off act lost =
      act (if isCommand off then regWriteLost .pcie off v s else regWriteAct ⟨.pcie, true, 0, .both v⟩ off v s) := by
  have hcam' : (off == Reg.CAM_CTL) = false := by simpa using hcam
  simp only [State.writeAccess, State.sameCycle_both, State.writeBoth, otherAcc, otherParty, hp, hs, hcam', hforce]
  cases isCommand off <;> rfl

end

end

end Sys2Proof.Machine
end

section
/-!
PROOFS. GEOM_PITCH (R11, R12, R28), counter clears and persistent words (R50, R64), and the commands of JOB_CMD in the states
that R71 gives them.
-/

namespace Sys2Proof.Machine

/-! ### GEOM_PITCH -/

section
variable {s : State} {v : Word}

theorem geomPitchAct_inRange (hlo : 320 ≤ fld v 0 11) (hhi : fld v 0 11 ≤ 1280) :
    geomPitchAct v s =
      if s.running = true then s.raiseOpen Ev.GEOM_PITCH_BUSY else (s.writeRw Reg.GEOM_PITCH v).speedCheck := by
  simp [geomPitchAct, Nat.not_lt.mpr hlo, Nat.not_lt.mpr hhi]

theorem geomPitchAct_outOfRange (h : fld v 0 11 < 320 ∨ 1280 < fld v 0 11) :
    geomPitchAct v s =
      if s.running = true then (s.raiseOpen Ev.GEOM_PITCH_RANGE).raiseOpen Ev.GEOM_PITCH_BUSY
      else s.raiseOpen Ev.GEOM_PITCH_RANGE := by
  simp [geomPitchAct, h]

end

/-! ### Counters and persistent words -/

theorem clearBits_eq_foldl (s : State) (v : Word) (regs : List (Nat × Nat)) :
    clearBits s v regs = regs.foldl (fun t r => if wbit v r.1 then t.setReg r.2 0 else t) s := by
  induction regs generalizing s with
  | nil => rfl
  | cons r regs ih =>
    rw [clearBits, List.foldl_cons]
    split <;> exact ih _

section
variable {s : State} {i : Nat}

/-- The end of the programming of a word: one more write counted, the slot empty. -/
def State.programmed (s : State) (i : Nat) : State :=
  { s with nvCount := sput 0 s.nvCount i (s.nvc i + 1), nvSlot := sput false s.nvSlot i false }

theorem nvProgramAct_idle (h : s.nvPending i = false) : nvProgramAct i s = s := by
  simp [nvProgramAct, h]

theorem nvProgramAct_worn (h : s.nvPending i = true) (hn : s.nvc i + 1 = 95000) (hm : s.mainUp = true) :
    nvProgramAct i s = (s.programmed i).raise Ev.CTRL_NV_WEAR i := by
  simp [nvProgramAct, h, hn, hm, State.programmed]

theorem nvProgramAct_quiet (h : s.nvPending i = true) (hn : s.nvc i + 1 ≠ 95000 ∨ s.mainUp = false) :
    nvProgramAct i s = s.programmed i := by
  rcases hn with hn | hn <;> simp [nvProgramAct, h, hn, State.programmed]

theorem State.nvc_programmed : (s.programmed i).nvc i = s.nvc i + 1 := by
  rw [State.nvc, State.programmed, sget_sput_same]

theorem State.nvPending_programmed : (s.programmed i).nvPending i = false := by
  rw [State.nvPending, State.programmed, sget_sput_same]

end

/-- The pages with a counter-clear register. -/
theorem mem_cntClrPages {p : Nat} {r : Nat × List (Nat × Nat)} (h : cntClrOf p = some r) : p ∈ cntClrPages := by
  unfold cntClrOf at h
  split at h <;> simp_all [cntClrPages]

/-! ### JOB_CMD -/

section
variable {s : State} {c : Nat}

theorem loadAct_taken (h : (s.ctx c).st = 0) (hl : s.loadingAny = false) :
    loadAct c s =
      (s.resStart Reg.JOB_RESULT).setCtx c
        { Ctx.reset with
          st := 1, descAddr := (s.reg Reg.JOB_DESC_LO).toNat + 2 ^ 32 * (s.reg Reg.JOB_DESC_HI).toNat } := by
  simp [loadAct, h, hl]

theorem loadAct_dropped (h : (s.ctx c).st ≠ 0 ∨ s.loadingAny = true) : loadAct c s = s.jobIgnored 1 c := by
  simp [loadAct, h]

theorem startAct_taken (h : (s.ctx c).st = 2) (hh : s.heldBack c = false) :
    startAct c s = { s.setCtxSt c 3 with startQ := s.startQ ++ [c] } := by
  simp [startAct, h, hh]

theorem startAct_dropped (h : (s.ctx c).st ≠ 2 ∨ s.heldBack c = true) : startAct c s = s.jobIgnored 2 c := by
  simp [startAct, h]

theorem cancelAct_queued (h : (s.ctx c).st = 3) :
    cancelAct c s = { s.setCtxSt c 2 with startQ := s.startQ.filter fun k => k != c } := by
  simp [cancelAct, h]

theorem cancelAct_priming (h : (s.ctx c).st = 4) :
    cancelAct c s = ((s.endForm c).setCtx c { s.ctx c with st := 2, prep := Prep.reset }).lanePower := by
  simp [cancelAct, h]

theorem cancelAct_dropped (h3 : (s.ctx c).st ≠ 3) (h4 : (s.ctx c).st ≠ 4) : cancelAct c s = s.jobIgnored 3 c := by
  simp [cancelAct, h3, h4]

theorem releaseAct_job (h : (s.ctx c).st = 2) (hh : s.heldBack c = false) (ht : (s.ctx c).side.topup = false) :
    releaseAct c s = ((s.adoptEarly c).agedRecs c).setCtx c Ctx.reset := by
  simp [releaseAct, h, hh, ht]

theorem releaseAct_topup (h : (s.ctx c).st = 2) (hh : s.heldBack c = false) (ht : (s.ctx c).side.topup = true) :
    releaseAct c s = ((s.reopenRecords c).agedRecs c).setCtx c Ctx.reset := by
  simp [releaseAct, h, hh, ht]

theorem releaseAct_finished (h : (s.ctx c).st = 6 ∨ (s.ctx c).st = 7) (hh : s.holdsOpen c = false) :
    releaseAct c s = ((s.adoptEarly c).agedRecs c).setCtx c Ctx.reset := by
  have hne : (s.ctx c).st ≠ 2 := by omega
  simp [releaseAct, h, hh, hne]

theorem releaseAct_holdsOpen (h : (s.ctx c).st = 6 ∨ (s.ctx c).st = 7) (hh : s.holdsOpen c = true) :
    releaseAct c s = s.jobIgnored 5 c := by
  have hne : (s.ctx c).st ≠ 2 := by omega
  simp [releaseAct, h, hh, hne]

theorem releaseAct_dropped (h : (s.ctx c).st ∉ [2, 6, 7] ∨ (s.ctx c).st = 2 ∧ s.heldBack c = true) :
    releaseAct c s = s.jobIgnored 5 c := by
  rcases h with h | ⟨h, hh⟩
  · simp only [List.mem_cons, List.not_mem_nil, or_false, not_or] at h
    obtain ⟨h2, h6, h7⟩ := h
    simp [releaseAct, h2, h6, h7]
  · simp [releaseAct, h, hh]

theorem jobCmdAct_noRow {v : Word} (h : fld v 0 3 = 0 ∨ fld v 0 3 = 7) :
    jobCmdAct v s = s.jobIgnored (fld v 0 3) (fld v 8 7) := by
  rcases h with h | h <;> simp [jobCmdAct, h]

end

theorem jobCmd_ne_tpCmd (p : Party) : Reg.JOB_CMD ≠ Reg.TP_CMD + bankOf p := by
  cases p <;> decide

end Sys2Proof.Machine

namespace Sys2Proof

open Machine

/-- Settles O7: the write is stored only with a value in range and no stripe running. -/
theorem pitchKeepsItsRange : Obligations.PitchKeepsItsRange := by
  unfold Obligations.PitchKeepsItsRange
  intro s a v ht
  refine ⟨fun hlo hhi hr => ?_, fun hlo hhi hr => ?_, fun hbad hr => ?_, fun hbad hr => ?_⟩
  · exact rowWrite_answers ht (by simp [geomPitchAct_inRange hlo hhi, hr])
  · exact rowWrite_answers ht (by simp [geomPitchAct_inRange hlo hhi, hr])
  · exact rowWrite_answers ht (by simp [geomPitchAct_outOfRange hbad, hr])
  · exact rowWrite_answers ht (by simp [geomPitchAct_outOfRange hbad, hr])

/-- Settles O4: a counter clear folds over the page's named counters; the end of a programming counts one write. -/
theorem countersClearAndWordsProgram : Obligations.CountersClearAndWordsProgram := by
  unfold Obligations.CountersClearAndWordsProgram
  refine ⟨fun s a p v off regs hp ht => ?_, fun s i hs => ?_⟩
  · have hoff : cntClrOff p.toNat = off := by rw [cntClrOff, hp]; rfl
    have hwf : Instr.wf (.cntClr a p v) = true := by simpa [Instr.wf] using mem_cntClrPages hp
    refine checked_answers hwf (rowWrite_answers (hoff.symm ▸ ht) ?_)
    simp only [cntClrAct, hp, clearBits_eq_foldl]
  · refine ⟨fun h => onService_answers hs (nvProgramAct_idle h), fun h => ?_⟩
    exact ⟨State.nvc_programmed, State.nvPending_programmed, fun hn => onService_answers hs (nvProgramAct_quiet h hn),
      fun hn hm => onService_answers hs (nvProgramAct_worn h hn hm)⟩

/-- Settles O8: each OP of JOB_CMD by the state of its context; the register's own write is that OP, and of two of one cycle
the PCIe one is dropped. -/
theorem jobCommandsMoveTheContext : Obligations.JobCommandsMoveTheContext := by
  unfold Obligations.JobCommandsMoveTheContext
  intro s a c ht x ignored
  refine ⟨?load, ?loadNot, ?start, ?startNot, ?cancelQueued, ?cancelPriming, ?cancelNot, ?abort, ?abortNone, ?releaseJob,
    ?releaseTopup, ?releaseDone, ?releaseOpen, ?releaseNot, ?resume, ?resumeNot, ?write, ?both⟩
  case load => exact fun ⟨hst, hl⟩ => rowWrite_answers ht (loadAct_taken hst hl)
  case loadNot => exact fun h => rowWrite_answers ht (loadAct_dropped h)
  case start => exact fun ⟨hst, hh⟩ => rowWrite_answers ht (startAct_taken hst hh)
  case startNot => exact fun h => rowWrite_answers ht (startAct_dropped h)
  case cancelQueued => exact fun hst => rowWrite_answers ht (cancelAct_queued hst)
  case cancelPriming => exact fun hst => rowWrite_answers ht (cancelAct_priming hst)
  case cancelNot => exact fun h3 h4 => rowWrite_answers ht (cancelAct_dropped h3 h4)
  case abort =>
    exact fun e he => ⟨fun hc => rowWrite_answers ht (by simp [abortAct, he, hc]),
      fun hc => rowWrite_answers ht (by simp [abortAct, he, hc, State.jobIgnored])⟩
  case abortNone => exact fun he => rowWrite_answers ht (by simp [abortAct, he, State.jobIgnored])
  case releaseJob => exact fun ⟨hst, hh, htop⟩ => rowWrite_answers ht (releaseAct_job hst hh htop)
  case releaseTopup => exact fun ⟨hst, hh, htop⟩ => rowWrite_answers ht (releaseAct_topup hst hh htop)
  case releaseDone => exact fun ⟨hst, hh⟩ => rowWrite_answers ht (releaseAct_finished hst hh)
  case releaseOpen => exact fun ⟨hst, hh⟩ => rowWrite_answers ht (releaseAct_holdsOpen hst hh)
  case releaseNot => exact fun h => rowWrite_answers ht (releaseAct_dropped h)
  case resume => exact fun h => rowWrite_answers ht (if_pos h)
  case resumeNot => exact fun h => rowWrite_answers ht (if_neg (by simp [h]))
  case write =>
    intro w v hw hc
    have hrow (act lost : State → State) (hact : jobCmdAct v s = act s) :
        exec (.registerWrite a w v) s = rowWrite a Reg.JOB_CMD act lost s :=
      (registerWrite_answers hw (jobCmd_ne_tpCmd _) ht hact).trans (rowWrite_answers ht rfl).symm
    refine ⟨registerWrite_answers hw (jobCmd_ne_tpCmd _) ht rfl, ?_, ?_, ?_, ?_, ?_, ?_, ?_⟩
    · exact fun h => hrow (loadAct c.toNat) _ (by simp [jobCmdAct, h, hc])
    · exact fun h => hrow (startAct c.toNat) _ (by simp [jobCmdAct, h, hc])
    · exact fun h => hrow (cancelAct c.toNat) _ (by simp [jobCmdAct, h, hc])
    · exact fun h => hrow (abortAct c.toNat) _ (by simp [jobCmdAct, h, hc])
    · exact fun h => hrow (releaseAct c.toNat) _ (by simp [jobCmdAct, h, hc])
    · exact fun h => hrow (resumeAct c.toNat) _ (by simp [jobCmdAct, h, hc])
    · exact fun h => registerWrite_answers hw (jobCmd_ne_tpCmd _) ht (hc ▸ jobCmdAct_noRow h)
  case both =>
    intro w p q hw hp hs
    have hq (r : Word) (party : Party) : s.judge ⟨party, true, 0, .both r⟩ Reg.JOB_CMD =
        s.judge ⟨party, true, 0, .both q⟩ Reg.JOB_CMD := rfl
    refine ⟨congrArg finish ?_, congrArg finish ?_⟩
    · rw [hw, anyWrite, if_neg (jobCmd_ne_tpCmd _), writeBoth_pcie hp hs (by decide) (by decide)]
      rfl
    · rw [hw, anyWrite, if_neg (jobCmd_ne_tpCmd _), writeBoth_spi ((hq p _).trans hp) ((hq p _).trans hs) (by decide) (by decide)]
      rfl

end Sys2Proof
end

section
/-!
PROOFS. The two-party protocol (R56 to R61): what each of the four commands does by phase and party, which of two commands of
one cycle acts, and that every command of a cycle in which the device moves the proposal is dropped.
-/

namespace Sys2Proof.Machine

/-! ### One command -/

section
variable {s : State} {p : Party}

theorem tpCmdAct_propose (h : s.tp.phase = .none) :
    tpCmdAct p 1 s = { s with tp := { s.tp with phase := .validating, proposer := p } } := by
  simp [tpCmdAct, h]

theorem tpCmdAct_none (h : s.tp.phase = .none) {c : Nat} (hc : c ≠ 1) : tpCmdAct p c s = tpIgnored p c s := by
  unfold tpCmdAct; split <;> simp_all

theorem tpCmdAct_busy (h : s.tp.phase = .validating ∨ s.tp.phase = .confirmed) (c : Nat) :
    tpCmdAct p c s = tpIgnored p c s := by
  unfold tpCmdAct; split <;> simp_all

theorem tpCmdAct_withdraw (h : s.tp.phase = .pending) (hp : s.tp.proposer = p) :
    tpCmdAct p 2 s = s.tpEnds 6 s.tp.pairs.length := by
  simp [tpCmdAct, h, hp]

theorem tpCmdAct_ofProposer (h : s.tp.phase = .pending) (hp : s.tp.proposer = p) {c : Nat} (hc : c ≠ 2) :
    tpCmdAct p c s = tpIgnored p c s := by
  unfold tpCmdAct; split <;> simp_all

theorem tpCmdAct_confirm (h : s.tp.phase = .pending) (hp : s.tp.proposer ≠ p) : tpCmdAct p 3 s = s.tpConfirm p := by
  simp [tpCmdAct, h, hp]

theorem tpCmdAct_reject (h : s.tp.phase = .pending) (hp : s.tp.proposer ≠ p) :
    tpCmdAct p 4 s = s.tpEnds 7 s.tp.pairs.length := by
  simp [tpCmdAct, h, hp]

theorem tpCmdAct_ofOther (h : s.tp.phase = .pending) (hp : s.tp.proposer ≠ p) {c : Nat} (h3 : c ≠ 3) (h4 : c ≠ 4) :
    tpCmdAct p c s = tpIgnored p c s := by
  unfold tpCmdAct; split <;> simp_all

/-- Whatever the phase, an OP outside the four names no command. -/
theorem tpCmdAct_noCommand {c : Nat} (hc : c ∉ [1, 2, 3, 4]) : tpCmdAct p c s = tpIgnored p c s := by
  unfold tpCmdAct; split <;> simp_all

theorem tpConfirm_right (hn : s.reg (Reg.TP_CONF_NONCE + bankOf p) = s.reg Reg.TP_NONCE)
    (hd : s.reg (Reg.TP_CONF_DIGEST + bankOf p) = tpDigest s.tp.pairs) :
    s.tpConfirm p = { s with tp := { s.tp with phase := .confirmed, left := s.tpLeft } } := if_pos ⟨hn, hd⟩

theorem tpConfirm_wrong (h : s.reg (Reg.TP_CONF_NONCE + bankOf p) ≠ s.reg Reg.TP_NONCE ∨
      s.reg (Reg.TP_CONF_DIGEST + bankOf p) ≠ tpDigest s.tp.pairs) :
    s.tpConfirm p = s.tpEnds 5 s.tp.pairs.length :=
  if_neg fun ⟨hn, hd⟩ => h.elim (· hn) (· hd)

end

/-! ### Two commands of one cycle -/

section
variable {s : State} {p : Party}

theorem otherParty_ne (p : Party) : otherParty p ≠ p := by cases p <;> decide

theorem otherParty_otherParty (p : Party) : otherParty (otherParty p) = p := by cases p <;> rfl

theorem tpAllowed_none (h : s.tp.phase = .none) (c : Nat) : s.tpAllowed p c = decide (c = 1) := by
  simp [State.tpAllowed, h, beq_eq_decide]

theorem tpAllowed_proposer (h : s.tp.phase = .pending) (hp : s.tp.proposer = p) (c : Nat) :
    s.tpAllowed p c = decide (c = 2) := by
  simp [State.tpAllowed, h, hp, beq_eq_decide]

theorem tpAllowed_other (h : s.tp.phase = .pending) (hp : s.tp.proposer ≠ p) (c : Nat) :
    s.tpAllowed p c = decide (c = 3 ∨ c = 4) := by
  simp [State.tpAllowed, h, hp, beq_eq_decide, Bool.decide_or]

theorem tpAllowed_busy (h : s.tp.phase = .validating ∨ s.tp.phase = .confirmed) (c : Nat) : s.tpAllowed p c = false := by
  rcases h with h | h <;> simp [State.tpAllowed, h]

/-- Neither command is allowed: both are dropped. -/
theorem tpBothAct_neither {c d : Nat} (hc : s.tpAllowed p c = false) (hd : s.tpAllowed (otherParty p) d = false) :
    tpBothAct p c d s = tpIgnored (otherParty p) d (tpIgnored p c s) := by
  simp [tpBothAct, State.tpWins, hc, hd]

theorem tpBothAct_first {c d : Nat} (hc : s.tpAllowed p c = true) (hd : s.tpAllowed (otherParty p) d = false) :
    tpBothAct p c d s = tpIgnored (otherParty p) d (tpCmdAct p c s) := by
  simp [tpBothAct, State.tpWins, hc, hd]

theorem tpBothAct_second {c d : Nat} (hc : s.tpAllowed p c = false) (hd : s.tpAllowed (otherParty p) d = true) :
    tpBothAct p c d s = tpIgnored p c (tpCmdAct (otherParty p) d s) := by
  simp [tpBothAct, State.tpWins, hc, hd, otherParty_otherParty]

/-- The proposer's WITHDRAW wins over whatever the other party sends. -/
theorem tpBothAct_withdraw (h : s.tp.phase = .pending) (hp : s.tp.proposer = p) (d : Nat) :
    tpBothAct p 2 d s = tpIgnored (otherParty p) d (s.tpEnds 6 s.tp.pairs.length) := by
  have hc : s.tpAllowed p 2 = true := by simp [tpAllowed_proposer h hp]
  rw [tpBothAct, if_pos (by simp [State.tpWins, hc]), tpCmdAct_withdraw h hp]

theorem tpBothAct_withdrawOther (h : s.tp.phase = .pending) (hp : s.tp.proposer = otherParty p) (c : Nat) :
    tpBothAct p c 2 s = tpIgnored p c (s.tpEnds 6 s.tp.pairs.length) := by
  have hne : s.tp.proposer ≠ p := hp ▸ otherParty_ne p
  have hd : s.tpAllowed (otherParty p) 2 = true := by simp [tpAllowed_proposer h hp]
  have hlose : ¬ s.tpWins p c 2 = true := by
    simp only [State.tpWins, hd, tpAllowed_other h hne, Bool.not_true, Bool.false_or, Bool.and_eq_true, decide_eq_true_eq]
    rintro ⟨rfl | rfl, hw⟩ <;> simp at hw
  rw [tpBothAct, if_neg hlose, if_pos (by simp [State.tpWins, hd]), tpCmdAct_withdraw h hp]

/-- Of two proposals the SPI one is taken. -/
theorem tpBothAct_proposals (h : s.tp.phase = .none) :
    tpBothAct p 1 1 s = tpIgnored .pcie 1 { s with tp := { s.tp with phase := .validating, proposer := .spi } } := by
  have hall (q : Party) : s.tpAllowed q 1 = true := by simp [tpAllowed_none h]
  cases p <;> simp [tpBothAct, State.tpWins, hall, otherParty, tpCmdAct_propose h]

end

/-! ### The access -/

section
variable {s : State} {a : Acc}

theorem tpMoved_alone : s.tpMoved .alone = false := rfl

theorem tpMoved_both (v : Word) : s.tpMoved (.both v) = false := rfl

theorem tpAccess_alone (ht : Taken a (Reg.TP_CMD + bankOf a.party) s) (c : Nat) : s.tpAccess a c = tpCmdAct a.party c s := by
  simp [State.tpAccess, ht.2, ht.1, State.decided, tpTiedAct, tpMoved_alone]

theorem tpAccess_both {v : Word} (ht : a.tie = .both v) (ha : s.judge a (Reg.TP_CMD + bankOf a.party) = .accepted)
    (hb : s.judge (otherAcc a) (Reg.TP_CMD + bankOf (otherParty a.party)) = .accepted) (c : Nat) :
    s.tpAccess a c = tpBothAct a.party c (fld v 0 3) s := by
  have hb' : s.judge (otherAcc a) (Reg.TP_CMD + bankOf (otherAcc a).party) = .accepted := hb
  simp [State.tpAccess, ht, State.tpTwo, ha, hb', tpBothTied, tpMoved_both]

/-- What a command shares its cycle with decides no check of R35. -/
theorem judge_sameCycle (t : Tie) (b : Acc) (off : Nat) : (s.sameCycle t).judge b off = s.judge b off := by
  unfold State.sameCycle
  split <;> rfl

/-- A command in the cycle in which the device ends a proposal or makes it pending is dropped. -/
theorem tpAccess_moved (ht : a.tie = .device) (ha : s.judge a (Reg.TP_CMD + bankOf a.party) = .accepted)
    (hm : (s.recent.any fun o => !o.forced && (o.ev = Ev.CTRL_TP_DONE || o.ev = Ev.CTRL_TP_PROPOSED)) = true) (c : Nat) :
    s.tpAccess a c = tpIgnored a.party c (s.sameCycle .device) := by
  have hmoved : (s.sameCycle .device).tpMoved .device = true := by
    rw [State.tpMoved, State.sameCycle_recent, hm]; rfl
  simp [State.tpAccess, ht, judge_sameCycle, ha, State.decided, tpTiedAct, hmoved]

theorem tpAccess_movedBoth {v : Word} (ht : a.tie = .bothDevice v)
    (ha : s.judge a (Reg.TP_CMD + bankOf a.party) = .accepted)
    (hb : s.judge (otherAcc a) (Reg.TP_CMD + bankOf (otherParty a.party)) = .accepted)
    (hm : (s.recent.any fun o => !o.forced && (o.ev = Ev.CTRL_TP_DONE || o.ev = Ev.CTRL_TP_PROPOSED)) = true) (c : Nat) :
    s.tpAccess a c = tpIgnored (otherParty a.party) (fld v 0 3) (tpIgnored a.party c (s.sameCycle .device)) := by
  have hb' : s.judge (otherAcc a) (Reg.TP_CMD + bankOf (otherAcc a).party) = .accepted := hb
  have hmoved : (s.sameCycle (.bothDevice v)).tpMoved (.bothDevice v) = true := by
    rw [State.tpMoved, State.sameCycle_recent, hm]; rfl
  have hcyc : s.sameCycle (.bothDevice v) = s.sameCycle .device := rfl
  rw [hcyc] at hmoved
  simp only [State.tpAccess, ht, State.tpTwo, judge_sameCycle, ha, hb', and_self, if_true, tpBothTied, hmoved, hcyc]

end

/-- The command of a number, as an access of a party. -/
theorem exec_tpCommand {a : Acc} {c : Nat} {i : Instr}
    (h : (c, i) ∈ [(1, Instr.propose a), (2, .withdraw a), (3, .confirm a), (4, .reject a)]) (s : State) :
    exec i s = finish (s.tpAccess a c) := by
  simp only [List.mem_cons, Prod.mk.injEq, List.not_mem_nil, or_false] at h
  obtain ⟨rfl, rfl⟩ | ⟨rfl, rfl⟩ | ⟨rfl, rfl⟩ | ⟨rfl, rfl⟩ := h <;> rfl

theorem exec_registerWrite_tpCmd {a : Acc} {w : BitVec 22} (h : 4 * w.toNat = Reg.TP_CMD + bankOf a.party) (v : Word)
    (s : State) : exec (.registerWrite a w v) s = finish (s.tpAccess a (fld v 0 3)) :=
  congrArg finish (by rw [anyWrite, if_pos h])

end Sys2Proof.Machine

namespace Sys2Proof

open Machine

/-- Settles O5: two commands of one cycle by which of them is allowed, then one command by phase and party. -/
theorem twoPartyCommandsMoveTheProposal : Obligations.TwoPartyCommandsMoveTheProposal := by
  unfold Obligations.TwoPartyCommandsMoveTheProposal
  refine ⟨?pair, ?moved, ?register, ?one⟩
  case pair =>
    intro s a v c i ht ha hb hi
    dsimp only
    have hans {t : State} (h : tpBothAct a.party c (fld v 0 3) s = t) : exec i s = .next t.settle := by
      rw [exec_tpCommand hi, tpAccess_both ht ha hb, h, finish]
    generalize a.party = me at hans ⊢
    generalize fld v 0 3 = d at hans ⊢
    have hjudged (p : Party) (n : Nat) (hph : s.tp.phase = .pending) (hp : s.tp.proposer ≠ p) (hn : n = 3 ∨ n = 4) :
        tpCmdAct p n s = if n = 3 then s.tpConfirm p else s.tpEnds 7 s.tp.pairs.length := by
      rcases hn with rfl | rfl
      · rw [tpCmdAct_confirm hph hp, if_pos rfl]
      · rw [tpCmdAct_reject hph hp, if_neg (by decide)]
    refine ⟨fun hph => ⟨?_, ?_, ?_, ?_⟩, fun hph hp => ⟨?_, ?_, ?_⟩, fun hph hp => ⟨?_, ?_, ?_⟩, fun hph => ?_⟩
    · rintro rfl rfl
      exact hans (tpBothAct_proposals hph)
    · rintro rfl hd
      refine hans ((tpBothAct_first ?_ ?_).trans (by rw [tpCmdAct_propose hph]))
      · simp [tpAllowed_none hph]
      · simp [tpAllowed_none hph, hd]
    · rintro hc rfl
      refine hans ((tpBothAct_second ?_ ?_).trans (by rw [tpCmdAct_propose hph]))
      · simp [tpAllowed_none hph, hc]
      · simp [tpAllowed_none hph]
    · intro hc hd
      refine hans (tpBothAct_neither ?_ ?_)
      · simp [tpAllowed_none hph, hc]
      · simp [tpAllowed_none hph, hd]
    · rintro rfl
      exact hans (tpBothAct_withdraw hph hp d)
    · intro hc hd
      have hother : s.tp.proposer ≠ otherParty me := hp ▸ (otherParty_ne me).symm
      refine hans ((tpBothAct_second ?_ ?_).trans (by rw [hjudged _ d hph hother hd]))
      · simp [tpAllowed_proposer hph hp, hc]
      · simpa [tpAllowed_other hph hother] using hd
    · intro hc hd3 hd4
      have hother : s.tp.proposer ≠ otherParty me := hp ▸ (otherParty_ne me).symm
      refine hans (tpBothAct_neither ?_ ?_)
      · simp [tpAllowed_proposer hph hp, hc]
      · simp [tpAllowed_other hph hother, hd3, hd4]
    · rintro rfl
      exact hans (tpBothAct_withdrawOther hph hp c)
    · intro hd hc
      have hother : s.tp.proposer ≠ me := hp ▸ otherParty_ne me
      refine hans ((tpBothAct_first ?_ ?_).trans (by rw [hjudged me c hph hother hc]))
      · simpa [tpAllowed_other hph hother] using hc
      · simp [tpAllowed_proposer hph hp, hd]
    · intro hd hc3 hc4
      have hother : s.tp.proposer ≠ me := hp ▸ otherParty_ne me
      refine hans (tpBothAct_neither ?_ ?_)
      · simp [tpAllowed_other hph hother, hc3, hc4]
      · simp [tpAllowed_proposer hph hp, hd]
    · exact hans (tpBothAct_neither (tpAllowed_busy hph c) (tpAllowed_busy hph d))
  case moved =>
    intro s a c i ha hi u hm
    rw [exec_tpCommand hi]
    exact ⟨fun ht => congrArg finish (tpAccess_moved ht ha hm c),
      fun v ht hb => congrArg finish (tpAccess_movedBoth ht ha hb hm c)⟩
  case register =>
    intro s a w v hw
    rw [exec_registerWrite_tpCmd hw]
    refine ⟨fun c i hi hc => by rw [exec_tpCommand hi, hc], fun hc ht => congrArg finish ?_⟩
    rw [tpAccess_alone (hw ▸ ht), tpCmdAct_noCommand hc, tpIgnored]
  case one =>
    intro s a ht ends ignored
    have hans (c : Nat) {i : Instr} {t : State}
        (hi : (c, i) ∈ [(1, Instr.propose a), (2, .withdraw a), (3, .confirm a), (4, .reject a)])
        (h : tpCmdAct a.party c s = t) : exec i s = .next t.settle := by
      rw [exec_tpCommand hi, tpAccess_alone ht, h, finish]
    have hpropose {t : State} := hans (t := t) 1 (.head _)
    have hwithdraw {t : State} := hans (t := t) 2 (.tail _ (.head _))
    have hconfirm {t : State} := hans (t := t) 3 (.tail _ (.tail _ (.head _)))
    have hreject {t : State} := hans (t := t) 4 (.tail _ (.tail _ (.tail _ (.head _))))
    refine ⟨fun hph => ?_, fun hph => ⟨?_, fun hp => ?_, fun hp => ?_, fun hl => ?_⟩, fun hph => ?_, fun hl hph => ?_⟩
    · exact ⟨hpropose (tpCmdAct_propose hph), hwithdraw (tpCmdAct_none hph (by decide)),
        hconfirm (tpCmdAct_none hph (by decide)), hreject (tpCmdAct_none hph (by decide))⟩
    · by_cases hp : s.tp.proposer = a.party
      · exact hpropose (tpCmdAct_ofProposer hph hp (by decide))
      · exact hpropose (tpCmdAct_ofOther hph hp (by decide) (by decide))
    · exact ⟨hwithdraw (tpCmdAct_withdraw hph hp), hconfirm (tpCmdAct_ofProposer hph hp (by decide)),
        hreject (tpCmdAct_ofProposer hph hp (by decide))⟩
    · exact ⟨hwithdraw (tpCmdAct_ofOther hph hp (by decide) (by decide)), hreject (tpCmdAct_reject hph hp),
        fun hn hd => hconfirm ((tpCmdAct_confirm hph hp).trans (tpConfirm_right hn hd)),
        fun h => hconfirm ((tpCmdAct_confirm hph hp).trans (tpConfirm_wrong h))⟩
    · exact onPage_answers hl (if_pos hph)
    · exact ⟨hpropose (tpCmdAct_busy hph 1), hwithdraw (tpCmdAct_busy hph 2), hconfirm (tpCmdAct_busy hph 3),
        hreject (tpCmdAct_busy hph 4)⟩
    · exact onPage_answers hl (if_neg hph)

end Sys2Proof
end

section
/-!
PROOFS. The header registers of a page (R38, R43, R45, R46, R331): what clearing, forcing and classing events leaves, and which
occurrences of the same cycle count.
-/

namespace Sys2Proof.Machine

/-! ### Words packed from flags -/

/-- The number whose bits below `n` are the flags. -/
def bitSum (f : Nat → Bool) (n : Nat) : Nat :=
  ((List.range n).map fun b => (b, b2n (f b))).foldl (fun a p => a + p.2 * 2 ^ p.1) 0

theorem bitSum_succ (f : Nat → Bool) (n : Nat) : bitSum f (n + 1) = 2 ^ n * b2n (f n) + bitSum f n := by
  simp [bitSum, List.range_succ, Nat.mul_comm, Nat.add_comm]

theorem bitSum_lt (f : Nat → Bool) (n : Nat) : bitSum f n < 2 ^ n := by
  induction n with
  | zero => exact Nat.one_pos
  | succ n ih =>
    have hb : b2n (f n) ≤ 1 := by cases f n <;> decide
    have hm : 2 ^ n * b2n (f n) ≤ 2 ^ n * 1 := Nat.mul_le_mul_left _ hb
    rw [bitSum_succ, pow_succ]
    omega

theorem testBit_bitSum (f : Nat → Bool) (n : Nat) {b : Nat} (h : b < n) : (bitSum f n).testBit b = f b := by
  induction n with
  | zero => cases h
  | succ n ih =>
    rw [bitSum_succ, Nat.testBit_two_pow_mul_add _ (bitSum_lt f n)]
    rcases Nat.lt_succ_iff_lt_or_eq.mp h with hlt | rfl
    · rw [if_pos hlt, ih hlt]
    · cases hf : f b <;> simp [b2n]

/-- A word packed from 32 flags reads each of them. -/
theorem wbit_packFlags (f : Nat → Bool) {b : Nat} (h : b < 32) :
    wbit (pack ((List.range 32).map fun b => (b, b2n (f b)))) b = f b := by
  rw [pack, w32, wbit, BitVec.getLsbD_ofNat, ← bitSum, testBit_bitSum f 32 h]
  simp [h]

theorem packFlags_false : pack ((List.range 32).map fun b => (b, b2n false)) = 0 := by decide

/-! ### One header -/

section
variable (s : State) (p : Nat)

theorem State.hdr_signalNew (old new : Hdr) (q : Nat) : (s.signalNew p old new).hdr q = s.hdr q := by
  unfold State.signalNew
  split
  · rw [State.hdr, State.sendVector_hdrs, State.hdr]
  · rfl

theorem State.hdr_changeHdr_same (f : Hdr → Hdr) : (s.changeHdr p f).hdr p = f (s.hdr p) := by
  rw [State.changeHdr, State.hdr_signalNew, State.hdr_setHdr_same]

theorem State.hdr_sendVector (v q : Nat) : (s.sendVector v).hdr q = s.hdr q := by
  rw [State.hdr, State.sendVector_hdrs, State.hdr]

theorem State.tiedBits_alone : s.tiedBits .alone p = 0 := by
  simp only [State.tiedBits, State.tied_alone, Option.isSome_none, packFlags_false]

/-- A tied bit is an event that has occurred in the cycle. -/
theorem State.wbit_tiedBits (t : Tie) {b : Nat} (h : b < 32) :
    wbit (s.tiedBits t p) b = (s.cycleOccs t).any fun o => decide (o.ev = ⟨p, b⟩) := by
  rw [State.tiedBits, wbit_packFlags _ h, State.tied, Bool.eq_iff_iff, List.find?_isSome, List.any_eq_true]

end

theorem evtStatAct_alone (p : Nat) (v : Word) (s : State) :
    evtStatAct .alone p v s = s.changeHdr p fun h => { h with stat := h.stat &&& ~~~ v } := by
  have hv : v &&& ~~~ (0 : Word) = v := by rw [show ~~~ (0 : Word) = BitVec.allOnes 32 by decide, BitVec.and_allOnes]
  simp only [evtStatAct, State.tied_alone, Option.any_none, Bool.and_false, Bool.false_and, State.tiedBits_alone, hv]
  simp

/-- A clear leaves set the bits of the events that occur in its cycle (R46). -/
theorem stat_evtStatAct (t : Tie) (p : Nat) (v : Word) (s : State) :
    ((evtStatAct t p v s).hdr p).stat = (s.hdr p).stat &&& ~~~ (v &&& ~~~ s.tiedBits t p) := by
  unfold evtStatAct
  dsimp only
  split
  · rw [State.hdr_sendVector, State.hdr_changeHdr_same]
  · rw [State.hdr_changeHdr_same]

/-! ### Forced occurrences -/

theorem evtForceAct_denied {s : State} (h : s.testEn = false) (party : Party) (t : Tie) (p : Nat) (v : Word) :
    evtForceAct party t p v s = s.logAcc party 3 (0x1000 * p + 0x18) := by
  simp [evtForceAct, h]

theorem evtForceAct_alone {s : State} (h : s.testEn = true) (party : Party) (p : Nat) (v : Word) :
    evtForceAct party .alone p v s =
      (List.range (evtTable p).length).foldl
        (fun (u : State) b =>
          if wbit v b then
            ({ u with draws := u.draws + 1 } : State).raiseAs true ⟨p, b⟩ (fld (Config.freeWord u.draws) 0 16)
              (s.forcedCtx ⟨p, b⟩)
          else u) s := by
  simp only [evtForceAct, h, State.tiedReal_alone, Bool.not_true, Bool.not_false, Bool.and_true, Bool.false_eq_true, if_false]
  rfl

theorem wbit_twoPow {b c : Nat} : wbit (BitVec.twoPow 32 b) c = true → c = b := by
  simp only [wbit, BitVec.getLsbD_twoPow, Bool.and_eq_true, decide_eq_true_eq]
  exact fun h => h.2.symm

theorem List.foldl_keeps {α β : Type} {f : α → β → α} {l : List β} {a : α} (h : ∀ b ∈ l, f a b = a) : l.foldl f a = a := by
  induction l with
  | nil => rfl
  | cons b l ih =>
    rw [List.foldl_cons, h b (.head _)]
    exact ih fun c hc => h c (.tail _ hc)

/-- In the cycle of a real occurrence of the event a forced one is not made again (R43). -/
theorem evtForceAct_tied {s : State} (h : s.testEn = true) (party : Party) {t : Tie} {p b : Nat}
    (ht : s.tiedReal t ⟨p, b⟩ = true) : evtForceAct party t p (BitVec.twoPow 32 b) s = s := by
  rw [evtForceAct, h]
  refine List.foldl_keeps fun c _ => if_neg ?_
  rw [Bool.and_eq_true]
  rintro ⟨hc, hnot⟩
  rw [wbit_twoPow hc, ht] at hnot
  cases hnot

/-- The event that a logged access of a kind raises. -/
def accEvent (k : Nat) : EvId :=
  if k = 3 ∨ k = 4 then Ev.CTRL_ACCESS_DENIED else if k = 5 then Ev.CTRL_DP_DIRECT
  else if k = 7 then Ev.CTRL_NV_WORN else Ev.CTRL_ACCESS_ERR

/-- The detail of that event. -/
def accDetail (k off : Nat) : Nat := if k = 7 then (nvIdx off).getD 0 else offDetail16 off

/-- The registers that a logged access writes. -/
def State.accStored (s : State) (p : Party) (kind off : Nat) : State :=
  let s1 := s.setReg Reg.CTRL_ACC_LAST (pack [(31, b2n (p == Party.spi)), (27, kind), (0, off % 2 ^ 24)])
  s1.setReg Reg.CTRL_ACC_CNT (w32 (satAdd 16 (s1.reg Reg.CTRL_ACC_CNT).toNat 1))

section
variable {s : State}

theorem State.logAcc_of_reset (h : s.mainUp = false) (p : Party) (k off : Nat) : s.logAcc p k off = s := by
  simp [State.logAcc, h]

/-- A logged access stores itself, counts, and raises one event (R36). -/
theorem State.logAcc_eq (h : s.mainUp = true) (p : Party) (k off : Nat) :
    s.logAcc p k off = (s.accStored p k off).raise (accEvent k) (accDetail k off) := by
  unfold State.logAcc
  simp only [h, Bool.not_true, Bool.false_eq_true, if_false]
  split <;> simp_all [State.accStored, accEvent, accDetail]

theorem State.testEn_accStored (p : Party) (k off : Nat) : (s.accStored p k off).testEn = s.testEn := by
  rw [State.testEn, State.accStored, State.reg_setReg_other _ _ (by decide), State.reg_setReg_other _ _ (by decide), State.testEn]

theorem State.testEn_logAcc (p : Party) (k off : Nat) : (s.logAcc p k off).testEn = s.testEn := by
  cases h : s.mainUp with
  | false => rw [State.logAcc_of_reset h]
  | true =>
    rw [State.logAcc_eq h, State.testEn, State.reg, State.raise_regs, ← State.reg, ← State.testEn, State.testEn_accStored]

/-- The occurrence of a logged access is a real one of the same cycle. -/
theorem State.tiedReal_logAcc (h : s.mainUp = true) (p : Party) (k off : Nat) (v : Word) :
    (s.logAcc p k off).tiedReal (.both v) (accEvent k) = true := by
  rw [State.logAcc_eq h, State.tiedReal, State.cycleOccs, State.raise, State.raiseAs_due, List.any_append]
  simp

end

/-! ### EVT_CLASS -/

section
variable {s : State} {p : Nat} {v : Word} {party : Party}

theorem evtClassAct_select (h : wbit v 31 = false) :
    evtClassAct party p v s = s.changeHdr p fun h => { h with sel := fld v 16 5 } := by
  simp [evtClassAct, h]

theorem evtClassAct_undefined (h : wbit v 31 = true) (hi : evtInfo p (fld v 16 5) = none) :
    evtClassAct party p v s =
      (s.changeHdr p fun h => { h with sel := fld v 16 5 }).logAcc party 3 (0x1000 * p + 0x1C) := by
  simp [evtClassAct, h, hi]

theorem evtClassAct_badClass {d fl : Nat} (h : wbit v 31 = true) (hi : evtInfo p (fld v 16 5) = some (d, fl))
    (hc : 3 < fld v 0 3 ∨ fld v 0 3 < fl) :
    evtClassAct party p v s =
      (s.changeHdr p fun h => { h with sel := fld v 16 5 }).logAcc party 3 (0x1000 * p + 0x1C) := by
  simp [evtClassAct, h, hi, hc]

theorem evtClassAct_classed {d fl : Nat} (h : wbit v 31 = true) (hi : evtInfo p (fld v 16 5) = some (d, fl))
    (hlo : fl ≤ fld v 0 3) (hhi : fld v 0 3 ≤ 3) :
    evtClassAct party p v s =
      (s.changeHdr p fun h => { h with sel := fld v 16 5 }).changeHdr p fun h =>
        { h with cls := sput d h.cls (fld v 16 5) (fld v 0 3) } := by
  simp [evtClassAct, h, hi, Nat.not_lt.mpr hlo, Nat.not_lt.mpr hhi]

/-- With W masked a write of EVT_CLASS only selects. -/
theorem evtClassAct_masked :
    evtClassAct party p (v &&& 0x7FFFFFFF#32) s = s.changeHdr p fun h => { h with sel := fld v 16 5 } := by
  have hw : wbit (v &&& 0x7FFFFFFF#32) 31 = false := by simp [wbit]
  have hsel : fld (v &&& 0x7FFFFFFF#32) 16 5 = fld v 16 5 := by
    simp only [fld, nfld, BitVec.toNat_and, BitVec.toNat_ofNat]
    rw [show 0x7FFFFFFF % 2 ^ 32 = 2 ^ 31 - 1 by decide, Nat.and_two_pow_sub_one_eq_mod]
    omega
  rw [evtClassAct_select hw, hsel]

end

/-! ### The offsets of a header -/

section
variable (p o : Nat) (ho : o < 0x40)
include ho

theorem hdrOff_div : hdrOff p o / 0x1000 = p := by unfold hdrOff; omega

theorem hdrOff_mod : hdrOff p o % 0x1000 = o := by unfold hdrOff; omega

end

theorem isForce_hdrOff (p : Nat) {o : Nat} (ho : o < 0x40) : isForce (hdrOff p o) = (o == 0x18) := by
  rw [isForce, hdrOff_mod p o ho]

theorem hdrOff_ne_camCtl (p : Nat) {o : Nat} (ho : o < 0x40) : hdrOff p o ≠ Reg.CAM_CTL := by
  intro h
  have := hdrOff_mod p o ho
  rw [h] at this
  have hcam : 0x40 ≤ Reg.CAM_CTL % 0x1000 := by decide
  omega

theorem isCommand_class (p : Nat) : isCommand (hdrOff p 0x1C) = true := by
  have h : hdrOff p 0x1C % 0x1000 = 0x1C := hdrOff_mod p 0x1C (by decide)
  simp [isCommand, h]

theorem regWriteAct_header (a : Acc) (p : Nat) {o : Nat} (ho : o < 0x40) (v : Word) (s : State) :
    regWriteAct a (hdrOff p o) v s = headerWrite a p o v s := by
  simp [regWriteAct, hdrOff_div p o ho, hdrOff_mod p o ho, ho]

theorem testEn_sameCycle (s : State) (t : Tie) : (s.sameCycle t).testEn = s.testEn := by
  unfold State.sameCycle
  split <;> rfl

end Sys2Proof.Machine

namespace Sys2Proof

open Machine

/-- Settles O3: each header command by its act on the page's header; the occurrences of the cycle are those that hold W1C bits
and stand for forced ones. -/
theorem headerCommandsChangeTheirHeader : Obligations.HeaderCommandsChangeTheirHeader := by
  unfold Obligations.HeaderCommandsChangeTheirHeader
  refine ⟨?header, ?force, ?forceTied, ?classWrite, ?classBoth⟩
  case header =>
    intro s a p v
    refine ⟨fun ht => ?_, fun hj htie => ?_, fun b hb => s.wbit_tiedBits p.toNat .device hb, fun ht => ?_, fun ht => ?_,
      fun ht => ?_⟩
    · exact rowWrite_answers ht (by rw [ht.2, evtStatAct_alone])
    · have hact : exec (.evtStatClear a p v) s = .next (evtStatAct .device p.toNat v (s.sameCycle .device)).settle := by
        change finish (s.writeAccess a (hdrOff p.toNat 0x10) _ _) = _
        have hj' : (s.sameCycle .device).judge a (hdrOff p.toNat 0x10) = .accepted := (judge_sameCycle ..).trans hj
        simp only [State.writeAccess, htie, hj', State.decided, finish]
      exact ⟨_, hact, stat_evtStatAct .device p.toNat v (s.sameCycle .device)⟩
    · exact rowWrite_answers ht rfl
    · exact rowWrite_answers ht rfl
    · exact rowWrite_answers ht rfl
  case force =>
    intro s a p v ht
    refine ⟨fun h => ?_, fun h => ?_⟩
    · exact rowWrite_answers ht (by rw [ht.2, evtForceAct_alone h])
    · exact rowWrite_answers ht (evtForceAct_denied h ..)
  case forceTied =>
    intro s a p b hb hb32 hen hj
    refine ⟨fun htie => ⟨rfl, fun hreal => ?_⟩, fun v k hp htie hk hev hm => ?_⟩
    · change finish (s.writeAccess a (hdrOff p.toNat 0x18) _ _) = _
      have hj' : (s.sameCycle .device).judge a (hdrOff p.toNat 0x18) = .accepted := (judge_sameCycle ..).trans hj
      have hen' : (s.sameCycle .device).testEn = true := (testEn_sameCycle ..).trans hen
      have hreal' : (s.sameCycle .device).tiedReal .device ⟨p.toNat, b⟩ = true := hreal
      simp only [State.writeAccess, htie, hj', State.decided, evtForceAct_tied hen' _ hreal', finish]
    · subst hp
      change finish (s.writeAccess a 0x18 (evtForceAct a.party a.tie 0 (BitVec.twoPow 32 b)) id) = _
      have hj0 : s.judge a 0x18 = .accepted := hj
      have hlog : evtForceAct a.party (.both v) 0 (BitVec.twoPow 32 b) (s.logAcc (otherParty a.party) k 0x18) =
          s.logAcc (otherParty a.party) k 0x18 := by
        refine evtForceAct_tied ((State.testEn_logAcc ..).trans hen) _ ?_
        rw [show (⟨0, b⟩ : EvId) = accEvent k from hev]
        exact State.tiedReal_logAcc hm ..
      simp only [State.writeAccess, htie, State.sameCycle_both, State.writeBoth, hj0, hk, finish]
      simp [State.decided, isForce, otherAcc, hlog]
  case classWrite =>
    intro s a p v ht
    dsimp only
    refine ⟨fun h => ?_, fun h hi => ?_, fun d fl h hi => ⟨fun hc => ?_, fun hlo hhi => ?_⟩⟩
    · exact rowWrite_answers ht (evtClassAct_select h)
    · exact rowWrite_answers ht (evtClassAct_undefined h hi)
    · exact rowWrite_answers ht (evtClassAct_badClass h hi hc)
    · exact rowWrite_answers ht (evtClassAct_classed h hi hlo hhi)
  case classBoth =>
    intro s p v v' hp hs
    change finish (s.writeAccess _ (hdrOff p.toNat 0x1C) _ _) = _
    rw [writeBoth_pcie (off := hdrOff p.toNat 0x1C) hp hs (hdrOff_ne_camCtl _ (by decide)) (isForce_hdrOff _ (by decide)), if_pos (isCommand_class _),
      regWriteAct_header _ _ (by decide), evtClassAct_masked]
    rfl

end Sys2Proof
end

section
/-!
PROOFS. Accesses to registers over both ports (R34 to R39, R359, R420, R427, R452): the checks of R35 in their order, what a
logged access leaves, what a read answers, and the test enable as one more check of the TEST page (R402, R403).
-/

namespace Sys2Proof.Machine

/-! ### The checks of R35, in their order -/

section
variable {s : State} {a : Acc} {off : Nat}

theorem State.not_mapDenied
    (h : s.mapAllows a.party (off / 0x1000) = true ∨ inBank a.party off = true ∨ off % 0x1000 = 0x10) :
    (!s.mapAllows a.party (off / 0x1000) && !inBank a.party off && !isEvtStat off) = false := by
  rcases h with h | h | h <;> simp [isEvtStat, h]

theorem State.judge_unreached (h : s.reaches a.party (off / 0x1000) = false) : s.judge a off = .unreached := by
  simp [State.judge, h]

variable (hr : s.reaches a.party (off / 0x1000) = true)
include hr

theorem State.judge_wide (h : a.single = false) : s.judge a off = .logged 0 := by
  simp [State.judge, hr, h]

variable (hsingle : a.single = true)
include hsingle

theorem State.judge_unaligned (h : a.low ≠ 0) : s.judge a off = .logged 1 := by
  have hne : ¬ a.low = 0#2 := h
  simp [State.judge, hr, hsingle, hne]

variable (hlow : a.low = 0)
include hlow

theorem State.judge_unmapped (h : 21 ≤ off / 0x1000) : s.judge a off = .logged 2 := by
  simp [State.judge, hr, hsingle, hlow, pageCount, h]

variable (hpage : off / 0x1000 < 21)
include hpage

theorem State.judge_gated (h : 0x40 ≤ off % 0x1000 ∧ s.gated (off / 0x1000) = true) : s.judge a off = .gatedCount := by
  simp [State.judge, hr, hsingle, hlow, pageCount, Nat.not_le.mpr hpage, h]

variable (hgate : ¬ (0x40 ≤ off % 0x1000 ∧ s.gated (off / 0x1000) = true))
include hgate

theorem State.judge_map (h : s.mapAllows a.party (off / 0x1000) = false ∧ inBank a.party off = false ∧ off % 0x1000 ≠ 0x10) :
    s.judge a off = .logged 3 := by
  simp [State.judge, hr, hsingle, hlow, pageCount, Nat.not_le.mpr hpage, hgate, isEvtStat, h]

theorem State.judge_bank (h : inBank (otherParty a.party) off = true) : s.judge a off = .logged 3 := by
  simp [State.judge, hr, hsingle, hlow, pageCount, Nat.not_le.mpr hpage, hgate, h]

variable (hmap : s.mapAllows a.party (off / 0x1000) = true ∨ inBank a.party off = true ∨ off % 0x1000 = 0x10)
include hmap

variable (hbank : inBank (otherParty a.party) off = false)
include hbank

theorem State.judge_locked (h : (s.hdr (off / 0x1000)).lock = true ∧ lockGuards a.party off = true) :
    s.judge a off = .logged 4 := by
  have hnot := State.not_mapDenied hmap
  simp [State.judge, hr, hsingle, hlow, pageCount, Nat.not_le.mpr hpage, hgate, hnot, hbank, h]

variable (hlock : ¬ ((s.hdr (off / 0x1000)).lock = true ∧ lockGuards a.party off = true))
include hlock

theorem State.judge_dp (h : isDp off = true) : s.judge a off = .logged 5 := by
  have hnot := State.not_mapDenied hmap
  simp [State.judge, hr, hsingle, hlow, pageCount, Nat.not_le.mpr hpage, hgate, hnot, hbank, hlock, h]

theorem State.judge_worn (hdp : isDp off = false) (h : ((nvIdx off).any fun i => s.nvWorn i) = true) :
    s.judge a off = .logged 7 := by
  have hnot := State.not_mapDenied hmap
  simp [State.judge, hr, hsingle, hlow, pageCount, Nat.not_le.mpr hpage, hgate, hnot, hbank, hlock, hdp, h]

end

section
variable {s : State} {a : Acc} {off : Nat}

theorem State.kind_of_judge {k : Nat} (h : s.judge a off = .logged k) : k ≤ 7 := by
  unfold State.judge at h
  dsimp only at h
  repeat' split at h
  all_goals cases h <;> omega

/-- The write shares its cycle with no write of the other party. -/
def Tie.Solo (t : Tie) : Prop := ∀ v, t ≠ .both v ∧ t ≠ .bothDevice v

theorem Tie.solo_alone : Tie.Solo .alone := fun _ => ⟨nofun, nofun⟩

theorem State.writeAccess_solo (h : Tie.Solo a.tie) (act lost : State → State) :
    s.writeAccess a off act lost = (s.sameCycle a.tie).decided (s.judge a off) a off act := by
  rw [← judge_sameCycle a.tie]
  unfold State.writeAccess
  split
  case h_1 heq => exact absurd heq (h _).1
  case h_2 heq => exact absurd heq (h _).2
  case h_3 => rfl

theorem State.tpAccess_solo (h : Tie.Solo a.tie) (c : Nat) :
    s.tpAccess a c =
      (s.sameCycle a.tie).decided (s.judge a (Reg.TP_CMD + bankOf a.party)) a (Reg.TP_CMD + bankOf a.party)
        (tpTiedAct a.party a.tie c) := by
  rw [← judge_sameCycle a.tie]
  unfold State.tpAccess
  split
  case h_1 heq => exact absurd heq (h _).1
  case h_2 heq => exact absurd heq (h _).2
  case h_3 => rfl

/-- A write that a check of R35 stops is decided before what the register does. -/
theorem anyWrite_stopped (h : Tie.Solo a.tie) (hj : s.judge a off ≠ .accepted) (v : Word) :
    anyWrite a off v s = (s.sameCycle a.tie).decided (s.judge a off) a off id := by
  have hact (act : State → State) : (s.sameCycle a.tie).decided (s.judge a off) a off act =
      (s.sameCycle a.tie).decided (s.judge a off) a off id := by
    cases hv : s.judge a off with
    | accepted => exact absurd hv hj
    | unreached | gatedCount | logged => rfl
  unfold anyWrite
  split
  case isTrue heq => rw [State.tpAccess_solo h, ← heq, hact]
  case isFalse => rw [State.writeAccess_solo h, hact]

theorem anyWrite_logged (h : Tie.Solo a.tie) {k : Nat} (hj : s.judge a off = .logged k) (v : Word) :
    anyWrite a off v s = (s.sameCycle a.tie).logAcc a.party k (off + a.low.toNat) := by
  rw [anyWrite_stopped h (by rw [hj]; nofun), hj]
  rfl

theorem anyWrite_gated (h : Tie.Solo a.tie) (hj : s.judge a off = .gatedCount) (v : Word) :
    anyWrite a off v s = (s.sameCycle a.tie).bump Reg.CTRL_GATED_CNT := by
  rw [anyWrite_stopped h (by rw [hj]; nofun), hj]
  rfl

theorem State.mainUp_sameCycle (t : Tie) : (s.sameCycle t).mainUp = s.mainUp := by
  unfold State.sameCycle
  split <;> rfl

theorem anyWrite_unreached (h : Tie.Solo a.tie) (hj : s.judge a off = .unreached) (v : Word) :
    anyWrite a off v s = if a.party = .pcie ∧ s.mainUp = true then (s.sameCycle a.tie).hostMiss true else s.sameCycle a.tie := by
  rw [anyWrite_stopped h (by rw [hj]; nofun), hj, State.decided, State.mainUp_sameCycle]

end

theorem exec_registerWrite_answers {s t : State} {a : Acc} {off : Nat} {w : BitVec 22} {v : Word} (hw : 4 * w.toNat = off)
    (h : anyWrite a off v s = t) : exec (.registerWrite a w v) s = .next t.settle := by
  subst hw
  exact congrArg finish h

/-! ### Plain registers -/

section
variable {off : Nat}

theorem plainRegs_of_written (h : off ∈ [Reg.JOB_DESC_LO, Reg.RAST_PROBE_X, Reg.CORR_PROBE_X, Reg.PASS_CTL, Reg.TRK_FE,
    Reg.MOT_TGT_LO, Reg.LDG_ARG, Reg.GOV_BAND_SEL]) : off ∈ plainRegs := by
  revert off
  decide

theorem plainRegs_of_bothWritten (h : off ∈ [Reg.JOB_DESC_LO, Reg.RAST_PROBE_X, Reg.PASS_CTL, Reg.TRK_FE, Reg.LDG_ARG]) :
    off ∈ plainRegs := by
  revert off
  decide

theorem plainRegs_of_spiWritten (h : off ∈ [Reg.JOB_DESC_LO, Reg.LDG_ARG, Reg.TRK_FE]) : off ∈ plainRegs := by
  revert off
  decide

theorem plainRegs_not_command (h : off ∈ plainRegs) : isCommand off = false := by
  revert off
  decide

theorem plainRegs_not_force (h : off ∈ plainRegs) : isForce off = false := by
  revert off
  decide

theorem plainRegs_ne_camCtl (h : off ∈ plainRegs) : off ≠ Reg.CAM_CTL := by
  revert off
  decide

theorem plainRegs_aligned (h : off ∈ plainRegs) : off % 4 = 0 := by
  revert off
  decide

end

/-! ### SPI transactions -/

section
variable (addr : BitVec 24)

theorem spiOff_add_low : spiOff addr + (spiAcc addr).low.toNat = addr.toNat := by
  simp only [spiOff, spiAcc, BitVec.extractLsb'_toNat]
  omega

theorem spiOff_div : spiOff addr / 0x1000 = addr.toNat / 0x1000 := by
  unfold spiOff
  omega

theorem spiWord_toNat : 4 * (addr.extractLsb' 2 22).toNat = spiOff addr := by
  have := addr.isLt
  simp only [spiOff, BitVec.extractLsb'_toNat, Nat.shiftRight_eq_div_pow]
  omega

theorem spiOff_of_aligned (h : (spiAcc addr).low = 0) : spiOff addr = addr.toNat := by
  rw [← spiOff_add_low addr, h]
  rfl

theorem spiLow_eq_zero_iff : (spiAcc addr).low = 0 ↔ addr.toNat % 4 = 0 := by
  rw [← BitVec.toNat_inj]
  simp [spiAcc, BitVec.extractLsb'_toNat]

/-- A full SPI write is the register write of the SPI party. -/
theorem exec_spiWrite_full {clocks : Nat} (h : 64 ≤ clocks) (v : Word) (s : State) :
    exec (.spiWrite addr v clocks) s = exec (.registerWrite (spiAcc addr) (addr.extractLsb' 2 22) v) s := by
  change finish (spiWriteAct addr v clocks s) = finish (anyWrite (spiAcc addr) (4 * (addr.extractLsb' 2 22).toNat) v s)
  rw [spiWriteAct, if_pos h, spiWord_toNat]

theorem exec_spiWrite_short {clocks : Nat} (h : clocks < 64) (v : Word) (s : State) :
    exec (.spiWrite addr v clocks) s =
      .next (State.settle (if s.reaches .spi (addr.toNat / 0x1000) = true then s.logAcc .spi 6 addr.toNat else s)) :=
  congrArg finish (by rw [spiWriteAct, if_neg (Nat.not_le.mpr h)])

end

/-! ### What a logged access leaves (R36) -/

section

theorem nfld_lt (x lo n : Nat) : nfld x lo n < 2 ^ n := Nat.mod_lt _ (Nat.two_pow_pos n)

/-- A bit set reads 1. -/
theorem wbit_setBit (w : Word) {i : Nat} (h : i < 32) : wbit (setBit w i true) i = true := by
  have hlt := w.isLt
  unfold wbit setBit setFld b2n w32 nfld
  rw [BitVec.getLsbD_ofNat]
  simp only [h, decide_true, Bool.true_and, if_true, pow_one, Nat.one_mod]
  rw [Nat.testBit_eq_decide_div_mod_eq, decide_eq_true_eq]
  have hpos : 0 < 2 ^ i := Nat.two_pow_pos i
  have hle : w.toNat / 2 ^ i % 2 * 2 ^ i ≤ w.toNat :=
    (Nat.mul_le_mul_right _ (Nat.mod_le _ _)).trans (Nat.div_mul_le_self _ _)
  have hdiv : (w.toNat - w.toNat / 2 ^ i % 2 * 2 ^ i) / 2 ^ i = w.toNat / 2 ^ i - w.toNat / 2 ^ i % 2 := by
    rw [Nat.mul_comm, Nat.sub_mul_div]
  rw [one_mul, Nat.add_div_right _ hpos, hdiv]
  omega

variable {s : State}

/-- An occurrence sets its bit, in the header of its page. -/
theorem State.hdr_raise_same (ev : EvId) (d : Nat) :
    (s.raise ev d).hdr ev.page = { s.hdr ev.page with stat := setBit (s.hdr ev.page).stat ev.bit true } := by
  have hlog (t : State) (e : LogEnt) (p : Nat) : (t.logEvent e).hdr p = t.hdr p := rfl
  have hdue (t : State) (l : List Occ) (p : Nat) : ({ t with due := l } : State).hdr p = t.hdr p := rfl
  unfold State.raise State.raiseAs
  dsimp only
  split <;> split <;> simp only [State.hdr_sendVector, hdue, hlog, State.hdr_setHdr_same]

theorem State.evlog_raise (h : s.mainUp = true) (ev : EvId) (d : Nat) :
    (s.raise ev d).evlog =
      (⟨s.tau / 64, ev, (s.hdr ev.page).classOf ev.page ev.bit, false, d % 65536, none⟩ :: s.evlog).take 256 ∧
    (s.raise ev d).logWr = (s.logWr + 1) % 65536 := by
  unfold State.raise State.raiseAs
  dsimp only
  rw [h]
  split <;> simp [State.logEvent]

theorem State.reg_raise (ev : EvId) (d off : Nat) : (s.raise ev d).reg off = s.reg off := by
  rw [State.reg, State.raise_regs, ← State.reg]

/-- All accesses are events of the CTRL page. -/
theorem accEvent_page (k : Nat) : (accEvent k).page = 0 ∧ (accEvent k).bit < 32 := by
  unfold accEvent
  split
  · decide
  · split
    · decide
    · split <;> decide

theorem State.mainUp_accStored (p : Party) (k off : Nat) : (s.accStored p k off).mainUp = s.mainUp := by
  simp [State.mainUp, State.accStored]

theorem State.reg_accStored_last (p : Party) (k off : Nat) :
    (s.accStored p k off).reg Reg.CTRL_ACC_LAST = pack [(31, b2n (p == Party.spi)), (27, k), (0, off % 2 ^ 24)] := by
  rw [State.accStored, State.reg_setReg_other _ _ (by decide), State.reg_setReg_same]

theorem State.reg_accStored_cnt (p : Party) (k off : Nat) :
    (s.accStored p k off).reg Reg.CTRL_ACC_CNT = w32 (min ((s.reg Reg.CTRL_ACC_CNT).toNat + 1) 65535) := by
  rw [State.accStored, State.reg_setReg_same, State.reg_setReg_other _ _ (by decide), satAdd_sixteen_one]

end

/-! ### What a read answers -/

section
variable {s : State} {a : Acc} {off : Nat} {hits : List TabHit}

theorem State.readAccess_unreached (h : s.reaches a.party (off / 0x1000) = false) : s.readAccess a off hits = (0, s) := by
  simp [State.readAccess, h]

variable (hr : s.reaches a.party (off / 0x1000) = true)
include hr

theorem State.readAccess_wide (h : a.single = false) :
    s.readAccess a off hits = (0, s.logAcc a.party 0 (off + a.low.toNat)) := by
  simp [State.readAccess, hr, h]

variable (hsingle : a.single = true)
include hsingle

theorem State.readAccess_unaligned (h : a.low ≠ 0) :
    s.readAccess a off hits = (0, s.logAcc a.party 1 (off + a.low.toNat)) := by
  have hne : ¬ a.low = 0#2 := h
  simp [State.readAccess, hr, hsingle, hne]

variable (hlow : a.low = 0)
include hlow

theorem State.readAccess_unmapped (h : 21 ≤ off / 0x1000) : s.readAccess a off hits = (0, s) := by
  simp [State.readAccess, hr, hsingle, hlow, pageCount, h]

variable (hpage : off / 0x1000 < 21)
include hpage

theorem State.readAccess_gated (h : 0x40 ≤ off % 0x1000) (hg : s.gated (off / 0x1000) = true) :
    s.readAccess a off hits = (0, s.bump Reg.CTRL_GATED_CNT) := by
  simp [State.readAccess, hr, hsingle, hlow, pageCount, Nat.not_le.mpr hpage, h, hg]

theorem State.readAccess_word (h : off % 0x1000 < 0x40 ∨ s.gated (off / 0x1000) = false) :
    s.readAccess a off hits = s.readMeeting off hits := by
  have hnot : (decide (0x40 ≤ off % 0x1000) && s.gated (off / 0x1000)) = false := by
    rcases h with h | h <;> simp [h]
  simp [State.readAccess, hr, hsingle, hlow, pageCount, Nat.not_le.mpr hpage, hnot]

end

section
variable {s : State} {off : Nat}

theorem State.readMeeting_plain (hl : logWord off = false) (ho : off ≠ Reg.ALM_QUERY) (hits : List TabHit) :
    s.readMeeting off hits = (s.readWord off, s) := by
  simp [State.readMeeting, hl, ho]

theorem State.readMeeting_log_clean (hl : logWord off = true) : s.readMeeting off [] = (s.readWord off, s) := by
  simp [State.readMeeting, hl, State.tabHits]

/-- A log entry with an uncorrectable byte reads 0 (R359). -/
theorem State.readMeeting_log_bad (hl : logWord off = true) {hits : List TabHit}
    (hb : (s.tabHits (hits.filter fun b => b.hit.inGroups 90 91)).1 ≠ []) : (s.readMeeting off hits).1 = 0 := by
  simp [State.readMeeting, hl, hb]

/-- An instruction that lets the pins follow the boundary register (R420). -/
theorem jtagDrives_iff (op : Byte) : jtagDrives op = true ↔ op ∈ [0, 3, 4, 5, 6] := by
  simp [jtagDrives, or_assoc]

theorem State.reaches_pcie (h : s.mainUp = true) (hm : s.memOn = true) (page : Nat) : s.reaches .pcie page = true := by
  simp [State.reaches, h, hm]

end

/-- A PCIe read that reaches the function carries what the access reads into the completion. -/
theorem exec_registerRead_answers {s t : State} {a : Acc} {w : BitVec 22} {hits : List TabHit} {v : Word}
    (hh : hits.all TabHit.readable = true) (hu : s.mainUp = true) (hm : s.memOn = true)
    (h : s.readAccess { a with party := .pcie } (4 * w.toNat) hits = (v, t)) :
    exec (.registerRead a w hits) s = .next (State.settle (t.completes fun u => { u with cplData := v })) := by
  refine checked_finish_answers hh ?_
  simp [bar0ReadAct, hu, hm, h]

theorem exec_spiRead_answers {s t : State} {addr : BitVec 24} {tRa : Nat} {hits : List TabHit} {v : Word}
    (hh : hits.all TabHit.readable = true) (ht : s.raNeeded (spiOff addr) ≤ tRa)
    (h : s.readAccess (spiAcc addr) (spiOff addr) hits = (v, t)) :
    exec (.spiRead addr tRa hits) s = .next (State.settle (t.sdoBrings v)) := by
  refine checked_finish_answers hh ?_
  rw [spiReadAct, if_neg (Nat.not_lt.mpr ht), h]

/-! ### The test enable -/

section
variable {s : State}

theorem testWrite_denied (h : s.testEn = false) (party : Party) (off : Nat) (act : State → State) :
    testWrite party off act s = s.logAcc party 3 off := by
  simp [testWrite, h]

theorem State.mode_setMode (m : Nat) : (s.setMode m).clk.mode = m := by
  unfold State.setMode State.regate
  split <;> rfl

theorem State.mode_disarm : s.disarm.clk.mode = s.clk.held := State.mode_setMode _

end

/-- A fold that acts for one index acts once. -/
theorem foldl_range_single {α : Type} (g : α → Nat → α) (a : α) (b n : Nat) :
    (List.range n).foldl (fun u c => if c = b then g u c else u) a = if b < n then g a b else a := by
  induction n with
  | zero => rfl
  | succ n ih =>
    rw [List.range_succ, List.foldl_append, ih, List.foldl_cons, List.foldl_nil]
    rcases lt_trichotomy b n with h | rfl | h
    · rw [if_pos h, if_neg h.ne', if_pos (Nat.lt_succ_of_lt h)]
    · simp
    · rw [if_neg h.not_gt, if_neg h.ne, if_neg (by omega)]

theorem wbit_twoPow_iff {b c : Nat} (h : b < 32) : wbit (BitVec.twoPow 32 b) c = true ↔ c = b := by
  refine ⟨wbit_twoPow, ?_⟩
  rintro rfl
  simp [wbit, h]

/-- Forcing one defined event makes one forced occurrence (R43). -/
theorem evtForceAct_one {s : State} (h : s.testEn = true) (party : Party) {p b : Nat} (hb : b < (evtTable p).length)
    (hb32 : b < 32) :
    evtForceAct party .alone p (BitVec.twoPow 32 b) s =
      s.openDetail.2.raiseAs true ⟨p, b⟩ s.openDetail.1 (s.forcedCtx ⟨p, b⟩) := by
  rw [evtForceAct_alone h]
  simp only [wbit_twoPow_iff hb32]
  exact (foldl_range_single _ s b _).trans (if_pos hb)

/-- A register of the TEST page but TEST_CTL is written through the test enable. -/
theorem regWriteAct_test {a : Acc} {off : Nat} (hlo : 0x6040 ≤ off) (hhi : off < 0x7000) (hctl : off ≠ Reg.TEST_CTL)
    (hrow : (regRow off).isSome = true) (v : Word) (s : State) :
    regWriteAct a off v s = testWrite a.party off (writeTestBlock off v) s := by
  have hp : off / 0x1000 = 6 := by omega
  have ho : ¬ off % 0x1000 < 0x40 := by omega
  have hclr : (cntClrOf 6).map Prod.fst ≠ some off := nofun
  have hlisted : listed off = true := hrow
  rw [regWriteAct, hp, if_neg ho, if_neg hclr, if_pos hlisted]
  exact if_neg hctl

end Sys2Proof.Machine

namespace Sys2Proof

open Machine

/-- Settles O1: a read by the first check that decides it; what it meets of stored errors concerns log entries and ALM_QUERY. -/
theorem readsReturnTheWord : Obligations.ReadsReturnTheWord := by
  unfold Obligations.ReadsReturnTheWord
  refine ⟨?pcie, ?reset, ?spi, ?meets, ?pins⟩
  case pcie =>
    intro s a w hits hh hu
    refine ⟨fun hm => ?_, fun hm hs hl hp => ⟨fun h => ?_, fun ho hg => ?_⟩, fun hm hs hl hp => ?_⟩
    · exact checked_finish_answers hh (by simp [bar0ReadAct, hu, hm])
    · exact exec_registerRead_answers hh hu hm
        (State.readAccess_word (State.reaches_pcie hu hm _) hs hl hp h)
    · exact exec_registerRead_answers hh hu hm
        (State.readAccess_gated (State.reaches_pcie hu hm _) hs hl hp ho hg)
    · exact exec_registerRead_answers hh hu hm (State.readAccess_unmapped (State.reaches_pcie hu hm _) hs hl hp)
  case reset =>
    intro s a w hits hu
    have hact : bar0ReadAct a (4 * w.toNat) hits s = s := by simp [bar0ReadAct, hu]
    change checked _ (fun s => finish (bar0ReadAct a (4 * w.toNat) hits s)) s = _
    rcases checked_cases s (Instr.wf (.registerRead a w hits)) fun s => finish (bar0ReadAct a (4 * w.toNat) hits s) with h | h
    · rw [h, hact, finish]
    · rw [h, finish]
  case spi =>
    intro s addr tRa hits hh
    dsimp only
    rw [← spiOff_div addr]
    refine ⟨fun ht => checked_finish_answers hh (if_pos ht), fun ht => ⟨fun hr => ?_, fun hr hlow => ?_, fun hr hlow hp => ?_,
      fun hr hlow hp => ?_⟩⟩
    · exact exec_spiRead_answers hh ht (State.readAccess_unreached hr)
    · refine exec_spiRead_answers hh ht ?_
      rw [State.readAccess_unaligned hr rfl ((spiLow_eq_zero_iff addr).not.mpr hlow), spiOff_add_low]
      rfl
    · exact exec_spiRead_answers hh ht (State.readAccess_unmapped hr rfl ((spiLow_eq_zero_iff addr).mpr hlow) hp)
    · have hlow' := (spiLow_eq_zero_iff addr).mpr hlow
      rw [← spiOff_of_aligned addr hlow']
      exact ⟨fun ho hg => exec_spiRead_answers hh ht (State.readAccess_gated hr rfl hlow' hp ho hg),
        fun h => exec_spiRead_answers hh ht (State.readAccess_word hr rfl hlow' hp h)⟩
  case meets =>
    exact fun s off hits => ⟨fun hl ho => State.readMeeting_plain hl ho hits,
      fun hl hn => hn ▸ State.readMeeting_log_clean hl, fun hl hb => State.readMeeting_log_bad hl hb⟩
  case pins =>
    intro s f w
    refine ⟨fun h => ?_, fun h => s.completes_held f ((jtagDrives_iff _).mpr h), fun h => ?_, fun h => if_pos h⟩
    · have hd : jtagDrives s.tap = false := Bool.eq_false_iff.mpr ((jtagDrives_iff _).not.mpr h)
      have h6 : s.tap ≠ 6 := fun h6 => h (by simp [h6])
      exact ⟨s.completes_free f hd, by rw [State.sdoBrings, if_neg h6, hd, if_neg Bool.false_ne_true]⟩
    · have hd : jtagDrives s.tap = true := (jtagDrives_iff _).mpr (by simp at h ⊢; tauto)
      have h6 : s.tap ≠ 6 := by rintro h6; rw [h6] at h; revert h; decide
      rw [State.sdoBrings, if_neg h6, if_pos hd]

/-- Settles O2: each outcome of R35 by the checks before it; a full SPI write is the register write of its party. -/
theorem writesFollowTheChecks : Obligations.WritesFollowTheChecks := by
  unfold Obligations.WritesFollowTheChecks
  refine ⟨?checks, ?plain, ?both, ?spi, ?spiChecks⟩
  case checks =>
    intro s a w v hsolo
    dsimp only
    generalize hoff : 4 * w.toNat = off
    have hlogs {k : Nat} (h : s.judge a off = .logged k) :
        exec (.registerWrite a w v) s = .next (State.settle ((s.sameCycle a.tie).logAcc a.party k (off + a.low.toNat))) :=
      exec_registerWrite_answers hoff (anyWrite_logged hsolo h v)
    refine ⟨fun hr => ?_, fun hr => ⟨fun hs => hlogs (State.judge_wide hr hs), fun hs => ⟨fun hl =>
      hlogs (State.judge_unaligned hr hs hl), fun hl => ⟨fun hp => hlogs (State.judge_unmapped hr hs hl hp), fun hp =>
      ⟨fun hg => exec_registerWrite_answers hoff (anyWrite_gated hsolo (State.judge_gated hr hs hl hp hg) v), fun hg =>
      ⟨fun hm => hlogs (State.judge_map hr hs hl hp hg hm), fun hm => ⟨fun hb =>
      hlogs (State.judge_bank hr hs hl hp hg hb), fun hb => ⟨fun hk => hlogs (State.judge_locked hr hs hl hp hg hm hb hk),
      fun hk => ⟨fun hd => hlogs (State.judge_dp hr hs hl hp hg hm hb hk hd), fun hd hn =>
      hlogs (State.judge_worn hr hs hl hp hg hm hb hk hd hn)⟩⟩⟩⟩⟩⟩⟩⟩⟩
    have hun := anyWrite_unreached hsolo (State.judge_unreached hr) v
    refine ⟨fun h => exec_registerWrite_answers hoff (hun.trans (if_neg ?_)),
      fun hp hm => exec_registerWrite_answers hoff (hun.trans (if_pos ⟨hp, hm⟩))⟩
    rintro ⟨hp, hm⟩
    rcases h with h | h
    · rw [hp] at h; cases h
    · rw [hm] at h; cases h
  case plain =>
    exact fun s a w v ht hoff => exec_registerWrite_plain v (plainRegs_of_written hoff) ht
  case both =>
    intro s w v v' hp hs hoff
    have hplain := plainRegs_of_bothWritten hoff
    refine exec_registerWrite_answers rfl ?_
    rw [anyWrite, if_neg (plainRegs_ne_tpCmd hplain _), writeBoth_pcie hp hs (plainRegs_ne_camCtl hplain)
      (plainRegs_not_force hplain), plainRegs_not_command hplain, if_neg Bool.false_ne_true, regWriteAct_plain hplain,
      regWriteAct_plain hplain]
  case spi =>
    intro s addr v clocks
    refine ⟨fun hc ht hoff => ?_, fun hc hr => ?_, fun hc hr => ?_⟩
    · have hplain := plainRegs_of_spiWritten hoff
      have hlow : (spiAcc addr).low = 0 := (spiLow_eq_zero_iff addr).mpr (plainRegs_aligned hplain)
      have hacc : spiAcc addr = ⟨.spi, true, 0, .alone⟩ := by rw [spiAcc, ← hlow]; rfl
      rw [exec_spiWrite_full addr hc, hacc]
      have hoff' : 4 * (addr.extractLsb' 2 22).toNat = addr.toNat := (spiWord_toNat addr).trans (spiOff_of_aligned addr hlow)
      rw [exec_registerWrite_plain v (hoff' ▸ hplain) (hoff' ▸ ht), hoff']
    · rw [exec_spiWrite_short addr hc, if_pos hr]
    · rw [exec_spiWrite_short addr hc, hr, if_neg Bool.false_ne_true]
  case spiChecks =>
    intro s addr v clocks hc
    dsimp only
    have hfull := exec_spiWrite_full addr hc v s
    rw [← spiOff_div addr]
    have hans {t : State} (h : anyWrite (spiAcc addr) (spiOff addr) v s = t) : exec (.spiWrite addr v clocks) s = .next t.settle :=
      hfull.trans (exec_registerWrite_answers (spiWord_toNat addr) h)
    have hlogs {k : Nat} (h : s.judge (spiAcc addr) (spiOff addr) = .logged k) :
        exec (.spiWrite addr v clocks) s = .next (State.settle (s.logAcc .spi k addr.toNat)) :=
      hans ((anyWrite_logged Tie.solo_alone h v).trans (by rw [spiOff_add_low]; rfl))
    refine ⟨hfull, fun hr => hans ((anyWrite_unreached Tie.solo_alone (State.judge_unreached hr) v).trans (if_neg nofun)),
      fun hr => ⟨fun hl => hlogs (State.judge_unaligned hr rfl hl), fun hl hp => hlogs (State.judge_unmapped hr rfl hl hp),
      fun hl hp ho hg => ?_, fun hl hp hog => ?_⟩⟩
    · have hoff := spiOff_of_aligned addr hl
      exact hans (anyWrite_gated Tie.solo_alone (State.judge_gated hr rfl hl hp ⟨hoff.symm ▸ ho, hg⟩) v)
    · have hoff := spiOff_of_aligned addr hl
      rw [← hoff] at hog
      have hgate : ¬ (0x40 ≤ spiOff addr % 0x1000 ∧ s.gated (spiOff addr / 0x1000) = true) := by
        rintro ⟨ho, hg⟩
        rcases hog with h | h
        · omega
        · rw [hg] at h; cases h
      rw [hoff] at hlogs
      rw [hoff] at hr hp hgate ⊢
      refine ⟨fun hm hb ho => hlogs (State.judge_map hr rfl hl hp hgate ⟨hm, hb, ho⟩), fun hm => ⟨fun hb =>
        hlogs (State.judge_bank hr rfl hl hp hgate hb), fun hb => ⟨fun hk hg =>
        hlogs (State.judge_locked hr rfl hl hp hgate hm hb ⟨hk, hg⟩), fun hk => ?_⟩⟩⟩
      have hlock : ¬ ((s.hdr (addr.toNat / 0x1000)).lock = true ∧ lockGuards .spi addr.toNat = true) := by
        rintro ⟨h1, h2⟩
        rcases hk with h | h
        · rw [h1] at h; cases h
        · rw [h2] at h; cases h
      exact ⟨fun hd => hlogs (State.judge_dp hr rfl hl hp hgate hm hb hlock hd),
        fun hd hn => hlogs (State.judge_worn hr rfl hl hp hgate hm hb hlock hd hn)⟩

/-- Settles O53: a logged access stores and counts itself and raises one event; which accesses are logged is O1's and O2's
matter, cited here by their kind. -/
theorem loggedAccessesAreCountedAndRaised : Obligations.LoggedAccessesAreCountedAndRaised := by
  unfold Obligations.LoggedAccessesAreCountedAndRaised
  refine ⟨?left, ?write, ?read, ?spi, ?short⟩
  case left =>
    intro s p kind off _
    refine ⟨fun h => State.logAcc_of_reset h .., fun h => ?_⟩
    dsimp only
    rw [← accEvent, State.logAcc_eq h]
    have hup : (s.accStored p kind off).mainUp = true := (State.mainUp_accStored ..).trans h
    obtain ⟨hlog, hwr⟩ := State.evlog_raise hup (accEvent kind) (accDetail kind off)
    obtain ⟨hpage, hbit⟩ := accEvent_page kind
    have hstored : (s.accStored p kind off).evlog = s.evlog ∧ (s.accStored p kind off).logWr = s.logWr := by
      simp [State.accStored]
    refine ⟨?_, ?_, ?_, ?_, ?_, ?_⟩
    · rw [State.reg_raise, State.reg_accStored_last]
      cases p <;> rfl
    · rw [State.reg_raise, State.reg_accStored_cnt]
    · have hhdr := State.hdr_raise_same (s := s.accStored p kind off) (accEvent kind) (accDetail kind off)
      rw [hpage] at hhdr
      rw [hhdr]
      exact wbit_setBit _ hbit
    · rw [hwr, hstored.2]
    · rw [hlog]
      rfl
    · rw [hlog, List.length_take]
      omega
  case write =>
    intro s a w v kind hsolo hj
    exact ⟨State.kind_of_judge hj, exec_registerWrite_answers rfl (anyWrite_logged hsolo hj v)⟩
  case read =>
    intro s a w hits hh hu hm h
    have hr := State.reaches_pcie hu hm (4 * w.toNat / 0x1000)
    by_cases hs : a.single = false
    · rw [if_pos hs]
      exact exec_registerRead_answers hh hu hm (State.readAccess_wide hr hs)
    · rw [if_neg hs]
      exact exec_registerRead_answers hh hu hm
        (State.readAccess_unaligned hr (by simpa using hs) (h.resolve_left hs))
  case spi =>
    intro s addr v clocks kind hc hj
    rw [exec_spiWrite_full addr hc]
    refine exec_registerWrite_answers (spiWord_toNat addr) ((anyWrite_logged Tie.solo_alone hj v).trans ?_)
    exact congrArg (s.logAcc .spi kind) (spiOff_add_low addr)
  case short =>
    exact fun s addr v clocks hc hr => by rw [exec_spiWrite_short addr hc, if_pos hr]

/-- Settles O51: TEST_CTL by party and bit 0, one forced event with and without the test enable, and every other TEST register
without it. -/
theorem theTestEnableGuardsTheTestBlock : Obligations.TheTestEnableGuardsTheTestBlock := by
  unfold Obligations.TheTestEnableGuardsTheTestBlock
  refine ⟨?ctl, ?force, ?denied⟩
  case ctl =>
    intro s a v ht
    refine ⟨fun hp => ?_, fun hp hv => ?_, fun hp hv hen => ⟨?_, ?_, ?_, ?_⟩, fun hp hv hen => ⟨?_, ?_, ?_⟩⟩
    · exact rowWrite_answers ht (by rw [testEnAct, if_pos hp, hp])
    · exact rowWrite_answers ht (by rw [testEnAct, if_neg (by rw [hp]; nofun), if_pos hv])
    · exact rowWrite_answers ht
        (by rw [testEnAct, if_neg (by rw [hp]; nofun), if_neg (by rw [hv, hen]; nofun), if_pos hv])
    · rw [State.testEn, State.reg_setMode, State.reg_setReg_other _ _ (by decide), State.reg_setReg_same]
      decide
    · exact State.mode_setMode _
    · rw [State.reg_setMode, State.reg_setReg_same]
    · exact rowWrite_answers ht
        (by rw [testEnAct, if_neg (by rw [hp]; nofun), if_neg (by rw [hv, hen]; nofun), hv, if_neg Bool.false_ne_true])
    · exact s.testEn_disarm
    · exact State.mode_disarm
  case force =>
    intro s a p b ht hb hb32
    refine ⟨fun hen => ?_, fun hen => ?_⟩
    · exact rowWrite_answers ht (by rw [ht.2, evtForceAct_one hen _ hb hb32])
    · exact rowWrite_answers ht (evtForceAct_denied hen ..)
  case denied =>
    intro s a hen
    dsimp only
    have hrow {off : Nat} (act lost : State → State) (ht : Taken a off s) :
        rowWrite a off (testWrite a.party off act) lost s = .next (State.settle (s.logAcc a.party 3 off)) :=
      rowWrite_answers ht (testWrite_denied hen ..)
    refine ⟨fun w v hlo hhi hctl hreg ht => ?_, fun v => ⟨hrow _ _, hrow _ _, hrow _ _, hrow _ _, hrow _ _, hrow _ _,
      hrow _ _, hrow _ _, hrow _ _, hrow _ _⟩⟩
    have hne : 4 * w.toNat ≠ Reg.TP_CMD + bankOf a.party := by
      have : Reg.TP_CMD + bankOf a.party < 0x1000 := by cases a.party <;> decide
      omega
    exact registerWrite_answers rfl hne ht
      ((regWriteAct_test hlo hhi hctl hreg v s).trans (testWrite_denied hen ..))

end Sys2Proof
end

section
/-!
PROOFS. From a proposal to its application (R56 to R60), from LOAD to READY (R68, R69), and from the start queue through
PRIMING and EXPOSING to DONE (R71 to R76, R98).
-/

namespace Sys2Proof.Machine

/-! ### Folds -/

theorem foldl_keeps_prop {α β : Type} {P : α → Prop} {f : α → β → α} {l : List β} {a : α} (h0 : P a)
    (h : ∀ u b, P u → P (f u b)) : P (l.foldl f a) := by
  induction l generalizing a with
  | nil => exact h0
  | cons b l ih => exact ih (h a b h0)

/-! ### What lane power changes -/

/-- Only the lanes, what leaves them, and the count of free values differ. -/
def State.LanesOnly (s t : State) : Prop := ∃ b o d, t = { s with bln := b, out := o, draws := d }

section
variable {s t u : State}

theorem State.LanesOnly.rfl : s.LanesOnly s := ⟨s.bln, s.out, s.draws, Eq.refl _⟩

theorem State.LanesOnly.trans (h : s.LanesOnly t) (h' : t.LanesOnly u) : s.LanesOnly u := by
  obtain ⟨_, _, _, rfl⟩ := h
  obtain ⟨b, o, d, rfl⟩ := h'
  exact ⟨b, o, d, Eq.refl _⟩

theorem State.leaves_lanesOnly (o : OutMsg) : s.LanesOnly (s.leaves o) := by
  unfold State.leaves
  split
  · exact .rfl
  · exact ⟨s.bln, _, s.draws, Eq.refl _⟩

theorem State.laneOut_lanesOnly (o : OutMsg) : s.LanesOnly (s.laneOut o) := by
  unfold State.laneOut
  split
  · exact .rfl
  · exact s.leaves_lanesOnly o

theorem State.sendSkips_lanesOnly (lane : Nat) : s.LanesOnly (s.sendSkips lane) := by
  unfold State.sendSkips
  split
  · exact .rfl
  · exact .trans ⟨_, s.out, _, Eq.refl _⟩ (State.leaves_lanesOnly _)

theorem State.dropLeaving_lanesOnly : s.LanesOnly s.dropLeaving := by
  unfold State.dropLeaving
  split
  · exact .rfl
  · exact ⟨_, s.out, s.draws, Eq.refl _⟩

theorem State.setPlane_lanesOnly (p : Nat) (x : PLane) : s.LanesOnly (s.setPlane p x) := ⟨_, s.out, s.draws, Eq.refl _⟩

/-- Taking the power states of R220 changes the lanes alone. -/
theorem State.lanePower_lanesOnly : s.LanesOnly s.lanePower := by
  refine foldl_keeps_prop (P := s.LanesOnly) s.dropLeaving_lanesOnly fun a p ha => ha.trans ?_
  dsimp only
  split
  · exact .rfl
  · refine (a.setPlane_lanesOnly p { a.plane p with pwr := a.nextPwr p }).trans ?_
    split
    · exact (State.laneOut_lanesOnly _).trans (State.sendSkips_lanesOnly _)
    · split
      · exact State.sendSkips_lanesOnly _
      · exact .rfl

end

/-! ### Validation and application of a proposal -/

section
variable {s : State}

/-- The view of the other party stands in registers. -/
theorem State.tpView_eq (pairs : List (Nat × Word)) : ∃ r, s.tpView pairs = { s with regs := r } := by
  refine foldl_keeps_prop (P := fun t => ∃ r, t = { s with regs := r }) ⟨s.regs, rfl⟩ fun a q ⟨r, hr⟩ => ?_
  rw [hr]
  exact ⟨_, rfl⟩

theorem State.nonce_ne_zero : s.nonce ≠ 0 := by
  unfold State.nonce
  split
  · decide
  · assumption

theorem tpValidateAct_idle (h : s.tp.phase ≠ .validating) : tpValidateAct s = s := by
  simp [tpValidateAct, h]

theorem tpValidateAct_failed (h : s.tp.phase = .validating)
    (hc : tpCheck (s.rf (Reg.TP_COUNT + bankOf s.tp.proposer) 0 4) (s.bankPairs s.tp.proposer) ≠ 0) :
    tpValidateAct s =
      s.tpEnds (tpCheck (s.rf (Reg.TP_COUNT + bankOf s.tp.proposer) 0 4) (s.bankPairs s.tp.proposer))
        (s.rf (Reg.TP_COUNT + bankOf s.tp.proposer) 0 4) := by
  simp [tpValidateAct, h, hc]

/-- A proposal that passes is pending, with a nonce that is not 0. -/
theorem tpValidateAct_passed (h : s.tp.phase = .validating)
    (hc : tpCheck (s.rf (Reg.TP_COUNT + bankOf s.tp.proposer) 0 4) (s.bankPairs s.tp.proposer) = 0) :
    ∃ t : State, tpValidateAct s = t.raise Ev.CTRL_TP_PROPOSED (2 ^ 15 * partyBit s.tp.proposer) ∧
      t.tp = ⟨.pending, s.tp.proposer, s.bankPairs s.tp.proposer, s.ctl, 0⟩ ∧ t.reg Reg.TP_NONCE ≠ 0 ∧ t.nv = s.nv ∧
      t.dram = s.dram ∧ t.ctxs = s.ctxs ∧ t.clk = s.clk := by
  obtain ⟨r, hr⟩ := s.tpView_eq (s.bankPairs s.tp.proposer)
  refine ⟨_, by rw [tpValidateAct, if_neg (not_not.mpr h)]; exact if_neg (not_not.mpr hc), ?_⟩
  rw [hr]
  refine ⟨rfl, ?_, rfl, rfl, rfl, rfl⟩
  rw [State.reg_setReg_other _ _ (by decide), State.reg_setReg_same]
  exact s.nonce_ne_zero

theorem tpApplyAct_idle (h : s.tp.phase ≠ .confirmed) : tpApplyAct s = s := by
  simp [tpApplyAct, h]

theorem tpApplyAct_refused (h : s.tp.phase = .confirmed) (hr : s.tpRefused = true) :
    tpApplyAct s = s.tpEnds 8 s.tp.pairs.length := by
  simp [tpApplyAct, h, hr]

variable (h : s.tp.phase = .confirmed) (hr : s.tpRefused = false)
include h hr

theorem tpApplyAct_worn (hw : (s.tp.pairs.any fun q => (nvIdx q.1).any fun i => s.nvWorn i) = true) :
    tpApplyAct s = s.tpEnds 9 s.tp.pairs.length := by
  rw [tpApplyAct, if_neg (not_not.mpr h), hr, if_neg Bool.false_ne_true, if_pos hw]

theorem tpApplyAct_applied (hw : (s.tp.pairs.any fun q => (nvIdx q.1).any fun i => s.nvWorn i) = false) :
    tpApplyAct s =
      (((s.tp.pairs.foldl
        (fun (u : State) q =>
          match nvIdx q.1 with
          | some i => u.nvWrite i q.2
          | none => u) s).killsApplied fun k => s.killBeam k).travelCheck).tpEnds 0 s.tp.pairs.length := by
  rw [tpApplyAct, if_neg (not_not.mpr h), hr, if_neg Bool.false_ne_true, hw, if_neg Bool.false_ne_true] <;> rfl

end

theorem State.nv_tpEnds (s : State) (code count : Nat) :
    (s.tpEnds code count).nv = s.nv ∧ (s.tpEnds code count).nvSlot = s.nvSlot := by
  simp [State.tpEnds]

/-! ### LOAD_DONE -/

section
variable {s : State} {c : Nat} {x : Ctx}

theorem State.reg_raiseCtx (ev : EvId) (d k off : Nat) : (s.raiseCtx ev d k).reg off = s.reg off := by
  rw [State.reg, State.raiseCtx_regs, ← State.reg]

theorem nextTag_lt (t : Nat) : nextTag t < 65536 := by
  unfold nextTag
  split <;> omega

theorem toNat_pack_four (l1 v1 l2 v2 l3 v3 l4 v4 : Nat) :
    (pack [(l1, v1), (l2, v2), (l3, v3), (l4, v4)]).toNat = (v1 * 2 ^ l1 + v2 * 2 ^ l2 + v3 * 2 ^ l3 + v4 * 2 ^ l4) % 2 ^ 32 := by
  simp [pack, w32]

/-- The fields of a result register whose context stands at bit 24 and whose code at bit 20. -/
theorem fld_resultWord {tag c code : Nat} (ht : tag < 65536) (hc : c < 128) (hcode : code < 16) :
    fld (pack [(31, 1), (0, tag), (24, c), (20, code)]) 31 1 = 1 ∧ fld (pack [(31, 1), (0, tag), (24, c), (20, code)]) 24 7 = c ∧
      fld (pack [(31, 1), (0, tag), (24, c), (20, code)]) 20 4 = code := by
  simp only [fld, nfld, toNat_pack_four]
  omega

theorem State.reg_loadEnds (code detail : Nat) :
    ∃ tag < 65536, (s.loadEnds c code detail).reg Reg.JOB_RESULT = pack [(31, 1), (0, tag), (24, c), (20, code)] :=
  ⟨_, nextTag_lt _, by rw [State.loadEnds, State.reg_raiseCtx, State.resDone, State.reg_setReg_same]⟩

theorem loadDoneAct_of (h : (s.ctxs.find? fun p => p.2.st == 1 && s.genTarget != some p.1) = some (c, x)) :
    loadDoneAct s =
      if !s.sram.zeroed then s
      else if 2 ^ 35 < x.descAddr + 128 then s.loadEnds c 7 0
      else
        match (s.dramRead 4 x.descAddr 128).1 with
        | none => (s.dramRead 4 x.descAddr 128).2.loadEnds c 7 0
        | some d =>
          match descChecks s.level d with
          | some o => (s.dramRead 4 x.descAddr 128).2.loadEnds c o.1 o.2
          | none => (s.dramRead 4 x.descAddr 128).2.loadTables c d := by
  unfold loadDoneAct
  rw [h]
  rfl

end

section
variable {level : Nat} {d : List Byte}

theorem descChecks_format (h : tabWord d 0 % 256 ≠ 1) : descChecks level d = some (1, 0) := by
  simp [descChecks, h]

theorem descChecks_level (h : tabWord d 0 % 256 = 1) (hl : nfld (tabWord d 0) 8 8 ≠ level) :
    descChecks level d = some (2, 0) := by
  simp [descChecks, h, hl]

theorem descChecks_bands (h : tabWord d 0 % 256 = 1) (hl : nfld (tabWord d 0) 8 8 = level)
    (hb : tabWord d 0x08 % 2 ^ 15 = 0) : descChecks level d = some (3, 0x08) := by
  rw [descChecks, if_neg (not_not.mpr h), if_neg (not_not.mpr hl), if_pos hb]

end

section
variable {s : State} {c : Nat} {d : List Byte} {r1 r2 r3 : Option (List Byte) × State}

/-- What the tables of a job come to, once its three reads are made in order. -/
theorem State.loadTables_of (h1 : s.dramRead 4 (descPair d 0x30) 128 = r1)
    (h2 : r1.2.dramRead 4 (descPair d 0x38) 3072 = r2) (h3 : r2.2.dramRead 4 (descPair d 0x40) 2176 = r3) :
    (r1.1 = none → s.loadTables c d = r3.2.loadEnds c 7 0x30) ∧
    (r1.1 ≠ none → r2.1 = none → s.loadTables c d = r3.2.loadEnds c 7 0x38) ∧
    (r1.1 ≠ none → r2.1 ≠ none → r3.1 = none → s.loadTables c d = r3.2.loadEnds c 7 0x40) ∧
    ∀ xf dose pass, r1.1 = some xf → r2.1 = some dose → r3.1 = some pass →
      s.loadTables c d =
        if !xformOk (descOf d).bands xf then r3.2.loadEnds c 6 0x30
        else if !doseOk dose then r3.2.loadEnds c 6 0x38
        else if !passOk pass then r3.2.loadEnds c 6 0x40
        else
          ((r3.2.setCtx c
            { Ctx.reset with
              st := 2, d := descOf d, xf := xf, dose := dose, pass := pass,
              side := { LdgSide.reset with genMax := 1, y0s := (descOf d).y0 } }).rewrites 4).loadEnds c 0 0 := by
  obtain ⟨o1, t1⟩ := r1
  obtain ⟨o2, t2⟩ := r2
  obtain ⟨o3, t3⟩ := r3
  unfold State.loadTables
  simp only [h1, h2, h3]
  refine ⟨?_, ?_, ?_, ?_⟩
  · rintro rfl; rfl
  · intro hne; rintro rfl; cases o1
    · exact absurd rfl hne
    · rfl
  · intro hne hne'; rintro rfl; cases o1
    · exact absurd rfl hne
    · cases o2
      · exact absurd rfl hne'
      · rfl
  · rintro xf dose pass rfl rfl rfl; rfl

end

/-! ### PRIMING, EXPOSING, DONE -/

section
variable {s : State} {c : Nat} {rest : List Nat}

theorem primingEntryAct_none (h : s.startQ = []) : primingEntryAct s = s := by
  simp [primingEntryAct, h]

theorem jobLevelAct_none (h : s.startQ = []) : jobLevelAct s = s := by
  simp [jobLevelAct, h]

theorem primingEntryAct_waits (h : s.startQ = c :: rest)
    (hw : s.priming.isSome = true ∨ s.heldQ = true ∨ s.rf Reg.CLK_PWR 0 2 ≠ 0 ∨ (s.ctx c).d.level ≠ s.level) :
    primingEntryAct s = s := by
  have hcond : (s.priming.isSome || s.heldQ || decide (s.rf Reg.CLK_PWR 0 2 ≠ 0) || decide ((s.ctx c).d.level ≠ s.level)) = true := by
    simpa [or_assoc] using hw
  simp only [primingEntryAct, h, hcond, if_true]

/-- The state in which a context has entered PRIMING with its samples. -/
def State.primed (s : State) (c : Nat) (rest : List Nat) : State :=
  let x := s.ctx c
  let p := if x.side.topup then { s.sample with stagger := (s.ctx x.side.link).side.stagger } else s.sample
  ({ s with startQ := rest } : State).setCtx c
    { x with
      st := 4, samp := p, prep := Prep.reset,
      side := if x.side.topup then { x.side with pitch := p.pitch, stagger := p.stagger }
        else { x.side with pitch := p.pitch, stagger := p.stagger, placed := false, y0s := x.d.y0 } }

/-- What its lanes become: a test on a mapped lane ends, the lanes take their power states. -/
def State.primedLanes (s : State) (c : Nat) (rest : List Nat) : State :=
  let test : Bool := s.rf Reg.BLN_TEST_CTL 0 2 ≠ 0 && s.mapped (s.rf Reg.BLN_TEST_CTL 16 7)
  if test then (s.primed c rest).endTest else (s.primed c rest).lanePower

/-- Few free ledger slots are reported. -/
def State.primedWarned (s : State) (c : Nat) (rest : List Nat) : State :=
  let t := s.primedLanes c rest
  if t.ldgFree ≤ t.rf Reg.LDG_CFG 0 16 then t.raise Ev.LDG_LEDGER_LOW (t.ldgFree % 65536) else t

theorem bne_eq_decide_ne (a b : Nat) : (a != b) = decide (a ≠ b) := by
  rw [bne, beq_eq_decide, decide_not]

theorem primingEntryAct_enters (h : s.startQ = c :: rest) (hp : s.priming = none) (hh : s.heldQ = false)
    (hpw : s.rf Reg.CLK_PWR 0 2 = 0) (hl : (s.ctx c).d.level = s.level) :
    primingEntryAct s =
      if ((s.ctx c).side.topup && s.sample.pitch != (s.ctx (s.ctx c).side.link).side.pitch) = true then
        (s.primedWarned c rest).raiseCtx Ev.LDG_TOPUP_MISMATCH 0 c
      else s.primedWarned c rest := by
  have hcond : ¬ (s.priming.isSome || s.heldQ || decide (s.rf Reg.CLK_PWR 0 2 ≠ 0) || decide ((s.ctx c).d.level ≠ s.level)) = true := by
    simp [hp, hh, hpw, hl]
  simp only [primingEntryAct, h]
  rw [if_neg hcond]
  cases htop : (s.ctx c).side.topup with
  | false => simp only [State.primedWarned, State.primedLanes, State.primed, htop]; rfl
  | true =>
    simp only [State.primedWarned, State.primedLanes, State.primed, htop, bne_eq_decide_ne, if_true]

theorem jobLevelAct_same (h : s.startQ = c :: rest) (hl : (s.ctx c).d.level = s.level) : jobLevelAct s = s := by
  simp [jobLevelAct, h, hl]

theorem jobLevelAct_other (h : s.startQ = c :: rest) (hl : (s.ctx c).d.level ≠ s.level) :
    jobLevelAct s =
      (({ s with startQ := rest } : State).setCtx c { s.ctx c with st := 2 }).raiseCtx Ev.JOB_LEVEL (s.ctx c).d.level c := by
  simp only [jobLevelAct, h, hl, if_false]
  rfl

theorem exposingEntryAct_waits (h : s.priming = some c) (hits : List TabHit)
    (hw : s.expo.isSome = true ∨ s.killsWaiting = true ∨ s.clk.hold = true ∨ s.writeOk = false ∨ s.pins.darkN = false) :
    exposingEntryAct hits s = s := by
  have hcond : (s.expo.isSome || s.killsWaiting || s.clk.hold || !s.writeOk || !s.pins.darkN) = true := by
    simpa [or_assoc] using hw
  simp only [exposingEntryAct, h, hcond, if_true]

variable {e : Expo}

theorem stripeDoneAct_waits (h : s.expo = some e)
    (hw : e.fired ≠ some (s.ctx e.ctx).lastTransit ∨
      ((s.markers.any fun m => m.ctx == e.ctx) || (s.awaits.any fun w => w.ctx == e.ctx)) = true) :
    stripeDoneAct s = s := by
  have hcond : (decide (e.fired ≠ some (s.ctx e.ctx).lastTransit) || (s.markers.any fun m => m.ctx == e.ctx) ||
      (s.awaits.any fun w => w.ctx == e.ctx)) = true := by
    simpa [or_assoc] using hw
  simp only [stripeDoneAct, h, hcond, if_true]

theorem stripeDoneAct_ends (h : s.expo = some e) (hf : e.fired = some (s.ctx e.ctx).lastTransit)
    (hb : ((s.markers.any fun m => m.ctx == e.ctx) || (s.awaits.any fun w => w.ctx == e.ctx)) = false) :
    stripeDoneAct s =
      ((if (s.ctx e.ctx).side.topup then ((s.endLateRun.endHoldRun.endForm e.ctx).leaveExposing e.ctx 6).topLater e.ctx
        else (s.endLateRun.endHoldRun.endForm e.ctx).leaveExposing e.ctx 6).suspectLog e.ctx false e.suspects).raiseCtx
        Ev.JOB_STRIPE_DONE 0 e.ctx := by
  have hcond : ¬ (decide (e.fired ≠ some (s.ctx e.ctx).lastTransit) || (s.markers.any fun m => m.ctx == e.ctx) ||
      (s.awaits.any fun w => w.ctx == e.ctx)) = true := by
    rw [Bool.or_assoc, hb]
    simp [hf]
  simp only [stripeDoneAct, h]
  rw [if_neg hcond]

/-- Leaving EXPOSING ends the exposure, zeroes the correction in X and gives the context its state. -/
theorem State.leaveExposing_spec (st : Nat) :
    (s.leaveExposing c st).expo = none ∧ (s.leaveExposing c st).loop.xerr = 0 ∧ ((s.leaveExposing c st).ctx c).st = st := by
  have hpower (t : State) : t.lanePower.expo = t.expo ∧ t.lanePower.loop = t.loop ∧ t.lanePower.ctx c = t.ctx c := by
    obtain ⟨b, o, d, h⟩ := t.lanePower_lanesOnly
    rw [h]
    exact ⟨rfl, rfl, rfl⟩
  obtain ⟨he, hl, hc⟩ := hpower { s.setCtxSt c st with expo := none, loop := { s.loop with xerr := 0 } }
  refine ⟨he, by rw [State.leaveExposing, hl], ?_⟩
  rw [State.leaveExposing, hc]
  exact congrArg Ctx.st (State.ctx_setCtx_same s c { s.ctx c with st := st })

end

end Sys2Proof.Machine

namespace Sys2Proof

open Machine

/-- Settles O6: validation by the code of R58, application by what refuses it and what is worn. -/
theorem proposalsAreValidatedAndApplied : Obligations.ProposalsAreValidatedAndApplied := by
  unfold Obligations.ProposalsAreValidatedAndApplied
  refine ⟨fun s hl hv => ⟨fun hc => ?_, fun hc => ?_⟩, fun s hl => ⟨fun hp => ?_, fun hp => ?_⟩, fun s hl hc => ⟨fun hr => ?_,
    fun hr hw => ?_, fun hr hw => ?_⟩, fun s code count => s.nv_tpEnds code count⟩
  · exact onPage_answers hl (tpValidateAct_failed hv hc)
  · obtain ⟨t, ht, hrest⟩ := tpValidateAct_passed hv hc
    exact ⟨t, onPage_answers hl ht, hrest⟩
  · exact onPage_answers hl (tpValidateAct_idle hp)
  · exact onPage_answers hl (tpApplyAct_idle hp)
  · exact onPage_answers hl (tpApplyAct_refused hc hr)
  · exact onPage_answers hl (tpApplyAct_worn hc hr hw)
  · exact onPage_answers hl (tpApplyAct_applied hc hr hw)

/-- Settles O9: the descriptor, its words, its three tables and their rules, each by the first that fails. -/
theorem loadIsCheckedInOrder : Obligations.LoadIsCheckedInOrder := by
  unfold Obligations.LoadIsCheckedInOrder
  refine ⟨?load, ?ends, fun level d => ⟨descChecks_format, descChecks_level, descChecks_bands⟩⟩
  case load =>
    intro s c x hl hx
    have hact := loadDoneAct_of hx
    refine ⟨fun hz => ?_, fun hz hfar => ?_, fun hz hnear => ?_⟩
    · exact onPage_answers hl (by rw [hact, hz]; rfl)
    · exact onPage_answers hl (by rw [hact, hz]; exact if_pos hfar)
    · have hread := hact
      rw [hz, Bool.not_true, if_neg Bool.false_ne_true, if_neg (Nat.not_lt.mpr hnear)] at hread
      refine ⟨fun hn => ?_, fun d hd => ⟨fun o ho => ?_, fun hok => ?_⟩⟩
      · exact onPage_answers hl (by rw [hread, hn])
      · exact onPage_answers hl (by rw [hread, hd]; simp only [ho])
      · have htab : loadDoneAct s = (s.dramRead 4 x.descAddr 128).2.loadTables c d := by
          rw [hread, hd]; simp only [hok]
        obtain ⟨hno1, hno2, hno3, hall⟩ := State.loadTables_of (s := (s.dramRead 4 x.descAddr 128).2) (c := c) (d := d) rfl rfl rfl
        refine ⟨fun h1 => onPage_answers hl (htab.trans (hno1 h1)), fun h1 h2 => onPage_answers hl (htab.trans (hno2 h1 h2)),
          fun h1 h2 h3 => onPage_answers hl (htab.trans (hno3 h1 h2 h3)), fun xf dose pass h1 h2 h3 => ?_⟩
        have hrules := htab.trans (hall xf dose pass h1 h2 h3)
        refine ⟨fun hx => ?_, fun hx hd => ?_, fun hx hd hp => ?_, fun hx hd hp => ?_⟩
        · exact onPage_answers hl (hrules.trans (if_pos (by rw [hx]; rfl)))
        · exact onPage_answers hl (by rw [hrules, hx, hd]; rfl)
        · exact onPage_answers hl (by rw [hrules, hx, hd, hp]; rfl)
        · exact onPage_answers hl (by rw [hrules, hx, hd, hp]; rfl)
  case ends =>
    intro s c code detail
    refine ⟨rfl, fun hc hcode => ?_⟩
    obtain ⟨tag, ht, hreg⟩ := State.reg_loadEnds (s := s) (c := c) code detail
    rw [hreg]
    exact fld_resultWord ht hc hcode

/-- Settles O10: the head of the start queue enters PRIMING, or waits, or is sent back for its level. -/
theorem stripesEnterPrimingInOrder : Obligations.StripesEnterPrimingInOrder := by
  unfold Obligations.StripesEnterPrimingInOrder
  refine ⟨fun s hl hq => ⟨onPage_answers hl (primingEntryAct_none hq), onPage_answers hl (jobLevelAct_none hq)⟩,
    fun s c rest hl hq => ⟨fun hw => onPage_answers hl (primingEntryAct_waits hq hw), fun hp hh hpw hlev => ?_,
    fun h => onPage_answers hl (jobLevelAct_same hq h), fun h => onPage_answers hl (jobLevelAct_other hq h)⟩⟩
  have henter := primingEntryAct_enters hq hp hh hpw hlev
  refine ⟨fun ho => onPage_answers hl (henter.trans ?_), fun ho => onPage_answers hl (henter.trans ?_)⟩
  · exact if_neg (by rw [ho]; nofun)
  · exact if_pos ho

/-- Settles O11: EXPOSING_ENTRY and STRIPE_DONE wait for their conditions, then do their steps in order. -/
theorem stripesExposeAndEnd : Obligations.StripesExposeAndEnd := by
  unfold Obligations.StripesExposeAndEnd
  refine ⟨fun s0 c hits hh hl hp => ⟨fun hw => ?_, fun he hk hd hwok hn => ?_⟩, fun s e hl he => ⟨fun hw => ?_, fun hf hb => ?_⟩,
    fun s c st => ?_, fun s a v ht => ⟨fun hv => ?_, fun hv => ?_⟩⟩
  · exact checked_answers hh (onPage_answers hl (exposingEntryAct_waits hp hits hw))
  · refine checked_answers hh (onPage_answers hl ?_)
    have hcond : ¬ (s0.expo.isSome || s0.killsWaiting || s0.clk.hold || !s0.writeOk || !s0.pins.darkN) = true := by
      simp [he, hk, hd, hwok, hn]
    simp only [exposingEntryAct, hp]
    rw [if_neg hcond]
  · exact onPage_answers hl (stripeDoneAct_waits he hw)
  · exact onPage_answers hl (stripeDoneAct_ends he hf hb)
  · obtain ⟨h1, h2, h3⟩ := s.leaveExposing_spec (c := c) st
    exact ⟨h1, h2, fun _ => h3⟩
  · exact rowWrite_answers ht (if_pos hv)
  · exact rowWrite_answers ht (if_neg (by rw [hv]; nofun))

end Sys2Proof
end

section
/-!
PROOFS. DENS_BAND_PARSE and the granule of a fault (R130, R359). The statement's clause of a directory entry or a record that
fails binds `gran` again, as the granule of the fault: the command that it then speaks of reads another line again than the one
whose outcome it assumes.
-/

namespace Sys2Proof

open Machine

/-- A running device with record faults of class 1 (so that none aborts) and context 5 PRIMING, whose first directory entry has a
reserved word that is not 0 (R469), and with two wrong bits in the first byte of the staging of band lists. -/
def stagedFault : State :=
  { State.reset with
    clk := { Clk.reset with
      active := 2, rcOk := true, xtalOk := true, sysOk := true, rcStarting := false, ready := true, mode := 0, held := 0,
      inReset := false, seq := 10, safe := 0, step5 := 255 },
    sram := { Sram.reset with zeroed := true, err := [(cellKey 72 0 0, 3)] },
    dram := { Dram.reset with ready := true, data := [(12, 1)], written := [(0, 1)] },
    hdrs := [(9, { Hdr.reset with cls := [(5, 1)] })],
    ctxs := [(5, { Ctx.reset with
      st := 4, d := { Ctx.reset.d with level := 1, bands := 1, geomSize := 128 }, samp := { Ctx.reset.samp with horizon := 64 } })] }

/-- The uncorrectable byte of the staging. -/
def stagedHit : List SramHit := [⟨72, 0, 0⟩]

/-- Whether the next state has met a block of DRAM that was never written. -/
def zeroRead : Host.Outcome State Fault Refusal → Bool
  | .next t => t.dram.zread
  | _ => false

/-- What reading granule 100,000 again leaves. -/
def stagedAgain : Option Nat × State :=
  (stagedFault.sramHits stagedHit).2.refetch (stagedFault.sourceOf 5) (BitVec.toNat (100000 : Word))
    ((stagedFault.sramHits stagedHit).1.filter fun x => groupRegion x.group.toNat == 3)

/-- What the check of the directory entry then leaves. -/
def stagedDir : Parsed × State := stagedAgain.2.parseDir 0 (stagedFault.sourceOf 5) (stagedFault.ctx 5).prep.parsed

/-- Reading granule 100,000 again meets a block never written, after which the directory entry of the list fails at granule 0. -/
theorem stagedFault_spec :
    Instr.wf (.densBandParse stagedHit 0 100000) = true ∧ stagedFault.live 11 = true ∧ stagedFault.parseTarget = some 5 ∧
    ((stagedFault.sramHits stagedHit).1.filter fun x => groupRegion x.group.toNat != 3) = [] ∧
    stagedAgain.1 = none ∧ stagedDir.1 = .fault 9 0 := by
  decide +kernel

/-- What the statement says of the command with granule 0 is so only of the one with granule 100,000. -/
theorem zeroRead_stagedFault :
    zeroRead (exec (.densBandParse stagedHit 0 (0 : Nat)) stagedFault) = false ∧
    zeroRead (.next (stagedDir.2.recordFault 5 0 9 (stagedFault.ctx 5).prep.parsed 0).settle) = true := by
  decide +kernel

/-- Refutes O12: with granule 100,000 read again the directory entry fails at granule 0, and the statement says so of the command that
reads granule 0 again, which meets no block never written. -/
theorem not_parsersTakeOneListOrRecord : ¬ Obligations.ParsersTakeOneListOrRecord := by
  intro h
  obtain ⟨hwf, hlive, htarget, hmaps, hagain, hdir⟩ := stagedFault_spec
  have hdens := (h.1 stagedFault stagedHit 0 100000 hwf hlive).2 5 htarget
  have hexec : exec (.densBandParse stagedHit 0 (0 : Nat)) stagedFault =
      .next (stagedDir.2.recordFault 5 0 9 (stagedFault.ctx 5).prep.parsed 0).settle := (hdens.2.2 hagain hmaps).1 9 0 hdir
  obtain ⟨hfalse, htrue⟩ := zeroRead_stagedFault
  rw [hexec, htrue] at hfalse
  exact Bool.noConfusion hfalse

end Sys2Proof
end

section
/-!
PROOFS. Pieces of tiles (R92, R93, R105 to R119): the queue, the engines, the decoders and what completes or abandons a piece.
-/

namespace Sys2Proof.Machine

/-! ### What a write of a region of SRAM leaves -/

/-- What a rewrite keeps of a byte's errors. -/
theorem State.err_rewrites (s : State) (r k : Nat) :
    sget 0 (s.rewrites r).sram.err k =
      if (s.sram.err.any fun p => keyRegion p.1 == r) && !(keyRegion k != r || s.heldBad k || !Config.overwrites s.draws k) then 0
      else sget 0 s.sram.err k := by
  unfold State.rewrites
  cases (s.sram.err.any fun p => keyRegion p.1 == r) with
  | false => rfl
  | true =>
    change sget 0 (skeep (fun k => keyRegion k != r || s.heldBad k || !Config.overwrites s.draws k) s.sram.err) k = _
    rw [sget_skeep]
    cases (keyRegion k != r || s.heldBad k || !Config.overwrites s.draws k) <;> rfl

theorem State.err_rewrites_elsewhere (s : State) {r k : Nat} (h : keyRegion k ≠ r) :
    sget 0 (s.rewrites r).sram.err k = sget 0 s.sram.err k := by
  rw [State.err_rewrites, bne_iff_ne.mpr h, Bool.true_or, Bool.true_or, Bool.not_true, Bool.and_false, if_neg Bool.false_ne_true]

theorem State.err_rewrites_cases (s : State) (r k : Nat) :
    sget 0 (s.rewrites r).sram.err k = sget 0 s.sram.err k ∨ sget 0 (s.rewrites r).sram.err k = 0 := by
  rw [State.err_rewrites]
  split
  · exact .inr rfl
  · exact .inl rfl

/-- Only errors of bytes and the count of free values differ. -/
theorem State.rewrites_eq (s : State) (r : Nat) : ∃ (e : Store Nat) (d : Nat),
    s.rewrites r = { s with sram := { s.sram with err := e }, draws := d } := by
  unfold State.rewrites
  split
  · exact ⟨_, _, rfl⟩
  · exact ⟨s.sram.err, s.draws, rfl⟩

theorem State.rewrites_frame (s : State) (r : Nat) :
    { s.rewrites r with sram := { (s.rewrites r).sram with err := s.sram.err }, draws := s.draws } = s := by
  obtain ⟨e, d, h⟩ := s.rewrites_eq r
  rw [h]

/-! ### BAND_ENQUEUE and PIECE_DISPATCH -/

section
variable {s : State} {e : Expo} {hits : List SramHit} {row : Nat}

theorem bandEnqueueAct_waits (he : s.expo = some e)
    (h : (s.meets hits e.ctx row).1 = false ∨ e.admitted ≤ e.enqueued ∨
      ((s.meets hits e.ctx row).2.ctx e.ctx).prep.parsed ≤ e.enqueued) :
    bandEnqueueAct hits row s = (s.meets hits e.ctx row).2 := by
  simp only [bandEnqueueAct, he]
  refine if_pos ?_
  obtain h | h | h := h <;> simp [h]

theorem bandEnqueueAct_queues (he : s.expo = some e) (hm : (s.meets hits e.ctx row).1 = true) (ha : e.enqueued < e.admitted)
    (hp : e.enqueued < ((s.meets hits e.ctx row).2.ctx e.ctx).prep.parsed) :
    bandEnqueueAct hits row s =
      { (queueOrder (fun t => (tileCosts ((s.meets hits e.ctx row).2.ctx e.ctx).prep.cost t e.enqueued).sum)
          ((List.range 32).filter fun t => e.low ≤ e.enqueued && !(s.meets hits e.ctx row).2.isFinal t e.enqueued)).foldl
          (fun (a : State) t =>
            let a1 := a.startAttempt (32 * e.enqueued + t) false (((s.meets hits e.ctx row).2.ctx e.ctx).splits t e.enqueued) false
            { a1 with form := { a1.form with
                queue := a1.form.queue ++ tilePieces (32 * e.enqueued + t) (((s.meets hits e.ctx row).2.ctx e.ctx).splits t e.enqueued) } })
          (s.meets hits e.ctx row).2 with
        expo := some { e with enqueued := e.enqueued + 1 } } := by
  have hgo : ¬ ((!(s.meets hits e.ctx row).1 || e.admitted ≤ e.enqueued ||
      ((s.meets hits e.ctx row).2.ctx e.ctx).prep.parsed ≤ e.enqueued) = true) := by
    simp [hm, ha, hp]
  simp only [bandEnqueueAct, he]
  rw [if_neg hgo]

variable {room : Nat}

theorem pieceDispatchAct_nothing (h : s.expo = none ∨ s.form.queue = []) : pieceDispatchAct room s = s := by
  unfold pieceDispatchAct
  split
  case h_1 he hq => obtain h | h := h <;> simp_all
  case h_2 => rfl

variable {p : Piece} {ps : List Piece} (he : s.expo = some e) (hq : s.form.queue = p :: ps)
include he hq

/-- The first engine that is enabled and has no piece decides. -/
theorem pieceDispatchAct_of :
    pieceDispatchAct room s =
      match (List.range 48).find? fun i => s.enginesOn.testBit i && (s.engine i).piece.isNone with
      | none => { s with form := { s.form with engOn := s.form.engOn ||| s.enginesOn } }
      | some i =>
        ({ s with form := { s.form with
            engOn := s.form.engOn ||| s.enginesOn, queue := ps,
            engines := sput Engine.reset s.form.engines i { Engine.reset with piece := some p, start := s.ctl } } } :
          State).decoderRoom e.ctx i room := by
  unfold pieceDispatchAct
  split
  case h_1 e' p' ps' he' hq' =>
    obtain rfl := Option.some.inj (he'.symm.trans he)
    obtain ⟨rfl, rfl⟩ := List.cons.inj (hq'.symm.trans hq)
    rfl
  case h_2 hno => exact absurd hq (hno e p ps he)

theorem pieceDispatchAct_none
    (h : ((List.range 48).find? fun i => s.enginesOn.testBit i && (s.engine i).piece.isNone) = none) :
    pieceDispatchAct room s = { s with form := { s.form with engOn := s.form.engOn ||| s.enginesOn } } := by
  rw [pieceDispatchAct_of he hq, h]

theorem pieceDispatchAct_gives {i : Nat}
    (h : ((List.range 48).find? fun i => s.enginesOn.testBit i && (s.engine i).piece.isNone) = some i) :
    pieceDispatchAct room s =
      ({ s with form := { s.form with
          engOn := s.form.engOn ||| s.enginesOn, queue := ps,
          engines := sput Engine.reset s.form.engines i { Engine.reset with piece := some p, start := s.ctl } } } :
        State).decoderRoom e.ctx i room := by
  rw [pieceDispatchAct_of he hq, h]

end

/-! ### The decoders -/

section
variable {s : State} {c i room : Nat}

theorem decodeResumeAct_resumes (hc : s.exposing = some c) (hs : (s.engine i).stopped = true) (hr : room ≠ 0) :
    decodeResumeAct i room s = s.decoderRoom c i room := by
  simp only [decodeResumeAct, hc, hs, Bool.true_and, bne_iff_ne, ne_eq, hr, not_false_eq_true, if_true]

theorem decodeResumeAct_stays (hc : s.exposing = some c) (h : (s.engine i).stopped = false ∨ room = 0) :
    decodeResumeAct i room s = s := by
  simp only [decodeResumeAct, hc]
  refine if_neg ?_
  obtain h | h := h <;> simp [h]

section
variable {gran : Nat} (hd : s.decoding c i = some gran)
include hd

theorem State.decoderRoom_enough (h : s.bitmapNeed c gran ≤ (s.engine i).made + room) :
    s.decoderRoom c i room =
      (s.setEngine i { s.engine i with made := (s.engine i).made + room, stopped := false }).rewrites 1 := by
  simp only [State.decoderRoom, hd, decide_eq_false (Nat.not_lt.mpr h), Bool.false_eq_true, if_false]

theorem State.decoderRoom_full (h : (s.engine i).made + room < s.bitmapNeed c gran) :
    s.decoderRoom c i room =
      ((s.setEngine i { s.engine i with made := (s.engine i).made + room, stopped := true }).rewrites 1).bump
        Reg.JOB_DEC_SUSPEND := by
  simp only [State.decoderRoom, hd, decide_eq_true h, if_true]

end

theorem State.bitmapNeed_lost {gran line : Nat} (h : (s.decoderReads c gran).1 = some line) :
    s.bitmapNeed c gran = (s.decodeBefore c gran line).made := by
  rw [State.bitmapNeed, h, State.bitmapOut]

theorem State.bitmapNeed_read {gran : Nat} (h : (s.decoderReads c gran).1 = none) :
    s.bitmapNeed c gran = (decodeBitmap (s.geom (s.sourceOf c)) gran).made := by
  rw [State.bitmapNeed, h, State.bitmapOut]

theorem State.hdr_captureFault (s : State) (c source code band gran p : Nat) :
    (s.captureFault c source code band gran).hdr p = s.hdr p := by
  unfold State.captureFault
  split
  · rfl
  · simp only [State.hdr, State.setReg_hdrs]

/-- A decode that fails is captured and raised, its tile dark where the event is Repairable. -/
theorem State.decodeFault_eq (s : State) (c tile gran code : Nat) :
    s.decodeFault c tile gran code =
      (if ((s.captureFault c 2 code (tile / 32) gran).hdr Ev.JOB_DECODE_FAULT.page).classOf Ev.JOB_DECODE_FAULT.page
          Ev.JOB_DECODE_FAULT.bit = 1 then
        ((s.captureFault c 2 code (tile / 32) gran).darkTile c (tile % 32) (tile / 32)).makeRecord c 5 tile 0 0 none
      else s.captureFault c 2 code (tile / 32) gran).raiseCtx Ev.JOB_DECODE_FAULT code c := by
  rw [State.hdr_captureFault]
  rfl

section
variable {p : Piece} {gran : Nat} (hc : s.exposing = some c) (hp : (s.engine i).piece = some p) (hd : s.decoding c i = some gran)
include hc hp hd

theorem decodeDoneAct_idle (h : (s.engine i).stopped = true ∨ (s.engine i).held = true) : decodeDoneAct i room s = s := by
  simp only [decodeDoneAct, hc, hp, hd]
  refine if_pos ?_
  obtain h | h := h <;> simp [h]

variable (hs : (s.engine i).stopped = false) (hh : (s.engine i).held = false)
include hs hh

theorem decodeDoneAct_needsRoom (h : (s.engine i).made < s.bitmapNeed c gran) :
    decodeDoneAct i room s = s.decoderRoom c i 0 := by
  simp only [decodeDoneAct, hc, hp, hd, hs, hh, Bool.or_self, Bool.false_eq_true, if_false]
  exact if_pos h

variable (h : s.bitmapNeed c gran ≤ (s.engine i).made)
include h

theorem decodeDoneAct_lost {line : Nat} (hl : (s.decoderReads c gran).1 = some line) :
    decodeDoneAct i room s = (s.decoderReads c gran).2.geomMemFault c (p.tile / 32) line := by
  rw [State.bitmapNeed, hl] at h
  simp only [decodeDoneAct, hc, hp, hd, hs, hh, hl, Bool.or_self, Bool.false_eq_true, if_false, if_neg (Nat.not_lt.mpr h)]

theorem decodeDoneAct_decodes (hl : (s.decoderReads c gran).1 = none) {raw : List Byte}
    (ho : decodeBitmap (s.geom (s.sourceOf c)) gran = .bytes raw) :
    decodeDoneAct i room s =
      (((s.decoderReads c gran).2.setEngine i { s.engine i with raws := (s.engine i).raws ++ [raw], made := 0 }).bump
        Reg.JOB_DEC_TILES).decoderRoom c i room := by
  rw [State.bitmapNeed, hl] at h
  simp only [decodeDoneAct, hc, hp, hd, hs, hh, hl, ho, Bool.or_self, Bool.false_eq_true, if_false, if_neg (Nat.not_lt.mpr h)]

theorem decodeDoneAct_fails (hl : (s.decoderReads c gran).1 = none) {code made : Nat}
    (ho : decodeBitmap (s.geom (s.sourceOf c)) gran = .fault code made) :
    decodeDoneAct i room s = (s.decoderReads c gran).2.decodeFault c p.tile gran code := by
  rw [State.bitmapNeed, hl] at h
  simp only [decodeDoneAct, hc, hp, hd, hs, hh, hl, ho, Bool.or_self, Bool.false_eq_true, if_false, if_neg (Nat.not_lt.mpr h)]

end

end

/-! ### What completes or abandons a piece -/

section
variable {s : State} {e : Expo} {i clk : Nat}

/-- A piece that lacks a record or a bitmap, or whose buffer an earlier completion keeps, is not complete. -/
theorem pieceDoneAct_waits {p : Piece} {x : Tile} (he : s.expo = some e) (hp : (s.engine i).piece = some p)
    (hx : s.tile? p.tile = some x)
    (h : (!(s.engine i).held && s.bucketFull e.ctx p.tile &&
      (bucketBits (s.bucketOf e.ctx p.tile)).length == (s.engine i).raws.length) = false) :
    pieceDoneAct i clk s = s := by
  simp only [pieceDoneAct, he, hp, hx]
  refine if_pos ?_
  simp only [Bool.and_eq_false_iff, beq_eq_false_iff_ne, Bool.not_eq_false'] at h
  obtain (h | h) | h := h <;> simp [h]

theorem lateTilesAct_exposing (he : s.expo = some e) :
    lateTilesAct s = (List.range (e.admitted - e.low)).foldl
      (fun (u : State) i =>
        if u.deadlinePassed (e.low + i) = true then
          (List.range 32).foldl
            (fun (v : State) t =>
              if v.incomplete t (e.low + i) then v.abandonTile e.ctx t (e.low + i) 1 Ev.RAST_TILE_LATE else v) u
        else u) s := by
  simp only [lateTilesAct, he]
  congr 1
  funext u i
  cases u.deadlinePassed (e.low + i) <;> rfl

theorem lateTilesAct_idle (he : s.expo = none) : lateTilesAct s = s := by
  simp only [lateTilesAct, he]

variable {hit : SramHit}

theorem workspaceAct_read (h : (s.sramRead hit.group.toNat hit.row.toNat hit.byte.toNat).1 ≠ .bad) :
    workspaceAct i hit s = (s.sramRead hit.group.toNat hit.row.toNat hit.byte.toNat).2.2 := if_pos h

theorem workspaceAct_bad (h : (s.sramRead hit.group.toNat hit.row.toNat hit.byte.toNat).1 = .bad) {c : Nat} {p : Piece}
    (hc : s.exposing = some c) (hp : (s.engine i).piece = some p) :
    workspaceAct i hit s =
      (s.sramRead hit.group.toNat hit.row.toNat hit.byte.toNat).2.2.abandonTile c (p.tile % 32) (p.tile / 32) 2
        Ev.RAST_WORKSPACE_FAULT := by
  simp only [workspaceAct, h, ne_eq, not_true_eq_false, if_false, hc, hp]

end

end Sys2Proof.Machine

namespace Sys2Proof

open Machine

/-- Settles O13: pieces enter the queue, the engines and the decoders by the conditions of each. -/
theorem piecesPassThroughTheEngines : Obligations.PiecesPassThroughTheEngines := by
  unfold Obligations.PiecesPassThroughTheEngines
  refine ⟨fun s0 e hits row hh hl he => ⟨fun h => ?_, fun hm ha hp => ?_⟩, fun s e p ps room hl he hq => ⟨fun h => ?_, fun i h => ?_⟩,
    fun s room hl h => onPage_answers hl (pieceDispatchAct_nothing h), fun s i c room hi hl hc => ⟨fun hs hr => ?_, fun h => ?_,
      fun p gran hp hd => ?_⟩, fun s c i room gran hd => ⟨State.decoderRoom_enough hd, State.decoderRoom_full hd⟩,
    fun s r => ⟨fun _ => s.err_rewrites_elsewhere, s.err_rewrites_cases r, s.rewrites_frame r⟩,
    fun s c gran => ⟨fun line => State.bitmapNeed_lost, fun h => ⟨fun bytes ho => ?_, fun code made ho => ?_⟩⟩⟩
  · exact checked_answers hh (onPage_answers hl (bandEnqueueAct_waits he h))
  · exact checked_answers hh (onPage_answers hl (bandEnqueueAct_queues he hm ha hp))
  · exact onPage_answers hl (pieceDispatchAct_none he hq h)
  · exact onPage_answers hl (pieceDispatchAct_gives he hq h)
  · exact checked_answers (decide_eq_true hi) (onPage_answers hl (decodeResumeAct_resumes hc hs hr))
  · exact checked_answers (decide_eq_true hi) (onPage_answers hl (decodeResumeAct_stays hc h))
  · have ans {t : State} (h : decodeDoneAct i.toNat room s = t) : exec (.bitmapDecodeDone i room) s = .next t.settle :=
      checked_answers (decide_eq_true hi) (onPage_answers hl h)
    refine ⟨fun h => ans (decodeDoneAct_idle hc hp hd h), fun hs hh h => ans (decodeDoneAct_needsRoom hc hp hd hs hh h),
      fun hs hh h => ⟨fun line hr => ans (decodeDoneAct_lost hc hp hd hs hh h hr),
        fun bytes hr ho => ans (decodeDoneAct_decodes hc hp hd hs hh h hr ho), fun code made hr ho => ans ?_⟩⟩
    exact (decodeDoneAct_fails hc hp hd hs hh h hr ho).trans (State.decodeFault_eq _ _ _ _ _)
  · rw [State.bitmapNeed_read h, ho]; rfl
  · rw [State.bitmapNeed_read h, ho]; rfl

/-- Settles O14: a piece completes with its sums and counts, or its tile is abandoned. -/
theorem piecesCompleteOrAreAbandoned : Obligations.PiecesCompleteOrAreAbandoned := by
  unfold Obligations.PiecesCompleteOrAreAbandoned
  refine ⟨fun s e i clk p x hi hl he hp hx => ?_, fun s e hl he => onPage_answers hl (lateTilesAct_exposing he),
    fun s hl he => onPage_answers hl (lateTilesAct_idle he), fun s i hit c p hh hl hc hp => ⟨fun h => ?_, fun h => ?_⟩⟩
  · have ans {t : State} (h : pieceDoneAct i.toNat clk.toNat s = t) : exec (.pieceDone i clk) s = .next t.settle :=
      checked_answers (decide_eq_true hi) (onPage_answers hl h)
    refine ⟨fun hr => ans (pieceDoneAct_waits he hp hx hr), fun hr hn => ans ?_, fun hr hn => ans ?_⟩
    all_goals
      have hgo : ¬ ((s.engine i.toNat).held || !s.bucketFull e.ctx p.tile ||
          (bucketBits (s.bucketOf e.ctx p.tile)).length ≠ (s.engine i.toNat).raws.length) = true := by
        simpa [and_assoc] using hr
      simp only [pieceDoneAct, he, hp, hx]
      rw [if_neg hgo]
    · exact if_pos hn
    · exact if_neg (not_not.mpr hn)
  · exact checked_answers hh (onPage_answers hl (workspaceAct_read h))
  · exact checked_answers hh (onPage_answers hl (workspaceAct_bad h hc hp))

end Sys2Proof
end

section
/-!
PROOFS. Settings and probes of the engines and of dose formation, hand-off, signatures and almanac loads (R120 to R122, R132 to
R141, R151 to R160, R173).
-/

namespace Sys2Proof.Machine

/-! ### Settings -/

section
variable {s : State} {v : Word}

theorem rastCtlAct_stores (h : 64 ≤ fld v 16 10) : rastCtlAct v s = s.writeRw Reg.RAST_CTL v := if_neg (Nat.not_lt.mpr h)

theorem rastCtlAct_range (h : fld v 16 10 < 64) : rastCtlAct v s = s.raise Ev.RAST_CFG_RANGE 0 := if_pos h

theorem corrCtlAct_stores (h : 64 ≤ fld v 0 11 ∧ fld v 0 11 ≤ 1024) : corrCtlAct v s = s.writeRw Reg.CORR_CTL v :=
  if_neg (not_or.mpr ⟨Nat.not_lt.mpr h.1, Nat.not_lt.mpr h.2⟩)

theorem corrCtlAct_range (h : fld v 0 11 < 64 ∨ 1024 < fld v 0 11) : corrCtlAct v s = s.raise Ev.CORR_CFG_RANGE 0 := if_pos h

/-! ### Probes -/

/-- The context may be probed: neither FREE nor LOADING. -/
def Ctx.probed (x : Ctx) : Bool := x.st != 0 && x.st != 1

/-- The point of a probe of the engines lies outside the context. -/
def Ctx.offStripe (x : Ctx) (p : Pt) : Bool :=
  decide (p.x < 0 ∨ 2097152 < p.x ∨ p.y < (x.yRange.1 : Int) ∨ (x.yRange.2 : Int) < p.y)

/-- A probe of the engines keeps its three results where the context holds the point, and zeros elsewhere. -/
theorem rastProbeAct_eq {c : Nat} {p q : Pt} {out : Bool} (hc : fld v 0 7 = c)
    (hp : (⟨sext 32 (s.reg Reg.RAST_PROBE_X).toNat, sext 32 (s.reg Reg.RAST_PROBE_Y).toNat⟩ : Pt) = p)
    (hq : xform (xformOf (s.ctx c).xf) p = q) (ho : (s.ctx c).offStripe p = out) :
    rastProbeAct v s =
      s.resultStart Reg.RAST_PROBE_STAT
        ⟨[(Reg.RAST_PROBE_XO, if ((s.ctx c).probed && !out) = true then w32i q.x else 0),
          (Reg.RAST_PROBE_YO, if ((s.ctx c).probed && !out) = true then w32i q.y else 0),
          (Reg.RAST_PROBE_D,
            if ((s.ctx c).probed && !out) = true then pack [(16, toBits 16 (q.y - p.y)), (0, toBits 16 (q.x - p.x))] else 0)],
          [(30, b2n (s.ctx c).probed), (29, b2n out)], some c⟩ := by
  subst hc hp hq ho
  simp only [rastProbeAct, Ctx.probed, Ctx.offStripe, Bool.decide_or, Bool.or_assoc]

/-- A probe of dose formation likewise. -/
theorem corrProbeAct_eq {c x y : Nat} {out : Bool} (hc : fld v 0 7 = c) (hx : s.rf Reg.CORR_PROBE_X 0 13 = x)
    (hy : s.rf Reg.CORR_PROBE_Y 0 23 = y)
    (ho : decide (8191 < x ∨ y < 256 * (s.ctx c).band0 ∨ 256 * (s.ctx c).bandEnd ≤ y) = out) :
    corrProbeAct v s =
      s.resultStart Reg.CORR_PROBE_STAT
        ⟨[(Reg.CORR_PROBE_D,
            if (s.densHeld c (y / 256) && !out) = true then
              pack [(16, s.density c (x / 128 : Nat) (y / 128 : Nat)),
                (0, convIndex (s.ctx (s.sourceOf c)).dose (s.density c) (x / 128 : Nat) (y / 128 : Nat))]
            else 0),
          (Reg.CORR_PROBE_G,
            if (s.densHeld c (y / 256) && !out) = true then
              pack [(16, cellFactor (s.ctx (s.sourceOf c)).dose (s.density c) (x / 128 : Nat) (y / 128 : Nat)),
                (0, pixelFactor (cellFactor (s.ctx (s.sourceOf c)).dose (s.density c)) x y)]
            else 0)],
          [(30, b2n (s.densHeld c (y / 256))), (29, b2n out)], some c⟩ := by
  subst hc hx hy ho
  simp only [corrProbeAct, Bool.decide_or, Bool.or_assoc]

/-- The end of a probe writes what waits and raises the event for the probed context. -/
theorem probeDoneAct_ends {off row c : Nat} {ev : EvId} {hits : List SramHit} {w : Waiting} (hc : w.ctx = some c)
    (hm : (s.meets hits c row).2.results.find? (fun p => p.1 == off) = some (off, w))
    (hs : s.results.find? (fun p => p.1 == off) = some (off, w)) {u : State}
    (hu : w.regs.foldl (fun (a : State) q => a.setReg q.1 q.2) (s.meets hits c row).2 = u) :
    probeDoneAct off ev hits row s =
      (({ u with results := sdel off u.results } : State).resDone off w.stat).raiseCtx ev 0 c := by
  subst hu
  simp only [probeDoneAct, hs, hc, Option.getD_some, State.resultFinish, hm, Option.some_or]
  rfl

end

/-! ### Dose formation and hand-off -/

section
variable {s : State} {c row : Nat} {hits : List SramHit} (hc : s.exposing = some c)
include hc

theorem doseFormAct_bad (h : (s.sramHits hits).1 ≠ []) :
    doseFormAct hits row s =
      (s.sramHits hits).1.foldl (fun (a : State) b => a.mapFault c row b) (s.sramHits hits).2 := by
  have hne : (!(s.sramHits hits).1.isEmpty) = true := by simpa [List.isEmpty_iff] using h
  simp only [doseFormAct, hc, State.meets]
  exact if_pos hne

variable (h : (s.sramHits hits).1 = [])
include h

theorem doseFormAct_waits (hw : ((s.sramHits hits).2.form.tiles.any fun p => p.2.stage == 2) = true ∨
    (s.sramHits hits).2.doseNext c = none) : doseFormAct hits row s = (s.sramHits hits).2 := by
  simp only [doseFormAct, hc, State.meets, h, List.isEmpty_nil, Bool.not_true, Bool.false_eq_true, if_false, List.foldl_nil]
  obtain hw | hw := hw
  · exact if_pos hw
  · simp only [hw, ite_self]

theorem doseFormAct_takes {tile : Nat} {x : Tile} (hn : ((s.sramHits hits).2.form.tiles.any fun p => p.2.stage == 2) = false)
    (ht : (s.sramHits hits).2.doseNext c = some tile) (hx : (s.sramHits hits).2.tile? tile = some x) :
    doseFormAct hits row s =
      ((((List.range 48).foldl
        (fun (u : State) i =>
          match (u.engine i).piece with
          | some p => if p.tile = tile then u.setEngine i Engine.reset else u
          | none => u) (s.sramHits hits).2).setTile tile { x with stage := 2 }).idxSats c (tile % 32) (tile / 32)).rewrites 2 := by
  simp only [doseFormAct, hc, State.meets, h, List.isEmpty_nil, Bool.not_true, Bool.false_eq_true, if_false, List.foldl_nil, hn,
    ht, hx] <;> rfl

end

section
variable {s : State} {c tile : Nat} {x : Tile}

theorem State.sigEntry_seen (h : s.sigLine c tile ∈ s.form.sigDark) : s.sigEntry c tile x = s.sigMemDark c tile x :=
  if_pos (List.contains_iff_mem.mpr h)

section
variable (h : s.sigLine c tile ∉ s.form.sigDark)
include h

theorem State.sigEntry_read (hu : (s.dramReadLine 3 (s.sigLine c tile)).1.usable = true) :
    s.sigEntry c tile x =
      (s.dramReadLine 3 (s.sigLine c tile)).2.setTile tile
        { x with
          expect := leNat (((s.dramReadLine 3 (s.sigLine c tile)).1.bytes.drop (((s.ctx c).d.sigAddr + 8 * tile) % 64)).take 8),
          cap := (s.dramReadLine 3 (s.sigLine c tile)).2.capIs c tile } := by
  rw [State.sigEntry, if_neg (fun hm => h (List.contains_iff_mem.mp hm))]
  exact if_pos hu

theorem State.sigEntry_lost (hu : (s.dramReadLine 3 (s.sigLine c tile)).1.usable = false) {u : State}
    (he : (s.dramReadLine 3 (s.sigLine c tile)).2.raiseCtx Ev.SIG_MEM_FAULT
      ((64 * s.sigLine c tile - (s.ctx c).d.sigAddr) / 8 / 32) c = u) :
    s.sigEntry c tile x =
      if s.classNow Ev.SIG_MEM_FAULT = 1 then
        ({ u with form := { u.form with sigDark := s.sigLine c tile :: u.form.sigDark } } : State).sigMemDark c tile x
      else u := by
  rw [State.sigEntry, if_neg (fun hm => h (List.contains_iff_mem.mp hm))]
  subst he
  exact if_neg (by rw [hu]; nofun)

end

theorem State.sigMemDark_free (h : s.capIs c tile = false) :
    s.sigMemDark c tile x = ((s.darkTile c (tile % 32) (tile / 32)).makeRecord c 4 tile 0 0 none).bump Reg.SIG_DARK := by
  simp only [State.sigMemDark, h, Bool.false_eq_true, if_false]

theorem State.sigMemDark_captured (h : s.capIs c tile = true) :
    s.sigMemDark c tile x =
      (((s.capDone c false false false x.regen x.sig 0).darkTile c (tile % 32) (tile / 32)).makeRecord c 4 tile 0 0
        none).bump Reg.SIG_DARK := by
  simp only [State.sigMemDark, h, if_true]

/-- A hand-off raises DOSE_CLAMP when a cell is clamped and none of the tile was before. -/
theorem clampRaised_eq {n : Nat} {b : Bool} {u v : State} :
    (if (n = 0 || b) = true then u else v) = if n ≠ 0 ∧ b = false then v else u := by
  by_cases hn : n = 0 <;> cases b <;> simp [hn]

end

/-! ### Signature comparison and captures -/

section
variable {s : State} {v : Word}

theorem sigMisInfoAct_clears (h : wbit v 31 = true) :
    sigMisInfoAct v s =
      ((((s.setReg Reg.SIG_MIS_INFO 0).setReg Reg.SIG_MIS_CALC_LO 0).setReg Reg.SIG_MIS_CALC_HI 0).setReg Reg.SIG_MIS_EXP_LO
        0).setReg Reg.SIG_MIS_EXP_HI 0 := by
  rw [sigMisInfoAct, if_pos h]

theorem sigMisInfoAct_keeps (h : wbit v 31 = false) : sigMisInfoAct v s = s := by
  rw [sigMisInfoAct, h, if_neg Bool.false_ne_true]

section
variable {c tile : Nat} {x : Tile} (hc : s.exposing = some c) (hx : s.tile? tile = some x) (hst : x.stage = 3)
  {forced : Bool} (hf : (s.forceIs c tile && (!s.test.sigUsed || (x.regen && wbit (s.reg Reg.TEST_SIG) 31))) = forced)
  {comp : Nat} (hcomp : (if forced = true then x.sig ^^^ 1 else x.sig) = comp)
  {s1 : State} (h1 : (if forced = true then
    ({ s with test := { s.test with sigUsed := true } } : State).bump Reg.TEST_INJ else s).bump Reg.SIG_TILES = s1)
  {s2 : State} (h2 : (if x.cap = true then s1.capDone c false true (comp == x.expect) x.regen comp x.expect else s1) = s2)
include hc hx hst hf hcomp h1 h2

/-- An equal signature makes the tile final. -/
theorem sigCompareAct_equal (he : comp = x.expect) :
    sigCompareAct tile s =
      if x.regen = true then (s2.tileFinal c (tile % 32) (tile / 32)).bump Reg.SIG_REGEN_OK
      else s2.tileFinal c (tile % 32) (tile / 32) := by
  have hok : (comp == x.expect) = true := beq_iff_eq.mpr he
  simp only [sigCompareAct, hc, hx, hst, ne_eq, not_true_eq_false, if_false, hf, hcomp, h1, h2]
  exact if_pos hok

/-- Another one counts a mismatch; a first attempt may be repeated, and counts in the burst bucket. -/
theorem sigCompareAct_differs (he : comp ≠ x.expect) {s3 : State}
    (h3 : (s2.bump Reg.SIG_MISMATCH).captureMismatch c tile x.regen comp x.expect = s3) :
    sigCompareAct tile s =
      if x.regen = true then
        (((s3.darkTile c (tile % 32) (tile / 32)).makeRecord c 3 tile 0 0 none).bump Reg.SIG_DARK).raiseCtx Ev.SIG_DARK (tile / 32) c
      else
        (if ((s.ctx c).samp.regenEn && !s.deadlinePassed (tile / 32)) = true then
          (s3.regenerate c tile x.split).raiseCtx Ev.SIG_MISMATCH (tile / 32) c
        else
          (((s3.darkTile c (tile % 32) (tile / 32)).makeRecord c 3 tile 0 0 none).bump Reg.SIG_DARK).raiseCtx Ev.SIG_DARK
            (tile / 32) c).bucketAdd .sig Ev.SIG_BURST (tile / 32) (some c) := by
  have hno : ¬ (comp == x.expect) = true := fun h => he (beq_iff_eq.mp h)
  simp only [sigCompareAct, hc, hx, hst, ne_eq, not_true_eq_false, if_false, hf, hcomp, h1, h2]
  rw [if_neg hno, h3]
  cases x.regen <;> rfl

end

theorem sigCapAct_void {s0 : State} (h0 : s.resStart Reg.SIG_CAP_STAT = s0)
    (h : fld v 0 20 < 32 * (s.ctx (fld v 20 7)).band0 ∨ 32 * (s.ctx (fld v 20 7)).bandEnd ≤ fld v 0 20 ∨
      (s.ctx (fld v 20 7)).st < 2 ∨ 5 < (s.ctx (fld v 20 7)).st) :
    sigCapAct v s =
      ({ s0 with form := { s0.form with tiles := s0.form.tiles.map fun p => (p.1, { p.2 with cap := false }) } } :
        State).capDone (fld v 20 7) true false false false 0 0 := by
  subst h0
  refine if_pos ?_
  obtain h | h | h | h := h <;> simp [h]

theorem sigCapAct_arms {s0 : State} (h0 : s.resStart Reg.SIG_CAP_STAT = s0) (h1 : 32 * (s.ctx (fld v 20 7)).band0 ≤ fld v 0 20)
    (h2 : fld v 0 20 < 32 * (s.ctx (fld v 20 7)).bandEnd) (h3 : 2 ≤ (s.ctx (fld v 20 7)).st) (h4 : (s.ctx (fld v 20 7)).st ≤ 5) :
    sigCapAct v s =
      { s0 with form := { s0.form with
          tiles := s0.form.tiles.map (fun p => (p.1, { p.2 with cap := false })), cap := some (fld v 20 7, fld v 0 20) } } := by
  subst h0
  exact if_neg (by simp [h1, h2, h4, Nat.lt_of_succ_le h3])

end

/-! ### Almanac loads -/

section
variable {s : State} {hits : List SramHit}

theorem almLoadCmdAct_starts {v : Word} (h : wbit v 0 = true) :
    almLoadCmdAct v s =
      { s.resStart Reg.ALM_LOAD_STAT with
        alm := { s.alm with loading := some ((s.reg Reg.ALM_LOAD_LO).toNat + 2 ^ 32 * (s.reg Reg.ALM_LOAD_HI).toNat) } } := by
  rw [almLoadCmdAct, h, Bool.not_true, if_neg Bool.false_ne_true]
  simp only [State.resStart_alm]

theorem almLoadDoneAct_waits (h : s.sram.zeroed = false ∨ s.alm.loading = none) : almLoadDoneAct hits s = s := by
  unfold almLoadDoneAct
  split
  case h_1 hl hz => obtain h | h := h <;> simp_all
  case h_2 => rfl

/-- The end of a load with a code and its detail. -/
def State.almLoadEnds (s : State) (code detail : Nat) : State :=
  ((s.setReg Reg.ALM_LOAD_DETAIL (w32 detail)).resDone Reg.ALM_LOAD_STAT [(20, code)]).raise Ev.ALM_LOAD_DONE code

variable {addr : Nat} (hz : s.sram.zeroed = true) (hl : s.alm.loading = some addr) {s0 : State}
  (h0 : { s with alm := { s.alm with loading := none } } = s0)
include hz hl h0

theorem almLoadDoneAct_far (h : addr % 64 ≠ 0 ∨ 2 ^ 35 < addr + 65536) : almLoadDoneAct hits s = s0.almLoadEnds 1 0 := by
  unfold almLoadDoneAct
  split
  case h_1 a ha _ =>
    obtain rfl := Option.some.inj (ha.symm.trans hl)
    subst h0
    exact if_pos h
  case h_2 hno => exact absurd hz (hno addr hl)

variable (h : ¬ (addr % 64 ≠ 0 ∨ 2 ^ 35 < addr + 65536))
include h

theorem almLoadDoneAct_reads :
    almLoadDoneAct hits s =
      match (s0.dramRead 5 addr 65536).1 with
      | none => (s0.dramRead 5 addr 65536).2.almLoadEnds 3 0
      | some bytes =>
        if (!((s0.dramRead 5 addr 65536).2.sramHits hits).1.isEmpty) = true then
          ((s0.dramRead 5 addr 65536).2.sramHits hits).2.almLoadEnds 3 0
        else
          match (imageStates bytes).find? fun p => p.2 == 3 with
          | some p => ((s0.dramRead 5 addr 65536).2.sramHits hits).2.almLoadEnds 2 p.1
          | none =>
            (({ ((s0.dramRead 5 addr 65536).2.sramHits hits).2.restage with
                alm := { ((s0.dramRead 5 addr 65536).2.sramHits hits).2.restage.alm with staged := imageStates bytes } } :
              State).almLoadEnds 0 0).setReg Reg.ALM_STAGED_TAG
              (w32 ((({ ((s0.dramRead 5 addr 65536).2.sramHits hits).2.restage with
                alm := { ((s0.dramRead 5 addr 65536).2.sramHits hits).2.restage.alm with staged := imageStates bytes } } :
                  State).almLoadEnds 0 0).rf Reg.ALM_LOAD_STAT 0 16)) := by
  unfold almLoadDoneAct
  split
  case h_1 a ha _ =>
    obtain rfl := Option.some.inj (ha.symm.trans hl)
    subst h0
    rw [if_neg h]
    rfl
  case h_2 hno => exact absurd hz (hno addr hl)

end

end Sys2Proof.Machine

namespace Sys2Proof

open Machine

/-- Settles O15: the ranges of the two settings, the engines enabled, and the two probes with their ends. -/
theorem formationSettingsKeepTheirRanges : Obligations.FormationSettingsKeepTheirRanges := by
  unfold Obligations.FormationSettingsKeepTheirRanges
  refine ⟨fun s a hi v ht => ⟨fun h => rowWrite_answers ht (if_pos h), fun h => rowWrite_answers ht (if_neg h)⟩,
    fun s a v ht => ⟨fun h => rowWrite_answers ht (rastCtlAct_stores h), fun h => rowWrite_answers ht (rastCtlAct_range h)⟩,
    fun s a v ht => ⟨fun h => rowWrite_answers ht (corrCtlAct_stores h), fun h => rowWrite_answers ht (corrCtlAct_range h)⟩,
    fun s a v ht => ⟨fun hv ho => ?_, fun h => ?_⟩, fun s a v ht => ⟨fun hv ho => ?_, fun h => ?_⟩, fun s w c hits row hc =>
    ⟨fun hh hl hm hs => checked_answers hh (onPage_answers hl (probeDoneAct_ends hc hm hs rfl)),
      fun hh hl hm hs => checked_answers hh (onPage_answers hl (probeDoneAct_ends hc hm hs rfl))⟩⟩
  · have hok : ((s.ctx (fld v 0 7)).probed && !false) = true := by rw [Ctx.probed, hv]; rfl
    refine rowWrite_answers ht ((rastProbeAct_eq rfl rfl rfl ho).trans ?_)
    rw [if_pos hok, if_pos hok, if_pos hok, Ctx.probed, ho]
  · refine rowWrite_answers ht ((rastProbeAct_eq rfl rfl rfl rfl).trans ?_)
    have hno : ¬ ((s.ctx (fld v 0 7)).probed && !(s.ctx (fld v 0 7)).offStripe
        ⟨sext 32 (s.reg Reg.RAST_PROBE_X).toNat, sext 32 (s.reg Reg.RAST_PROBE_Y).toNat⟩) = true := by
      obtain h | h := h
      · rw [Ctx.probed, h]; nofun
      · rw [Ctx.offStripe, h, Bool.not_true, Bool.and_false]; nofun
    rw [if_neg hno, if_neg hno, if_neg hno, Ctx.probed, Ctx.offStripe]
  · refine rowWrite_answers ht ((corrProbeAct_eq rfl rfl rfl ho).trans ?_)
    have hok : (s.densHeld (fld v 0 7) (s.rf Reg.CORR_PROBE_Y 0 23 / 256) && !false) = true := by rw [hv]; rfl
    rw [if_pos hok, if_pos hok, ho]
  · refine rowWrite_answers ht ((corrProbeAct_eq rfl rfl rfl rfl).trans ?_)
    have hno : ¬ (s.densHeld (fld v 0 7) (s.rf Reg.CORR_PROBE_Y 0 23 / 256) && !decide (8191 < s.rf Reg.CORR_PROBE_X 0 13 ∨
        s.rf Reg.CORR_PROBE_Y 0 23 < 256 * (s.ctx (fld v 0 7)).band0 ∨
        256 * (s.ctx (fld v 0 7)).bandEnd ≤ s.rf Reg.CORR_PROBE_Y 0 23)) = true := by
      obtain h | h := h
      · rw [h]; nofun
      · rw [h, Bool.not_true, Bool.and_false]; nofun
    rw [if_neg hno, if_neg hno]

/-- Settles O16: dose formation takes one attempt, a hand-off writes its codes and reads its list entry. -/
theorem doseFormationHandsTilesOff : Obligations.DoseFormationHandsTilesOff := by
  unfold Obligations.DoseFormationHandsTilesOff
  refine ⟨fun s c hits row hl hc hh => ?_, fun s c tile x hl hc hx => ?_, fun s c tile x => ?_⟩
  · have ans {t : State} (h : doseFormAct hits row.toNat s = t) : exec (.doseFormation hits row) s = .next t.settle :=
      checked_answers hh (onPage_answers hl h)
    exact ⟨fun h => ans (doseFormAct_bad hc h), fun h hw => ans (doseFormAct_waits hc h hw),
      fun tile x h hn ht hx => ans (doseFormAct_takes hc h hn ht hx)⟩
  · refine ⟨fun hs => onPage_answers hl ?_, fun hs => ⟨fun hcap => onPage_answers hl ?_, fun hcap => onPage_answers hl ?_⟩⟩
    all_goals simp only [handoffAct, hc, hx, clampRaised_eq]
    · exact if_pos hs
    · rw [if_neg (by rw [hs]; nofun), if_neg (by rw [hcap]; nofun)]
    · rw [if_neg (by rw [hs]; nofun), if_pos hcap]
  · refine ⟨State.sigEntry_seen, State.sigEntry_read, fun h hu => ⟨fun hk => ?_, fun hk => ?_⟩, State.sigMemDark_free,
      State.sigMemDark_captured⟩
    · exact (State.sigEntry_lost h hu rfl).trans (if_pos hk)
    · exact (State.sigEntry_lost h hu rfl).trans (if_neg hk)

/-- Settles O17: a comparison decides its tile, a capture is armed or void. -/
theorem signaturesDecideTiles : Obligations.SignaturesDecideTiles := by
  unfold Obligations.SignaturesDecideTiles
  refine ⟨fun s c n x hl hc hx hst => ?_, fun s a v ht => ⟨fun h => rowWrite_answers ht (sigCapAct_void rfl h),
    fun h1 h2 h3 h4 => rowWrite_answers ht (sigCapAct_arms rfl h1 h2 h3 h4)⟩,
    fun s a v ht => ⟨fun h => rowWrite_answers ht (sigMisInfoAct_clears h), fun h => rowWrite_answers ht (sigMisInfoAct_keeps h)⟩⟩
  have ans {t : State} (h : sigCompareAct n.toNat s = t) : exec (.sigCompare n) s = .next t.settle := onPage_answers hl h
  refine ⟨fun he => ?_, fun he => ?_⟩
  · have heq := sigCompareAct_equal hc hx hst rfl rfl rfl rfl he
    exact ⟨fun hr => ans (heq.trans (if_neg (by rw [hr]; nofun))), fun hr => ans (heq.trans (if_pos hr))⟩
  · have hdiff := sigCompareAct_differs hc hx hst rfl rfl rfl rfl he rfl
    refine ⟨fun hr => ans (hdiff.trans (if_pos hr)), fun hr hg hd => ans (hdiff.trans ?_), fun hr hg => ans (hdiff.trans ?_)⟩
    · rw [hr, if_neg Bool.false_ne_true, if_pos (by rw [hg, hd]; rfl)]
    · rw [hr, if_neg Bool.false_ne_true, if_neg (by obtain hg | hg := hg <;> simp [hg])]

/-- Settles O18: the four codes of a load in their order. -/
theorem almanacLoadsAreChecked : Obligations.AlmanacLoadsAreChecked := by
  unfold Obligations.AlmanacLoadsAreChecked
  refine ⟨fun s a v ht => ⟨fun h => rowWrite_answers ht (if_pos (by rw [h]; rfl)),
    fun h => rowWrite_answers ht (almLoadCmdAct_starts h)⟩,
    fun s hits hh hl h => checked_answers hh (onPage_answers hl (almLoadDoneAct_waits h)), fun s addr hits hh hl hz ha => ?_⟩
  have ans {t : State} (h : almLoadDoneAct hits s = t) : exec (.almLoadDone hits) s = .next t.settle :=
    checked_answers hh (onPage_answers hl h)
  refine ⟨fun h => ans (almLoadDoneAct_far hz ha rfl h), fun h1 h2 => ?_⟩
  have hread := almLoadDoneAct_reads (hits := hits) hz ha rfl (by omega)
  refine ⟨fun hr => ans ?_, fun bytes hr => ⟨fun hh => ans ?_, fun hh => ⟨fun p hp => ans ?_, fun hp => ans ?_⟩⟩⟩
  · rw [hread, hr] <;> rfl
  all_goals rw [hread]; simp only [hr]
  · exact if_pos (by simpa [List.isEmpty_iff] using hh)
  all_goals rw [if_neg (by rw [hh]; nofun)]; simp only [hp] <;> rfl

end Sys2Proof
end

section
/-!
PROOFS. Transits, markers and the status of transits (R193 to R211, R234 to R240), and what a restart of the command path sends.
-/

namespace Sys2Proof.Machine

/-! ### TRANSIT_FIRE -/

section
variable {s : State} {e : Expo} {hits : List TabHit} (he : s.travelCheck.expo = some e)
include he

theorem transitFireAct_waits
    (h : s.leftTravel = true ∨ e.firedNow = true ∨ e.armed = false ∨ s.travelCheck.loop.locked = false ∨
      s.travelCheck.loop.v ≤ 0 ∨ (s.travelCheck.ctx e.ctx).lastTransit < e.next ∨ s.travelCheck.nearEnough e e.next = false) :
    transitFireAct hits s = s.travelCheck := by
  simp only [transitFireAct, he]
  refine if_pos ?_
  obtain h | h | h | h | h | h | h := h <;> simp [h]

omit he in
/-- Nothing holds back a transit that is due. -/
theorem transitFireAct_due (h1 : s.leftTravel = false) (h2 : e.firedNow = false) (h3 : e.armed = true)
    (h4 : s.travelCheck.loop.locked = true) (h5 : 0 < s.travelCheck.loop.v)
    (h6 : e.next ≤ (s.travelCheck.ctx e.ctx).lastTransit) (h7 : s.travelCheck.nearEnough e e.next = true) :
    (s.leftTravel || e.firedNow || !e.armed || !s.travelCheck.loop.locked || !decide (0 < s.travelCheck.loop.v) ||
      (s.travelCheck.ctx e.ctx).lastTransit < e.next || !s.travelCheck.nearEnough e e.next) = false := by
  simp [h1, h2, h3, h4, h5, h6, h7]

end

/-! ### MARKER_SEND -/

section
variable {s : State} {m : Marker} {rest : List Marker} {frames : List FrameHit} (hm : s.markers = m :: rest)
include hm

theorem markerSendAct_idle (hi : s.lanesIdle = true) :
    markerSendAct frames s = ({ s with markers := rest, bln := { s.bln with unread := 0 } } : State).lanePower := by
  simp only [markerSendAct, hm]
  exact if_pos hi

end

/-- What leaves with a marker: the marker itself, the transit that awaits its status, and the next frame. -/
def State.markerLeaves (t s : State) (m : Marker) (frames : List FrameHit) (dark : Bool) (lanes lost : Nat) : State :=
  let h := (t.sendMarker m.start (markerByte m.n m.f m.served dark)).frameHits frames
  ((({ h.2 with awaits := h.2.awaits ++ [⟨m.n, m.ctx, lanes, lost, s.maker m.ctx, []⟩] } : State).nextFrame m h.1).decideReady)

theorem markerSendAct_sends {s : State} {m : Marker} {rest : List Marker} {frames : List FrameHit} (hm : s.markers = m :: rest)
    (hi : s.lanesIdle = false) {pin : Bool × State} (hpin : s.darkPin = pin) {s1 : State} (h1 : { pin.2 with markers := rest } = s1)
    {dark : Bool} (hd : (m.abort || s1.clk.hold || pin.1 || !m.served || s1.testUnsafe) = dark) :
    markerSendAct frames s =
      if dark = true then (s1.markRun m pin.1).markerLeaves s m frames dark 0 0
      else ((m.bits.foldl (fun (a : State) b => a.firesBit m.n b) (s1.markRun m pin.1)).bump Reg.BLN_FRAMES).markerLeaves s m frames
        dark (s.frameOnes m.bits) s.bln.unread := by
  subst hpin h1
  unfold markerSendAct
  split
  case h_1 hno => exact absurd (hno.symm.trans hm) nofun
  case h_2 m' rest' hm' =>
    obtain ⟨rfl, rfl⟩ := List.cons.inj (hm'.symm.trans hm)
    rw [if_neg (by rw [hi]; nofun)]
    simp only [hd]
    cases dark <;> rfl

/-- What a lane sends is encoded on with the disparity of that lane. -/
theorem State.sendLine_eq {s : State} (hi : s.lanesIdle = false) (ht : jtagDrives s.tap = false) (p : Nat) (start : Option Int)
    (groups : List Group) :
    s.sendLine p start groups =
      { s with
        bln := { s.bln with rd := sput false s.bln.rd p (encodeGroups (sget false s.bln.rd p) groups).2 },
        out := .line p start groups (encodeGroups (sget false s.bln.rd p) groups).1 :: s.out } := by
  rw [State.sendLine, if_neg (by rw [hi]; nofun)]
  exact if_neg (by rw [show _ = s.tap from rfl, ht]; nofun)

/-- A fill of a length has that many code groups. -/
theorem length_fillGroups (n : Nat) : (fillGroups n).length = n := by
  rw [fillGroups, List.length_append, List.length_flatMap]
  simp only [List.length_cons, List.length_nil, List.map_const', List.length_range, List.sum_replicate, smul_eq_mul]
  split <;> simp only [List.length_cons, List.length_nil] <;> omega

theorem State.darkPin_settled {s : State} (h : s.pins.darkWait = 0) : s.darkPin = (!s.pins.darkN, s) :=
  if_neg (not_not.mpr h)

theorem State.darkPin_edge {s : State} (h : s.pins.darkWait ≠ 0) :
    s.darkPin = (Config.freeBit s.draws, { s with draws := s.draws + 1 }) := if_pos h

theorem State.pins_controlCycle (s : State) : s.controlCycle.pins = { s.pins with darkWait := s.pins.darkWait - 1 } := by
  rw [State.controlCycle]
  split <;> rfl

/-! ### Status records -/

/-- The transit with what a record on an auxiliary lane reports kept. -/
def Await.reported (w : Await) (i : Nat) (body : List Byte) : Await := { w with got := sins i (bodyNat body 8 12 % 2 ^ 86) w.got }

/-- One transit that awaits its status replaced. -/
def State.keepsStatus (s : State) (w w1 : Await) : State := { s with awaits := lupd (fun x => decide (x = w)) (fun _ => w1) s.awaits }

section
variable {s : State} {i : Nat} {body : List Byte} {crc : Word}

theorem statusRecordAct_off (h : wbit (s.reg Reg.BLN_AUX) i = false) : statusRecordAct i body crc s = s :=
  if_pos (by rw [h]; rfl)

section
variable (h : wbit (s.reg Reg.BLN_AUX) i = true)
include h

theorem statusRecordAct_corrupted (hc : s.auxCorrupts i = true) :
    statusRecordAct i body crc s = s.useCorruption.bump Reg.BLN_AUX_ERR := by
  rw [statusRecordAct, h, Bool.not_true, if_neg Bool.false_ne_true, if_pos hc]

variable (hc : s.auxCorrupts i = false)
include hc

theorem statusRecordAct_bad (hg : (body.length == 20 && crc32 body == crc.toNat && bodyNat body 0 1 == 2) = false) :
    statusRecordAct i body crc s = s.bump Reg.BLN_AUX_ERR := by
  have hbad : (body.length ≠ 20 || !crcGood body crc || bodyNat body 0 1 != 2) = true := by
    simp only [Bool.and_eq_false_iff, beq_eq_false_iff_ne] at hg
    obtain (hg | hg) | hg := hg <;> simp [hg, crcGood]
  rw [statusRecordAct, h, hc, Bool.not_true, if_neg Bool.false_ne_true, if_neg Bool.false_ne_true, if_pos hbad]

variable (hg : (body.length == 20 && crc32 body == crc.toNat && bodyNat body 0 1 == 2) = true)
  {s2 : State} (h2 : ({ s with bln := { s.bln with down := s.bln.down &&& (15 - 2 ^ i) } } : State).takeAck (bodyNat body 2 2) = s2)
  {s3 : State} (h3 : (if (bodyNat body 1 1).testBit 0 = true then
    s2.blankerRestart.exposing.elim s2.blankerRestart (fun c => s2.blankerRestart.raiseCtx Ev.BLN_BLANKER_RESTART 0 c) else s2) = s3)
  {s4 : State} (h4 : (if (bodyNat body 1 1).testBit 1 = true then s3.raiseExp Ev.BLN_BLANKER_FAULT 0 else s3) = s4)
include hg h2 h3 h4

/-- A good record decides the transit it is of, unless it is IDLE. -/
theorem statusRecordAct_good :
    statusRecordAct i body crc s =
      if (bodyNat body 1 1).testBit 2 = true then s4
      else
        (s4.awaits.find? fun w => w.n == bodyNat body 4 4 && !(w.got.any fun p => p.1 == i)).elim (s4.bump Reg.BLN_AUX_ERR)
          fun w =>
            if ((s4.keepsStatus w (w.reported i body)).auxAwaited.all fun j => (w.reported i body).got.any fun p => p.1 == j) = true then
              (s4.keepsStatus w (w.reported i body)).decideStatus (w.reported i body)
            else s4.keepsStatus w (w.reported i body) := by
  have hgood : ¬ (body.length ≠ 20 || !crcGood body crc || bodyNat body 0 1 != 2) = true := by
    simp only [Bool.and_eq_true, beq_iff_eq] at hg
    simp [hg, crcGood]
  rw [statusRecordAct, h, hc, Bool.not_true, if_neg Bool.false_ne_true, if_neg Bool.false_ne_true, if_neg hgood]
  cases he : s2.blankerRestart.exposing
  all_goals
    simp only [he, Option.elim] at h3
    simp only [h2, he, h3, h4]
    cases (s4.awaits.find? fun w => w.n == bodyNat body 4 4 && !(w.got.any fun p => p.1 == i)) <;> rfl

theorem statusRecordAct_idle (hf : (bodyNat body 1 1).testBit 2 = true) : statusRecordAct i body crc s = s4 := by
  rw [statusRecordAct_good h hc hg h2 h3 h4, if_pos hf]

variable (hf : (bodyNat body 1 1).testBit 2 = false)
include hf

theorem statusRecordAct_unknown
    (hw : (s4.awaits.find? fun w => w.n == bodyNat body 4 4 && !(w.got.any fun p => p.1 == i)) = none) :
    statusRecordAct i body crc s = s4.bump Reg.BLN_AUX_ERR := by
  rw [statusRecordAct_good h hc hg h2 h3 h4, hf, if_neg Bool.false_ne_true, hw, Option.elim_none]

theorem statusRecordAct_awaited {w : Await}
    (hw : (s4.awaits.find? fun w => w.n == bodyNat body 4 4 && !(w.got.any fun p => p.1 == i)) = some w) :
    statusRecordAct i body crc s =
      if ((s4.keepsStatus w (w.reported i body)).auxAwaited.all fun j => (w.reported i body).got.any fun p => p.1 == j) = true then
        (s4.keepsStatus w (w.reported i body)).decideStatus (w.reported i body)
      else s4.keepsStatus w (w.reported i body) := by
  rw [statusRecordAct_good h hc hg h2 h3 h4, hf, if_neg Bool.false_ne_true, hw, Option.elim_some]

end

theorem statusTimeoutAct_none {n : Nat} (h : (s.awaits.find? fun w => w.n == n) = none) : statusTimeoutAct n s = s := by
  rw [statusTimeoutAct, h]

theorem statusTimeoutAct_some {n : Nat} {w : Await} (h : (s.awaits.find? fun w => w.n == n) = some w) :
    statusTimeoutAct n s = s.decideStatus w := by
  rw [statusTimeoutAct, h]

theorem auxDownAct_stays (h : wbit (s.reg Reg.BLN_AUX) i = false ∨ s.bln.down.testBit i = true) : auxDownAct i s = s :=
  if_pos (by obtain h | h := h <;> simp [h])

theorem auxDownAct_falls (h : wbit (s.reg Reg.BLN_AUX) i = true) (hd : s.bln.down.testBit i = false) :
    auxDownAct i s =
      (({ s with bln := { s.bln with down := s.bln.down ||| 2 ^ i } } : State).raise Ev.BLN_AUX_DOWN i).decideReady :=
  if_neg (by simp [h, hd])

end

/-! ### What a decided status makes -/

section
variable {s : State} {w : Await}

/-- The records, counts and rejects of a decided status. -/
def State.statusRecords (s : State) (w : Await) (rejects unknown : Nat) : State :=
  let s0 : State := { s with awaits := s.awaits.filter fun x => decide (x ≠ w) }
  let s1 := if rejects = 0 then s0 else s0.recordBy w.maker 9 w.n w.n rejects none
  let s2 := if unknown = 0 then s1 else
    (s1.recordBy w.maker 10 w.n w.n unknown none).addCnt Reg.BLN_STAT_LOST (laneList unknown).length
  (laneList rejects).foldl (fun (a : State) l => a.laneReject l) s2

theorem State.decideStatus_lost (h : w.got.map Prod.snd = []) :
    s.decideStatus w = (s.statusRecords w w.lost (w.lanes &&& allLanes)).raiseExp Ev.BLN_STATUS_LOST w.n := by
  simp only [State.decideStatus, h, List.isEmpty_nil, if_true, Nat.zero_or]
  rfl

theorem State.decideStatus_reported (h : w.got.map Prod.snd ≠ []) {allOnes anyOnes differ : Nat}
    (hall : (w.got.map Prod.snd).foldl (fun a b => a &&& b) allLanes = allOnes)
    (hany : (w.got.map Prod.snd).foldl (fun a b => a ||| b) 0 = anyOnes) (hd : (anyOnes ^^^ allOnes) &&& allLanes = differ) :
    s.decideStatus w =
      if differ = 0 then s.statusRecords w (w.lanes &&& allOnes ||| w.lost) (w.lanes &&& differ)
      else (s.statusRecords w (w.lanes &&& allOnes ||| w.lost) (w.lanes &&& differ)).raiseExp Ev.BLN_STATUS_CONFLICT w.n := by
  have hne : (w.got.map Prod.snd).isEmpty = false := by simpa [List.isEmpty_iff] using h
  simp only [State.decideStatus, hne, Bool.false_eq_true, if_false, hall, hany, hd]
  rfl

end

/-! ### What the command path sends after a restart -/

/-- The operations and arguments of the commands that are not acknowledged. -/
def State.path (s : State) : List (Nat × Nat) := s.bln.cmds.map fun c => (c.op, c.arg)

/-- Only the disparity of the lanes, what leaves and the count of free values differ. -/
def State.Encodes (s t : State) : Prop := ∃ r o d, t = { s with bln := { s.bln with rd := r }, out := o, draws := d }

section
variable {s t u : State}

theorem State.Encodes.rfl : s.Encodes s := ⟨s.bln.rd, s.out, s.draws, Eq.refl _⟩

theorem State.Encodes.trans (h : s.Encodes t) (h' : t.Encodes u) : s.Encodes u := by
  obtain ⟨_, _, _, rfl⟩ := h
  obtain ⟨r, o, d, rfl⟩ := h'
  exact ⟨r, o, d, Eq.refl _⟩

theorem State.leaves_encodes (o : OutMsg) : s.Encodes (s.leaves o) := by
  unfold State.leaves
  split
  · exact .rfl
  · exact ⟨s.bln.rd, _, s.draws, Eq.refl _⟩

theorem State.sendLine_encodes (p : Nat) (start : Option Int) (groups : List Group) : s.Encodes (s.sendLine p start groups) := by
  unfold State.sendLine
  split
  · exact .rfl
  · exact .trans ⟨_, s.out, s.draws, Eq.refl _⟩ (State.leaves_encodes _)

theorem State.sendSkips_encodes (lane : Nat) : s.Encodes (s.sendSkips lane) := by
  unfold State.sendSkips
  split
  · exact .rfl
  · exact .trans (t := { s with draws := s.draws + 1 }) ⟨s.bln.rd, s.out, _, Eq.refl _⟩ (State.leaves_encodes _)

theorem State.sendMsg_encodes (lanes : List Nat) (body : List Byte) : s.Encodes (s.sendMsg lanes body) :=
  foldl_keeps_prop (P := s.Encodes) .rfl fun _ _ ha => (ha.trans (State.sendLine_encodes _ _ _)).trans (State.sendSkips_encodes _)

/-- A command sent joins the unacknowledged ones, and its number is used. -/
theorem State.sendCmd_eq (s : State) (op arg word : Nat) : ∃ r o d,
    s.sendCmd op arg word =
      { s with
        bln := { s.bln with
          cmds := s.bln.cmds ++ [⟨s.bln.nextSeq, op, arg, 1, word⟩], nextSeq := (s.bln.nextSeq + 1) % 65536, rd := r },
        out := o, draws := d } :=
  State.sendMsg_encodes _ _

/-- The state keeps the assignment of lanes and the persistent words of another. -/
def State.SameTables (s a : State) : Prop := a.bln.map = s.bln.map ∧ a.nv = s.nv

theorem State.SameTables.sendCmd (h : s.SameTables t) (op arg word : Nat) : s.SameTables (t.sendCmd op arg word) := by
  obtain ⟨r, o, d, ht⟩ := t.sendCmd_eq op arg word
  rw [ht]
  exact h

theorem State.path_sendCmd (s : State) (op arg word : Nat) : (s.sendCmd op arg word).path = s.path ++ [(op, arg)] := by
  obtain ⟨r, o, d, ht⟩ := s.sendCmd_eq op arg word
  rw [ht, State.path, State.path]
  exact List.map_append

/-- Steps that each send what an element names send, one after another, what a list names. -/
theorem State.path_foldl {α : Type} {f : State → α → State} (sent : α → List (Nat × Nat)) {l : List α}
    (hstep : ∀ a x, s.SameTables a → s.SameTables (f a x) ∧ (f a x).path = a.path ++ sent x) (ht : s.SameTables t) :
    s.SameTables (l.foldl f t) ∧ (l.foldl f t).path = t.path ++ l.flatMap sent := by
  induction l generalizing t with
  | nil => exact ⟨ht, (List.append_nil _).symm⟩
  | cons x l ih =>
    obtain ⟨hx, hpath⟩ := hstep t x ht
    obtain ⟨hl, hrest⟩ := ih hx
    refine ⟨hl, hrest.trans ?_⟩
    rw [hpath, List.append_assoc, List.flatMap_cons]

/-- The REMAPs of the lanes that are not on their own driver. -/
theorem State.path_sendMaps (ht : s.SameTables t) :
    s.SameTables t.sendMaps ∧ t.sendMaps.path = t.path ++
      ((List.range 86).filter fun l => s.mapOf l != l).map fun l => (4, remapArg (s.mapOf l) l) := by
  have hstep : ∀ (a : State) (l : Nat), s.SameTables a →
      s.SameTables (if a.mapOf l = l then a else a.sendCmd 4 (remapArg (a.mapOf l) l) 0) ∧
      (if a.mapOf l = l then a else a.sendCmd 4 (remapArg (a.mapOf l) l) 0).path =
        a.path ++ if s.mapOf l = l then [] else [(4, remapArg (s.mapOf l) l)] := by
    intro a l ha
    have hmap : a.mapOf l = s.mapOf l := congrArg (sget l · l) ha.1
    rw [hmap]
    by_cases h : s.mapOf l = l
    · simp [h, ha]
    · rw [if_neg h, if_neg h]
      exact ⟨ha.sendCmd _ _ _, a.path_sendCmd _ _ _⟩
  obtain ⟨hsame, hpath⟩ := State.path_foldl (l := List.range 86) _ hstep ht
  refine ⟨hsame, hpath.trans (congrArg (t.path ++ ·) ?_)⟩
  rw [← List.filterMap_eq_map, List.filterMap_filter, List.filterMap_eq_flatMap_toList]
  refine List.flatMap_congr fun l _ => ?_
  by_cases h : s.mapOf l = l <;> simp [h]

/-- The kills of the persistent words. -/
theorem State.path_sendKills (ht : s.SameTables t) :
    s.SameTables t.sendKills ∧ t.sendKills.path = t.path ++ (List.range 64).filterMap fun i => (s.killBeam i).map fun b => (2, b) := by
  have hstep : ∀ (a : State) (i : Nat), s.SameTables a →
      s.SameTables (match a.killBeam i with
        | some b => a.sendCmd 2 b i
        | none => a) ∧
      (match a.killBeam i with
        | some b => a.sendCmd 2 b i
        | none => a).path = a.path ++ ((s.killBeam i).map fun b => (2, b)).toList := by
    intro a i ha
    have hkill : a.killBeam i = s.killBeam i := by
      rw [State.killBeam, State.killBeam, State.nvw, State.nvw, ha.2]
    simp only [hkill]
    cases s.killBeam i with
    | none => exact ⟨ha, (List.append_nil _).symm⟩
    | some b => exact ⟨ha.sendCmd _ _ _, a.path_sendCmd _ _ _⟩
  obtain ⟨hsame, hpath⟩ := State.path_foldl (l := List.range 64) _ hstep ht
  exact ⟨hsame, hpath.trans (congrArg (t.path ++ ·) (List.filterMap_eq_flatMap_toList ..).symm)⟩

/-- A restart sends SYNC, the REMAPs, the kills and what else waited. -/
theorem State.path_blankerRestart (s : State) :
    s.blankerRestart.path =
      (1, 0) :: (((List.range 86).filter fun l => s.mapOf l != l).map fun l => (4, remapArg (s.mapOf l) l)) ++
        ((List.range 64).filterMap fun i => (s.killBeam i).map fun b => (2, b)) ++
        ((s.bln.cmds.filter fun c => c.op == 5 || (c.op == 4 && (s.bln.fo.bind Failover.seq) == some c.seq)).map
          fun c => (c.op, c.arg)) := by
  have hstart : s.SameTables
      { s with bln := { s.bln with cmds := [], unsent := s.bln.unsent.filter fun c => c.1 != 2 } } := ⟨rfl, rfl⟩
  obtain ⟨hmaps, hmapsPath⟩ := State.path_sendMaps (hstart.sendCmd 1 0 0)
  obtain ⟨hkills, hkillsPath⟩ := State.path_sendKills hmaps
  have hwaited := State.path_foldl (s := s) (fun c : BCmd => [(c.op, c.arg)])
    (l := s.bln.cmds.filter fun c => c.op == 5 || (c.op == 4 && (s.bln.fo.bind Failover.seq) == some c.seq))
    (f := fun (a : State) c =>
      let a1 := a.sendCmd c.op c.arg c.word
      if c.op = 4 then
        { a1 with bln := { a1.bln with fo := a1.bln.fo.map fun f => { f with seq := some a.bln.nextSeq } } }
      else if s.bln.calSeq = some c.seq then { a1 with bln := { a1.bln with calSeq := some a.bln.nextSeq } }
      else a1)
    (fun a c ha => by
      have hsent := ha.sendCmd c.op c.arg c.word
      have hpath := a.path_sendCmd c.op c.arg c.word
      dsimp only
      split
      · exact ⟨hsent, hpath⟩
      · split <;> exact ⟨hsent, hpath⟩) hkills
  refine hwaited.2.trans ?_
  rw [hkillsPath, hmapsPath, State.path_sendCmd, ← List.map_eq_flatMap]
  rfl

end

end Sys2Proof.Machine

namespace Sys2Proof

open Machine

/-- Settles O19: a transit fires exactly when it is due, in the steps of R236 to R240. -/
theorem transitsFireAtTheirBoundary : Obligations.TransitsFireAtTheirBoundary := by
  unfold Obligations.TransitsFireAtTheirBoundary
  intro s0 e hits hh hl he
  refine ⟨fun h => checked_answers hh (onPage_answers hl (transitFireAct_waits he h)), fun h1 h2 h3 h4 h5 h6 h7 => ?_⟩
  refine checked_answers hh (onPage_answers hl ?_)
  have hgo := transitFireAct_due h1 h2 h3 h4 h5 h6 h7
  simp only [transitFireAct, he]
  exact if_neg (by rw [hgo]; nofun)

/-- Settles O20: the marker that leaves, its lanes, and DARK_N. -/
theorem markersLeaveInOrder : Obligations.MarkersLeaveInOrder := by
  unfold Obligations.MarkersLeaveInOrder
  refine ⟨fun s m rest frames hh hl hm => ⟨fun hi => ?_, fun hi => ⟨fun hd => ?_, fun hd => ?_⟩⟩, State.sendMarker.eq_1,
    fun s p start groups ht hi => ?_, length_fillGroups, fun s => ⟨State.darkPin_settled, State.darkPin_edge, s.pins_controlCycle⟩⟩
  · exact checked_answers hh (onPage_answers hl (markerSendAct_idle hm hi))
  · exact checked_answers hh (onPage_answers hl ((markerSendAct_sends hm hi rfl rfl rfl).trans (if_pos hd)))
  · exact checked_answers hh (onPage_answers hl ((markerSendAct_sends hm hi rfl rfl rfl).trans (if_neg (ne_true_of_eq_false hd))))
  · rw [State.sendLine_eq hi ht]
    exact ⟨rfl, sget_sput_same⟩

/-- Settles O21: a record by its body and flags, the transit it decides, and what a decided status makes. -/
theorem statusRecordsAreTakenAndDecided : Obligations.StatusRecordsAreTakenAndDecided := by
  unfold Obligations.StatusRecordsAreTakenAndDecided
  refine ⟨fun s i body crc hl => ?_, fun s n hl => ⟨fun h => onPage_answers hl (statusTimeoutAct_none h),
      fun w h => onPage_answers hl (statusTimeoutAct_some h)⟩,
    fun s i hl => ⟨fun h => onPage_answers hl (auxDownAct_stays h), fun h hd => onPage_answers hl (auxDownAct_falls h hd)⟩,
    fun s w => ⟨State.decideStatus_lost, fun h hd => ?_, fun h hd => ?_⟩, State.path_blankerRestart⟩
  · have ans {t : State} (h : statusRecordAct i.toNat body crc s = t) : exec (.statusRecord i body crc) s = .next t.settle :=
      checked_answers rfl (onPage_answers hl h)
    refine ⟨fun h => ans (statusRecordAct_off h), fun h hc => ans (statusRecordAct_corrupted h hc),
      fun h hc hg => ans (statusRecordAct_bad h hc hg), fun h hc hg => ?_⟩
    refine ⟨fun hf => ans (statusRecordAct_idle h hc hg rfl rfl rfl hf),
      fun hf hw => ans (statusRecordAct_unknown h hc hg rfl rfl rfl hf hw), fun w hf hw => ?_⟩
    have hkeeps := statusRecordAct_awaited h hc hg rfl rfl rfl hf hw
    exact ⟨fun hall => ans (hkeeps.trans (if_pos hall)), fun hall => ans (hkeeps.trans (if_neg (ne_true_of_eq_false hall)))⟩
  · exact (State.decideStatus_reported h rfl rfl rfl).trans (if_pos hd)
  · exact (State.decideStatus_reported h rfl rfl rfl).trans (if_neg hd)

end Sys2Proof
end

section
/-!
PROOFS. The command path, calibration, lane tests and the settings of the lanes (R180, R205, R213 to R223).
-/

namespace Sys2Proof.Machine

/-! ### The command path -/

section
variable {s : State}

theorem State.sendCmd_sends (op arg word : Nat) :
    s.sendCmd op arg word =
      ({ s with
        bln := { s.bln with
          cmds := s.bln.cmds ++ [⟨s.bln.nextSeq, op, arg, 1, word⟩],
          nextSeq := (s.bln.nextSeq + 1) % 65536 } } : State).sendMsg
        ((List.range 4).filter fun i => wbit (s.reg Reg.BLN_AUX) i) (cmdBody s.bln.nextSeq op arg) := by
  simp only [State.sendCmd, State.putCmd, State.auxEnabled, State.reg]

/-- The bytes of a command, little-endian. -/
theorem cmdBody_spec {seq op arg : Nat} (hseq : seq < 65536) (harg : arg < 2 ^ 32) (hop : op < 256) :
    (cmdBody seq op arg).length = 12 ∧ bodyNat (cmdBody seq op arg) 0 1 = 1 ∧ bodyNat (cmdBody seq op arg) 1 1 = op ∧
    bodyNat (cmdBody seq op arg) 2 2 = seq ∧ bodyNat (cmdBody seq op arg) 4 4 = arg ∧
    bodyNat (cmdBody seq op arg) 8 4 = 0 := by
  refine ⟨rfl, rfl, ?_, ?_, ?_, rfl⟩ <;> simp [cmdBody, leBytes, bodyNat, leNat] <;> omega

/-- One more send of a command that is not acknowledged. -/
def State.resent (s : State) (c : BCmd) : State :=
  ({ s with
    bln := { s.bln with
      cmds := lupd (fun x => x.seq == c.seq) (fun x => { x with sends := x.sends + 1 }) s.bln.cmds } } : State).putCmd
    c.seq c.op c.arg

theorem resendAct_eq :
    resendAct s =
      s.bln.cmds.foldl
        (fun (a : State) c =>
          if c.sends = 10 then
            (if c.op = 2 ∨ c.op = 3 then (a.raise Ev.ALM_KILL_UNACKED c.word).resent c else (a.remapFails c.seq).resent c)
          else a.resent c) s := by
  unfold resendAct
  congr 1
  funext a c
  by_cases hs : c.sends = 10
  · rw [if_neg (not_not.mpr hs), if_pos hs]
    split <;> rfl
  · rw [if_pos hs, if_neg hs]
    rfl

theorem resendAct_nil (h : s.bln.cmds = []) : resendAct s = s := by
  rw [resendAct, h, List.foldl_nil]

theorem State.remapFails_first {seq : Nat} {f : Failover} (h : s.bln.fo = some f) (hq : f.seq = some seq) (hf : f.failed = false) :
    s.remapFails seq = ({ s with bln := { s.bln with fo := some { f with failed := true } } } : State).raise Ev.BLN_REMAP_FAIL f.lane := by
  simp only [State.remapFails, h, hq, hf, decide_true, Bool.not_false, Bool.and_self, if_true]

theorem State.remapFails_again {seq : Nat} {f : Failover} (h : s.bln.fo = some f) (hf : f.seq ≠ some seq ∨ f.failed = true) :
    s.remapFails seq = s := by
  simp only [State.remapFails, h]
  refine if_neg ?_
  obtain hf | hf := hf <;> simp [hf]

theorem State.remapFails_none {seq : Nat} (h : s.bln.fo = none) : s.remapFails seq = s := by
  simp only [State.remapFails, h]

section
variable {l : Nat} {target : Option Nat}

theorem State.triggerFailover_dropped (h : ((s.bln.fo.map Failover.lane) == some l || s.bln.foWait.any fun p => p.1 == l) = true) :
    s.triggerFailover l target = s := if_pos h

variable (h : ((s.bln.fo.map Failover.lane) == some l || s.bln.foWait.any fun p => p.1 == l) = false)
include h

theorem State.triggerFailover_begins (hf : s.bln.fo = none) : s.triggerFailover l target = s.beginFailover l target := by
  rw [State.triggerFailover, if_neg (ne_true_of_eq_false h), hf]

theorem State.triggerFailover_waits (hf : s.bln.fo ≠ none) :
    s.triggerFailover l target = { s with bln := { s.bln with foWait := sins l target s.bln.foWait } } := by
  obtain ⟨f, hf⟩ := Option.ne_none_iff_exists'.mp hf
  rw [State.triggerFailover, if_neg (ne_true_of_eq_false h), hf]

end

theorem laneWakeAct_idle {p : Nat} (h : (s.plane p).pwr ≠ 3) : laneWakeAct p s = s := if_pos h

theorem laneWakeAct_wakes {p : Nat} (h : (s.plane p).pwr = 3) {u : State}
    (hu : (s.setPlane p { s.plane p with pwr := 1 }).lanePower.sendRemap = u) :
    laneWakeAct p s = (if u.underTest p then u.startTest else u).calSend := by
  subst hu
  exact if_neg (not_not.mpr h)

end

/-! ### Calibration -/

section
variable {s : State}

theorem calCmdAct_nothing {v : Word} (h : wbit v 0 = false) : calCmdAct v s = s := if_pos (by rw [h]; rfl)

section
variable {v : Word} (h : wbit v 0 = true)
include h

theorem calCmdAct_running (hc : s.bln.cal = true) : calCmdAct v s = s.raise Ev.BLN_IGNORED (offDetail Reg.BLN_CAL_CMD) := by
  rw [calCmdAct, h, Bool.not_true, if_neg Bool.false_ne_true, if_pos hc]

variable (hc : s.bln.cal = false) {s1 : State} (h1 : (s.resStart Reg.BLN_CAL_STAT).setStale true = s1)
include hc h1

theorem calCmdAct_blocked (hb : (s.expo.isSome || s.bln.fo.isSome || s.rf Reg.BLN_TEST_CTL 0 2 ≠ 0) = true) :
    calCmdAct v s = s1.calDone 2 := by
  rw [calCmdAct, h, hc, Bool.not_true, if_neg Bool.false_ne_true, if_neg Bool.false_ne_true]
  exact (if_pos hb).trans (congrArg (State.calDone · 2) h1)

theorem calCmdAct_starts (hb : (s.expo.isSome || s.bln.fo.isSome || s.rf Reg.BLN_TEST_CTL 0 2 ≠ 0) = false) :
    calCmdAct v s =
      ({ s1 with
        bln := { s1.bln with cal := true, calTodo := s.calLanes ++ s.calLanes, calSeq := none },
        gen := { s1.gen with stale := true, dfHeld := true } } : State).lanePower.calSend := by
  subst h1
  rw [calCmdAct, h, hc, Bool.not_true, if_neg Bool.false_ne_true, if_neg Bool.false_ne_true]
  exact if_neg (ne_true_of_eq_false hb)

end

theorem State.calSend_none (h : s.bln.calTodo = []) : s.calSend = s := by
  have heta : ({ s with bln := { s.bln with calTodo := [] } } : State) = s := by rw [← h]
  rw [State.calSend, h, List.dropWhile_nil]
  exact heta

section
variable {p : Nat} {rest : List Nat} (h : s.bln.calTodo = p :: rest)
include h

theorem State.calSend_failed (hf : (s.plane p).failed = true) :
    s.calSend = ({ s with bln := { s.bln with calTodo := rest } } : State).calSend := by
  rw [State.calSend, State.calSend, h, List.dropWhile_cons_of_pos (p := fun p => (s.plane p).failed) hf]
  rfl

section
variable (hf : (s.plane p).failed = false)
include hf

/-- The first lane of those still to measure decides. -/
theorem State.calSend_first :
    s.calSend = if (s.bln.calSeq.isSome || 2 ≤ (s.plane p).pwr) = true then s
      else ({ s with bln := { s.bln with calSeq := some s.bln.nextSeq } } : State).sendCmd 5 (2 ^ 31 + p) 0 := by
  have heta : ({ s with bln := { s.bln with calTodo := p :: rest } } : State) = s := by rw [← h]
  rw [State.calSend, h, List.dropWhile_cons_of_neg (p := fun p => (s.plane p).failed) (ne_true_of_eq_false hf)]
  dsimp only
  rw [heta, ← h]

theorem State.calSend_waits (hw : s.bln.calSeq ≠ none ∨ 2 ≤ (s.plane p).pwr) : s.calSend = s := by
  rw [State.calSend_first h hf, if_pos]
  obtain hw | hw := hw
  · rw [Option.isSome_iff_ne_none.mpr hw, Bool.true_or]
  · rw [decide_eq_true hw, Bool.or_true]

theorem State.calSend_sends (hq : s.bln.calSeq = none) (hp : (s.plane p).pwr < 2) :
    s.calSend = ({ s with bln := { s.bln with calSeq := some s.bln.nextSeq } } : State).sendCmd 5 (2 ^ 31 + p) 0 := by
  rw [State.calSend_first h hf, if_neg]
  rw [hq, decide_eq_false (Nat.not_le.mpr hp)]
  nofun

end

theorem State.calLooped_next {s1 : State}
    (h1 : (((s.laneOut (.stream p (.coms 64))).sendStream p 1).sendSkips p).sendCmd 5 p 0 = s1) :
    s.calLooped = ({ s1 with bln := { s1.bln with calTodo := rest, calSeq := none } } : State).calSend := by
  simp only [State.calLooped, h, h1]

end

/-- The acknowledgement of the far-end loop of a calibration. -/
theorem State.takeAck_calibration {ack q : Nat} (hq : s.bln.calSeq = some q) (ha : ackReaches ack q = true) (hf : s.bln.fo = none)
    (hk : ∀ x ∈ s.bln.cmds, x.op ≠ 2) :
    s.takeAck ack =
      State.calLooped { s with bln := { s.bln with cmds := s.bln.cmds.filter fun x => !ackReaches ack x.seq, ack := ack } } := by
  have hkill : ((s.bln.cmds.filter fun c => ackReaches ack c.seq).any fun c => c.op == 2) = false := by
    rw [List.any_eq_false]
    exact fun c hc => by simpa using hk c (List.mem_of_mem_filter hc)
  have hmap : ((s.bln.cmds.filter fun c => ackReaches ack c.seq).any
      fun c => c.op == 4 && (s.bln.fo.bind Failover.seq) == some c.seq) = false := by
    rw [List.any_eq_false, hf]
    simp
  have hcal : (s.bln.calSeq.any fun q => ackReaches ack q) = true := by rw [hq]; exact ha
  simp only [State.takeAck, hkill, hmap, hcal, Bool.false_and, Bool.false_eq_true, if_false, if_true]

section
variable {ok : Bool} {arr resid eye : List Nat}

theorem calEndAct_idle (h : s.bln.cal = false) : calEndAct ok arr resid eye s = s := if_pos (by rw [h]; rfl)

variable (h : s.bln.cal = true)
include h

theorem calEndAct_fails : calEndAct false arr resid eye s = s.calDone 4 := by
  rw [calEndAct, h]
  rfl

theorem calEndAct_unfinished (ht : s.bln.calTodo ≠ []) : calEndAct true arr resid eye s = s := by
  have hne : (!s.bln.calTodo.isEmpty) = true := by simpa [List.isEmpty_iff] using ht
  simp only [calEndAct, h, hne, Bool.not_true, Bool.false_eq_true, if_false, if_true]

theorem calEndAct_measured (ht : s.bln.calTodo = []) {t worst narrow : Nat}
    (hmax : (s.calLanes.map fun p => arr.getD p 0).foldl max 0 = t)
    (hworst : (leastBy (fun p => 1023 - resid.getD p 0) s.calLanes).getD 0 = worst)
    (hnarrow : (leastBy (fun p => eye.getD p 0) s.calLanes).getD 0 = narrow) :
    calEndAct true arr resid eye s =
      (((s.calLanes.foldl
        (fun (a : State) p =>
          a.setPlane p
            { a.plane p with
              tap := min 1023 (t - arr.getD p 0), range := 1023 < t - arr.getD p 0, resid := resid.getD p 0,
              eye := eye.getD p 0 }) s).setReg Reg.BLN_CAL_RESID (pack [(16, worst), (0, resid.getD worst 0)])).setReg
        Reg.BLN_CAL_EYE (pack [(16, narrow), (0, eye.getD narrow 0)])).calDone
        (if s.calLanes.any fun p => 1023 < t - arr.getD p 0 then 1 else 0) := by
  subst hmax hworst hnarrow
  rw [calEndAct, h, ht]
  rfl

end

/-- Taking the power states neither starts nor ends a calibration. -/
theorem State.cal_lanePower : s.lanePower.bln.cal = s.bln.cal := by
  have hleaves (u : State) (o : OutMsg) : (u.leaves o).bln.cal = u.bln.cal := by
    unfold State.leaves
    split <;> rfl
  have hskips (u : State) (p : Nat) : (u.sendSkips p).bln.cal = u.bln.cal := by
    unfold State.sendSkips
    split
    · rfl
    · exact hleaves _ _
  have hout (u : State) (o : OutMsg) : (u.laneOut o).bln.cal = u.bln.cal := by
    unfold State.laneOut
    split
    · rfl
    · exact hleaves _ _
  unfold State.lanePower
  refine foldl_keeps_prop (P := fun a : State => a.bln.cal = s.bln.cal) ?_ fun a p ha => ?_
  · unfold State.dropLeaving
    split <;> rfl
  · dsimp only
    split
    · exact ha
    · have hset : (a.setPlane p { a.plane p with pwr := a.nextPwr p }).bln.cal = s.bln.cal := ha
      split
      · rw [hskips, hout, hset]
      · split
        · rw [hskips, hset]
        · exact hset

theorem State.calDone_spec (code : Nat) :
    (s.calDone code).gen.stale = false ∧ (s.calDone code).gen.dfHeld = s.gen.dfHeld ∧ (s.calDone code).bln.cal = false := by
  refine ⟨?_, ?_, ?_⟩
  · obtain ⟨b, o, d, h⟩ := State.lanePower_lanesOnly (s := (({ s with
      bln := { s.bln with cal := false, calTodo := [], calSeq := none },
      gen := { s.gen with stale := false } } : State).resDone Reg.BLN_CAL_STAT
        [(30, if code < 2 then 0 else 1), (20, code)]).raise Ev.BLN_CAL_DONE code)
    rw [State.calDone, h]
    simp only [State.raise_gen, State.resDone_gen]
  · obtain ⟨b, o, d, h⟩ := State.lanePower_lanesOnly (s := (({ s with
      bln := { s.bln with cal := false, calTodo := [], calSeq := none },
      gen := { s.gen with stale := false } } : State).resDone Reg.BLN_CAL_STAT
        [(30, if code < 2 then 0 else 1), (20, code)]).raise Ev.BLN_CAL_DONE code)
    rw [State.calDone, h]
    simp only [State.raise_gen, State.resDone_gen]
  · rw [State.calDone, State.cal_lanePower]
    simp only [State.raise_bln, State.resDone_bln]

section
variable {v : Word}

theorem laneTapAct_ignored (h : s.expo ≠ none ∨ 95 < s.rf Reg.BLN_LANE_SEL 0 7) :
    laneTapAct v s = s.raise Ev.BLN_IGNORED (offDetail Reg.BLN_LANE_TAP) := by
  refine if_pos ?_
  obtain h | h := h
  · rw [Option.isSome_iff_ne_none.mpr h, Bool.true_or]
  · rw [decide_eq_true h, Bool.or_true]

theorem laneTapAct_sets (h : s.expo = none) (hp : s.rf Reg.BLN_LANE_SEL 0 7 ≤ 95) :
    laneTapAct v s =
      (s.setPlane (s.rf Reg.BLN_LANE_SEL 0 7) { s.plane (s.rf Reg.BLN_LANE_SEL 0 7) with tap := fld v 0 10 }).setStale true :=
  if_neg (by simp [h, hp])

/-! ### Lane commands, tests and settings -/

theorem laneCmdAct_ignored {op : Nat} (h : 95 < s.rf Reg.BLN_LANE_SEL 0 7 ∨ s.mapped (s.rf Reg.BLN_LANE_SEL 0 7) = true) :
    laneCmdAct op s = s.raise Ev.BLN_IGNORED (offDetail Reg.BLN_LANE_CMD) :=
  if_pos (by obtain h | h := h <;> simp [h])

theorem laneCmdAct_sets {op : Nat} (hop : op = 1 ∨ op = 2) (h : s.rf Reg.BLN_LANE_SEL 0 7 ≤ 95)
    (hm : s.mapped (s.rf Reg.BLN_LANE_SEL 0 7) = false) :
    laneCmdAct op s =
      (s.setPlane (s.rf Reg.BLN_LANE_SEL 0 7) { s.plane (s.rf Reg.BLN_LANE_SEL 0 7) with failed := op == 1 }).lanePower :=
  if_neg (by obtain hop | hop := hop <;> simp [h, hm, hop])

theorem testCtlAct_ignored (h : 95 < fld v 16 7 ∨ 4 < fld v 8 3 ∨
      (fld v 0 2 ≠ 0 ∧ s.mapped (fld v 16 7) = true ∧ s.running = true)) :
    testCtlAct v s = s.raise Ev.BLN_IGNORED (offDetail Reg.BLN_TEST_CTL) :=
  if_pos (by obtain h | h | ⟨h1, h2, h3⟩ := h <;> simp [*])

/-- A test write that is taken, up to the far-end loop of MODE 3. -/
def State.testSet (s : State) (v : Word) : State :=
  let s2 := ((if s.rf Reg.BLN_TEST_CTL 0 2 = 0 then s else s.endTest).writeRw Reg.BLN_TEST_CTL v).setReg Reg.BLN_TEST_ERR 0
  { s2 with bln := { s2.bln with lock := false, inj := wbit v 31 && fld v 0 2 != 0 } }

theorem testCtlAct_sets (h1 : fld v 16 7 ≤ 95) (h2 : fld v 8 3 ≤ 4)
    (h3 : fld v 0 2 = 0 ∨ s.mapped (fld v 16 7) = false ∨ s.running = false) :
    testCtlAct v s =
      (if fld v 0 2 = 3 then (s.testSet v).sendCmd 5 (2 ^ 31 + fld v 16 7) 0 else s.testSet v).lanePower.startTest := by
  have hgo : ¬ (95 < fld v 16 7 || 4 < fld v 8 3 || (fld v 0 2 != 0 && s.mapped (fld v 16 7) && s.running)) = true := by
    obtain h3 | h3 | h3 := h3 <;> simp [h1, h2, h3]
  rw [testCtlAct, if_neg hgo]
  rfl

section
variable {q : Nat} (hq : s.rf Reg.BLN_TEST_CTL 16 7 = q)
include hq

theorem State.startTest_waits (h : s.underTest q = false ∨ 2 ≤ (s.plane q).pwr) : s.startTest = s := by
  subst hq
  refine if_neg ?_
  obtain h | h := h
  · rw [h]; nofun
  · rw [decide_eq_false (by omega), Bool.and_false]; nofun

theorem State.startTest_starts (h : s.underTest q = true) (hp : (s.plane q).pwr < 2) :
    s.startTest = (s.sendStream q (s.rf Reg.BLN_TEST_CTL 8 3)).testInvert := by
  subst hq
  exact if_pos (by rw [h, decide_eq_true (by omega)]; rfl)

end

theorem blnCtlAct_range (h : fld v 16 8 < 2 ∨ 60 < fld v 16 8 ∨ 10 < fld v 8 4) :
    blnCtlAct v s = s.raise Ev.BLN_CFG_RANGE 0 :=
  if_pos (by obtain h | h | h := h <;> simp [h])

theorem blnCtlAct_stores (h1 : 2 ≤ fld v 16 8) (h2 : fld v 16 8 ≤ 60) (h3 : fld v 8 4 ≤ 10) :
    blnCtlAct v s = (s.writeRw Reg.BLN_CTL v).lanePower :=
  if_neg (by simp [h2, h3, Nat.lt_of_succ_le h1])

theorem blnAuxAct_range (h : s.expo ≠ none ∨ fld v 0 4 = 0 ∨ 4 < fld v 8 3) : blnAuxAct v s = s.raise Ev.BLN_CFG_RANGE 0 := by
  refine if_pos ?_
  obtain h | h | h := h
  · rw [Option.isSome_iff_ne_none.mpr h, Bool.true_or, Bool.true_or]
  · simp [h]
  · simp [h]

theorem blnAuxAct_free (h1 : s.expo = none) (h2 : fld v 0 4 ≠ 0) (h3 : fld v 8 3 ≤ 4) :
    (s.expo.isSome || fld v 0 4 = 0 || 4 < fld v 8 3) = false := by
  simp [h1, h2, h3]

end

end

end Sys2Proof.Machine

namespace Sys2Proof

open Machine

/-- Settles O22: the commands of the path, their repetition, and the failovers they begin. -/
theorem blankerCommandsAreSentAndRepeated : Obligations.BlankerCommandsAreSentAndRepeated := by
  unfold Obligations.BlankerCommandsAreSentAndRepeated
  refine ⟨fun s hl => ⟨onPage_answers hl rfl, fun h => onPage_answers hl (resendAct_nil h), onPage_answers hl resendAct_eq⟩,
    fun s seq => ⟨fun f h => State.remapFails_first h, fun f h => State.remapFails_again h, State.remapFails_none⟩,
    fun s => State.sendCmd_sends, fun seq op arg => cmdBody_spec,
    fun s a v ht => ⟨fun h => rowWrite_answers ht (State.triggerFailover_dropped h),
      fun h hf => rowWrite_answers ht (State.triggerFailover_begins h hf),
      fun h hf => rowWrite_answers ht (State.triggerFailover_waits h hf)⟩,
    fun s p hp hl => ⟨fun h => checked_answers (decide_eq_true hp) (onPage_answers hl (laneWakeAct_idle h)),
      fun h => checked_answers (decide_eq_true hp) (onPage_answers hl (laneWakeAct_wakes h rfl))⟩⟩

/-- Settles O23: how a calibration starts, measures, ends, and what a tap write does. -/
theorem calibrationSetsTheTaps : Obligations.CalibrationSetsTheTaps := by
  unfold Obligations.CalibrationSetsTheTaps
  refine ⟨fun s a v ht => ⟨fun h => rowWrite_answers ht (calCmdAct_nothing h), fun h hc => rowWrite_answers ht (calCmdAct_running h hc),
      fun h hc hb => rowWrite_answers ht (calCmdAct_blocked h hc rfl hb),
      fun h hc hb => rowWrite_answers ht (calCmdAct_starts h hc rfl hb)⟩,
    fun s => ⟨State.calSend_none, fun p rest h hf => ⟨State.calSend_waits h hf, State.calSend_sends h hf⟩,
      fun p rest h hf => State.calSend_failed h hf, fun p rest h => State.calLooped_next h rfl⟩,
    fun s ack q => State.takeAck_calibration, fun s ok taps resid eye ht hr he hl => ?_, fun s => State.calDone_spec,
    fun s a v ht => ⟨fun h => rowWrite_answers ht (laneTapAct_ignored h), fun h hp => rowWrite_answers ht (laneTapAct_sets h hp)⟩⟩
  have hwf : Instr.wf (.calDone ok taps resid eye) = true := by simp [Instr.wf, ht, hr, he]
  have ans {t : State} (h : calEndAct ok (taps.map BitVec.toNat) (resid.map BitVec.toNat) (eye.map BitVec.toNat) s = t) :
      exec (.calDone ok taps resid eye) s = .next t.settle := checked_answers hwf (onPage_answers hl h)
  refine ⟨fun h => ans (calEndAct_idle h), fun h hok => ans ?_, fun h hok htodo => ans ?_, fun h hok htodo => ans ?_⟩
  · rw [hok]; exact calEndAct_fails h
  · rw [hok]; exact calEndAct_unfinished h htodo
  · rw [hok]; exact calEndAct_measured h htodo rfl rfl rfl

/-- Settles O24: the lane commands, the tests and the two settings, each by what it refuses. -/
theorem laneCommandsTestsAndSettings : Obligations.LaneCommandsTestsAndSettings := by
  unfold Obligations.LaneCommandsTestsAndSettings
  refine ⟨fun s a ht => ⟨fun h => ⟨rowWrite_answers ht (laneCmdAct_ignored h), rowWrite_answers ht (laneCmdAct_ignored h)⟩,
      fun h hm => ⟨rowWrite_answers ht (laneCmdAct_sets (.inl rfl) h hm), rowWrite_answers ht (laneCmdAct_sets (.inr rfl) h hm)⟩⟩,
    fun s a v ht => ⟨fun h => rowWrite_answers ht (testCtlAct_ignored h), fun h1 h2 h3 => ⟨fun hm => ?_, fun hm => ?_⟩,
      ⟨State.startTest_waits rfl, State.startTest_starts rfl⟩, fun h => rowWrite_answers ht (if_pos h),
      fun h => rowWrite_answers ht (if_neg h)⟩,
    fun s v v' hp hs => ⟨congrArg finish ?_, congrArg finish ?_⟩,
    fun s lock errors hl => ⟨fun h => onPage_answers hl (if_pos h), fun h => onPage_answers hl (if_neg h)⟩,
    fun s a v ht => ⟨fun h1 h2 h3 => rowWrite_answers ht (blnCtlAct_stores h1 h2 h3), fun h => rowWrite_answers ht (blnCtlAct_range h)⟩,
    fun s a v ht => ⟨fun h1 h2 h3 => rowWrite_answers ht (if_neg (ne_true_of_eq_false (blnAuxAct_free h1 h2 h3))),
      fun h => rowWrite_answers ht (blnAuxAct_range h)⟩⟩
  · exact rowWrite_answers ht (by rw [testCtlAct_sets h1 h2 h3, if_neg hm]; rfl)
  · exact rowWrite_answers ht (by rw [testCtlAct_sets h1 h2 h3, if_pos hm]; rfl)
  · rw [writeBoth_pcie hp hs (by decide) (by decide), if_pos (by decide)]
    rfl
  · rw [writeBoth_pcie hp hs (by decide) (by decide), if_pos (by decide)]
    rfl

end Sys2Proof
end

section
/-!
PROOFS. Metrology samples, the tracking loop, arming and the tracking commands (R225 to R246).
-/

namespace Sys2Proof.Machine

/-! ### A sample and what it makes of the loop -/

/-- The numbers from the latest sample of a lane to one with number `seq`. -/
def MetLane.step (m : MetLane) (seq : Nat) : Nat := m.seq.elim 1 fun q => (seq + 65536 - q) % 65536

theorem MetLane.step_eq (m : MetLane) (seq : Nat) :
    m.step seq = match m.seq with
      | some q => (seq + 65536 - q) % 65536
      | none => 1 := by
  rw [MetLane.step]
  cases m.seq <;> rfl

/-- A lane of the loop replaced. -/
def State.putMet (s : State) (second : Bool) (m : MetLane) : State := s.setLoop (s.loop.setLane second m)

/-- The corrected values of a sample. -/
def State.metY (s : State) (body : List Byte) : Option Int :=
  if (sampleFlags body).getLsbD 0 then corrected (wbit (s.reg Reg.TRK_CFG) 1) (sampleY body) else none

def State.metX (s : State) (body : List Byte) : Option Int :=
  if (sampleFlags body).getLsbD 1 then corrected (wbit (s.reg Reg.TRK_CFG) 2) (sampleX body) else none

/-- The missing numbers and the warning of a sample counted. -/
def State.metCounted (s : State) (body : List Byte) (d : Nat) : State :=
  (s.addCnt Reg.TRK_MISSING (d - 1)).addCnt Reg.TRK_WARN (b2n ((sampleFlags body).getLsbD 2))

section
variable {s : State} {second : Bool} {com : Nat} {body : List Byte} {crc : Word}

theorem metSampleAct_off (h : (!wbit (s.reg Reg.TRK_CFG) 0 || (second && s.rf Reg.TRK_CFG 4 2 == 0)) = true) :
    metSampleAct second com body crc s = s := if_pos h

section
variable (h : (!wbit (s.reg Reg.TRK_CFG) 0 || (second && s.rf Reg.TRK_CFG 4 2 == 0)) = false)
include h

theorem metSampleAct_corrupted (hc : s.auxCorrupts (if second then 5 else 4) = true) :
    metSampleAct second com body crc s = s.useCorruption.bump Reg.TRK_LINK_ERR := by
  rw [metSampleAct, h, if_neg Bool.false_ne_true, if_pos hc]

variable (hc : s.auxCorrupts (if second then 5 else 4) = false)
include hc

theorem metSampleAct_bad (hg : (body.length == 16 && crc32 body == crc.toNat) = false) :
    metSampleAct second com body crc s = s.bump Reg.TRK_LINK_ERR := by
  have hbad : (body.length ≠ 16 || !crcGood body crc) = true := by
    simp only [Bool.and_eq_false_iff, beq_eq_false_iff_ne] at hg
    obtain hg | hg := hg <;> simp [hg, crcGood]
  rw [metSampleAct, h, hc, if_neg Bool.false_ne_true, if_neg Bool.false_ne_true, if_pos hbad]

variable (hg : (body.length == 16 && crc32 body == crc.toNat) = true) {m : MetLane} (hm : s.loop.lane second = m)
include hg hm

/-- A good message that follows the reference too closely. -/
theorem metSampleAct_close (hr : (m.ref.any fun r => decide (com < r + 3072)) = true) :
    metSampleAct second com body crc s =
      ((s.putMet second { m with disc := m.disc + 1 }).bump Reg.TRK_LINK_ERR).gapCheck second (m.miss + m.disc + 1) := by
  have hgood : ¬ (body.length ≠ 16 || !crcGood body crc) = true := by
    simp only [Bool.and_eq_true, beq_iff_eq] at hg
    simp [hg, crcGood]
  subst hm
  rw [metSampleAct, h, hc, if_neg Bool.false_ne_true, if_neg Bool.false_ne_true, if_neg hgood]
  exact if_pos hr

variable (hr : (m.ref.any fun r => decide (com < r + 3072)) = false) {d : Nat} (hd : m.step (sampleSeq body) = d)
include hr hd

/-- A good message in time is judged by its number, then by its values. -/
theorem metSampleAct_timely :
    metSampleAct second com body crc s =
      if d = 0 ∨ 32767 < d then (s.putMet second { m with ref := some com }).bump Reg.TRK_LINK_ERR
      else if ((s.metY body).isSome && s.metSelected second && s.rf Reg.TEST_MET_CTL 16 8 ≠ 0) = true then
        (((s.putMet second { m with ref := some com, disc := m.disc + 1 }).setRf Reg.TEST_MET_CTL 16 8
          (s.rf Reg.TEST_MET_CTL 16 8 - 1)).bump Reg.TEST_INJ).gapCheck second (m.miss + m.disc + 1)
      else
        (s.metY body).elim
          ((((s.metCounted body d).putMet second
            { m with ref := some com, seq := some (sampleSeq body), miss := m.miss + (d - 1) + 1, disc := 0 }).addCnt
              Reg.TRK_MISSING 1).gapCheck second (m.miss + (d - 1) + 1))
          fun yv =>
            (((((s.metCounted body d).putMet second
              { m with ref := some com, seq := some (sampleSeq body), miss := 0, disc := 0, last := some (s.tau / 64) }).bump
                Reg.TRK_SAMPLES).gapCheck second (m.miss + (d - 1))).acceptSample second yv (s.metX body)
              ((com / 64 : Nat) -
                ((if second then s.rf Reg.TRK_LAT 16 12 else s.rf Reg.TRK_LAT 0 12 : Nat) : Int))).travelCheck := by
  have hgood : ¬ (body.length ≠ 16 || !crcGood body crc) = true := by
    simp only [Bool.and_eq_true, beq_iff_eq] at hg
    simp [hg, crcGood]
  subst hm
  rw [metSampleAct, h, hc, if_neg Bool.false_ne_true, if_neg Bool.false_ne_true, if_neg hgood]
  refine (if_neg (ne_true_of_eq_false hr)).trans ?_
  subst hd
  rw [MetLane.step, State.metY]
  cases (s.loop.lane second).seq <;>
    cases (if (sampleFlags body).getLsbD 0 then corrected (wbit (s.reg Reg.TRK_CFG) 1) (sampleY body) else none) <;> rfl

theorem metSampleAct_stale (h0 : d = 0 ∨ 32767 < d) :
    metSampleAct second com body crc s = (s.putMet second { m with ref := some com }).bump Reg.TRK_LINK_ERR :=
  (metSampleAct_timely h hc hg hm hr hd).trans (if_pos h0)

variable (h1 : d ≠ 0) (h2 : d ≤ 32767)
include h1 h2

theorem metSampleAct_noY (hy : s.metY body = none) :
    metSampleAct second com body crc s =
      (((s.metCounted body d).putMet second
        { m with ref := some com, seq := some (sampleSeq body), miss := m.miss + (d - 1) + 1, disc := 0 }).addCnt
          Reg.TRK_MISSING 1).gapCheck second (m.miss + (d - 1) + 1) := by
  rw [metSampleAct_timely h hc hg hm hr hd, if_neg (by omega), hy, Option.isSome_none, Bool.false_and, Bool.false_and,
    if_neg Bool.false_ne_true, Option.elim_none]

theorem metSampleAct_dropped (hy : s.metY body ≠ none) (hs : s.metSelected second = true) (hn : s.rf Reg.TEST_MET_CTL 16 8 ≠ 0) :
    metSampleAct second com body crc s =
      (((s.putMet second { m with ref := some com, disc := m.disc + 1 }).setRf Reg.TEST_MET_CTL 16 8
        (s.rf Reg.TEST_MET_CTL 16 8 - 1)).bump Reg.TEST_INJ).gapCheck second (m.miss + m.disc + 1) := by
  rw [metSampleAct_timely h hc hg hm hr hd, if_neg (by omega), if_pos]
  rw [Option.isSome_iff_ne_none.mpr hy, hs, decide_eq_true hn]
  rfl

theorem metSampleAct_accepted {yv : Int} (hy : s.metY body = some yv)
    (hs : s.metSelected second = false ∨ s.rf Reg.TEST_MET_CTL 16 8 = 0) :
    metSampleAct second com body crc s =
      (((((s.metCounted body d).putMet second
        { m with ref := some com, seq := some (sampleSeq body), miss := 0, disc := 0, last := some (s.tau / 64) }).bump
          Reg.TRK_SAMPLES).gapCheck second (m.miss + (d - 1))).acceptSample second yv (s.metX body)
        ((com / 64 : Nat) -
          ((if second then s.rf Reg.TRK_LAT 16 12 else s.rf Reg.TRK_LAT 0 12 : Nat) : Int))).travelCheck := by
  rw [metSampleAct_timely h hc hg hm hr hd, if_neg (by omega), if_neg, hy, Option.elim_some]
  obtain hs | hs := hs
  · rw [hs, Bool.and_false, Bool.false_and]; nofun
  · rw [decide_eq_false (not_not.mpr hs), Bool.and_false]; nofun

end

theorem sampleTimeoutAct_loses (hf : s.loop.feeds second = true) (hu : s.laneUp second = false) :
    sampleTimeoutAct second s = s.loseLock 3 := if_pos (by rw [hf, hu]; rfl)

theorem sampleTimeoutAct_keeps (h : s.loop.feeds second = false ∨ s.laneUp second = true) : sampleTimeoutAct second s = s :=
  if_neg (by obtain h | h := h <;> simp [h])

end

/-! ### The update of the loop (R230) -/

section
variable {l : Loop} {gp gv win ym a tv : Int}

theorem Loop.update_first (h : l.st = 0) :
    l.update gp gv win ym a tv = ({ l with p := ym * 65536, v := 0, y1 := ym, t1 := tv, st := 1 }, false) := by
  rw [Loop.update, h]
  rfl

theorem Loop.update_notLater (h : l.st = 1) (ht : tv ≤ l.t1) :
    l.update gp gv win ym a tv = ({ l with p := ym * 65536, y1 := ym, t1 := tv }, false) := by
  rw [Loop.update, h]
  exact if_pos ht

theorem Loop.update_second (h : l.st = 1) (ht : l.t1 < tv) {v : Int} (hv : ((ym - l.y1) * 2 ^ 32).tdiv (tv - l.t1) = v) :
    l.update gp gv win ym a tv = ({ l with v := v, p := ym * 65536 + v * a / 65536, cnt := 0, st := 2 }, false) := by
  subst hv
  rw [Loop.update, h]
  exact if_neg (Int.not_le.mpr ht)

section
variable (h : l.st = 2) {e : Int} (he : ym * 65536 + l.v * a / 65536 - l.p = e)
include h he

theorem Loop.update_far (hf : win * 2 ^ 18 < (e.natAbs : Int)) :
    l.update gp gv win ym a tv = ({ l with p := l.p + e * gp / 65536, v := l.v + e * gv / 256 }, true) := by
  subst he
  rw [Loop.update, h]
  exact if_pos hf

/-- An error within four times the window moves P and V, and counts by the window itself. -/
theorem Loop.update_near (hf : (e.natAbs : Int) ≤ win * 2 ^ 18) :
    l.update gp gv win ym a tv =
      ({ l with
        p := l.p + e * gp / 65536, v := l.v + e * gv / 256,
        cnt := if (e.natAbs : Int) ≤ win * 65536 then min 64 (l.cnt + 1) else 0 }, false) := by
  subst he
  rw [Loop.update, h]
  exact if_neg (Int.not_lt.mpr hf)

theorem Loop.update_inWindow (hw : (e.natAbs : Int) ≤ win * 65536) (h0 : 0 ≤ win) :
    l.update gp gv win ym a tv =
      ({ l with p := l.p + e * gp / 65536, v := l.v + e * gv / 256, cnt := min 64 (l.cnt + 1) }, false) := by
  rw [Loop.update_near h he (by omega), if_pos hw]

theorem Loop.update_between (hw : win * 65536 < (e.natAbs : Int)) (hf : (e.natAbs : Int) ≤ win * 2 ^ 18) :
    l.update gp gv win ym a tv = ({ l with p := l.p + e * gp / 65536, v := l.v + e * gv / 256, cnt := 0 }, false) := by
  rw [Loop.update_near h he hf, if_neg (Int.not_le.mpr hw)]

end

end

/-! ### An exposure goes on while a line is judged and allocated -/

section
variable {s : State}

theorem State.expo_bucketAdd (b : BucketSel) (ev : EvId) (detail : Nat) (ctx : Option Nat) :
    (s.bucketAdd b ev detail ctx).expo = s.expo := by
  unfold State.bucketAdd
  dsimp only
  split <;> simp only [State.raiseAs_expo, State.setBucket_expo]

theorem State.expo_memLog (dram : Bool) (kind source detail loc : Nat) : (s.memLog dram kind source detail loc).expo = s.expo := rfl

theorem State.expo_sramFound (group row byte : Nat) (r : ByteRead) : (s.sramFound group row byte r).expo = s.expo := by
  cases r with
  | good => rfl
  | corrected p => simp only [State.sramFound, State.expo_bucketAdd, State.expo_memLog, State.bump_expo]
  | bad => simp only [State.sramFound, State.raise_expo, State.expo_memLog, State.bump_expo]

theorem State.expo_sramRead (group row byte : Nat) : (s.sramRead group row byte).2.2.expo = s.expo := by
  unfold State.sramRead
  dsimp only
  split
  · rfl
  · exact State.expo_sramFound _ _ _ _

theorem State.expo_tabHits (hits : List TabHit) : (s.tabHits hits).2.expo = s.expo := by
  induction hits generalizing s with
  | nil => rfl
  | cons h hs ih => exact (ih ..).trans (State.expo_sramRead _ _ _)

theorem State.expo_frameHits (frames : List FrameHit) : (s.frameHits frames).2.expo = s.expo := by
  induction frames generalizing s with
  | nil => rfl
  | cons h hs ih => exact (ih ..).trans (State.expo_sramRead _ _ _)

theorem State.expo_makeRecord (c cause a b lanes : Nat) (src : Option EvId) :
    (s.makeRecord c cause a b lanes src).expo = s.expo := rfl

/-- An exposure is under way in both states or in neither. -/
def State.SameExposing (s t : State) : Prop := t.expo.isSome = s.expo.isSome

theorem State.SameExposing.refl (s : State) : s.SameExposing s := Eq.refl _

theorem State.SameExposing.trans {t u : State} (h : s.SameExposing t) (h' : t.SameExposing u) : s.SameExposing u :=
  Eq.trans h' h

theorem State.SameExposing.of_expo {t : State} (h : t.expo = s.expo) : s.SameExposing t := congrArg Option.isSome h

theorem State.sameExposing_updExpo (f : Expo → Expo) : s.SameExposing (s.updExpo f) := Option.isSome_map ..

theorem State.sameExposing_endLateRun : s.SameExposing s.endLateRun := by
  unfold State.endLateRun
  split
  · split
    · exact State.sameExposing_updExpo _
    · rfl
  · rfl

theorem State.sameExposing_healShortBand (c b : Nat) : s.SameExposing (s.healShortBand c b) := by
  refine State.SameExposing.trans ?_ (State.sameExposing_updExpo _)
  exact foldl_keeps_prop (P := s.SameExposing) rfl fun a x ha =>
    ha.trans (.of_expo ((State.addCnt_expo _ _ _).trans (State.expo_makeRecord ..)))

/-- The end of a judgement, whichever way it goes. -/
theorem State.SameExposing.judged {u : State} (h : s.SameExposing u) {final seen : Prop} [Decidable final] [Decidable seen]
    (f g : Expo → Expo) (ev : EvId) (detail c : Nat) :
    s.SameExposing (if final then u.endLateRun else if seen then (u.bump Reg.PASS_LATE_LINES).updExpo f
      else (((u.bump Reg.PASS_LATE_LINES).updExpo f).updExpo g).raiseCtx ev detail c) := by
  have hline : s.SameExposing ((u.bump Reg.PASS_LATE_LINES).updExpo f) :=
    (h.trans (.of_expo (State.bump_expo u _))) |>.trans (State.sameExposing_updExpo f)
  split
  · exact h.trans u.sameExposing_endLateRun
  · split
    · exact hline
    · exact (hline.trans (State.sameExposing_updExpo g)).trans (.of_expo (State.raiseCtx_expo _ _ _ _))

theorem State.sameExposing_judgeLine (n : Nat) : s.SameExposing (s.judgeLine n) := by
  unfold State.judgeLine
  split
  case h_1 => exact .refl s
  case h_2 e he =>
    dsimp only
    split
    · exact s.sameExposing_endLateRun
    · by_cases hy : ((s.ctx e.ctx).line n 0).toNat % 256 = 0
      · rw [if_pos hy]
        exact (s.sameExposing_endLateRun.trans (State.sameExposing_healShortBand _ _)).judged _ _ _ _ _
      · rw [if_neg hy]
        exact (State.SameExposing.refl s).judged _ _ _ _ _

theorem State.expo_readErrs (failed : List Nat) (slot rho c : Nat) (js : List Nat) :
    (s.readErrs failed slot rho c js).2.2.expo = s.expo := by
  induction js generalizing s with
  | nil => rfl
  | cons j js ih =>
    have hr : (if failed.contains (rowByte slot rho + j) = true then (ByteRead.bad, 0, s)
        else s.sramRead (regionCell (rowByte slot rho + j)).1 (regionCell (rowByte slot rho + j)).2.1
          (regionCell (rowByte slot rho + j)).2.2).2.2.expo = s.expo := by
      split
      · rfl
      · exact State.expo_sramRead _ _ _
    simp only [State.readErrs]
    generalize (if failed.contains (rowByte slot rho + j) = true then (ByteRead.bad, 0, s)
      else s.sramRead (regionCell (rowByte slot rho + j)).1 (regionCell (rowByte slot rho + j)).2.1
        (regionCell (rowByte slot rho + j)).2.2) = r at hr ⊢
    split <;> exact ih.trans hr

theorem expo_allocBeam (c n : Nat) (unknown late : List Nat) (dead : Nat → BitVec 32) (i : Nat) (a : Alloc) :
    (allocBeam c n unknown late dead i a).s.expo = a.s.expo := by
  unfold allocBeam
  dsimp only
  split
  · rfl
  · split
    · exact State.expo_readErrs _ _ _ _ _
    · split
      · exact State.expo_readErrs _ _ _ _ _
      · split
        · exact State.expo_readErrs _ _ _ _ _
        · split <;> exact State.expo_readErrs _ _ _ _ _

theorem State.expo_clearCode (x y : Nat) : (s.clearCode x y).expo = s.expo :=
  foldl_keeps_prop (P := fun a : State => a.expo = s.expo) rfl fun _ _ ha => ha

theorem State.expo_storedFault (c : Nat) (f : Stored) : (s.storedFault c f).expo = s.expo := by
  unfold State.storedFault
  dsimp only
  rw [State.raiseCtx_expo]
  split <;> simp only [State.setReg_expo, State.bump_expo, State.expo_makeRecord, State.expo_clearCode] <;> rfl

theorem State.expo_tabFaults (c : Nat) (bad : List TabHit) : (s.tabFaults c bad).expo = s.expo :=
  foldl_keeps_prop (P := fun a : State => a.expo = s.expo) rfl fun _ _ ha => (State.raiseCtx_expo _ _ _ _).trans ha

theorem State.sameExposing_allocate (n : Nat) (hits : List TabHit) : s.SameExposing (s.allocate n hits) := by
  unfold State.allocate
  dsimp only
  split
  · exact .of_expo (State.expo_tabHits _)
  · refine .trans (.of_expo (State.expo_tabHits hits)) (.trans (t := State.rewrites _ 6) (.trans (t := State.updExpo _ _)
      (.trans ?_ (State.sameExposing_updExpo _)) (.of_expo (State.rewrites_expo _ _))) (.of_expo (State.expo_tabFaults _ _)))
    refine foldl_keeps_prop (P := (s.tabHits hits).2.SameExposing) ?_ fun a f ha => ha.trans (.of_expo (State.expo_storedFault _ _))
    exact foldl_keeps_prop (P := fun a : Alloc => (s.tabHits hits).2.SameExposing a.s) rfl
      fun a i ha => ha.trans (.of_expo (expo_allocBeam _ _ _ _ _ _ _))

end

/-! ### Arming and the tracking commands -/

section
variable {s : State} {e : Expo} {hits : List TabHit} {frames : List FrameHit} (he : s.expo = some e)
include he

theorem stripeArmedAct_waits (h : e.armed = true ∨ s.loop.locked = false ∨ s.lanesAsleep = true ∨ s.roomAhead e = false) :
    stripeArmedAct hits frames s = s := by
  simp only [stripeArmedAct, he]
  refine if_pos ?_
  obtain h | h | h | h := h <;> simp [h]

/-- The stripe that arms is still the one EXPOSING after its first line. -/
theorem expo_armed :
    ∃ e1, (((((s.updExpo fun e => { e with armed := true }).judgeLine 0).allocate 0 hits).frameHits frames).2).expo = some e1 := by
  refine Option.isSome_iff_exists.mp ?_
  rw [State.expo_frameHits]
  have hsame := ((s.sameExposing_updExpo fun e => { e with armed := true }).trans (State.sameExposing_judgeLine 0)).trans
    (State.sameExposing_allocate 0 hits)
  exact Eq.trans hsame (by rw [he]; rfl)

theorem stripeArmedAct_arms (h1 : e.armed = false) (h2 : s.loop.locked = true) (h3 : s.lanesAsleep = false)
    (h4 : s.roomAhead e = true) {h : List Nat × State}
    (hh : (((s.updExpo fun e => { e with armed := true }).judgeLine 0).allocate 0 hits).frameHits frames = h) {e1 : Expo}
    (he1 : h.2.expo = some e1) :
    stripeArmedAct hits frames s =
      h.2.sendFrames e.ctx 0 (some s.nowGroups) (s.clk.hold || h.2.darkDue) h.1 e1.bits := by
  have hgo : (e.armed || !s.loop.locked || s.lanesAsleep || !s.roomAhead e) = false := by simp [h1, h2, h3, h4]
  simp only [stripeArmedAct, he, hgo, Bool.false_eq_true, if_false, hh, he1]

theorem startLateAct_late (h1 : e.armed = false) (h2 : 0 < s.loop.v) (h3 : s.boundary e 0 - s.ahead < s.posMu) :
    startLateAct s = s.raiseCtx Ev.TRK_START_LATE 0 e.ctx := by
  simp only [startLateAct, he]
  exact if_pos (by simp [h1, h2, h3])

theorem startLateAct_keeps (h : e.armed = true ∨ s.loop.v ≤ 0 ∨ s.posMu ≤ s.boundary e 0 - s.ahead) : startLateAct s = s := by
  simp only [startLateAct, he]
  refine if_neg ?_
  obtain h | h | h := h <;> simp [h]

end

section
variable {s : State}

theorem usePrimaryAct_refused (h : s.expo ≠ none) :
    usePrimaryAct s = s.raiseExp Ev.TRK_CFG_REFUSED (offDetail Reg.TRK_CMD) := if_pos (Option.isSome_iff_ne_none.mpr h)

theorem usePrimaryAct_returns (h : s.expo = none) (hs : s.loop.sec = true) :
    usePrimaryAct s = { s with loop := { s.loop with usePrim := true } } := by
  exact (if_neg (by rw [h]; nofun)).trans (if_pos hs)

theorem usePrimaryAct_keeps (h : s.expo = none) (hs : s.loop.sec = false) : usePrimaryAct s = s := by
  rw [usePrimaryAct, h, hs, Option.isSome_none, if_neg Bool.false_ne_true, if_neg Bool.false_ne_true]

/-- The end of a result writes what waits and raises its event. -/
theorem State.resultFinish_some {off : Nat} {w : Waiting} {ev : EvId} {ctx : Option Nat}
    (h : s.results.find? (fun p => p.1 == off) = some (off, w)) {t : State}
    (ht : w.regs.foldl (fun (a : State) q => a.setReg q.1 q.2) s = t) :
    s.resultFinish off ev ctx =
      (({ t with results := sdel off t.results } : State).resDone off w.stat).raiseAs false ev 0 (w.ctx.or ctx) := by
  subst ht
  simp only [State.resultFinish, h]

theorem trkSnapDone_ends {w : Waiting} (hw : w.ctx = none)
    (h : s.results.find? (fun p => p.1 == Reg.TRK_SNAP_STAT) = some (Reg.TRK_SNAP_STAT, w)) :
    s.resultFinish Reg.TRK_SNAP_STAT Ev.TRK_SNAP_DONE s.exposing =
      (({ w.regs.foldl (fun (a : State) q => a.setReg q.1 q.2) s with
        results := sdel Reg.TRK_SNAP_STAT (w.regs.foldl (fun (a : State) q => a.setReg q.1 q.2) s).results } : State).resDone
        Reg.TRK_SNAP_STAT w.stat).raiseAs false Ev.TRK_SNAP_DONE 0 s.exposing := by
  refine (State.resultFinish_some h rfl).trans ?_
  rw [hw, Option.none_or]

/-- The values that a write of a tracking register may not have. -/
def trkRefuses (r : BitVec 2) (v : Word) : Bool :=
  (r == 0 && (fld v 4 2 == 3 || decide (4 < fld v 8 3) || decide (4 < fld v 12 3))) ||
    (r == 3 && (fld v 16 8 == 0 || fld v 24 8 == 0 || fld v 0 16 == 0))

/-- A write of a tracking register by which of the four it is. -/
theorem trkConfigAct_eq (r : BitVec 2) (v : Word) :
    trkConfigAct r.toNat v s =
      if (s.expo.isSome || trkRefuses r v) = true then s.raiseExp Ev.TRK_CFG_REFUSED (offDetail (Reg.TRK_CFG + 4 * r.toNat))
      else if (r == 0 && !(wbit v 0 && wbit (s.reg (Reg.TRK_CFG + 4 * r.toNat)) 0)) = true then
        (s.writeRw (Reg.TRK_CFG + 4 * r.toNat) v).setLoop (s.writeRw (Reg.TRK_CFG + 4 * r.toNat) v).loop.idle
      else s.writeRw (Reg.TRK_CFG + 4 * r.toNat) v := by
  match r with
  | 0 => simp [trkConfigAct, trkRefuses]
  | 1 => simp [trkConfigAct, trkRefuses]
  | 2 => simp [trkConfigAct, trkRefuses]
  | 3 => simp [trkConfigAct, trkRefuses]

theorem trkConfigAct_refused {r : BitVec 2} {v : Word} (h : s.expo ≠ none ∨ trkRefuses r v = true) :
    trkConfigAct r.toNat v s = s.raiseExp Ev.TRK_CFG_REFUSED (offDetail (Reg.TRK_CFG + 4 * r.toNat)) := by
  rw [trkConfigAct_eq, if_pos]
  obtain h | h := h
  · rw [Option.isSome_iff_ne_none.mpr h, Bool.true_or]
  · rw [h, Bool.or_true]

section
variable {r : BitVec 2} {v : Word} (h : s.expo = none) (hb : trkRefuses r v = false)
include h hb

theorem trkConfigAct_stores
    (hr : r ≠ 0 ∨ (wbit v 0 = true ∧ wbit (s.reg (Reg.TRK_CFG + 4 * r.toNat)) 0 = true)) :
    trkConfigAct r.toNat v s = s.writeRw (Reg.TRK_CFG + 4 * r.toNat) v := by
  rw [trkConfigAct_eq, h, hb, Option.isSome_none, Bool.or_self, if_neg Bool.false_ne_true, if_neg]
  obtain hr | ⟨hv, ho⟩ := hr
  · rw [beq_eq_false_iff_ne.mpr hr, Bool.false_and]; nofun
  · rw [hv, ho, Bool.and_self, Bool.not_true, Bool.and_false]; nofun

theorem trkConfigAct_idles (hr : r = 0) (hn : ¬ (wbit v 0 = true ∧ wbit (s.reg (Reg.TRK_CFG + 4 * r.toNat)) 0 = true)) :
    trkConfigAct r.toNat v s = (s.writeRw (Reg.TRK_CFG + 4 * r.toNat) v).setLoop s.loop.idle := by
  have hoff : (wbit v 0 && wbit (s.reg (Reg.TRK_CFG + 4 * r.toNat)) 0) = false := by
    rw [← Bool.not_eq_true, Bool.and_eq_true]; exact hn
  rw [trkConfigAct_eq, h, hb, Option.isSome_none, Bool.or_self, if_neg Bool.false_ne_true, hoff, if_pos (by rw [hr]; rfl),
    State.writeRw_loop]

end

end

end Sys2Proof.Machine

namespace Sys2Proof

open Machine

/-- Settles O25: a message by its lane, its checks and its values; the update of the loop by its state. -/
theorem metrologySamplesDriveTheLoop : Obligations.MetrologySamplesDriveTheLoop := by
  unfold Obligations.MetrologySamplesDriveTheLoop
  refine ⟨fun s second com body crc hl => ?_, fun s second hl => ⟨fun hf hu => onPage_answers hl (sampleTimeoutAct_loses hf hu),
      fun h => onPage_answers hl (sampleTimeoutAct_keeps h)⟩,
    fun l gp gv win ym a tv => ⟨Loop.update_first, Loop.update_notLater, fun h ht => Loop.update_second h ht rfl,
      fun h => ⟨Loop.update_inWindow h rfl, Loop.update_between h rfl, Loop.update_far h rfl⟩⟩⟩
  have ans {t : State} (h : metSampleAct second com.toNat body crc s = t) : exec (.metSample second com body crc) s = .next t.settle :=
    checked_answers rfl (onPage_answers hl h)
  have hd := (s.loop.lane second).step_eq (sampleSeq body)
  exact ⟨fun h => ans (metSampleAct_off h), fun h hc => ans (metSampleAct_corrupted h hc),
    fun h hc hg => ans (metSampleAct_bad h hc hg), fun h hc hg => ⟨fun hr => ans (metSampleAct_close h hc hg rfl hr),
      fun hr h0 => ans (metSampleAct_stale h hc hg rfl hr hd h0), fun hr h1 h2 => ⟨fun hy => ans (metSampleAct_noY h hc hg rfl hr hd h1 h2 hy),
        fun hy hs hn => ans (metSampleAct_dropped (m := s.loop.lane second) h hc hg rfl hr hd h1 h2 hy hs hn),
        fun yv hy hs => ans (metSampleAct_accepted h hc hg rfl hr hd h1 h2 hy hs)⟩⟩⟩

/-- Settles O26: arming with its first line, and the commands and settings of the loop. -/
theorem armingAndTrackingCommands : Obligations.ArmingAndTrackingCommands := by
  unfold Obligations.ArmingAndTrackingCommands
  refine ⟨fun s e hits frames hh hf hl he => ?_, fun s a ht => ⟨fun h => rowWrite_answers ht (usePrimaryAct_refused h),
      fun h hs => rowWrite_answers ht (usePrimaryAct_returns h hs), fun h hs => rowWrite_answers ht (usePrimaryAct_keeps h hs),
      rowWrite_answers ht (trkSnapAct.eq_1 s)⟩, fun s w hl hw hr => 
      onPage_answers (act := fun s => s.resultFinish Reg.TRK_SNAP_STAT Ev.TRK_SNAP_DONE s.exposing) hl (trkSnapDone_ends hw hr),
    fun s a r v ht => ⟨fun h => rowWrite_answers ht (trkConfigAct_refused h),
      fun h hb => ⟨fun hr => rowWrite_answers ht (trkConfigAct_stores h hb hr), fun hr hn => rowWrite_answers ht (trkConfigAct_idles h hb hr hn)⟩⟩⟩
  · have hok : Instr.wf (.stripeArmed hits frames) = true := Bool.and_eq_true_iff.mpr ⟨hh, hf⟩
    refine ⟨fun h => checked_answers hok (onPage_answers hl (stripeArmedAct_waits he h)), fun h1 h2 h3 h4 => ?_,
      fun h1 h2 h3 => onPage_answers hl (startLateAct_late he h1 h2 h3), fun h => onPage_answers hl (startLateAct_keeps he h)⟩
    obtain ⟨e1, he1⟩ := expo_armed (hits := hits) (frames := frames) he
    exact ⟨e1, he1, checked_answers hok (onPage_answers hl (stripeArmedAct_arms he h1 h2 h3 h4 rfl he1))⟩

end Sys2Proof
end

section
/-!
PROOFS. Motion commands and settings, the tick of the generator, and the cam (R249 to R269).
-/

namespace Sys2Proof.Machine

/-! ### Commands -/

section
variable {s : State}

theorem State.onConductor_other {op : Nat} {f : State → State} (h : s.conductor = false) :
    s.onConductor op f = s.raise Ev.MOT_IGNORED op := if_neg (ne_true_of_eq_false h)

theorem State.onConductor_conductor {op : Nat} {f : State → State} (h : s.conductor = true) : s.onConductor op f = f s := if_pos h

section
variable {axis : Bool} (h : s.conductor = true)
include h

theorem moveAct_outside (ht : s.inTravel axis s.motTgt = false) : moveAct axis s = s.moveResult axis 2 :=
  (State.onConductor_conductor h).trans (if_pos (by rw [ht]; rfl))

variable (ht : s.inTravel axis s.motTgt = true)
include ht

theorem moveAct_tooFast (hv : s.rf Reg.MOT_VEL 0 23 = 0 ∨ 256 * s.vlim axis < s.rf Reg.MOT_VEL 0 23) :
    moveAct axis s = s.moveResult axis 3 :=
  (State.onConductor_conductor h).trans ((if_neg (by rw [ht]; nofun)).trans (if_pos hv))

theorem moveAct_queues (h0 : s.rf Reg.MOT_VEL 0 23 ≠ 0) (hv : s.rf Reg.MOT_VEL 0 23 ≤ 256 * s.vlim axis) :
    moveAct axis s = s.queueMot (.move axis s.motTgt) :=
  (State.onConductor_conductor h).trans ((if_neg (by rw [ht]; nofun)).trans
    (if_neg (not_or.mpr ⟨h0, Nat.not_lt.mpr hv⟩)))

end

/-- A write of MOT_CMD without a row of its own. -/
theorem motCmdAct_noRow {v : Word} (h : fld v 0 3 = 0 ∨ 6 ≤ fld v 0 3) : motCmdAct v s = s.raise Ev.MOT_IGNORED (fld v 0 3) := by
  unfold motCmdAct
  split
  case h_6 => rfl
  all_goals omega

theorem motSnapDone_ends {w : Waiting} (hw : w.ctx = none)
    (h : s.results.find? (fun p => p.1 == Reg.MOT_SNAP_STAT) = some (Reg.MOT_SNAP_STAT, w)) :
    s.resultFinish Reg.MOT_SNAP_STAT Ev.MOT_SNAP_DONE none =
      (({ w.regs.foldl (fun (a : State) q => a.setReg q.1 q.2) s with
        results := sdel Reg.MOT_SNAP_STAT (w.regs.foldl (fun (a : State) q => a.setReg q.1 q.2) s).results } : State).resDone
        Reg.MOT_SNAP_STAT w.stat).raise Ev.MOT_SNAP_DONE 0 := by
  refine (State.resultFinish_some h rfl).trans ?_
  rw [hw, Option.none_or]
  rfl

/-- The profile values that a write may not have. -/
def State.profileRefuses (s : State) (r : BitVec 2) (x : Nat) : Bool :=
  if r = 0 then s.gen.st != 0 && (x == 0 || decide (256 * s.vlim s.gen.axis < x)) else x == 0

theorem profileAct_eq (r : BitVec 2) (v : Word) :
    profileAct r.toNat v s =
      if s.profileRefuses r (v &&& regMask (profOff r.toNat)).toNat = true then
        s.raise Ev.MOT_CFG_REFUSED (offDetail (profOff r.toNat))
      else (s.writeRw (profOff r.toNat) v).queueMot (.prof r.toNat (v &&& regMask (profOff r.toNat)).toNat) := by
  by_cases h : r = 0
  · have h0 : r.toNat = 0 := by rw [h]; rfl
    simp only [profileAct, State.profileRefuses, if_pos h, if_pos h0]
  · have h0 : r.toNat ≠ 0 := fun h0 => h (BitVec.eq_of_toNat_eq h0)
    simp only [profileAct, State.profileRefuses, if_neg h, if_neg h0]

theorem motCfgAct_stores {v : Word} (h1 : s.gen.st = 0) (h2 : s.expo = none) (h3 : fld v 8 4 ≠ 0) (h4 : fld v 0 3 ≤ 4)
    (h5 : fld v 4 3 = 3 ∨ fld v 4 3 = 4) : motCfgAct v s = s.writeRw Reg.MOT_CFG v :=
  if_neg (by obtain h5 | h5 := h5 <;> simp [h1, h2, h3, h4, h5])

theorem motCfgAct_refused {v : Word}
    (h : s.gen.st ≠ 0 ∨ s.expo ≠ none ∨ fld v 8 4 = 0 ∨ 4 < fld v 0 3 ∨ (fld v 4 3 ≠ 3 ∧ fld v 4 3 ≠ 4)) :
    motCfgAct v s = s.raise Ev.MOT_CFG_REFUSED (offDetail Reg.MOT_CFG) := by
  refine if_pos ?_
  obtain h | h | h | h | ⟨h, h'⟩ := h
  · simp [h]
  · simp [Option.isSome_iff_ne_none.mpr h]
  · simp [h]
  · simp [h]
  · simp [h, h']

end

/-! ### The plan of a tick -/

theorem toward_up {j a goal : Int} (hj : 0 ≤ j) (h : a + j ≤ goal) : toward j a goal = a + j := by
  unfold toward
  split <;> omega

theorem toward_down {j a goal : Int} (hj : 0 ≤ j) (h : goal ≤ a - j) : toward j a goal = a - j := by
  unfold toward
  split <;> omega

theorem toward_reached {j a goal : Int} (h1 : a - j ≤ goal) (h2 : goal ≤ a + j) : toward j a goal = goal := by
  unfold toward
  split <;> omega

/-- A tick of the stop sequence that does not end it. -/
theorem stopTick_some {j h v a : Int} {m : Int × Int} (hm : stopTick j h v a = some m) :
    m.1 = v + m.2 ∧ 0 < m.1 ∧ (m.2 = toward j a (-h) ∨ m.2 = toward j a 0) := by
  unfold stopTick at hm
  dsimp only at hm
  generalize (decide (a < 0) && decide (v ≤ rampSum j (-a))) = last at hm
  obtain ⟨hgo, heq⟩ := Option.ite_none_left_eq_some.mp hm
  obtain rfl := Option.some.inj heq
  simp only [Bool.or_eq_true, decide_eq_true_eq, not_or, Int.not_le] at hgo
  refine ⟨rfl, hgo.2, ?_⟩
  cases last
  · exact .inl rfl
  · exact .inr rfl

section
variable {g : Gen}

theorem Gen.planTick_cruise (h : g.st = 2) : g.planTick = (g.v, 0, true) := if_pos h

/-- A ramp reaches its velocity target within the ramp of its acceleration to 0. -/
def Gen.lands (g : Gen) : Prop :=
  if g.up then g.vt ≤ g.v + rampGain g.mj g.a else g.v + rampGain g.mj g.a ≤ g.vt

theorem Gen.lands_iff : (if g.up then decide (g.vt ≤ g.v + rampGain g.mj g.a) else decide (g.v + rampGain g.mj g.a ≤ g.vt)) = true ↔
    g.lands := by
  unfold Gen.lands
  cases g.up <;> simp

section
variable (h : g.st = 1)
include h

theorem Gen.planTick_lands (hl : g.lands) :
    g.planTick = if toward g.mj g.a 0 = 0 then (g.vt, 0, true) else (g.v + toward g.mj g.a 0, toward g.mj g.a 0, false) := by
  have hfin := Gen.lands_iff.mpr hl
  simp only [Gen.planTick, h, hfin, if_true, Bool.true_and, beq_iff_eq]
  rfl

theorem Gen.planTick_ramps (hl : ¬ g.lands) {a : Int} (ha : toward g.mj g.a (if g.up then g.accI else -g.accI) = a) :
    g.planTick = (g.v + a, a, false) := by
  have hfin := Bool.eq_false_iff.mpr fun hf => hl (Gen.lands_iff.mp hf)
  subst ha
  simp only [Gen.planTick, h, hfin, Bool.false_and, Bool.false_eq_true, if_false]
  rfl

end

theorem Gen.pos_setPos (axis : Bool) (p : Int) : (g.setPos axis p).pos axis = p ∧ (g.setPos axis p).pos (!axis) = g.pos (!axis) := by
  cases axis <;> exact ⟨rfl, rfl⟩

theorem Gen.advance_spec (v a : Int) :
    (g.advance v a).v = v ∧ (g.advance v a).a = a ∧
    (g.advance v a).pos g.axis = g.pos g.axis + (if g.neg then -v else v) ∧
    (g.advance v a).pos (!g.axis) = g.pos (!g.axis) :=
  ⟨rfl, rfl, Gen.pos_setPos g.axis _⟩

end

section
variable {s : State}

theorem State.st_beginTargetStop : s.beginTargetStop.gen.st = 3 := by
  unfold State.beginTargetStop
  dsimp only
  split
  · simp only [State.decClamp, State.raiseExp, State.raiseAs_gen, State.setGen_gen]
  · rfl

/-- The sum of a tick, by the phase of the generator. -/
theorem State.computeTick_idle (h : s.gen.st = 0) : s.computeTick = s := by
  have hno : ¬ ((s.gen.st = 1 ∨ s.gen.st = 2) ∧ s.gen.mustStop = true) := by omega
  rw [State.computeTick, if_neg hno]
  simp only [h]

theorem State.computeTick_moves (h : s.gen.st = 1 ∨ s.gen.st = 2) (hm : s.gen.mustStop = false) :
    s.computeTick = s.setGen { s.gen.advance s.gen.planTick.1 s.gen.planTick.2.1 with st := if s.gen.planTick.2.2 then 2 else 1 } := by
  have hno : ¬ ((s.gen.st = 1 ∨ s.gen.st = 2) ∧ s.gen.mustStop = true) := by rw [hm]; nofun
  rw [State.computeTick, if_neg hno]
  obtain h | h := h <;> simp only [h]

theorem State.computeTick_stopping (h : s.gen.st = 3) :
    s.computeTick = (stopTick s.gen.mj s.gen.h s.gen.v s.gen.a).elim s.endMove fun m => s.setGen (s.gen.advance m.1 m.2) := by
  have hno : ¬ ((s.gen.st = 1 ∨ s.gen.st = 2) ∧ s.gen.mustStop = true) := by omega
  rw [State.computeTick, if_neg hno]
  simp only [h]
  cases stopTick s.gen.mj s.gen.h s.gen.v s.gen.a <;> rfl

theorem State.computeTick_stops (h : s.gen.st = 1 ∨ s.gen.st = 2) (hm : s.gen.mustStop = true) :
    s.computeTick = s.beginTargetStop.computeTick := by
  rw [State.computeTick_stopping State.st_beginTargetStop, State.computeTick, if_pos ⟨h, hm⟩]
  simp only [State.st_beginTargetStop]
  cases stopTick s.beginTargetStop.gen.mj s.beginTargetStop.gen.h s.beginTargetStop.gen.v s.beginTargetStop.gen.a <;> rfl

theorem State.followVel_idle (h : s.gen.st = 0) : s.followVel = s := if_pos h

theorem State.takeCeil_next {v : Nat} (h : s.gov.next = some v) : s.takeCeil.gov.ceil = v := by
  simp only [State.takeCeil, h]

theorem State.gen_endMove_onTarget (h : s.gen.toTgt = true) :
    s.endMove.gen = { (s.gen.setPos s.gen.axis s.gen.tgt).halted with done := (s.gen.axis, 0) :: s.gen.done } := by
  rw [State.endMove, if_pos h]
  simp only [State.setReg_gen, State.setGen_gen]
  unfold Gen.setPos Gen.halted
  split <;> rfl

theorem State.gen_endMove_stopped (h : s.gen.toTgt = false) :
    s.endMove.gen = { s.gen.halted with done := (s.gen.axis, 1) :: s.gen.done } := by
  rw [State.endMove, if_neg (ne_true_of_eq_false h)]
  rfl

/-- The part of a tick after its commands and the start of a move. -/
def State.tickOn (s : State) : State :=
  let s3 := (s.followVel.computeTick.flushResults).sendSetpoint
  let s4 := s3.keepSetpt s3.tickTime (s3.gen.y / 65536) (s3.gen.x / 65536)
  if s4.anyJoined then s4.sendDown 0x40 (setptBytes s4.tickTime (s3.gen.y / 65536) (s3.gen.x / 65536)) else s4

theorem tickAct_other (h : s.takeCeil.conductor = false) : tickAct s = s.takeCeil := if_pos (by rw [h]; rfl)

section
variable (h : s.takeCeil.conductor = true) {s1 : State}
  (h1 : s.takeCeil.gen.cmds.foldl (fun (a : State) c => a.motCmd c) (s.takeCeil.setGen { s.takeCeil.gen with cmds := [] }) = s1)
include h h1

theorem tickAct_goesOn (hp : s1.gen.st ≠ 0 ∨ s1.gen.pend = none) : tickAct s = s1.tickOn := by
  unfold tickAct
  simp only [h, h1, Bool.not_true, Bool.false_eq_true, if_false]
  split
  case h_1 hst hpend => obtain hp | hp := hp <;> simp_all
  case h_2 => rfl

theorem tickAct_starts {p : Bool × Int} (hst : s1.gen.st = 0) (hpend : s1.gen.pend = some p) :
    tickAct s = ((s1.setGen { s1.gen with pend := none }).startMove p.1 p.2).tickOn := by
  unfold tickAct
  simp only [h, h1, hst, hpend, Bool.not_true, Bool.false_eq_true, if_false]
  rfl

end

end

/-! ### The cam -/

section
variable {s : State}

theorem swapAct_pending (h : wbit (s.reg Reg.CAM_CTL) 2 = true) :
    swapAct s = s.raise Ev.MOT_CAM_IGNORED (offDetail Reg.CAM_CTL) := if_pos h

theorem swapAct_armed (h : wbit (s.reg Reg.CAM_CTL) 2 = false) (ha : s.armed = true) :
    swapAct s = s.setReg Reg.CAM_CTL (setBit (s.reg Reg.CAM_CTL) 2 true) := by
  rw [swapAct, h, if_neg Bool.false_ne_true, if_pos ha]

theorem swapAct_swaps (h : wbit (s.reg Reg.CAM_CTL) 2 = false) (ha : s.armed = false) : swapAct s = s.camSwap := by
  rw [swapAct, h, ha, if_neg Bool.false_ne_true, if_neg Bool.false_ne_true]

section
variable {body : List Byte}

theorem State.sendDeflection_off (h : (!wbit (s.reg Reg.MOT_CFG) 13 || s.streamsOff) = true) : s.sendDeflection body = s := if_pos h

variable (h : (!wbit (s.reg Reg.MOT_CFG) 13 || s.streamsOff) = false)
include h

theorem State.sendDeflection_fresh (hf : s.gen.dfHeld = false) (hb : body ≠ []) :
    s.sendDeflection body = ({ s.bump Reg.MOT_DF_SENT with lastDf := body } : State).sendMsg [7] body := by
  have hne : body.isEmpty = false := by simpa [List.isEmpty_iff] using hb
  simp only [State.sendDeflection, h, hf, hne, Bool.false_eq_true, if_false]

theorem State.sendDeflection_repeats (hf : s.gen.dfHeld = true) (hl : s.lastDf ≠ []) :
    s.sendDeflection body =
      ({ s.bump Reg.MOT_DF_SENT with lastDf := s.lastDf } : State).sendMsg [7] (s.lastDf.set 4 (s.lastDf.getD 4 0 ||| 4#8)) := by
  have hne : s.lastDf.isEmpty = false := by simpa [List.isEmpty_iff] using hl
  have hset : (s.lastDf.set 4 (s.lastDf.getD 4 0 ||| 4#8)).isEmpty = false := by
    simpa [List.isEmpty_iff] using hl
  simp only [State.sendDeflection, h, hf, hne, hset, Bool.false_eq_true, if_false, if_true]

theorem State.sendDeflection_nothing (hf : s.gen.dfHeld = true) (hl : s.lastDf = []) : s.sendDeflection body = s := by
  simp only [State.sendDeflection, h, hf, hl, List.isEmpty_nil, Bool.false_eq_true, if_false, if_true]

end

theorem State.gen_sendDeflection (body : List Byte) : (s.sendDeflection body).gen = s.gen := by
  unfold State.sendDeflection
  split
  · rfl
  · dsimp only
    generalize (if s.gen.dfHeld = true then
      if s.lastDf.isEmpty = true then [] else s.lastDf.set 4 (s.lastDf.getD 4 0 ||| 4#8) else body) = b
    split
    · rfl
    · obtain ⟨r, o, d, hm⟩ := State.sendMsg_encodes
        (s := { s.bump Reg.MOT_DF_SENT with lastDf := if s.gen.dfHeld = true then s.lastDf else body }) [7] b
      rw [hm]
      exact State.bump_gen s Reg.MOT_DF_SENT

theorem deflectionBody_ne_nil (n flags : Nat) (xerr : Int) (time dt : Nat) (samples : List (Int × Int)) :
    deflectionBody n flags xerr time dt samples ≠ [] := List.cons_ne_nil _ _

/-- The state that an IDLE message starts from: of one before any firing, three values are free. -/
def State.idleDraws (s : State) : State := if s.gen.shot = none then { s with draws := s.draws + 3 } else s

theorem deflectionIdleAct_eq {shot : Nat × Nat × Bool}
    (h : s.gen.shot.getD ((Config.freeWord s.draws).toNat, (Config.freeWord (s.draws + 1)).toNat, Config.freeBit (s.draws + 2)) = shot) :
    deflectionIdleAct s =
      s.idleDraws.sendDeflection
        (deflectionBody shot.1 (1 + 2 * b2n shot.2.2 + 8 * b2n s.camBank) s.loop.xerr shot.2.1 0
          (List.replicate 32 (s.camSample (256 * s.phase) s.loop.xerr))) := by
  have hd : (if s.gen.shot.isSome then s else { s with draws := s.draws + 3 }) = s.idleDraws := by
    rw [State.idleDraws]
    cases s.gen.shot <;> rfl
  simp only [deflectionIdleAct, hd, h]

/-- The free values change nothing that the message depends on. -/
theorem State.idleDraws_keeps :
    s.idleDraws.reg Reg.MOT_CFG = s.reg Reg.MOT_CFG ∧ s.idleDraws.streamsOff = s.streamsOff ∧ s.idleDraws.gen = s.gen ∧
    s.idleDraws.lastDf = s.lastDf := by
  unfold State.idleDraws
  split <;> exact ⟨rfl, rfl, rfl, rfl⟩

end

end Sys2Proof.Machine

namespace Sys2Proof

open Machine

theorem motCmd_ne_tpCmd (a : Acc) : Reg.MOT_CMD ≠ Reg.TP_CMD + bankOf a.party := by
  cases a.party <;> decide

/-- Settles O27: the commands by their device and operands, the writes of MOT_CMD by their OP, and the settings. -/
theorem motionCommandsWaitForTheTick : Obligations.MotionCommandsWaitForTheTick := by
  unfold Obligations.MotionCommandsWaitForTheTick
  refine ⟨fun s a axis ht => ⟨fun h => ?other, fun h => ?conductor, ?snap⟩, fun s w hl hw hr =>
    onPage_answers (act := fun s => s.resultFinish Reg.MOT_SNAP_STAT Ev.MOT_SNAP_DONE none) hl (motSnapDone_ends hw hr),
    fun s a r v ht => ⟨fun h => ?_, fun h => ?_⟩, ?one, ?both,
    fun s a v ht => ⟨fun h1 h2 h3 h4 h5 => rowWrite_answers ht (motCfgAct_stores h1 h2 h3 h4 h5),
      fun h => rowWrite_answers ht (motCfgAct_refused h)⟩⟩
  case other =>
    exact ⟨rowWrite_answers ht (State.onConductor_other h), rowWrite_answers ht (State.onConductor_other h),
      rowWrite_answers ht (State.onConductor_other h), rowWrite_answers ht (State.onConductor_other h)⟩
  case conductor =>
    exact ⟨fun hi => rowWrite_answers ht (moveAct_outside h hi), fun hi hv => rowWrite_answers ht (moveAct_tooFast h hi hv),
      fun hi h0 hv => rowWrite_answers ht (moveAct_queues h hi h0 hv), rowWrite_answers ht (State.onConductor_conductor h),
      rowWrite_answers ht (State.onConductor_conductor h), rowWrite_answers ht (State.onConductor_conductor h)⟩
  case snap => exact rowWrite_answers ht (motSnapAct.eq_1 axis s)
  · exact rowWrite_answers ht ((profileAct_eq r v).trans (if_pos h))
  · exact rowWrite_answers ht ((profileAct_eq r v).trans (if_neg (ne_true_of_eq_false h)))
  case one =>
    intro s a w v ht hw
    have hrow (act lost : State → State) (hact : motCmdAct v s = act s) :
        exec (.registerWrite a w v) s = rowWrite a Reg.MOT_CMD act lost s :=
      (registerWrite_answers hw (motCmd_ne_tpCmd a) ht hact).trans (rowWrite_answers ht rfl).symm
    refine ⟨registerWrite_answers hw (motCmd_ne_tpCmd a) ht rfl, ?_, ?_, ?_, ?_, ?_, ?_⟩
    · exact fun h => hrow (moveAct (wbit v 8)) _ (by simp only [motCmdAct, h])
    · exact fun h => hrow stopAct _ (by simp only [motCmdAct, h])
    · exact fun h => hrow clearPendAct _ (by simp only [motCmdAct, h])
    · exact fun h => hrow (setPosAct (wbit v 8)) _ (by simp only [motCmdAct, h])
    · exact fun h => hrow (motSnapAct (wbit v 8)) _ (by simp only [motCmdAct, h])
    · exact fun h => registerWrite_answers hw (motCmd_ne_tpCmd a) ht (motCmdAct_noRow h)
  case both =>
    intro s w p q hw hp hs
    have hq (r : Word) (party : Party) : s.judge ⟨party, true, 0, .both r⟩ Reg.MOT_CMD =
        s.judge ⟨party, true, 0, .both q⟩ Reg.MOT_CMD := rfl
    refine ⟨congrArg finish ?_, congrArg finish ?_⟩
    · rw [hw, anyWrite, if_neg (motCmd_ne_tpCmd _), writeBoth_pcie hp hs (by decide) (by decide)]
      rfl
    · rw [hw, anyWrite, if_neg (motCmd_ne_tpCmd _), writeBoth_spi ((hq p _).trans hp) ((hq p _).trans hs) (by decide) (by decide)]
      rfl

/-- Settles O28: what a tick takes, computes and sends. -/
theorem tickRunsTheGenerator : Obligations.TickRunsTheGenerator := by
  unfold Obligations.TickRunsTheGenerator
  refine ⟨fun s hl => ⟨fun h => onPage_answers hl (tickAct_other h), fun h => ⟨fun hp => ?_, fun p hst hp => ?_⟩⟩, fun s h => ?_, fun s =>
    ⟨State.computeTick_moves, State.computeTick_stops, fun h hn => ?_, fun m h hn => ?_, Gen.planTick_cruise, fun h => ⟨fun hl ha => ?_, fun hl ha => ?_,
      fun hl => Gen.planTick_ramps h hl rfl⟩⟩, fun g v a => g.advance_spec v a, fun j a goal hj => ⟨toward_up hj, toward_down hj, toward_reached⟩,
    fun j h v a m => stopTick_some, fun _ => rfl, fun s v => State.takeCeil_next, fun s h => ?_, fun s h => ?_⟩
  · have hgo := tickAct_goesOn h rfl hp
    exact ⟨fun hj => onPage_answers hl (hgo.trans (if_neg (ne_true_of_eq_false hj))), fun hj => onPage_answers hl (hgo.trans (if_pos hj))⟩
  · have hgo := tickAct_starts h rfl hst hp
    exact ⟨fun hj => onPage_answers hl (hgo.trans (if_neg (ne_true_of_eq_false hj))), fun hj => onPage_answers hl (hgo.trans (if_pos hj))⟩
  · rw [State.followVel_idle h, State.computeTick_idle h]
  · rw [State.computeTick_stopping h, hn, Option.elim_none]
  · rw [State.computeTick_stopping h, hn, Option.elim_some]
  · exact (Gen.planTick_lands h hl).trans (if_pos ha)
  · exact (Gen.planTick_lands h hl).trans (if_neg ha)
  · rw [State.gen_endMove_onTarget h]
    obtain ⟨hsame, hother⟩ := Gen.pos_setPos (g := s.gen) s.gen.axis s.gen.tgt
    exact ⟨hsame, rfl, rfl, rfl, hother, rfl⟩
  · rw [State.gen_endMove_stopped h]
    exact ⟨rfl, rfl, rfl, rfl, rfl, rfl⟩

/-- Settles O29: writes of the banks, the swap, and the message between firings. -/
theorem camBanksSwapAtATransit : Obligations.CamBanksSwapAtATransit := by
  unfold Obligations.CamBanksSwapAtATransit
  refine ⟨fun s a bank k v ht => ⟨fun h => rowWrite_answers ht (if_pos h), fun h => rowWrite_answers ht (if_neg h)⟩,
    fun s a ht => ⟨fun h => rowWrite_answers ht (swapAct_pending h), fun h ha => rowWrite_answers ht (swapAct_armed h ha),
      fun h ha => rowWrite_answers ht (swapAct_swaps h ha)⟩, fun s hl => ?_, fun s n pitch ofs time dark => ?_⟩
  · obtain ⟨hreg, hoff, hgen, hlast⟩ := s.idleDraws_keeps
    have hidle := deflectionIdleAct_eq (s := s) rfl
    have ans {t : State} (h : deflectionIdleAct s = t) : exec .deflectionIdle s = .next t.settle := onPage_answers hl h
    refine ⟨fun h => ans ?_, fun h hf => ans ?_, fun h hf hn => ans ?_, fun h hf hn => ans ?_⟩
    all_goals rw [← hreg, ← hoff] at h
    · exact hidle.trans (State.sendDeflection_off h)
    · exact hidle.trans (State.sendDeflection_fresh h (hgen ▸ hf) (deflectionBody_ne_nil _ _ _ _ _ _))
    · refine hidle.trans ((State.sendDeflection_repeats h (hgen ▸ hf) (hlast ▸ hn)).trans ?_)
      rw [hlast]
      rfl
    · exact hidle.trans (State.sendDeflection_nothing h (hgen ▸ hf) (hlast ▸ hn))
  · rw [State.deflectionFire, State.gen_sendDeflection]

end Sys2Proof
end

section
/-!
PROOFS. Messages of a constellation, joining, time, halts and losses (R284 to R296).
-/

namespace Sys2Proof.Machine

/-! ### Receiving (R285) -/

section
variable {s : State} {p len : Nat} {type : Byte} {rx : Rx} {act : State → State} {w : Nat × Nat}

theorem State.receive_unused (h : s.portUsed p = false) : s.receive p type len rx act = s := by
  rw [State.receive, h]; exact if_pos rfl

section
variable (h : s.portUsed p = true)
include h

theorem State.receive_corrupted (hc : s.auxCorrupts (rx.lane p) = true) :
    s.receive p type len rx act = s.useCorruption.bump Reg.CST_LINK_ERR := by
  rw [State.receive, h, hc]; rfl

variable (hc : s.auxCorrupts (rx.lane p) = false)
include hc

theorem State.receive_checks :
    s.receive p type len rx act =
      if (rx.body.length ≠ len || !crcGood rx.body rx.crc || rx.body.headD 0 != type) = true then s.bump Reg.CST_LINK_ERR
      else (seqTaken (sget (0, 0) s.cst.rx p).1 (sget (0, 0) s.cst.rx p).2 rx.seq).elim s fun w => act (s.took p w) := by
  rw [State.receive, h, hc, Bool.not_true, if_neg Bool.false_ne_true, if_neg Bool.false_ne_true]
  split_ifs
  · rfl
  · dsimp only
    cases seqTaken (sget (0, 0) s.cst.rx p).1 (sget (0, 0) s.cst.rx p).2 rx.seq <;> rfl

theorem State.receive_bad (hb : rx.body.length ≠ len ∨ crcGood rx.body rx.crc = false ∨ rx.body.headD 0 ≠ type) :
    s.receive p type len rx act = s.bump Reg.CST_LINK_ERR := by
  rw [State.receive_checks h hc, if_pos]
  obtain hb | hb | hb := hb
  · rw [decide_eq_true hb]; rfl
  · rw [hb, Bool.not_false, Bool.or_true, Bool.true_or]
  · rw [bne_iff_ne.mpr hb, Bool.or_true]

variable (hl : rx.body.length = len) (hg : crcGood rx.body rx.crc = true) (ht : rx.body.headD 0 = type)
include hl hg ht

theorem State.receive_good :
    s.receive p type len rx act =
      (seqTaken (sget (0, 0) s.cst.rx p).1 (sget (0, 0) s.cst.rx p).2 rx.seq).elim s fun w => act (s.took p w) := by
  rw [State.receive_checks h hc, hl, hg, ht, bne_self_eq_false, if_neg]
  simp

theorem State.receive_again (hq : seqTaken (sget (0, 0) s.cst.rx p).1 (sget (0, 0) s.cst.rx p).2 rx.seq = none) :
    s.receive p type len rx act = s := by
  rw [State.receive_good h hc hl hg ht, hq, Option.elim_none]

end

/-- A message that arrives is taken, and then does what its TYPE does. -/
theorem State.receive_arrives (hl : rx.body.length = len) (h : Arrives s p type rx w) :
    s.receive p type len rx act = act (s.took p w) := by
  obtain ⟨hu, hc, hg, ht, hq⟩ := h
  rw [State.receive_good hu hc hl hg ht, hq, Option.elim_some]

/-- A message with the TYPE of its row is one that the row can have. -/
theorem Rx.fits_of_type (h : rx.body.headD 0 = type) : rx.fits type = true := by
  rw [Rx.fits, h, beq_self_eq_true, Bool.true_or]

end

/-- A SEQ that has been taken is known. -/
theorem seqTaken_known {last mask seq : Nat} {w : Nat × Nat} (h : seqTaken last mask seq = some w) :
    seqTaken w.1 w.2 seq = none := by
  have newest (m : Nat) (hm : m.testBit 0 = true) : seqTaken seq m seq = none := by
    have h0 : m ≠ 0 := fun h => by simp [h] at hm
    simp [seqTaken, h0, hm]
  unfold seqTaken at h
  extract_lets ahead back at h
  split at h
  · rw [← Option.some.inj h]; exact newest 1 (by decide)
  · split at h
    · rename_i hahead
      rw [← Option.some.inj h]
      refine newest _ ?_
      have heven : 2 ∣ mask * 2 ^ ahead := Dvd.dvd.mul_left (dvd_pow_self 2 hahead.1.ne') mask
      rw [Nat.testBit_mod_two_pow, Nat.testBit_zero]
      simp
      omega
    · split at h
      · cases h
      · rename_i h1 h2 h3
        rw [← Option.some.inj h]
        have hset : (mask + 2 ^ back).testBit back = true := by
          rw [Nat.add_comm, Nat.testBit_two_pow_add_eq, Bool.eq_false_of_not_eq_true h3]; rfl
        have h0 : mask + 2 ^ back ≠ 0 := fun h => by simp [h] at hset
        exact (if_neg h0).trans ((if_neg h2).trans (if_pos hset))

/-! ### Joining (R287) -/

section
variable {s : State} {port : Bool} {rx : Rx} {w : Nat × Nat}

theorem mem_grants (k : Child) (id n : Nat) : (id, n) ∈ (k.grants id n).granted := by
  simp [Child.grants]

theorem length_grants_again {k : Child} {id : Nat} (n : Nat) (h : (k.granted.any fun g => g.1 == id) = true) :
    (k.grants id n).granted.length ≤ k.granted.length := by
  obtain ⟨g, hg, hid⟩ := List.any_eq_true.mp h
  have : (k.granted.filter fun g => g.1 != id).length < k.granted.length :=
    List.length_filter_lt_length_iff_exists.mpr ⟨g, hg, by simpa using hid⟩
  simp only [Child.grants, List.length_append, List.length_singleton]
  omega

theorem length_grants_first {k : Child} {id : Nat} (n : Nat) (h : (k.granted.any fun g => g.1 == id) = false) :
    (k.grants id n).granted.length = k.granted.length + 1 := by
  have : (k.granted.filter fun g => g.1 != id) = k.granted :=
    List.filter_eq_self.mpr fun g hg => by simpa using List.any_eq_false.mp h g hg
  simp [Child.grants, this]

theorem State.kidBack_joined {c : Nat} (h : (s.kid c).joined = true) : s.kidBack c = s := by
  rw [State.kidBack, if_pos h]

theorem State.kidBack_away {c : Nat} (h : (s.kid c).joined = false) : s.kidBack c = s.setKid c { s.kid c with missed := 0 } := by
  rw [State.kidBack, h]; exact if_neg Bool.false_ne_true

theorem State.role_kidBack (c : Nat) : (s.kidBack c).role = s.role := by
  unfold State.kidBack; split <;> rfl

theorem State.rootDecides_full {id depth : Nat} (h : ((s.kid (kidPort port - 1)).granted.any fun g => g.1 == id) = false)
    (hf : 2048 < s.countAll + 1) : s.rootDecides (kidPort port) id depth = s.sendGrant id depth 2 := by
  rw [State.rootDecides, h]
  exact if_pos (by rw [decide_eq_true hf]; rfl)

theorem State.rootDecides_grants {id depth : Nat}
    (h : ((s.kid (kidPort port - 1)).granted.any fun g => g.1 == id) = true ∨ s.countAll + 1 ≤ 2048) :
    s.rootDecides (kidPort port) id depth =
      (s.sendGrant id depth 0).setKid (kidPort port - 1)
        (((s.sendGrant id depth 0).kid (kidPort port - 1)).grants id s.grantShows) := by
  rw [State.rootDecides]
  refine if_neg ?_
  obtain h | h := h
  · rw [h]; nofun
  · rw [decide_eq_false (by omega), Bool.and_false]; nofun

section
variable (hl : rx.body.length = 16) (h : Arrives s (kidPort port) 0x11 rx w)
include hl h

theorem joinAct_alone (hj : s.cst.joined = false) : joinAct port rx s = s.took (kidPort port) w := by
  rw [joinAct, State.receive_arrives hl h]
  exact if_pos (by rw [State.took, hj]; rfl)

/-- A JOIN at a joined node: refused as too deep, decided at the root, or passed on. -/
theorem joinAct_joined (hj : s.cst.joined = true) {id depth id1 d1 : Nat} {s0 : State} (hid : bodyNat rx.body 4 2 = id)
    (hd : bodyNat rx.body 6 1 = depth) (h0 : (s.took (kidPort port) w).kidBack (kidPort port - 1) = s0)
    (hid1 : (if id = 0xFFFF then 2 * s.cst.id + 1 + (kidPort port - 1) else id) = id1)
    (hd1 : (if id = 0xFFFF then s.cst.depth + 1 else depth) = d1) :
    joinAct port rx s =
      if 11 < d1 then s0.sendGrant id1 d1 1
      else if s.role = 1 then s0.rootDecides (kidPort port) id1 d1
      else s0.sendCst 0 0x11 (joinBytes id1 d1 0 ++ leBytes 8 (bodyNat rx.body 8 8)) := by
  rw [joinAct, State.receive_arrives hl h]
  have hrole : s0.role = s.role := by rw [← h0]; exact State.role_kidBack _
  subst hid hd hid1 hd1
  rw [← hrole, ← h0]
  exact if_neg (by rw [State.took, hj]; nofun)

end

theorem joinSendAct_sends (h1 : s.role = 2) (h2 : s.cst.joined = false) (h3 : s.cst.refused = false) (h4 : s.portUp 0 = true)
    (h5 : s.cst.asked = true ∨ 2 ≤ s.cst.good) :
    joinSendAct s =
      (({ s with draws := s.draws + 1, cst := { s.cst with asked := true } } : State).sendCst 0 0x11
        (joinBytes 0xFFFF (Config.freeWord s.draws).toNat 0 ++
          (leBytes 4 Config.devIdLo.toNat ++ leBytes 4 Config.devIdHi.toNat))) := by
  rw [joinSendAct]
  refine if_neg ?_
  rw [h1, h2, h3, h4]
  obtain h5 | h5 := h5
  · simp [h5]
  · simp [Nat.not_lt.mpr h5]

theorem joinSendAct_waits (h : s.role ≠ 2 ∨ s.cst.joined = true ∨ s.cst.refused = true ∨ s.portUp 0 = false ∨
    (s.cst.asked = false ∧ s.cst.good < 2)) : joinSendAct s = s := by
  rw [joinSendAct]
  refine if_pos ?_
  obtain h | h | h | h | h := h <;> simp [h]

section
variable (hl : rx.body.length = 8) (hr : s.role = 2) (h : Arrives s 0 0x12 rx w)
include hl hr h

theorem grantAct_member :
    grantAct rx s =
      if s.cst.joined = true then (s.took 0 w).sendGrant (bodyNat rx.body 4 2) (bodyNat rx.body 6 1) (bodyNat rx.body 7 1)
      else if bodyNat rx.body 7 1 = 0 then
        ({ s.took 0 w with
          cst := { (s.took 0 w).cst with
            joined := true, asked := false, id := bodyNat rx.body 4 2, depth := bodyNat rx.body 6 1, planMiss := 0,
            gotPlan := true } } : State).raise Ev.CST_JOINED (bodyNat rx.body 4 2)
      else
        ({ s.took 0 w with cst := { (s.took 0 w).cst with refused := true, asked := false } } : State).raise
          Ev.CST_JOIN_REFUSED (bodyNat rx.body 7 1) := by
  rw [grantAct, State.receive_arrives hl h]
  exact if_neg (not_not.mpr hr)

end

/-! ### Time (R289) -/

theorem timeReqSendAct_sends (h1 : s.role = 2) (h2 : s.portUp 0 = true) :
    timeReqSendAct s = ({ s with cst := { s.cst with t1 := some s.tau } } : State).sendCst 0 0x20 (leBytes 8 s.tau) := by
  rw [timeReqSendAct]
  exact if_neg (by simp [h1, h2])

theorem timeReqSendAct_waits (h : s.role ≠ 2 ∨ s.portUp 0 = false) : timeReqSendAct s = s := by
  rw [timeReqSendAct]
  exact if_pos (by simpa using h)

theorem timeReqAct_arrives {turn : Nat} (hl : rx.body.length = 12) (h : Arrives s (kidPort port) 0x20 rx w) :
    timeReqAct port rx turn s =
      if s.cst.joined = true then
        ((s.took (kidPort port) w).kidBack (kidPort port - 1)).sendCst (kidPort port) 0x21
          (leBytes 8 (bodyNat rx.body 4 8) ++ leBytes 8 s.tau ++ leBytes 8 (s.tau + turn))
      else s.took (kidPort port) w := by
  have hj : (s.took (kidPort port) w).cst.joined = s.cst.joined := rfl
  rw [timeReqAct, State.receive_arrives hl h, hj]
  cases s.cst.joined <;> rfl

/-- The connection state of a member after an answer with the correction `th`. -/
def Cst.timed (c : Cst) (th : Int) : Cst :=
  { c with theta := th, t1 := none, good := if th.natAbs ≤ 1 then c.good + 1 else 0 }

section
variable (th : Int)

theorem State.correctTau_slews (h : s.cst.joined = true) {t : State}
    (ht : ({ s with cst := { s.cst.timed th with slew := if th = 0 then 0 else th.sign } } : State).peak Reg.CST_OFS_PEAK 0 16
      (min 65535 th.natAbs) = t) :
    s.correctTau th = if 64 < th.natAbs then t.raiseExp Ev.CST_TIME_SLIP (min 65535 th.natAbs) else t := by
  subst ht
  rw [State.correctTau]
  exact if_pos h

theorem State.correctTau_steps (h : s.cst.joined = false) (h0 : 0 < th) :
    s.correctTau th = { s with cst := s.cst.timed th, tau := (s.tau + th.natAbs) % 2 ^ 64 } := by
  rw [State.correctTau]
  exact (if_neg (ne_true_of_eq_false h)).trans (if_pos h0)

theorem State.correctTau_holds (h : s.cst.joined = false) (h0 : th ≤ 0) :
    s.correctTau th = { s with cst := { s.cst.timed th with hold := th.natAbs / 64, short := th.natAbs % 64 } } := by
  rw [State.correctTau]
  exact (if_neg (ne_true_of_eq_false h)).trans (if_neg (not_lt.mpr h0))

end

theorem timeRspAct_arrives (hl : rx.body.length = 28) (hr : s.role = 2) (h : Arrives s 0 0x21 rx w) :
    timeRspAct rx s =
      if s.cst.t1 = some (bodyNat rx.body 4 8) then
        (s.took 0 w).correctTau (thetaOf (bodyNat rx.body 4 8) (bodyNat rx.body 12 8) (bodyNat rx.body 20 8) s.tau
          (sext 16 (s.rf Reg.CST_ASYM 0 16)))
      else s.took 0 w := by
  have hr' : (s.took 0 w).role = 2 := hr
  have ht1 : (s.took 0 w).cst.t1 = s.cst.t1 := rfl
  rw [timeRspAct, State.receive_arrives hl h, hr', ht1]
  by_cases he : s.cst.t1 = some (bodyNat rx.body 4 8)
  · rw [if_pos he]
    exact if_neg (by rw [he]; simp [Rx.nat])
  · rw [if_neg he]
    exact if_pos (by simp [Rx.nat, he])

/-! ### Setpoints, halts and stops (R291, R292) -/

section
variable (hr : s.role = 2)
include hr

theorem setptAct_arrives (hl : rx.body.length = 28) (h : Arrives s 0 0x40 rx w) :
    setptAct rx s =
      if s.cst.joined = true then
        ((s.took 0 w).keepSetpt (bodyNat rx.body 4 8) (bodyInt rx.body 12 8) (bodyInt rx.body 20 8)).sendDown 0x40
          (rx.body.drop 4)
      else s.took 0 w := by
  have hr' : (s.took 0 w).role = 2 := hr
  have hj : (s.took 0 w).cst.joined = s.cst.joined := rfl
  rw [setptAct, State.receive_arrives hl h, hr', hj]
  cases s.cst.joined <;> rfl

theorem haltAct_arrives (hl : rx.body.length = 8) (h : Arrives s 0 0x41 rx w) :
    haltAct rx s =
      if s.cst.joined = false then s.took 0 w
      else if bodyNat rx.body 4 1 = 4 then (s.took 0 w).leaveTree 3
      else ((s.took 0 w).haltDown (bodyNat rx.body 4 1)).raiseExp Ev.CST_HALT (bodyNat rx.body 4 1) := by
  have hr' : (s.took 0 w).role = 2 := hr
  have hj : (s.took 0 w).cst.joined = s.cst.joined := rfl
  rw [haltAct, State.receive_arrives hl h, hr', hj]
  cases s.cst.joined <;> rfl

end

theorem State.stopNow_other {cause : Nat} (h : s.conductor = false) : s.stopNow cause = s := by
  rw [State.stopNow, h]; rfl

theorem State.stopNow_halts {cause : Nat} (h : s.conductor = true) (hg : s.gen.st ≠ 0) (he : s.exposingAnywhere = true) :
    s.stopNow cause =
      { s.haltSend cause with gen := { (s.haltSend cause).gen with cmds := (s.haltSend cause).gen.cmds ++ [.stop 0] } } := by
  rw [State.stopNow, h, he, decide_eq_true hg]; rfl

theorem State.stopNow_queues {cause : Nat} (h : s.conductor = true) (hq : s.gen.st = 0 ∨ s.exposingAnywhere = false) :
    s.stopNow cause = { s with gen := { s.gen with cmds := s.gen.cmds ++ [.stop cause] } } := by
  rw [State.stopNow, h, Bool.not_true, if_neg Bool.false_ne_true, if_neg]
  · rfl
  · obtain hq | hq := hq <;> simp [hq]

/-! ### Link losses (R293) -/

section
variable {i : Nat}

theorem State.unlock_locked (h : s.cst.locks.testBit i = true) :
    s.unlock i = { s with cst := { s.cst with locks := s.cst.locks - 2 ^ i } } := by
  rw [State.unlock, if_pos h]

theorem State.portUsed_unlock (p : Nat) : (s.unlock i).portUsed p = s.portUsed p := by
  unfold State.unlock
  split <;> rfl

theorem State.portDown_child {p : Nat} (h : s.portUsed p = true) (hp : p ≠ 0) : s.portDown p = s.childDown p 0 := by
  rw [State.portDown, h, Bool.not_true, if_neg Bool.false_ne_true, if_neg hp]

theorem State.portDown_parent (h : s.portUsed 0 = true) : s.portDown 0 = s.parentDown := by
  rw [State.portDown, h, Bool.not_true, if_neg Bool.false_ne_true, if_pos rfl]

theorem State.portDown_unused {p : Nat} (h : s.portUsed p = false) : s.portDown p = s := by
  rw [State.portDown, h, Bool.not_false, if_pos rfl]

theorem linkDegradedAct_dark (h : s.cst.locks.testBit i = false) : linkDegradedAct i s = s := by
  rw [linkDegradedAct, h]; rfl

section
variable (h : s.cst.locks.testBit i = true) {dim : State} (hd : { s with cst := { s.cst with locks := s.cst.locks - 2 ^ i } } = dim)
include h hd

/-- A locked lane that loses its lock. -/
theorem linkDegradedAct_locked :
    linkDegradedAct i s =
      if s.cst.locks.testBit (otherLane i) = true then
        (if s.portUsed (i / 2) = true then dim.raise Ev.CST_LINK_DEGRADED (8 + i) else dim)
      else dim.portDown (i / 2) := by
  rw [linkDegradedAct, h, Bool.not_true, if_neg Bool.false_ne_true, State.unlock_locked h, hd]

theorem linkDegradedAct_unused (hu : s.portUsed (i / 2) = false) : linkDegradedAct i s = dim := by
  have hu' : dim.portUsed (i / 2) = false := by subst hd; exact hu
  rw [linkDegradedAct_locked h hd, State.portDown_unused hu', if_neg (ne_true_of_eq_false hu), ite_self]

theorem linkDegradedAct_degraded (hu : s.portUsed (i / 2) = true) (ho : s.cst.locks.testBit (otherLane i) = true) :
    linkDegradedAct i s = dim.raise Ev.CST_LINK_DEGRADED (8 + i) := by
  rw [linkDegradedAct_locked h hd, if_pos ho, if_pos hu]

theorem linkDegradedAct_down (ho : s.cst.locks.testBit (otherLane i) = false) :
    linkDegradedAct i s = dim.portDown (i / 2) := by
  rw [linkDegradedAct_locked h hd, if_neg (ne_true_of_eq_false ho)]

end

theorem symbolLockAct_locked (h : s.cst.locks.testBit i = true) : symbolLockAct i s = s := by
  rw [symbolLockAct, h, Bool.or_true]; rfl

/-- The state with the lock of a lane gained, the SEQs of its port forgotten where it is the port's first. -/
def State.lockGained (s : State) (i : Nat) : State :=
  { s with
    cst := { s.cst with
      locks := s.cst.locks + 2 ^ i, rx := if !s.portLocked (i / 2) then sput (0, 0) s.cst.rx (i / 2) (0, 0) else s.cst.rx } }

theorem symbolLockAct_gains (hi : i < 6) (h : s.cst.locks.testBit i = false) :
    symbolLockAct i s =
      if i / 2 = 0 then
        (if s.portLocked (i / 2) = false then
          { s.lockGained i with cst := { (s.lockGained i).cst with refused := false, good := 0 } }
        else s.lockGained i)
      else (s.lockGained i).kidBack (i / 2 - 1) := by
  have hn : ¬ (decide (6 ≤ i) || s.cst.locks.testBit i) = true := by simp [h, hi]
  rw [symbolLockAct, if_neg hn]
  by_cases hp : i / 2 = 0
  · refine (if_pos hp).trans (Eq.trans ?_ (if_pos hp).symm)
    cases hu : s.portLocked (i / 2) <;> simp [State.lockGained, hu]
  · exact (if_neg hp).trans (if_neg hp).symm

theorem kidPort_ne_zero (port : Bool) : kidPort port ≠ 0 := by cases port <;> decide

section
variable (hu : s.portUsed (kidPort port) = true)
include hu

theorem lossAct_lanes (h : s.portLocked (kidPort port) = true) :
    lossAct port true s = ((s.unlock (2 * kidPort port)).unlock (2 * kidPort port + 1)).childDown (kidPort port) 0 := by
  rw [lossAct]
  refine (if_pos rfl).trans ((if_pos h).trans (State.portDown_child ?_ (kidPort_ne_zero port)))
  rw [State.portUsed_unlock, State.portUsed_unlock, hu]

theorem lossAct_reports (hj : (s.kid (kidPort port - 1)).joined = true) (hm : 4 ≤ (s.kid (kidPort port - 1)).missed) :
    lossAct port false s = s.childDown (kidPort port) (s.kid (kidPort port - 1)).missed := by
  rw [lossAct]
  exact (if_neg Bool.false_ne_true).trans (if_pos (by simp [hu, hj, hm]))

end

theorem lossAct_dark (h : s.portLocked (kidPort port) = false) : lossAct port true s = s := by
  rw [lossAct]
  exact (if_pos rfl).trans (if_neg (ne_true_of_eq_false h))

theorem lossAct_keeps (h : (s.kid (kidPort port - 1)).joined = false ∨ (s.kid (kidPort port - 1)).missed < 4) :
    lossAct port false s = s := by
  rw [lossAct]
  refine (if_neg Bool.false_ne_true).trans (if_neg ?_)
  obtain h | h := h <;> simp [h]

section
variable (hr : s.role = 2)
include hr

theorem orphanAct_lanes (h : s.portLocked 0 = true) : orphanAct true s = ((s.unlock 0).unlock 1).parentDown := by
  rw [orphanAct, if_pos rfl, if_pos h]
  refine State.portDown_parent ?_
  rw [State.portUsed_unlock, State.portUsed_unlock, State.portUsed, hr]
  rfl

theorem orphanAct_plans (hj : s.cst.joined = true) (hm : 4 ≤ s.cst.planMiss) : orphanAct false s = s.leaveTree 3 := by
  rw [orphanAct, if_neg Bool.false_ne_true, if_pos (by simp [hr, hj, hm])]

end

theorem orphanAct_dark (h : s.portLocked 0 = false) : orphanAct true s = s := by
  rw [orphanAct, if_pos rfl, h, if_neg Bool.false_ne_true]

theorem orphanAct_keeps (h : s.cst.joined = false ∨ s.cst.planMiss < 4) : orphanAct false s = s := by
  rw [orphanAct, if_neg Bool.false_ne_true, if_neg]
  obtain h | h := h <;> simp [h]

end

/-! ### Settings (R278, R284) and the snapshot (R296) -/

/-- The values that a write of a setting of the governor may not have. -/
def State.govRefuses (s : State) (r : BitVec 2) (v : Word) : Bool :=
  (r == 0 && (decide (fld v 16 5 < 16) || decide (22 < fld v 16 5) || s.running || s.gen.st != 0)) ||
    (r == 1 && decide (fld v 0 10 < 256)) || (r == 2 && fld v 0 23 == 0)

/-- A write of a setting of the governor by which of the three it is. -/
theorem govConfigAct_eq {r : BitVec 2} (hr : r ≠ 3) (v : Word) :
    govConfigAct r.toNat v s =
      if s.govRefuses r v = true then s.raise Ev.GOV_CFG_REFUSED (offDetail (Reg.GOV_CTL + 4 * r.toNat))
      else s.writeRw (Reg.GOV_CTL + 4 * r.toNat) v := by
  match r with
  | 0 => simp [govConfigAct, State.govRefuses]
  | 1 => simp [govConfigAct, State.govRefuses]
  | 2 => simp [govConfigAct, State.govRefuses]
  | 3 => exact absurd rfl hr

/-- The state of a device that has just taken a role. -/
def State.inRole (s : State) : State :=
  { s with
    cst := { s.cst with
      joined := s.role != 2, id := 0, depth := 0, refused := false, asked := false, good := 0, kids := [],
      planMiss := 0, gotPlan := false, t1 := none, setpts := [], expAll := false, hold := 0, short := 0, slew := 0 },
    gov := { s.gov with next := none } }

section
variable {v : Word}

theorem cstCfgAct_refused (h : fld v 0 2 = 3 ∨ (fld v 4 3 ≠ 3 ∧ fld v 4 3 ≠ 4) ∨ s.running = true ∨ s.gen.st ≠ 0) :
    cstCfgAct v s = s.raise Ev.CST_CFG_REFUSED (offDetail Reg.CST_CFG) := by
  rw [cstCfgAct]
  refine if_pos ?_
  obtain h | h | h | h := h <;> simp [h]

section
variable (h1 : fld v 0 2 ≠ 3) (h2 : fld v 4 3 = 3 ∨ fld v 4 3 = 4) (h3 : s.running = false) (h4 : s.gen.st = 0)
include h1 h2 h3 h4

theorem cstCfgAct_keeps (hr : fld v 0 2 = s.role) : cstCfgAct v s = s.writeRw Reg.CST_CFG v := by
  rw [cstCfgAct, if_neg (by simp [h1, h3, h4]; omega), if_pos hr]

theorem cstCfgAct_changes (hr : fld v 0 2 ≠ s.role) {s1 s2 : State}
    (hs1 : (if s.role = 0 ∨ s.cst.joined = false then s else s.leaveTree 3) = s1)
    (hs2 : (s1.writeRw Reg.CST_CFG v).fillPorts s1 = s2) : cstCfgAct v s = s2.inRole := by
  have hs : (if (s.role = 0 || !s.cst.joined) = true then s else s.leaveTree 3) = s1 := by
    rw [← hs1]
    cases s.cst.joined <;> simp
  subst hs2
  rw [cstCfgAct, if_neg (by simp [h1, h3, h4]; omega), if_neg hr, hs]
  rfl

end

end

theorem cstSnapDone_ends {w : Waiting} (hw : w.ctx = none)
    (h : s.results.find? (fun p => p.1 == Reg.CST_SNAP_STAT) = some (Reg.CST_SNAP_STAT, w)) :
    s.resultFinish Reg.CST_SNAP_STAT Ev.CST_SNAP_DONE none =
      (({ w.regs.foldl (fun (a : State) q => a.setReg q.1 q.2) s with
        results := sdel Reg.CST_SNAP_STAT (w.regs.foldl (fun (a : State) q => a.setReg q.1 q.2) s).results } : State).resDone
        Reg.CST_SNAP_STAT w.stat).raise Ev.CST_SNAP_DONE 0 := by
  refine (State.resultFinish_some h rfl).trans ?_
  rw [hw, Option.none_or]
  rfl

end

end Sys2Proof.Machine

namespace Sys2Proof

open Machine

/-- Settles O30: every row that takes a message takes it through `State.receive`. -/
theorem messagesAreReceivedOnce : Obligations.MessagesAreReceivedOnce := by
  unfold Obligations.MessagesAreReceivedOnce
  refine ⟨fun s rx hl => ?_, fun last mask seq w h => seqTaken_known h, fun seq => rfl⟩
  have row (p len : Nat) (type : Byte) (act : State → State) {i : Instr}
      (hi : Instr.wf i = true → exec i s = onPage 19 (fun s => s.receive p type len rx act) s) (hwf : Instr.wf i = true) :
      (s.portUsed p = false → exec i s = .next s.settle) ∧
      (s.portUsed p = true → s.auxCorrupts (rx.lane p) = true →
        exec i s = .next (State.settle (s.useCorruption.bump Reg.CST_LINK_ERR))) ∧
      (s.portUsed p = true → s.auxCorrupts (rx.lane p) = false →
        (rx.body.length ≠ len ∨ crcGood rx.body rx.crc = false ∨ rx.body.headD 0 ≠ type →
          exec i s = .next (State.settle (s.bump Reg.CST_LINK_ERR))) ∧
        (rx.body.length = len → crcGood rx.body rx.crc = true → rx.body.headD 0 = type →
          seqTaken (sget (0, 0) s.cst.rx p).1 (sget (0, 0) s.cst.rx p).2 rx.seq = none →
          exec i s = .next s.settle)) := by
    have ans {t : State} (h : s.receive p type len rx act = t) : exec i s = .next t.settle :=
      (hi hwf).trans (onPage_answers hl h)
    exact ⟨fun h => ans (State.receive_unused h), fun h hc => ans (State.receive_corrupted h hc),
      fun h hc => ⟨fun hb => ans (State.receive_bad h hc hb), fun hl hg ht hq => ans (State.receive_again h hc hl hg ht hq)⟩⟩
  exact ⟨fun port => ⟨row _ _ _ _ fun hwf => if_pos hwf, fun turn => row _ _ _ _ fun hwf => if_pos hwf,
      row _ _ _ _ fun hwf => if_pos hwf⟩, row _ _ _ _ fun hwf => if_pos hwf, row _ _ _ _ fun hwf => if_pos hwf,
    row _ _ _ _ fun hwf => if_pos hwf, row _ _ _ _ fun hwf => if_pos hwf, row _ _ _ _ fun hwf => if_pos hwf⟩

/-- Settles O31: a JOIN by the node that takes it, what a grant counts, and how a member joins. -/
theorem membersJoinTheTree : Obligations.MembersJoinTheTree := by
  unfold Obligations.MembersJoinTheTree
  refine ⟨fun s port rx w hl hs h => ?_, fun k id n => ⟨mem_grants k id n, length_grants_again n, length_grants_first n, fun s => rfl⟩,
    fun s c => ⟨State.kidBack_joined, State.kidBack_away⟩,
    fun s a hs => ⟨fun h1 h2 h3 h4 h5 => onPage_answers hs (joinSendAct_sends h1 h2 h3 h4 h5),
      fun h => onPage_answers hs (joinSendAct_waits h), fun ht => rowWrite_answers ht rfl⟩,
    fun s rx w hl hs hr h => ?_⟩
  · intro id depth s1 c s0 id1 d1
    have ans {t : State} (he : joinAct port rx s = t) : exec (.join port rx) s = .next t.settle :=
      checked_answers (Rx.fits_of_type h.2.2.2.1) (onPage_answers hs he)
    refine ⟨fun hj => ans (joinAct_alone hl h hj), fun hj => ?_⟩
    have hact := joinAct_joined hl h hj rfl rfl rfl (id1 := id1) (d1 := d1) rfl rfl
    refine ⟨fun hd => ans (hact.trans (if_pos hd)), fun hd hr => ⟨fun hg hf => ?_, fun hg => ?_⟩, fun hd hr => ?_⟩
    · exact ans (hact.trans ((if_neg (Nat.not_lt.mpr hd)).trans ((if_pos hr).trans (State.rootDecides_full hg hf))))
    · exact ans (hact.trans ((if_neg (Nat.not_lt.mpr hd)).trans ((if_pos hr).trans (State.rootDecides_grants hg))))
    · exact ans (hact.trans ((if_neg (Nat.not_lt.mpr hd)).trans (if_neg hr)))
  · have ans {t : State} (he : grantAct rx s = t) : exec (.grant rx) s = .next t.settle :=
      checked_answers (Rx.fits_of_type h.2.2.2.1) (onPage_answers hs he)
    have hact := grantAct_member hl hr h
    exact ⟨fun hj => ans (hact.trans (if_pos hj)),
      fun hj h0 => ans (hact.trans ((if_neg (ne_true_of_eq_false hj)).trans (if_pos h0))),
      fun hj h0 => ans (hact.trans ((if_neg (ne_true_of_eq_false hj)).trans (if_neg h0)))⟩

/-- Settles O33: the exchange of times between a member and its parent. -/
theorem membersKeepTheTimeOfTheirParent : Obligations.MembersKeepTheTimeOfTheirParent := by
  unfold Obligations.MembersKeepTheTimeOfTheirParent
  refine ⟨fun s hs => ⟨fun h1 h2 => onPage_answers hs (timeReqSendAct_sends h1 h2),
      fun h => onPage_answers hs (timeReqSendAct_waits h)⟩, fun s port rx turn w hl hs h => ?_, fun s rx w hl hs hr h => ?_⟩
  · have ans {t : State} (he : timeReqAct port rx turn.toNat s = t) : exec (.timeReq port rx turn) s = .next t.settle :=
      checked_answers (Rx.fits_of_type h.2.2.2.1) (onPage_answers hs he)
    have hact := timeReqAct_arrives (turn := turn.toNat) hl h
    exact ⟨fun hj => ans (hact.trans (if_pos hj)), fun hj => ans (hact.trans (if_neg (ne_true_of_eq_false hj)))⟩
  · have ans {t : State} (he : timeRspAct rx s = t) : exec (.timeRsp rx) s = .next t.settle :=
      checked_answers (Rx.fits_of_type h.2.2.2.1) (onPage_answers hs he)
    have hact := timeRspAct_arrives hl hr h
    exact ⟨fun hn => ans (hact.trans (if_neg hn)),
      fun ht hj => ⟨fun h0 => ans (hact.trans ((if_pos ht).trans (State.correctTau_steps _ hj h0))),
        fun h0 => ans (hact.trans ((if_pos ht).trans (State.correctTau_holds _ hj h0)))⟩,
      fun ht hj => ⟨fun hm => ans (hact.trans ((if_pos ht).trans
          ((State.correctTau_slews (s := s.took 0 w) _ hj rfl).trans (if_neg (Nat.not_lt.mpr hm))))),
        fun hm => ans (hact.trans ((if_pos ht).trans ((State.correctTau_slews (s := s.took 0 w) _ hj rfl).trans (if_pos hm))))⟩⟩

/-- Settles O34: setpoints and halts, stops, the loss and gain of lanes, and the settings of the tree and the governor. -/
theorem haltsLossesAndTreeSettings : Obligations.HaltsLossesAndTreeSettings := by
  unfold Obligations.HaltsLossesAndTreeSettings
  refine ⟨fun s rx w hs hr => ⟨fun hl h => ?setpt, fun hl h => ?halt⟩,
    fun s cause => ⟨State.stopNow_other, State.stopNow_halts, State.stopNow_queues⟩,
    fun s i hi hs => ?lanes, fun s p missed => rfl, fun s => rfl,
    fun s port hs hu => ⟨fun h => onPage_answers hs (lossAct_lanes hu h), fun h => onPage_answers hs (lossAct_dark h),
      fun hj hm => onPage_answers hs (lossAct_reports hu hj hm), fun h => onPage_answers hs (lossAct_keeps h)⟩,
    fun s hs hr => ⟨fun h => onPage_answers hs (orphanAct_lanes hr h), fun h => onPage_answers hs (orphanAct_dark h),
      fun hj hm => onPage_answers hs (orphanAct_plans hr hj hm), fun h => onPage_answers hs (orphanAct_keeps h)⟩,
    fun s a r v hr ht => ?gov,
    fun s a v ht => ⟨fun h => rowWrite_answers ht (cstCfgAct_refused h), fun h1 h2 h3 h4 =>
      ⟨fun hk => rowWrite_answers ht (cstCfgAct_keeps h1 h2 h3 h4 hk),
        fun hk => rowWrite_answers ht (cstCfgAct_changes h1 h2 h3 h4 hk rfl rfl)⟩⟩,
    fun s a ht => rowWrite_answers ht (cstSnapAct.eq_1 s),
    fun s w hs hw hr => onPage_answers (act := fun s => s.resultFinish Reg.CST_SNAP_STAT Ev.CST_SNAP_DONE none) hs (cstSnapDone_ends hw hr)⟩
  case setpt =>
    have ans {t : State} (he : setptAct rx s = t) : exec (.setpt rx) s = .next t.settle :=
      checked_answers (Rx.fits_of_type h.2.2.2.1) (onPage_answers hs he)
    have hact := setptAct_arrives hr hl h
    exact ⟨fun hj => ans (hact.trans (if_neg (ne_true_of_eq_false hj))), fun hj => ans (hact.trans (if_pos hj))⟩
  case halt =>
    have ans {t : State} (he : haltAct rx s = t) : exec (.halt rx) s = .next t.settle :=
      checked_answers (Rx.fits_of_type h.2.2.2.1) (onPage_answers hs he)
    have hact := haltAct_arrives hr hl h
    have up (hj : s.cst.joined = true) : ¬ s.cst.joined = false := by rw [hj]; nofun
    exact ⟨fun hj => ans (hact.trans (if_pos hj)), fun hj h4 => ans (hact.trans ((if_neg (up hj)).trans (if_pos h4))),
      fun hj h4 => ans (hact.trans ((if_neg (up hj)).trans (if_neg h4)))⟩
  case lanes =>
    have hwf : Instr.wf (.linkDegraded i) = true ∧ Instr.wf (.symbolLock i) = true := ⟨decide_eq_true hi, decide_eq_true hi⟩
    have lost {t : State} (he : linkDegradedAct i.toNat s = t) : exec (.linkDegraded i) s = .next t.settle :=
      checked_answers hwf.1 (onPage_answers hs he)
    have gained {t : State} (he : symbolLockAct i.toNat s = t) : exec (.symbolLock i) s = .next t.settle :=
      checked_answers hwf.2 (onPage_answers hs he)
    refine ⟨fun h => lost (linkDegradedAct_dark h), fun h hu => lost (linkDegradedAct_unused h rfl hu),
      fun h hu => ⟨fun ho => lost (linkDegradedAct_degraded h rfl hu ho), fun ho => ⟨fun hp => ?_, fun hp => ?_⟩⟩,
      fun h => gained (symbolLockAct_locked h), fun h => ?_⟩
    · exact lost ((linkDegradedAct_down h rfl ho).trans (State.portDown_child hu hp))
    · refine lost ((linkDegradedAct_down h rfl ho).trans ?_)
      rw [hp] at hu ⊢
      exact State.portDown_parent hu
    · have hact := symbolLockAct_gains hi h
      exact ⟨fun hp hup => gained (hact.trans ((if_pos hp).trans (if_pos (by simpa using hup)))),
        fun hp hup => gained (hact.trans ((if_pos hp).trans (if_neg (by simpa using hup)))),
        fun hp => gained (hact.trans (if_neg hp))⟩
  case gov =>
    have hwf : Instr.wf (.govConfigWrite a r v) = true := bne_iff_ne.mpr hr
    exact ⟨fun hb => checked_answers hwf (rowWrite_answers ht ((govConfigAct_eq hr v).trans (if_pos hb))),
      fun hb => checked_answers hwf (rowWrite_answers ht ((govConfigAct_eq hr v).trans (if_neg (ne_true_of_eq_false hb))))⟩

end Sys2Proof
end

section
/-!
PROOFS. The ceiling VGOV, reports and plans of a constellation (R274 to R288).
-/

namespace Sys2Proof.Machine

/-! ### Bisection -/

section
variable {p : Nat → Bool} {v : Nat}

theorem le_bisect (n lo : Nat) : lo ≤ bisect p n lo := by
  induction n generalizing lo with
  | zero => unfold bisect; split <;> omega
  | succ n ih =>
    unfold bisect
    split
    · exact ih lo
    · exact (Nat.le_add_right lo _).trans (ih _)

/-- A bisection goes beyond what its condition does not hold for. -/
theorem lt_bisect {n lo : Nat} (h : ∀ x ≤ v, p x = false) (hv : v < lo + 2 ^ n) : v < bisect p n lo := by
  induction n generalizing lo with
  | zero =>
    unfold bisect
    split
    · rename_i hp
      by_contra hlo
      exact absurd hp (ne_true_of_eq_false (h lo (Nat.le_of_not_lt hlo)))
    · simpa using hv
  | succ n ih =>
    unfold bisect
    split
    · rename_i hp
      refine ih ?_
      by_contra hlo
      exact absurd hp (ne_true_of_eq_false (h _ (by omega)))
    · refine ih ?_
      rw [pow_succ] at hv
      omega

/-- A bisection stops where its condition holds from there on. -/
theorem bisect_le {n lo : Nat} (h : ∀ x, v ≤ x → p x = true) (hv : lo ≤ v) : bisect p n lo ≤ v := by
  induction n generalizing lo with
  | zero =>
    unfold bisect
    split
    · exact hv
    · rename_i hp
      by_contra hlo
      exact hp (h lo (by omega))
  | succ n ih =>
    unfold bisect
    split
    · exact ih hv
    · rename_i hp
      refine ih ?_
      by_contra hlo
      exact hp (h _ (by omega))

end

/-! ### The ceiling VGOV (R280) -/

section
variable {j acc room : Int} {m v : Nat}

/-- A velocity that the search finds is none or one that meets its condition, and no larger than where it began. -/
theorem segMost_spec (fuel v : Nat) :
    segMost j acc room m fuel v ≤ v ∧
      (segMost j acc room m fuel v = 0 ∨ segOk j acc room m (segMost j acc room m fuel v) = true) := by
  induction fuel generalizing v with
  | zero => exact ⟨Nat.zero_le v, Or.inl rfl⟩
  | succ fuel ih =>
    have below {u : Nat} (hu : u ≤ v) : segMost j acc room m fuel u ≤ v ∧
        (segMost j acc room m fuel u = 0 ∨ segOk j acc room m (segMost j acc room m fuel u) = true) :=
      ⟨(ih u).1.trans hu, (ih u).2⟩
    unfold segMost
    split
    · exact ⟨Nat.zero_le v, Or.inl rfl⟩
    · extract_lets t lo r
      split
      · split
        · rename_i hr
          rw [Bool.and_eq_true, decide_eq_true_eq] at hr
          exact ⟨hr.1, Or.inr hr.2⟩
        · exact below (Nat.sub_le v 1)
      · exact below (by omega)

theorem segBest_spec (v : Nat) :
    segBest j acc room m v ≤ v ∧
      (segBest j acc room m v = 0 ∨ segOk j acc room m (segBest j acc room m v) = true) := by
  rw [segBest]
  obtain ⟨hle, hok⟩ := segMost_spec (j := j) (acc := acc) (room := room) (m := m) (v + 1)
    (min v (bisect (fun x => !roomFor room (dvLeast acc x m) x) 23 0 - 1))
  exact ⟨hle.trans (min_le_left _ _), hok⟩

/-- Room for a velocity is room for every smaller one. -/
theorem roomFor_mono {room' d : Int} {u : Nat} (h : roomFor room d v = true) (hu : u ≤ v) (hr : room ≤ room') :
    roomFor room' d u = true := by
  simp only [roomFor, decide_eq_true_eq] at h ⊢
  omega

theorem segOk_below {u : Nat} (h : roomFor room 0 v = true) (hu : u ≤ v) (hm : v ≤ m) : segOk j acc room m u = true := by
  rw [segOk, dvRun, if_pos (hu.trans hm)]
  exact roomFor_mono h hu le_rfl

/-- Where no velocity need be lost, the search ends where it began. -/
theorem segBest_free (h : roomFor room 0 v = true) (hm : v ≤ m) (hv : v < 2 ^ 23) : segBest j acc room m v = v := by
  have htop : v ≤ bisect (fun x => !roomFor room (dvLeast acc x m) x) 23 0 - 1 :=
    Nat.le_sub_one_of_lt (lt_bisect (fun x hx => by
      rw [dvLeast, if_pos (hx.trans hm), roomFor_mono h hx le_rfl, Bool.not_true]) (by omega))
  rw [segBest, Nat.min_eq_left htop, segMost]
  split
  · rename_i h0; exact h0.symm
  · have ht : (dvRun j acc v m).1 = 0 := by rw [dvRun, if_pos hm]
    have hlo : bisect (fun x => decide ((dvRun j acc v m).1 ≤ (dvRun j acc x m).1)) 23 0 = 0 :=
      Nat.le_zero.mp (bisect_le (fun x _ => by rw [ht, decide_eq_true (Nat.zero_le _)]) le_rfl)
    have hr : bisect (fun x => decide (v < x) || !segOk j acc room m x) 23 0 = v + 1 :=
      le_antisymm (bisect_le (fun x hx => by rw [decide_eq_true (Nat.lt_of_succ_le hx), Bool.true_or]) (Nat.zero_le _))
        (lt_bisect (fun x hx => by
          rw [decide_eq_false (Nat.not_lt.mpr hx), segOk_below h hx hm]; rfl) (by omega))
    simp only [hlo, hr, segOk_below h (Nat.zero_le v) hm, segOk_below h le_rfl hm, Nat.add_sub_cancel, le_refl, decide_true,
      Bool.and_self, if_true]

end

section
variable {best : Nat → Nat → Nat}

/-- One pass over conditions that only lower a velocity, and what it leaves where it changes nothing. -/
theorem foldl_best_le (h : ∀ i v, best i v ≤ v) (l : List Nat) (v : Nat) : l.foldl (fun v i => best i v) v ≤ v := by
  induction l generalizing v with
  | nil => exact le_rfl
  | cons i l ih => exact (ih _).trans (h i v)

theorem best_of_foldl_eq (h : ∀ i v, best i v ≤ v) {l : List Nat} {v : Nat} (hl : l.foldl (fun v i => best i v) v = v) :
    ∀ i ∈ l, best i v = v := by
  induction l with
  | nil => nofun
  | cons i l ih =>
    have hi : best i v = v := le_antisymm (h i v) (hl.symm.le.trans (foldl_best_le h l _))
    rw [List.foldl_cons, hi] at hl
    exact List.forall_mem_cons.mpr ⟨hi, ih hl⟩

/-- Passes that only lower a velocity end, and then every condition keeps it. -/
theorem segAll_spec (h : ∀ i v, best i v ≤ v) (n : Nat) {fuel v : Nat} (hv : v < fuel) :
    segAll best n fuel v ≤ v ∧ ∀ i < n, best i (segAll best n fuel v) = segAll best n fuel v := by
  induction fuel generalizing v with
  | zero => omega
  | succ fuel ih =>
    unfold segAll
    extract_lets v'
    have hle : v' ≤ v := foldl_best_le h _ v
    split
    · rename_i he
      exact ⟨le_rfl, fun i hi => best_of_foldl_eq h he i (List.mem_range.mpr hi)⟩
    · rename_i hne
      obtain ⟨h1, h2⟩ := ih (v := v') (by omega)
      exact ⟨h1.trans hle, h2⟩

theorem segAll_fixed {n v : Nat} (h : ∀ i < n, best i v = v) (fuel : Nat) : segAll best n fuel v = v := by
  have hpass : (List.range n).foldl (fun v i => best i v) v = v :=
    List.foldlRecOn (motive := fun u => u = v) _ _ rfl fun u hu i hi => by rw [hu, h i (List.mem_range.mp hi)]
  cases fuel with
  | zero => rfl
  | succ fuel => unfold segAll; exact if_pos hpass

end

section
variable {j acc p s0 : Int} {k : Nat} {ms : List Nat} {creep : Nat} {m : Nat → Nat}
  (hm : ∀ i, (if i = 128 then creep else ms.getD i noLimit) = m i)
include hm

theorem vgov_eq : vgov j acc k s0 p ms creep =
    max 1 (segAll (fun i v => segBest j acc ((s0 + 1 + (i : Int)) * 2 ^ k - p) (m (i + 1)) v) 128 (noLimit + 1) (min noLimit (m 0))) := by
  simp only [vgov, hm]

/-- The ceiling is 1, or a velocity that every condition of R280 allows. -/
theorem vgov_allowed :
    vgov j acc k s0 p ms creep = 1 ∨
      (vgov j acc k s0 p ms creep ≤ noLimit ∧ vgov j acc k s0 p ms creep ≤ m 0 ∧
        ∀ i : Nat, i < 128 → roomFor ((s0 + 1 + (i : Int)) * 2 ^ k - p)
          (dvRun j acc (vgov j acc k s0 p ms creep) (m (i + 1))).2 (vgov j acc k s0 p ms creep) = true) := by
  obtain ⟨hle, hkeep⟩ := segAll_spec (best := fun i v => segBest j acc ((s0 + 1 + (i : Int)) * 2 ^ k - p) (m (i + 1)) v)
    (fun i v => (segBest_spec v).1) 128 (fuel := noLimit + 1) (v := min noLimit (m 0))
    (Nat.lt_succ_of_le (min_le_left _ _))
  rw [vgov_eq hm]
  generalize segAll _ 128 (noLimit + 1) (min noLimit (m 0)) = r at hle hkeep ⊢
  obtain h1 | h1 := le_or_gt r 1
  · exact Or.inl (Nat.max_eq_left h1)
  · rw [Nat.max_eq_right h1.le]
    refine Or.inr ⟨hle.trans (min_le_left _ _), hle.trans (min_le_right _ _), fun i hi => ?_⟩
    have hok := (segBest_spec (j := j) (acc := acc) (room := (s0 + 1 + (i : Int)) * 2 ^ k - p) (m := m (i + 1)) r).2
    rw [hkeep i hi] at hok
    exact hok.resolve_left (by omega)

/-- Where the first bound loses nothing, it is the ceiling. -/
theorem vgov_free (hall : ∀ i : Nat, i ≤ 128 → min noLimit (m 0) ≤ m i)
    (hroom : roomFor ((s0 + 1) * 2 ^ k - p) 0 (min noLimit (m 0)) = true) :
    vgov j acc k s0 p ms creep = max 1 (min noLimit (m 0)) := by
  rw [vgov_eq hm, segAll_fixed fun i hi => ?_]
  refine segBest_free (roomFor_mono hroom le_rfl ?_) (hall (i + 1) hi) (Nat.lt_of_le_of_lt (min_le_left _ _) (by decide))
  have hi0 : (0 : Int) ≤ i * 2 ^ k := by positivity
  rw [add_mul (s0 + 1)]
  omega

end

/-! ### Reports (R288) -/

section
variable {s : State}

theorem State.sendCst_gov (port type : Nat) (rest : List Byte) : (s.sendCst port type rest).gov = s.gov := by
  unfold State.sendCst
  split
  · rfl
  · extract_lets seq
    obtain ⟨r, o, d, h⟩ := State.sendMsg_encodes (s := { s with cst := { s.cst with tx := sput 0 s.cst.tx port ((seq + 1) % 65536) } })
      [8 + 2 * port, 9 + 2 * port] ([BitVec.ofNat 8 type, 0] ++ leBytes 2 seq ++ rest)
    rw [h]

theorem State.sendDown_gov (type : Nat) (rest : List Byte) : (s.sendDown type rest).gov = s.gov := by
  rw [State.sendDown, State.sendCst_gov, State.sendCst_gov]

theorem State.planStart_gov : s.planStart.2.gov = s.gov := by
  unfold State.planStart
  split_ifs <;> rfl

/-- What a plan step leaves in the governor. -/
theorem State.planStep_gov :
    s.planStep.gov =
      { s.gov with
        next := some (vgov (if s.gen.st = 0 then (s.gen.jerk : Int) else s.gen.mj) s.gen.accI s.gov.segLog2 s.gov.ownBase
          s.gov.pos s.gov.red s.gov.vel0),
        base := s.gen.y / 2 ^ 32 / 2 ^ s.rf Reg.GOV_CTL 16 5, segLog2 := s.rf Reg.GOV_CTL 16 5, waiting := false } := by
  rw [State.planStep, State.bump_gov, State.sendDown_gov]

theorem State.reportsReady_ends (hw : s.gov.waiting = true) (hg : s.kids.all Child.got = true) :
    s.reportsReady = s.finishReports := by
  rw [State.reportsReady, hw, hg]; rfl

theorem State.reportsReady_waits (h : s.gov.waiting = false ∨ s.kids.all Child.got = false) : s.reportsReady = s := by
  rw [State.reportsReady]
  obtain h | h := h
  · rw [h]; rfl
  · rw [h, Bool.and_false]; rfl

theorem State.costHits_exposing {c row : Nat} {hits : List SramHit} (h : s.exposing = some c) :
    s.costHits hits row = (s.meets hits c row).2 := by
  simp only [State.costHits, h]

theorem State.costHits_idle {row : Nat} {hits : List SramHit} (h : s.exposing = none) : s.costHits hits row = s := by
  simp only [State.costHits, h]

/-- A value of a segment is the smallest of the device's own and those of its children. -/
theorem State.reduced_getD {i : Nat} (hi : i < s.gov.own.length) :
    s.reduced.getD i 0 =
      (s.kids.map fun k => k.value s.gov.vel0 (s.gov.ownBase + (i : Int))).foldl min (s.gov.own.getD i 0) := by
  simp [State.reduced, List.foldl_map, hi]

theorem State.length_reduced : s.reduced.length = s.gov.own.length := by
  simp [State.reduced]

/-- The least of a start and a list. -/
theorem foldl_min_spec (l : List Nat) (a : Nat) :
    l.foldl min a ≤ a ∧ (∀ b ∈ l, l.foldl min a ≤ b) ∧ (l.foldl min a = a ∨ l.foldl min a ∈ l) := by
  induction l generalizing a with
  | nil => exact ⟨le_rfl, nofun, Or.inl rfl⟩
  | cons b l ih =>
    obtain ⟨h1, h2, h3⟩ := ih (min a b)
    refine ⟨h1.trans (min_le_left _ _), List.forall_mem_cons.mpr ⟨h1.trans (min_le_right _ _), h2⟩, ?_⟩
    rw [List.foldl_cons, List.mem_cons]
    obtain h3 | h3 := h3
    · rw [h3]
      obtain h | h := min_choice a b
      · exact Or.inl h
      · exact Or.inr (Or.inl h)
    · exact Or.inr (Or.inr h3)

/-- The state at the end of a reduction, before its plan or report is sent. -/
def State.reduces (s : State) : State :=
  { s with
    gov := { s.gov with
      red := if s.conductor || (s.cst.joined && s.portUp 0) then s.reduced else s.gov.red,
      redBase := if s.conductor || (s.cst.joined && s.portUp 0) then s.gov.ownBase else s.gov.redBase, waiting := false },
    cst := { s.cst with expAll := s.kids.any Child.exp || (s.role != 0 && s.expo.isSome) } }

/-- The body of a report with the flag `exp` and the values `vals`. -/
def State.reportBytes (s : State) (exp : Bool) (vals : List Nat) : List Byte :=
  leBytes 4 s.cst.cycle ++ intBytes 4 s.gov.ownBase ++ leBytes 2 (1 + (s.kids.map Child.members).sum) ++
    [BitVec.ofNat 8 (b2n exp + 2 * b2n ((s.kid 0).lost || (s.kid 1).lost)), 0] ++ vals.flatMap (leBytes 4)

theorem State.finishReports_eq :
    s.finishReports =
      if s.conductor = true then s.reduces.planStep
      else if (!s.cst.joined) = true then s.reduces
      else s.reduces.sendCst 0 0x30
        (s.reportBytes (s.kids.any Child.exp || (s.role != 0 && s.expo.isSome)) s.reduces.gov.red) := rfl

theorem State.red_finishReports_sends (h : s.conductor = true ∨ (s.cst.joined = true ∧ s.portUp 0 = true)) :
    s.finishReports.gov.red = s.reduced := by
  have hs : (s.conductor || (s.cst.joined && s.portUp 0)) = true := by
    obtain h | ⟨h1, h2⟩ := h
    · rw [h, Bool.true_or]
    · rw [h1, h2, Bool.and_self, Bool.or_true]
  have hred : s.reduces.gov.red = s.reduced := if_pos hs
  rw [State.finishReports_eq]
  split
  · rw [State.planStep_gov]; exact hred
  · split
    · exact hred
    · rw [State.sendCst_gov]; exact hred

theorem State.finishReports_alone (hc : s.conductor = false) (hj : s.cst.joined = false) :
    s.finishReports.gov.red = s.gov.red ∧ s.finishReports.gov.waiting = false := by
  rw [State.finishReports_eq, hc, hj, if_neg Bool.false_ne_true, Bool.not_false, if_pos rfl]
  exact ⟨if_neg (by rw [hc, hj]; nofun), rfl⟩

theorem State.finishReports_member (hc : s.conductor = false) (hj : s.cst.joined = true) (hp : s.portUp 0 = true) :
    s.finishReports =
      ({ s with
        gov := { s.gov with red := s.reduced, redBase := s.gov.ownBase, waiting := false },
        cst := { s.cst with expAll := s.kids.any Child.exp || (s.role != 0 && s.expo.isSome) } } : State).sendCst 0 0x30
        (s.reportBytes (s.kids.any Child.exp || (s.role != 0 && s.expo.isSome)) s.reduced) := by
  have hs : (s.conductor || (s.cst.joined && s.portUp 0)) = true := by rw [hj, hp, Bool.and_self, Bool.or_true]
  rw [State.finishReports_eq, hc, hj, if_neg Bool.false_ne_true, Bool.not_true, if_neg Bool.false_ne_true, State.reduces,
    if_pos hs, if_pos hs]

theorem Child.value_within {k : Child} {creep : Nat} {seg : Int} (h0 : 0 ≤ seg - k.base) (h1 : seg - k.base < 128) :
    k.value creep seg = k.vals.getD (seg - k.base).toNat creep := by
  rw [Child.value]; exact if_pos ⟨h0, h1⟩

theorem Child.value_outside {k : Child} {creep : Nat} {seg : Int} (h : seg - k.base < 0 ∨ 128 ≤ seg - k.base) :
    k.value creep seg = creep := by
  rw [Child.value]; exact if_neg (by omega)

theorem Child.length_reflects (k : Child) (c members : Nat) :
    (k.reflects c members).granted.length ≤ k.granted.length - (members - k.members) := by
  rw [← List.length_drop]
  exact List.length_filter_le _ _

theorem Child.mem_reflects {k : Child} {c members : Nat} {g : Nat × Nat} (h : g ∈ (k.reflects c members).granted) :
    g ∈ k.granted ∧ 2 ^ 31 ≤ (c + 2 ^ 32 - g.2) % 2 ^ 32 := by
  obtain ⟨hd, hg⟩ := List.mem_filter.mp h
  exact ⟨List.mem_of_mem_drop hd, of_decide_eq_true hg⟩

section
variable {port : Bool} {rx : Rx} {w : Nat × Nat}

/-- The flags of a report are its bits 0 and 1. -/
theorem mod_two_beq_one (n : Nat) : (n % 2 == 1) = n.testBit 0 := by
  rw [Nat.testBit_zero, beq_eq_decide]

theorem div_two_mod_two_beq_one (n : Nat) : (n / 2 % 2 == 1) = n.testBit 1 := by
  rw [Nat.testBit_succ, mod_two_beq_one]

section
variable (hl : rx.body.length = 528) (h : Arrives s (kidPort port) 0x30 rx w)
include hl h

theorem reportAct_away (hj : (s.kid (kidPort port - 1)).joined = false) : reportAct port rx s = s.took (kidPort port) w := by
  rw [reportAct, State.receive_arrives hl h]
  refine if_pos ?_
  rw [show (s.took (kidPort port) w).kid (kidPort port - 1) = s.kid (kidPort port - 1) from rfl, hj]
  rfl

/-- A report of a joined child: it becomes the child's latest, a new LOST is raised on the conductor, and the wait may end. -/
theorem reportAct_joined (hj : (s.kid (kidPort port - 1)).joined = true) {s2 : State} {lost : Bool}
    (hlost : (bodyNat rx.body 14 1).testBit 1 = lost)
    (h2 : (s.took (kidPort port) w).setKid (kidPort port - 1)
      { (s.kid (kidPort port - 1)).reflects (bodyNat rx.body 4 4) (bodyNat rx.body 12 2) with
        members := bodyNat rx.body 12 2, base := bodyInt rx.body 8 4,
        vals := (List.range 128).map fun i => bodyNat rx.body (16 + 4 * i) 4 % 2 ^ 23,
        exp := (bodyNat rx.body 14 1).testBit 0, lost := lost, rep := some (bodyNat rx.body 4 4),
        got := (s.kid (kidPort port - 1)).got || (bodyNat rx.body 4 4 == s.cst.cycle),
        missed := if bodyNat rx.body 4 4 == s.cst.cycle then 0 else (s.kid (kidPort port - 1)).missed } = s2) :
    reportAct port rx s =
      (if (s.conductor && lost && !(s.kid (kidPort port - 1)).lost) = true then
        (s2.setReg Reg.CST_LOST_PORT (w32 (kidPort port - 1 + 1))).raise Ev.CST_LOSS (kidPort port - 1 + 1)
      else s2).reportsReady := by
  have hk : (s.took (kidPort port) w).kid (kidPort port - 1) = s.kid (kidPort port - 1) := rfl
  have hcy : (s.took (kidPort port) w).cst.cycle = s.cst.cycle := rfl
  have hco : (s.took (kidPort port) w).conductor = s.conductor := rfl
  rw [reportAct, State.receive_arrives hl h]
  subst hlost h2
  simp only [hk, hcy, hco, hj, Rx.nat, Rx.int, mod_two_beq_one (bodyNat rx.body 14 1),
    div_two_mod_two_beq_one (bodyNat rx.body 14 1), Bool.not_true, Bool.false_eq_true, if_false]

end

theorem planAct_arrives (hl : rx.body.length = 20) (hr : s.role = 2) (h : Arrives s 0 0x31 rx w) :
    planAct rx s =
      if s.cst.joined = true then
        (({ s.took 0 w with
          gov := { (s.took 0 w).gov with
            ceil := bodyNat rx.body 16 4 % 2 ^ 23, base := bodyInt rx.body 8 4, segLog2 := bodyNat rx.body 12 1 }
          cst := { (s.took 0 w).cst with gotPlan := true, planMiss := 0 } } : State).sendDown 0x31 (rx.body.drop 4)).bump
          Reg.GOV_CYCLES
      else s.took 0 w := by
  have hr' : (s.took 0 w).role = 2 := hr
  have hj : (s.took 0 w).cst.joined = s.cst.joined := rfl
  rw [planAct, State.receive_arrives hl h, hr', hj]
  cases s.cst.joined <;> rfl

end

theorem reportTimeoutAct_idle (h : s.gov.waiting = false) : reportTimeoutAct s = s := by
  rw [reportTimeoutAct, h]; rfl

theorem reportTimeoutAct_ends (h : s.gov.waiting = true) :
    reportTimeoutAct s = (s.addCnt Reg.CST_STALE (s.kids.filter fun k => !k.got).length).finishReports := by
  rw [reportTimeoutAct, h]; rfl

end

end Sys2Proof.Machine

namespace Sys2Proof

open Machine

/-- Settles O32: the plan cycle, the ceiling by the conditions of R280, the reduction as a minimum, and the messages. -/
theorem plansAreReducedAndPassedDown : Obligations.PlansAreReducedAndPassedDown := by
  unfold Obligations.PlansAreReducedAndPassedDown
  refine ⟨fun s0 hits row hwf hs => ?cycle, fun s => ⟨State.reportsReady_ends, State.reportsReady_waits⟩,
    fun s c row hits => ⟨State.costHits_exposing, State.costHits_idle⟩, fun s => ?step,
    fun s k base => ⟨rfl, rfl, rfl, rfl, rfl⟩, fun s i hs hi => ?least,
    fun k creep seg => ⟨Child.value_within, Child.value_outside⟩, fun s hc hj hp => State.finishReports_member hc hj hp,
    fun k c members => ⟨k.length_reflects c members, fun g hg => Child.mem_reflects hg⟩,
    fun j acc p s0 k ms creep => vgov_allowed fun i => rfl, fun j acc p s0 k ms creep => vgov_free fun i => rfl,
    fun s => State.finishReports_alone, fun s port rx w hl hs h => ?report,
    fun s hs => ⟨fun h => onPage_answers hs (reportTimeoutAct_idle h), fun h => onPage_answers hs (reportTimeoutAct_ends h)⟩,
    fun s rx w hl hs hr h => ?plan⟩
  case cycle => exact checked_answers hwf (onPage_answers hs (planCycleAct.eq_1 hits row.toNat s0))
  case step =>
    rw [State.planStep_gov]
    exact ⟨rfl, rfl, rfl, rfl⟩
  case least =>
    rw [State.red_finishReports_sends hs, State.reduced_getD hi]
    obtain ⟨h1, h2, h3⟩ := foldl_min_spec (s.kids.map fun k => k.value s.gov.vel0 (s.gov.ownBase + (i : Int))) (s.gov.own.getD i 0)
    refine ⟨State.length_reduced, h1, fun k hk => h2 _ (List.mem_map_of_mem hk), h3.imp_right fun hmem => ?_⟩
    obtain ⟨k, hk, he⟩ := List.mem_map.mp hmem
    exact ⟨k, hk, he.symm⟩
  case report =>
    intro s1 c k members exp lost cycle now s2
    have ans {t : State} (he : reportAct port rx s = t) : exec (.report port rx) s = .next t.settle :=
      checked_answers (Rx.fits_of_type h.2.2.2.1) (onPage_answers hs he)
    refine ⟨fun hj => ans (reportAct_away hl h hj), fun hj => ?_⟩
    have hact := reportAct_joined hl h hj (lost := lost) (s2 := s2) rfl rfl
    refine ⟨fun hn => ans (hact.trans (congrArg State.reportsReady (if_neg ?_))), fun hc hlost hk =>
      ans (hact.trans (congrArg State.reportsReady (if_pos ?_)))⟩
    · obtain hn | hn | hn := hn
      · rw [hn]; nofun
      · rw [hn, Bool.and_false]; nofun
      · rw [show (s.kid (kidPort port - 1)).lost = true from hn, Bool.not_true, Bool.and_false]; nofun
    · rw [hc, hlost, show (s.kid (kidPort port - 1)).lost = false from hk]; rfl
  case plan =>
    have ans {t : State} (he : planAct rx s = t) : exec (.plan rx) s = .next t.settle :=
      checked_answers (Rx.fits_of_type h.2.2.2.1) (onPage_answers hs he)
    have hact := planAct_arrives hl hr h
    exact ⟨fun hj => ans (hact.trans (if_neg (ne_true_of_eq_false hj))), fun hj => ans (hact.trans (if_pos hj))⟩

end Sys2Proof
end

section
/-!
PROOFS. Top-ups, adoptions and the held records of the ledger (R299 to R320).
-/

namespace Sys2Proof.Machine

/-! ### GENERATE (R306, R310) -/

theorem decide_ne_eq_bne {α : Type} [DecidableEq α] (a b : α) : decide (a ≠ b) = (a != b) := by
  by_cases h : a = b <;> simp [h]

section
variable {s : State}

theorem isSome_of_job (h : s.ledger.job ≠ none) : s.ledger.job.isSome = true := Option.isSome_iff_ne_none.mpr h

section
variable {src target : Nat}

theorem generateAct_busy (h : s.ledger.job ≠ none) :
    generateAct src target s = s.raise Ev.LDG_IGNORED (offDetail Reg.LDG_CMD) := by
  rw [generateAct, if_pos (isSome_of_job h)]; rfl

/-- The source and target that GENERATE takes. -/
def State.generateBars (s : State) (src target : Nat) : Bool :=
  !s.givesRecords src || (s.ctx src).side.topup || (s.ctx target).st != 0 || s.loadingAny

theorem generateAct_idle (h : s.ledger.job = none) :
    generateAct src target s =
      if s.generateBars src target = true then (s.resStart Reg.LDG_RESULT).ldgDone 2 0 0 0
      else if 15 < (s.ctx src).side.genMax + 1 then (s.resStart Reg.LDG_RESULT).ldgDone 3 0 0 0
      else if (s.openOnly src).isEmpty = true then (s.resStart Reg.LDG_RESULT).ldgDone 1 0 0 0
      else (s.resStart Reg.LDG_RESULT).takeRecords src target (s.openOnly src) := by
  have hb : (!s.givesRecords src || (s.ctx src).side.topup || decide ((s.ctx target).st ≠ 0) || s.loadingAny) =
      s.generateBars src target := by
    rw [State.generateBars, decide_ne_eq_bne]
  rw [generateAct, h, Option.isSome_none, if_neg Bool.false_ne_true, hb]

end

/-! ### The end of a GENERATE -/

theorem generateDoneAct_idle (h : s.ledger.job = none) : generateDoneAct s = s := by
  unfold generateDoneAct; rw [h]

section
variable {j : LdgJob} (h : s.ledger.job = some j)
include h

theorem generateDoneAct_other (ho : j.op ≠ 1) : generateDoneAct s = s := by
  unfold generateDoneAct; rw [h]; exact if_pos ho

/-- A GENERATE ends with nothing taken or with its target built. -/
theorem generateDoneAct_ends (ho : j.op = 1) {s0 : State} (h0 : { s with ledger := { s.ledger with job := none } } = s0) :
    generateDoneAct s =
      if (!(s.ctx j.target).side.topup) = true then
        ((s0.ledgerReads j.src j.ids).setCtx j.target Ctx.reset).ldgDone 1 0 (s.ctx j.target).side.inGen j.count
      else
        ((((s0.keepLedger j.src j.target (s.ctx j.target).side.inGen).reconRead j.src (s.ctx j.target).side.bLo
          (s.ctx j.target).side.bHi).setCtxSt j.target 2).setReg Reg.LDG_RANGE
            (pack [(15, (s.ctx j.target).side.bHi), (0, (s.ctx j.target).side.bLo)])).ldgDone
          0 (s.ctx j.target).side.gen (s.ctx j.target).side.inGen j.count := by
  unfold generateDoneAct
  split
  case h_2 hn => cases hn.symm.trans h
  case h_1 j' h' =>
    obtain rfl := Option.some.inj (h'.symm.trans h)
    subst h0
    exact if_neg (not_not.mpr ho)

theorem adoptDoneAct_ends (ho : j.op = 2 ∨ j.op = 3) {s0 : State} (h0 : { s with ledger := { s.ledger with job := none } } = s0) :
    adoptDoneAct s = ((if j.op = 2 then s0.adoptMove j else s0).endAdoptions).ldgDone 0 0 0 j.count := by
  unfold adoptDoneAct
  split
  case h_2 hn => cases hn.symm.trans h
  case h_1 j' h' =>
    obtain rfl := Option.some.inj (h'.symm.trans h)
    subst h0
    exact if_neg (by omega)

theorem State.adoptEarly_source {c : Nat} (ho : j.op = 2) (hc : j.src = c) :
    s.adoptEarly c = { s.adoptMove j with ledger := { (s.adoptMove j).ledger with job := some { j with op := 3 } } } := by
  unfold State.adoptEarly
  split
  case h_2 hn => cases hn.symm.trans h
  case h_1 j' h' =>
    obtain rfl := Option.some.inj (h'.symm.trans h)
    exact if_pos ⟨ho, hc⟩

end

theorem adoptDoneAct_keeps (h : (s.ledger.job.any fun j => j.op == 2 || j.op == 3) = false) : adoptDoneAct s = s := by
  unfold adoptDoneAct
  split
  case h_2 => rfl
  case h_1 j hj =>
    rw [hj, Option.any_some] at h
    exact if_pos (by simpa using h)

theorem State.adoptEarly_other {c : Nat} (h : (s.ledger.job.any fun j => j.op == 2 && j.src == c) = false) :
    s.adoptEarly c = s := by
  unfold State.adoptEarly
  split
  case h_2 => rfl
  case h_1 j hj =>
    rw [hj, Option.any_some] at h
    exact if_neg (by simpa using h)

/-! ### What a top-up reads of the ledger (R354) -/

theorem State.ledgerGet_usable {h line : Nat} (hu : (s.dramReadLine 7 line).1.usable = true) :
    s.ledgerGet h line = (some (s.dramReadLine 7 line).1.bytes, (s.dramReadLine 7 line).2) := by
  rw [State.ledgerGet]; exact if_pos hu

theorem State.ledgerGet_unusable {h line : Nat} (hu : (s.dramReadLine 7 line).1.usable = false) :
    s.ledgerGet h line =
      (none, ((s.dramReadLine 7 line).2.setCtx h
        { (s.dramReadLine 7 line).2.ctx h with
          side := { ((s.dramReadLine 7 line).2.ctx h).side with overflow := true } }).raiseCtx Ev.DRAM_LEDGER_MEM 0 h) := by
  rw [State.ledgerGet]; exact if_neg (ne_true_of_eq_false hu)

section
variable {h g i : Nat} {a : SnapRead}

theorem State.readSnapLine_read {bytes : List Byte} (hr : (s.ledgerGet h (s.snapAddr h g / 64 + i)).1 = some bytes) :
    s.readSnapLine h g i a =
      ({ a with words := snapWords (8192 * g + 16 * i) bytes ++ a.words }, (s.ledgerGet h (s.snapAddr h g / 64 + i)).2) := by
  simp only [State.readSnapLine, hr]

theorem State.readSnapLine_bad (hr : (s.ledgerGet h (s.snapAddr h g / 64 + i)).1 = none) :
    s.readSnapLine h g i a = ({ a with bad := i :: a.bad }, (s.ledgerGet h (s.snapAddr h g / 64 + i)).2) := by
  simp only [State.readSnapLine, hr]

end

section
variable {src target g i : Nat}

theorem State.copySnapLine_read {bytes : List Byte} (hr : (s.ledgerGet src (s.snapAddr src g / 64 + i)).1 = some bytes) :
    s.copySnapLine src target g i =
      (s.ledgerGet src (s.snapAddr src g / 64 + i)).2.dramPut 6 (64 * (s.snapAddr target g / 64 + i)) bytes := by
  simp only [State.copySnapLine, hr]

theorem State.copySnapLine_bad (hr : (s.ledgerGet src (s.snapAddr src g / 64 + i)).1 = none) :
    s.copySnapLine src target g i =
      ((s.ledgerGet src (s.snapAddr src g / 64 + i)).2.portRaise 6).dramStore (s.snapAddr target g / 64 + i) 1
        ((s.ledgerGet src (s.snapAddr src g / 64 + i)).2.dramPeek (s.snapAddr src g + 64 * i) 64) := by
  simp only [State.copySnapLine, hr]

end

section
variable {c d x y : Nat}

theorem State.lambdaMask_dark (h : (s.ctx c).side.blind = true ∨ x / 16 ∈ (s.ctx c).side.snapBad) : s.lambdaMask c d x y = 0 := by
  rw [State.lambdaMask]
  exact if_pos (by simpa using h)

theorem State.lambdaMask_known (hb : (s.ctx c).side.blind = false) (hx : x / 16 ∉ (s.ctx c).side.snapBad) :
    s.lambdaMask c d x y = s.inputMask c (s.sourceOf c) d x y 15 (s.ctx c).side.gen := by
  rw [State.lambdaMask]
  exact if_neg (by simp [hb, hx])

end

/-! ### ADOPT (R316, R320) -/

section
variable {src target : BitVec 7}

theorem adoptAct_busy {src target : Nat} (h : s.ledger.job ≠ none) :
    adoptAct src target s = s.raise Ev.LDG_IGNORED (offDetail Reg.LDG_CMD) := by
  rw [adoptAct, if_pos (isSome_of_job h)]; rfl

/-- The target is no READY context like the source. -/
def State.adoptDiffers (s : State) (src target : BitVec 7) : Bool :=
  let x := s.ctx src.toNat
  let y := s.ctx target.toNat
  y.st != 2 || y.side.topup || src == target || y.d.bands != x.d.bands || y.d.heal != x.d.heal || y.d.onTime != x.d.onTime ||
    y.d.level != x.d.level

theorem adoptAct_idle (h : s.ledger.job = none) {ids : List Nat}
    (hi : (s.ledger.recs.filter fun r => !r.old && r.ctx == src.toNat && s.inRing r).map Rec.id = ids) :
    adoptAct src.toNat target.toNat s =
      if (!s.givesRecords src.toNat || s.ledger.recs.any fun r => r.ctx == src.toNat && r.st == 3) = true then
        (s.resStart Reg.LDG_RESULT).ldgDone 2 0 0 0
      else if s.adoptDiffers src target = true then (s.resStart Reg.LDG_RESULT).ldgDone 4 0 0 0
      else { s.resStart Reg.LDG_RESULT with ledger := { s.ledger with job := some ⟨2, src.toNat, target.toNat, ids, ids.length⟩ } } := by
  subst hi
  rw [adoptAct, h, Option.isSome_none, if_neg Bool.false_ne_true]
  simp only [State.adoptDiffers, decide_ne_eq_bne, beq_eq_decide (src) target, BitVec.toNat_inj, State.resStart_ledger]

end

/-! ### The contexts that adopt -/

/-- The ledger of records stays. -/
theorem State.holdsOpen_setCtx (c d : Nat) (x : Ctx) : (s.setCtx c x).holdsOpen d = s.holdsOpen d := rfl

/-- One context of the pass that ends adoptions. -/
def State.endAdoption (s : State) (c : Nat) : State :=
  if (s.ctx c).side.adopting && !s.holdsOpen c then
    s.setCtx c { s.ctx c with side := { (s.ctx c).side with adopting := false } }
  else s

theorem State.endAdoptions_eq : s.endAdoptions = (List.range 128).foldl State.endAdoption s := rfl

theorem State.holdsOpen_endAdoption (c d : Nat) : (s.endAdoption c).holdsOpen d = s.holdsOpen d := by
  unfold State.endAdoption; split <;> rfl

theorem State.adopting_endAdoption_same (c : Nat) :
    ((s.endAdoption c).ctx c).side.adopting = ((s.ctx c).side.adopting && s.holdsOpen c) := by
  unfold State.endAdoption
  split
  · rename_i h
    rw [Bool.and_eq_true, Bool.not_eq_true'] at h
    rw [ctx_setCtx_same, h.2, Bool.and_false]
  · rename_i h
    cases ha : (s.ctx c).side.adopting
    · rfl
    · rw [ha, Bool.true_and, Bool.not_eq_true', Bool.not_eq_false] at h
      rw [h]; rfl

theorem State.ctx_endAdoption_other {c d : Nat} (h : c ≠ d) : (s.endAdoption d).ctx c = s.ctx c := by
  unfold State.endAdoption
  split
  · exact ctx_setCtx_other s _ h
  · rfl

theorem State.adopting_endAdoptions_of (l : List Nat) (c : Nat) :
    ((l.foldl State.endAdoption s).ctx c).side.adopting =
      if c ∈ l then (s.ctx c).side.adopting && s.holdsOpen c else (s.ctx c).side.adopting := by
  induction l generalizing s with
  | nil => rfl
  | cons d l ih =>
    rw [List.foldl_cons, ih, State.holdsOpen_endAdoption]
    by_cases hd : c = d
    · subst hd
      rw [State.adopting_endAdoption_same, if_pos List.mem_cons_self, Bool.and_assoc, Bool.and_self, ite_self]
    · rw [State.ctx_endAdoption_other hd]
      simp only [List.mem_cons, hd, false_or]

/-! ### Held records (R317) -/

section
variable {discard : Bool}

theorem heldAct_busy (h : s.ledger.job ≠ none) : heldAct discard s = s.raise Ev.LDG_IGNORED (offDetail Reg.LDG_CMD) := by
  rw [heldAct, if_pos (isSome_of_job h)]; rfl

section
variable (h : s.ledger.job = none)
include h

theorem heldAct_unnamed (hn : (s.ledger.recs.find? fun r => r.id == (s.reg Reg.LDG_ARG).toNat && s.inRing r) = none) :
    heldAct discard s = (s.resStart Reg.LDG_RESULT).ldgDone 5 0 0 0 := by
  simp only [heldAct, h, Option.isSome_none, Bool.false_eq_true, if_false, hn]

theorem heldAct_named {r : Rec}
    (hn : (s.ledger.recs.find? fun r => r.id == (s.reg Reg.LDG_ARG).toNat && s.inRing r) = some r) :
    heldAct discard s =
      if (r.st ≠ 2 || (!discard && sourceData r.cause)) = true then (s.resStart Reg.LDG_RESULT).ldgDone 5 0 0 0
      else ((s.resStart Reg.LDG_RESULT).changeRecs fun q => if q = r then { q with st := if discard then 5 else 1 } else q).ldgDone
        0 0 0 0 := by
  simp only [heldAct, h, Option.isSome_none, Bool.false_eq_true, if_false, hn]

end

end

/-! ### The command register, the tail and the area -/

theorem ldgCmdAct_noRow {v : Word} (h : fld v 0 3 = 0 ∨ 5 ≤ fld v 0 3) :
    ldgCmdAct v s = s.raise Ev.LDG_IGNORED (offDetail Reg.LDG_CMD) := by
  unfold ldgCmdAct
  split
  case h_5 => rfl
  all_goals omega

theorem ldgCmd_ne_tpCmd (p : Party) : Reg.LDG_CMD ≠ Reg.TP_CMD + bankOf p := by
  cases p <;> decide

/-- Whether TAIL may move over `n` records. -/
theorem ldgTailAct_ignored {v : Word} {n : Nat} {kept : Bool} (hn : idDiff s.ldgTail v.toNat = n)
    (hk : ((s.ledger.recs.filter fun r => idDiff s.ldgTail r.id < n && s.inRing r).any fun r => r.st != 4 && r.st != 5) = kept)
    (h : idDiff s.ldgTail s.ledger.head < n ∨ kept = true) :
    ldgTailAct v s = s.raise Ev.LDG_IGNORED (offDetail Reg.LDG_TAIL) := by
  subst hn hk
  rw [ldgTailAct]
  exact if_pos (by rwa [Bool.or_eq_true, decide_eq_true_eq])

theorem ldgTailAct_moves {v : Word} {n : Nat} {kept : Bool} (hn : idDiff s.ldgTail v.toNat = n)
    (hk : ((s.ledger.recs.filter fun r => idDiff s.ldgTail r.id < n && s.inRing r).any fun r => r.st != 4 && r.st != 5) = kept)
    (h1 : n ≤ idDiff s.ldgTail s.ledger.head) (h2 : kept = false) : ldgTailAct v s = s.setReg Reg.LDG_TAIL v := by
  subst hn hk
  rw [ldgTailAct]
  refine if_neg ?_
  rw [Bool.or_eq_true, decide_eq_true_eq, not_or]
  exact ⟨Nat.not_lt.mpr h1, ne_true_of_eq_false h2⟩

section
variable {r : BitVec 2} {v : Word}

theorem toNat_eq_two_iff : r.toNat = 2 ↔ r = 2 := BitVec.toNat_inj (x := r) (y := 2)

theorem ldgAreaAct_refused (h : s.ldgTail ≠ s.ledger.head ∨ s.running = true ∨
    r = 2 ∧ (fld v 16 5 < 12 ∨ 20 < fld v 16 5 ∨ fld v 0 16 < 1024 ∨ 2 ^ (fld v 16 5 - 1) < fld v 0 16)) :
    ldgAreaAct r.toNat v s = s.raise Ev.LDG_CFG_REFUSED (offDetail (Reg.LDG_BASE_LO + 4 * r.toNat)) := by
  rw [← toNat_eq_two_iff] at h
  rw [ldgAreaAct]
  exact if_pos h

theorem ldgAreaAct_stores (h1 : s.ldgTail = s.ledger.head) (h2 : s.running = false)
    (h3 : ¬ (r = 2 ∧ (fld v 16 5 < 12 ∨ 20 < fld v 16 5 ∨ fld v 0 16 < 1024 ∨ 2 ^ (fld v 16 5 - 1) < fld v 0 16))) :
    ldgAreaAct r.toNat v s = s.writeRw (Reg.LDG_BASE_LO + 4 * r.toNat) v := by
  rw [← toNat_eq_two_iff] at h3
  rw [ldgAreaAct]
  refine if_neg ?_
  rintro (h | h | h)
  · exact h h1
  · exact absurd h (ne_true_of_eq_false h2)
  · exact h3 h

end

end

end Sys2Proof.Machine

namespace Sys2Proof

open Machine

/-- Settles O35: GENERATE by its outcomes, its end, and what a top-up reads and keeps. -/
theorem topUpsTakeTheirRecords : Obligations.TopUpsTakeTheirRecords := by
  unfold Obligations.TopUpsTakeTheirRecords
  refine ⟨fun s a src tgt ht => ?generate, fun s hs h => onPage_answers hs (generateDoneAct_idle h), fun s j hs h => ?done,
    fun s h t g => ?kept, fun s h line => ⟨State.ledgerGet_usable, State.ledgerGet_unusable⟩,
    fun s h g i a => ⟨fun bytes hr => State.readSnapLine_read hr, State.readSnapLine_bad⟩,
    fun s c d x y => ⟨State.lambdaMask_dark, State.lambdaMask_known⟩⟩
  case generate =>
    refine ⟨fun h => rowWrite_answers ht (generateAct_busy h), fun h => ?_⟩
    have hact := generateAct_idle (src := src.toNat) (target := tgt.toNat) h
    have free {b : Bool} (hb : b = false) : ¬ b = true := ne_true_of_eq_false hb
    refine ⟨fun hb => rowWrite_answers ht (hact.trans (if_pos hb)), fun hb hg => rowWrite_answers ht (hact.trans ?_),
      fun hb hg he => rowWrite_answers ht (hact.trans ?_), fun hb hg he => rowWrite_answers ht (hact.trans ?_)⟩
    · exact (if_neg (free hb)).trans (if_pos (Nat.lt_succ_of_le hg))
    · exact (if_neg (free hb)).trans ((if_neg (by omega)).trans (if_pos (by rw [he]; rfl)))
    · refine (if_neg (free hb)).trans ((if_neg (by omega)).trans ((if_neg ?_).trans ?_))
      · rwa [List.isEmpty_iff]
      · rfl
  case done =>
    refine ⟨fun ho => onPage_answers hs (generateDoneAct_other h ho), fun ho ht => onPage_answers hs ?_,
      fun ho ht => onPage_answers hs ?_⟩
    · exact (generateDoneAct_ends h ho rfl).trans (if_pos (by rw [ht]; rfl))
    · exact (generateDoneAct_ends h ho rfl).trans (if_neg (by rw [ht]; nofun))
  case kept =>
    intro gens r q u
    have hu : u = q.2.setCtx t { q.2.ctx t with side := { (q.2.ctx t).side with snaps := q.1.words, snapBad := q.1.bad, blind := r.1 } } := rfl
    have hc : u.ctx t = { q.2.ctx t with side := { (q.2.ctx t).side with snaps := q.1.words, snapBad := q.1.bad, blind := r.1 } } := by
      rw [hu, State.ctx_setCtx_same]
    refine ⟨by rw [hc], by rw [hc], by rw [hc], fun c hct => ?_⟩
    rw [hu, State.ctx_setCtx_other _ _ hct]

/-- Settles O36: ADOPT and its end, the held records, and the command, tail and area registers of the ledger. -/
theorem adoptionsAndHeldRecords : Obligations.AdoptionsAndHeldRecords := by
  unfold Obligations.AdoptionsAndHeldRecords
  refine ⟨fun s a src tgt ht => ?adopt, fun s j hs h => ⟨fun ho => onPage_answers hs ?two, fun ho => onPage_answers hs ?three⟩,
    fun s j => rfl, fun s src target g i => ⟨fun bytes hr => State.copySnapLine_read hr, State.copySnapLine_bad, rfl⟩,
    fun s c => ⟨fun j hj ho hc => State.adoptEarly_source hj ho hc, State.adoptEarly_other⟩,
    fun s c hc => ?ends, fun s a ht h => ⟨rowWrite_answers ht (heldAct_busy h), rowWrite_answers ht (heldAct_busy h)⟩,
    fun s hs h => onPage_answers hs (adoptDoneAct_keeps h), fun s a ht h => ?held, ?reg,
    fun s a v ht => ⟨fun h => rowWrite_answers ht (ldgTailAct_ignored rfl rfl h),
      fun h1 h2 => rowWrite_answers ht (ldgTailAct_moves rfl rfl h1 h2)⟩, fun s a r v hr => ?area⟩
  case adopt =>
    refine ⟨fun h => rowWrite_answers ht (adoptAct_busy h), fun h => ?_⟩
    have hact := adoptAct_idle (src := src) (target := tgt) h rfl
    exact ⟨fun hb => rowWrite_answers ht (hact.trans (if_pos hb)),
      fun hb hd => rowWrite_answers ht (hact.trans ((if_neg (ne_true_of_eq_false hb)).trans (if_pos hd))),
      fun hb hd => rowWrite_answers ht (hact.trans ((if_neg (ne_true_of_eq_false hb)).trans (if_neg (ne_true_of_eq_false hd))))⟩
  case two => rw [adoptDoneAct_ends h (Or.inl ho) rfl, if_pos ho]
  case three => rw [adoptDoneAct_ends h (Or.inr ho) rfl, if_neg (by omega)]
  case ends => rw [State.endAdoptions_eq, State.adopting_endAdoptions_of, if_pos (List.mem_range.mpr hc)]
  case held =>
    refine ⟨fun hn => ⟨rowWrite_answers ht (heldAct_unnamed h hn), rowWrite_answers ht (heldAct_unnamed h hn)⟩, fun r hn =>
      ⟨fun hb => rowWrite_answers ht ((heldAct_named h hn).trans (if_pos ?_)),
        fun h2 hc => rowWrite_answers ht ((heldAct_named h hn).trans (if_neg ?_)),
        fun h2 => rowWrite_answers ht ((heldAct_named h hn).trans (if_pos ?_)),
        fun h2 => rowWrite_answers ht ((heldAct_named h hn).trans (if_neg ?_))⟩⟩
    · simpa using hb
    · simp [h2, hc]
    · simp [h2]
    · simp [h2]
  case reg =>
    intro s a w v ht hw src tgt
    have hsrc : src.toNat = fld v 8 7 := by simp [src, fld, nfld, BitVec.extractLsb'_toNat, Nat.shiftRight_eq_div_pow]
    have htgt : tgt.toNat = fld v 16 7 := by simp [tgt, fld, nfld, BitVec.extractLsb'_toNat, Nat.shiftRight_eq_div_pow]
    have hrow (act lost : State → State) (hact : ldgCmdAct v s = act s) :
        exec (.registerWrite a w v) s = rowWrite a Reg.LDG_CMD act lost s :=
      (registerWrite_answers hw (ldgCmd_ne_tpCmd _) ht hact).trans (rowWrite_answers ht rfl).symm
    refine ⟨?_, ?_, ?_, ?_, fun h => registerWrite_answers hw (ldgCmd_ne_tpCmd _) ht (ldgCmdAct_noRow h)⟩
    · exact fun h => hrow (generateAct src.toNat tgt.toNat) _ (by simp only [ldgCmdAct, h, hsrc, htgt])
    · exact fun h => hrow (adoptAct src.toNat tgt.toNat) _ (by simp only [ldgCmdAct, h, hsrc, htgt])
    · exact fun h => hrow (heldAct false) _ (by simp only [ldgCmdAct, h])
    · exact fun h => hrow (heldAct true) _ (by simp only [ldgCmdAct, h])
  case area =>
    intro off e bad ht
    have hwf : Instr.wf (.ldgAreaWrite a r v) = true := bne_iff_ne.mpr hr
    exact ⟨fun h => checked_answers hwf (rowWrite_answers ht (ldgAreaAct_refused h)),
      fun h1 h2 h3 => checked_answers hwf (rowWrite_answers ht (ldgAreaAct_stores h1 h2 h3))⟩

end Sys2Proof
end

section
/-!
PROOFS. Lines of DRAM without error and poison: what a read of them gives and what a write leaves (R362 to R366).
-/

namespace Sys2Proof.Machine

/-! ### Lines without error -/

/-- A written line without error and poison. -/
def Dram.Good (m : Dram) (l : Nat) : Prop := m.never l = false ∧ m.unknown l = false ∧ m.lineErr l = [] ∧ m.poison l = 0

section
variable {m : Dram} {l : Nat}

theorem length_lineBytes (m : Dram) (l : Nat) (e : List (Nat × Nat)) : (m.lineBytes l e).length = 64 := by
  simp [Dram.lineBytes]

theorem lineBytes_clean (m : Dram) (l : Nat) :
    m.lineBytes l [] = (List.range 64).map fun j => memRead m.data (64 * l + j) := by
  simp [Dram.lineBytes]

/-- A good line is read as it is stored. -/
theorem Dram.Good.decide (h : m.Good l) : m.decide l = (.good, m.lineBytes l []) := by
  obtain ⟨_, hu, he, hp⟩ := h
  simp [Dram.decide, hu, he, hp, decideLine]

end

section
variable {s : State} {i l : Nat}

theorem State.portRaise_arb (i : Nat) : ∃ a, s.portRaise i = { s with arb := a } := by
  unfold State.portRaise
  split
  · exact ⟨s.arb, rfl⟩
  · exact ⟨_, rfl⟩

theorem State.dramReadLine_good (h : s.dram.Good l) :
    s.dramReadLine i l = (⟨true, s.dram.lineBytes l [], 0⟩, s.portRaise i) := by
  simp only [State.dramReadLine, State.portRaise_dram, h.1, h.decide, Bool.false_eq_true, if_false]

/-- Good lines are read one after another, and only requests at the port are new. -/
theorem State.dramReadLines_good {n : Nat} (h : ∀ k, l ≤ k → k < l + n → s.dram.Good k) :
    (s.dramReadLines i l n).1 = (List.range' l n).map (fun k => ⟨true, s.dram.lineBytes k [], 0⟩) ∧
      ∃ a, (s.dramReadLines i l n).2 = { s with arb := a } := by
  induction n generalizing s l with
  | zero => exact ⟨rfl, s.arb, rfl⟩
  | succ n ih =>
    obtain ⟨a, ha⟩ := s.portRaise_arb i
    have hl : s.dramReadLine i l = (⟨true, s.dram.lineBytes l [], 0⟩, { s with arb := a }) := by
      rw [State.dramReadLine_good (h l le_rfl (by omega)), ha]
    obtain ⟨h1, b, h2⟩ := ih (s := { s with arb := a }) (l := l + 1) fun k hk hkn => h k (by omega) (by omega)
    unfold State.dramReadLines
    rw [hl]
    exact ⟨congrArg (List.cons _) h1, b, h2⟩

theorem State.length_dramReadLines (n : Nat) : (s.dramReadLines i l n).1.length = n := by
  induction n generalizing s l with
  | zero => rfl
  | succ n ih => unfold State.dramReadLines; rw [List.length_cons, ih]

end

/-- The bytes of lines that follow one another are the bytes of memory. -/
theorem flatMap_lineBytes (m : Dram) (l n : Nat) :
    ((List.range' l n).flatMap fun k => m.lineBytes k []) = (List.range (64 * n)).map fun j => memRead m.data (64 * l + j) := by
  induction n generalizing l with
  | zero => rfl
  | succ n ih =>
    rw [List.range'_succ, List.flatMap_cons, ih, lineBytes_clean, show 64 * (n + 1) = 64 + 64 * n by ring, List.range_add,
      List.map_append, List.map_map]
    congr 2
    funext j
    simp only [Function.comp_apply]
    congr 1
    omega

end Sys2Proof.Machine
end

section
/-!
PROOFS. The PCIe function: configuration space, BAR2 and BAR4, resets and power states (R323 to R333, R349, R412).
-/

namespace Sys2Proof.Machine

/-! ### How a BAR2 read is cut into completions -/

section
variable {mps fin o : Nat}

/-- A completion ends at a multiple of 128 bytes, or at the end of the read. -/
theorem cplEnd_spec (hm : 128 ≤ mps) : ∃ b, o < b ∧ b ≤ o + mps ∧ b % 128 = 0 ∧ cplEnd mps o fin = min fin b := by
  unfold cplEnd
  extract_lets cuts
  have hcuts : ∀ b ∈ cuts, o < b ∧ b ≤ o + mps ∧ b % 128 = 0 := by
    intro b hb
    simp only [cuts, List.mem_filter, List.mem_map, decide_eq_true_eq] at hb
    obtain ⟨⟨k, _, rfl⟩, hle⟩ := hb
    exact ⟨by omega, hle, Nat.mul_mod_left ..⟩
  have hne : cuts ≠ [] := List.ne_nil_of_mem (a := (o / 128 + 0 + 1) * 128) (by
    simp only [cuts, List.mem_filter, List.mem_map, List.mem_range, decide_eq_true_eq]
    exact ⟨⟨0, by omega, rfl⟩, by omega⟩)
  obtain ⟨b, hb⟩ : ∃ b, ((cuts.find? fun b => Config.splitsAt b).or cuts.getLast?) = some b := by
    exact Option.isSome_iff_exists.mp (by rw [Option.isSome_or, List.getLast?_isSome.mpr hne, Bool.or_true])
  have hmem : b ∈ cuts := by
    obtain h | ⟨_, h⟩ := Option.or_eq_some_iff.mp hb
    · exact List.mem_of_find?_eq_some h
    · exact List.mem_of_getLast? h
  rw [hb, Option.getD_some]
  obtain ⟨h1, h2, h3⟩ := hcuts b hmem
  exact ⟨b, h1, h2, h3, rfl⟩

theorem completions_done (fuel : Nat) (h : fin ≤ o) : completions mps fin fuel o = [] := by
  cases fuel with
  | zero => rfl
  | succ fuel => unfold completions; exact if_pos h

/-- One completion, and those of what is left. -/
theorem completions_next (hm : 128 ≤ mps) (fuel : Nat) (h : o < fin) :
    completions mps fin (fuel + 1) o = (o, cplEnd mps o fin) :: completions mps fin fuel (cplEnd mps o fin) := by
  obtain ⟨b, h1, h2, h3, he⟩ := cplEnd_spec (o := o) (fin := fin) hm
  rw [completions, if_neg (Nat.not_le.mpr h), Nat.max_eq_right (by omega)]

/-- What holds of pieces that join holds of the completions of a read as a whole. -/
theorem flatMap_completions {α : Type} (g : Nat → Nat → List α) (off : Nat) (h0 : ∀ a, g a a = [])
    (hg : ∀ a b c, off ≤ a → a ≤ b → b ≤ c → g a b ++ g b c = g a c) (hm : 128 ≤ mps) (fuel : Nat) (hoff : off ≤ o) (ho : o ≤ fin)
    (hf : fin - o ≤ fuel) : ((completions mps fin fuel o).flatMap fun c => g c.1 c.2) = g o fin := by
  induction fuel generalizing o with
  | zero => rw [show o = fin by omega, h0]; rfl
  | succ fuel ih =>
    obtain h | h := Nat.eq_or_lt_of_le ho
    · rw [completions_done _ h.ge, h, h0]; rfl
    · obtain ⟨b, h1, h2, h3, he⟩ := cplEnd_spec (o := o) (fin := fin) hm
      rw [completions_next hm fuel h, List.flatMap_cons, ih (by omega) (by omega) (by omega)]
      exact hg _ _ _ hoff (by omega) (by omega)

theorem mem_completions (hm : 128 ≤ mps) (fuel : Nat) {c : Nat × Nat} (h : c ∈ completions mps fin fuel o) :
    c.1 < c.2 ∧ c.2 ≤ c.1 + mps ∧ (c.2 = fin ∨ c.2 % 128 = 0) := by
  induction fuel generalizing o with
  | zero => exact absurd h List.not_mem_nil
  | succ fuel ih =>
    obtain ho | ho := Nat.lt_or_ge o fin
    · obtain ⟨b, h1, h2, h3, he⟩ := cplEnd_spec (o := o) (fin := fin) hm
      rw [completions_next hm fuel ho, List.mem_cons] at h
      obtain rfl | h := h
      · dsimp only
        omega
      · exact ih h
    · rw [completions_done _ ho] at h
      exact absurd h List.not_mem_nil

end

/-! ### A BAR2 read (R324, R364) -/

section
variable {s : State} {off addr len : Nat}

/-- The bytes of a BAR2 read: those of a completion with an unusable line are poisoned. -/
def bar2Bytes (s : State) (off addr len : Nat) (r : List LineRead) : List (Option Byte) :=
  let first := addr / 64
  let n := (addr + len + 63) / 64 - first
  let bytes := ((r.flatMap LineRead.bytes).drop (addr - 64 * first)).take len
  let spoilt (c : Nat × Nat) : Bool := (List.range n).any fun k =>
    (r[k]?.any fun x => !x.usable) && decide ((addr + (c.1 - off)) / 64 ≤ first + k) &&
      decide (64 * (first + k) < addr + (c.2 - off))
  (completions s.maxPayload (off + len) len off).flatMap fun c =>
    ((bytes.drop (c.1 - off)).take (c.2 - c.1)).map fun b => if spoilt c then none else some b

/-- The unusable lines of a read, by their place in it. -/
theorem any_unusable (r : List LineRead) (first : Nat) (q : Nat → Bool) :
    (((r.zipIdx.filter fun p => !p.1.usable).map fun p => first + p.2).any q) =
      (List.range r.length).any fun k => (r[k]?.any fun x => !x.usable) && q (first + k) := by
  rw [Bool.eq_iff_iff, List.any_map, List.any_filter, List.any_eq_true, List.any_eq_true]
  constructor
  · rintro ⟨⟨x, k⟩, hx, hq⟩
    have hk := List.mem_zipIdx_iff_getElem?.mp hx
    refine ⟨k, List.mem_range.mpr (List.getElem?_eq_some_iff.mp hk).1, ?_⟩
    rw [hk]
    exact hq
  · rintro ⟨k, hk, hq⟩
    rw [List.mem_range] at hk
    rw [List.getElem?_eq_getElem hk] at hq
    exact ⟨(r[k], k), List.mem_zipIdx_iff_getElem?.mpr (List.getElem?_eq_getElem hk), hq⟩

theorem isEmpty_unusable (r : List LineRead) (first : Nat) :
    ((r.zipIdx.filter fun p => !p.1.usable).map fun p => first + p.2).isEmpty = r.all LineRead.usable := by
  rw [Bool.eq_iff_iff, List.isEmpty_map, List.isEmpty_iff, List.filter_eq_nil_iff, List.all_eq_true]
  constructor
  · intro h x hx
    obtain ⟨k, hk⟩ := List.mem_iff_getElem?.mp hx
    simpa using h (x, k) (List.mem_zipIdx_iff_getElem?.mpr hk)
  · rintro h ⟨x, k⟩ hx
    simpa using h x (List.mem_of_getElem? (List.mem_zipIdx_iff_getElem?.mp hx))

theorem State.bar2Read_eq {r : List LineRead} {t : State}
    (h : s.dramReadLines 9 (addr / 64) ((addr + len + 63) / 64 - addr / 64) = (r, t)) :
    s.bar2Read off addr len =
      if r.all LineRead.usable = true then t.completes fun u => { u with bar2Data := bar2Bytes s off addr len r }
      else (t.completes fun u => { u with bar2Data := bar2Bytes s off addr len r }).raise Ev.HOST_BAR2_POISON (nfld off 16 16) := by
  have hlen : r.length = (addr + len + 63) / 64 - addr / 64 := by
    simpa [h] using State.length_dramReadLines (s := s) (i := 9) (l := addr / 64) ((addr + len + 63) / 64 - addr / 64)
  have hdata (bytes : List Byte) :
      ((completions s.maxPayload (off + len) len off).flatMap fun c =>
        if ((r.zipIdx.filter fun p => !p.1.usable).map fun p => addr / 64 + p.2).any (fun l =>
            decide ((addr + (c.1 - off)) / 64 ≤ l) && decide (64 * l < addr + (c.2 - off))) then
          ((bytes.drop (c.1 - off)).take (c.2 - c.1)).map fun _ => none
        else ((bytes.drop (c.1 - off)).take (c.2 - c.1)).map some) =
      (completions s.maxPayload (off + len) len off).flatMap fun c =>
        ((bytes.drop (c.1 - off)).take (c.2 - c.1)).map fun b =>
          if ((List.range ((addr + len + 63) / 64 - addr / 64)).any fun k =>
            (r[k]?.any fun x => !x.usable) && decide ((addr + (c.1 - off)) / 64 ≤ addr / 64 + k) &&
              decide (64 * (addr / 64 + k) < addr + (c.2 - off))) then none else some b := by
    congr 1
    funext c
    rw [any_unusable, hlen]
    simp only [← Bool.and_assoc]
    split <;> rfl
  simp only [State.bar2Read, h]
  rw [hdata, isEmpty_unusable]
  rfl

/-- A read whose lines are all usable returns their bytes. -/
theorem bar2Bytes_usable {r : List LineRead} (hr : r.all LineRead.usable = true) (hm : 128 ≤ s.maxPayload) :
    bar2Bytes s off addr len r =
      (((r.flatMap LineRead.bytes).drop (addr - 64 * (addr / 64))).take len).map some := by
  have hclean (k : Nat) : (r[k]?.any fun x => !x.usable) = false := by
    cases hk : r[k]? with
    | none => rfl
    | some x => simpa using List.all_eq_true.mp hr x (List.mem_of_getElem? hk)
  unfold bar2Bytes
  extract_lets first n bytes spoilt
  have hsp (c : Nat × Nat) : spoilt c = false := by simp [spoilt, hclean]
  simp only [hsp, Bool.false_eq_true, if_false]
  have hjoin := flatMap_completions (o := off) (fin := off + len) (fun a b => ((bytes.drop (a - off)).take (b - a)).map some) off
    (fun a => by simp) (fun a b c ha hab hbc => ?_) hm len le_rfl (by omega) (by omega)
  · rw [hjoin]
    rw [Nat.add_sub_cancel_left, Nat.sub_self, List.drop_zero, List.take_take, Nat.min_self]
  · rw [← List.map_append]
    congr 1
    rw [show c - a = (b - a) + (c - b) by omega, List.take_add, List.drop_drop]
    congr 3
    omega

/-- A read of good lines returns what DRAM holds. -/
theorem State.bar2Data_good (hj : jtagDrives s.tap = false) (hm : 128 ≤ s.maxPayload)
    (h : ∀ l, addr / 64 ≤ l → l < addr / 64 + ((addr + len + 63) / 64 - addr / 64) → s.dram.Good l) :
    (s.bar2Read off addr len).bar2Data = (List.range len).map fun i => some (memRead s.dram.data (addr + i)) := by
  obtain ⟨h1, a, h2⟩ := State.dramReadLines_good (i := 9) h
  have hr : ((List.range' (addr / 64) ((addr + len + 63) / 64 - addr / 64)).map fun k =>
      (⟨true, s.dram.lineBytes k [], 0⟩ : LineRead)).all LineRead.usable = true := by simp
  rw [State.bar2Read_eq (Prod.ext h1 h2), if_pos hr, State.completes_free (s := { s with arb := a }) _ hj]
  change bar2Bytes s off addr len _ = _
  rw [bar2Bytes_usable hr hm, List.flatMap_map, flatMap_lineBytes, ← List.map_drop, ← List.map_take, List.map_map]
  apply List.ext_getElem
  · simp; omega
  · intro i hi hi'
    simp
    congr 1
    omega

theorem State.maxPayload_mem : s.maxPayload ∈ [128, 256, 512] := by
  unfold State.maxPayload
  generalize fld (s.cfg Cfg.devCtl) 5 3 = x
  obtain h | h | h : min 2 x = 0 ∨ min 2 x = 1 ∨ min 2 x = 2 := by omega
  all_goals rw [h]; decide

end

/-! ### Configuration space, BAR4 and refused requests -/

section
variable {s : State}

theorem configAct_write (dw : Nat) (v : Word) (be : BitVec 4) {w : Word}
    (hw : ((v &&& (cfgMask dw &&& beMask be)) ||| (s.cfg dw &&& ~~~ (cfgMask dw &&& beMask be))) &&&
      ~~~ (v &&& cfgW1c dw &&& beMask be) = w) : configAct true dw v be s = (s.setCfg dw w).cfgEffect dw v be := by
  subst hw; rfl

/-- Only four double words of configuration space do more than keep what is written. -/
theorem State.cfgEffect_plain {dw : Nat} (v : Word) (be : BitVec 4) (h : dw ∉ [Cfg.command, Cfg.pmcsr, Cfg.msix, Cfg.devCtl]) :
    s.cfgEffect dw v be = s := by
  simp only [List.mem_cons, List.not_mem_nil, or_false, not_or] at h
  obtain ⟨h1, h2, h3, h4⟩ := h
  rw [State.cfgEffect, if_neg h3, if_neg h1, if_neg h4, if_neg h2]

section
variable {off : Nat} {dws : List Word}

theorem msixAct_off {w : Bool} (h : s.memOn = false) : msixAct w off dws s = s.hostMiss w := by
  rw [msixAct, h]; rfl

theorem msixAct_reads (h : s.memOn = true) :
    msixAct false off dws s =
      s.completes fun t => { t with bar4Data := (List.range dws.length).map fun i => s.bar4Dw (off + 4 * i) } := by
  rw [msixAct, h, Bool.not_true, if_neg Bool.false_ne_true, if_neg Bool.false_ne_true]
  unfold State.completes
  split <;> rfl

theorem msixAct_writes (h : s.memOn = true) :
    msixAct true off dws s = (dws.zipIdx.foldl (fun (a : State) p => a.bar4Put (off + 4 * p.2) p.1) s).msixFlush := by
  rw [msixAct, h, Bool.not_true, if_neg Bool.false_ne_true, if_pos rfl]

end

/-! ### BAR2 requests (R324) -/

section
variable {off : Nat} (hm : s.mainUp = true)
include hm

theorem State.dramOpen_iff : s.dramOpen = true ↔ s.rf Reg.CLK_PWR 0 2 ≠ 2 ∧ s.sram.zeroed = true := by
  rw [State.dramOpen, hm, Bool.true_and, Bool.and_eq_true, bne_iff_ne]

theorem bar2ReadAct_off {len : Nat} (h : s.memOn = false) : bar2ReadAct off len s = s.hostMiss false := by
  rw [bar2ReadAct, bar2Act, hm, h]; rfl

theorem bar2WriteAct_off {bytes : List (Option Byte)} (h : s.memOn = false) : bar2WriteAct off bytes s = s.hostMiss true := by
  rw [bar2WriteAct, bar2Act, hm, h]; rfl

variable (h : s.memOn = true)
include h

theorem bar2Act_serves {q : Bar2Req} (h1 : s.rf Reg.CLK_PWR 0 2 ≠ 2) (h2 : s.sram.zeroed = true) (h3 : s.bar2Wait = []) :
    bar2Act q s = s.bar2Serve q := by
  rw [bar2Act.eq_def, hm, h, Bool.not_true, if_neg Bool.false_ne_true, if_neg Bool.false_ne_true, if_pos]
  rw [(State.dramOpen_iff hm).mpr ⟨h1, h2⟩, h3]
  rfl

theorem bar2Act_waits {q : Bar2Req} (hw : s.rf Reg.CLK_PWR 0 2 = 2 ∨ s.sram.zeroed = false ∨ s.bar2Wait ≠ []) :
    bar2Act q s = { s with bar2Wait := s.bar2Wait ++ [q] } := by
  rw [bar2Act.eq_def, hm, h, Bool.not_true, if_neg Bool.false_ne_true, if_neg Bool.false_ne_true, if_neg]
  rw [Bool.and_eq_true, State.dramOpen_iff hm, List.isEmpty_iff]
  rintro ⟨⟨h1, h2⟩, h3⟩
  obtain hw | hw | hw := hw
  · exact h1 hw
  · exact absurd h2 (ne_true_of_eq_false hw)
  · exact hw h3

end

theorem hostWinAct_takes {v : Word} (h : fld v 0 5 ≤ 28) : hostWinAct v s = s.writeRw Reg.HOST_WIN v := if_neg (Nat.not_lt.mpr h)

theorem hostWinAct_refuses {v : Word} (h : 28 < fld v 0 5) :
    hostWinAct v s = s.raise Ev.HOST_CFG_REFUSED (offDetail Reg.HOST_WIN) := if_pos h

theorem State.sendTlp_free {t : Tlp} (h : jtagDrives s.tap = false) :
    s.sendTlp t = { s with out := .tlp (wbit (s.cfg Cfg.aerControl) 6) t :: s.out } := by
  rw [State.sendTlp, State.leaves, h]; rfl

/-! ### Resets and power states (R332, R333) -/

theorem linkUpAct_fast {speed width : Nat} (h : 3 ≤ speed) :
    linkUpAct speed width s =
      ({ s with link := { s.link with up := true, speed := speed, width := width } } : State).raise Ev.HOST_LINK_UP
        (speed * 256 + width) := if_neg (Nat.not_lt.mpr h)

theorem linkUpAct_slow {speed width : Nat} (h : speed < 3) :
    linkUpAct speed width s =
      (({ s with link := { s.link with up := true, speed := speed, width := width } } : State).raise Ev.HOST_LINK_UP
        (speed * 256 + width)).raise Ev.HOST_LINK_SLOW speed := if_pos h

theorem State.ring_setRing_other {i j : Nat} (r : Ring) (h : j ≠ i) : (s.setRing i r).ring j = s.ring j :=
  sget_sput_other h

theorem State.rings_writeBack (i code : Nat) : (s.writeBack i code).rings = s.rings := by
  unfold State.writeBack
  dsimp only
  split
  · exact State.emit_rings ..
  · rfl

/-- The end of one ring's descriptor leaves the other rings. -/
theorem State.ring_endStopped_other {i j : Nat} (h : j ≠ i) : (s.endStopped i).ring j = s.ring j := by
  unfold State.endStopped
  extract_lets r s1 s2
  have h1 : s1.rings = s.rings := by
    simp only [s1]
    split
    · rfl
    · exact State.rings_writeBack i 9
  have h2 : s2.rings = s.rings := by
    rw [← h1]
    simp only [s2]
    split
    · exact State.sendVector_rings ..
    · rfl
  rw [State.ring_setRing_other _ h, State.ring, h2, State.ring]

end

end Sys2Proof.Machine

namespace Sys2Proof

open Machine

/-- Settles O37: each request to the function by its kind, and what a BAR2 read returns by its lines and completions. -/
theorem thePcieFunctionAnswers : Obligations.ThePcieFunctionAnswers := by
  unfold Obligations.ThePcieFunctionAnswers
  refine ⟨fun s dw v be hl => ⟨onPage_answers hl rfl, onPage_answers hl (configAct_write _ _ _ rfl), State.cfgEffect_plain v be⟩,
    fun s off dws hl h4 hne hin => ?msix, fun s off hl hm => ⟨fun len h1 h2 => ?read, fun bytes h1 h2 => ?write⟩,
    fun s a v ht => ⟨fun h => rowWrite_answers ht (hostWinAct_takes h), fun h => rowWrite_answers ht (hostWinAct_refuses h)⟩,
    fun s hdr hl hh => ?unsupported, fun s hdr => ⟨rfl, rfl⟩, fun s t => State.sendTlp_free, fun s off addr len => ?bytes,
    fun mps fin o hm ho => ⟨?_, fun c => mem_completions hm _⟩, fun s => State.maxPayload_mem⟩
  case msix =>
    have hok (w : Bool) : Instr.wf (.msixAccess w off dws) = true := by
      simp only [Instr.wf, h4, Bool.and_eq_true, decide_eq_true_eq]
      exact ⟨rfl, List.length_pos_iff.mpr hne, hin⟩
    exact ⟨fun h => ⟨checked_answers (hok false) (onPage_answers hl (msixAct_reads h)),
        checked_answers (hok true) (onPage_answers hl (msixAct_writes h))⟩,
      fun h w => checked_answers (hok w) (onPage_answers hl (msixAct_off h))⟩
  case read =>
    have ans {t : State} (h : bar2ReadAct off.toNat len s = t) : exec (.bar2Read off len) s = .next t.settle :=
      checked_answers (decide_eq_true ⟨h1, h2⟩) (onPage_answers hl h)
    exact ⟨fun h => ans (bar2ReadAct_off hm h), fun h h3 h4 h5 => ans (bar2Act_serves hm h h3 h4 h5),
      fun h hw => ans (bar2Act_waits hm h hw)⟩
  case write =>
    have ans {t : State} (h : bar2WriteAct off.toNat bytes s = t) : exec (.bar2Write off bytes) s = .next t.settle :=
      checked_answers (decide_eq_true ⟨List.length_pos_iff.mpr h1, h2⟩) (onPage_answers hl h)
    exact ⟨fun h => ans (bar2WriteAct_off hm h), fun h h3 h4 h5 => ans (bar2Act_serves hm h h3 h4 h5),
      fun h hw => ans (bar2Act_waits hm h hw)⟩
  case unsupported =>
    have ans {kind : Unsupported} {t : State} (h : unsupportedAct kind hdr s = t) :
        exec (.unsupportedRequest kind hdr) s = .next t.settle :=
      checked_answers (beq_iff_eq.mpr hh) (onPage_answers hl h)
    refine ⟨ans rfl, fun kind hk => ans ?_, fun kind hk => ans ?_, fun h => ans (if_pos h),
      fun h => ans (if_neg (ne_true_of_eq_false h)), checked_answers (beq_iff_eq.mpr hh) (onPage_answers hl rfl)⟩
    · simp only [List.mem_cons, List.not_mem_nil, or_false] at hk
      obtain rfl | rfl | rfl := hk <;> rfl
    · simp only [List.mem_cons, List.not_mem_nil, or_false] at hk
      obtain rfl | rfl | rfl | rfl | rfl := hk <;> rfl
  case bytes =>
    have hm : 128 ≤ s.maxPayload := by
      have := State.maxPayload_mem (s := s)
      simp only [List.mem_cons, List.not_mem_nil, or_false] at this
      omega
    exact ⟨fun h => (State.bar2Read_eq rfl).trans (if_pos h), fun h => (State.bar2Read_eq rfl).trans (if_neg (ne_true_of_eq_false h)),
      fun h => bar2Bytes_usable h hm,
      fun hj hg => State.bar2Data_good hj hm fun l h1 h2 =>
        have ⟨hn, hu, hp, he⟩ := hg l h1 h2
        ⟨hn, hu, he, hp⟩⟩
  · exact flatMap_completions (fun a b => List.range' a (b - a)) o (fun a => by simp) (fun a b c ha hab hbc => by
      rw [show c - a = (b - a) + (c - b) by omega, ← List.range'_append_1, Nat.add_sub_cancel' hab]) hm _ le_rfl ho le_rfl

/-- Settles O38: resets of the function, the link, and the power states; a ring that is not stopping is left as it is. -/
theorem functionResetsAndPowerStates : Obligations.FunctionResetsAndPowerStates := by
  unfold Obligations.FunctionResetsAndPowerStates
  refine ⟨fun s hl => ⟨onPage_answers hl rfl, onPage_answers hl rfl⟩, fun s speed width hl h1 h5 hw => ?link,
    fun s hl => ⟨onPage_answers hl rfl, onPage_answers hl rfl, fun i hi hr => ?_⟩⟩
  case link =>
    have hok : Instr.wf (.linkUp speed width) = true := by
      simp only [Instr.wf, Bool.and_eq_true, decide_eq_true_eq, List.contains_iff_mem]
      exact ⟨⟨h1, h5⟩, hw⟩
    exact ⟨fun h => checked_answers hok (onPage_answers hl (linkUpAct_fast h)),
      fun h => checked_answers hok (onPage_answers hl (linkUpAct_slow h))⟩
  · refine foldl_keeps_prop (P := fun t : State => t.ring i = s.ring i) rfl fun t j ht => ?_
    split
    · rename_i hj
      have hij : i ≠ j := by
        rintro rfl
        rw [ht, hr] at hj
        cases hj
      rw [State.ring_endStopped_other hij, ht]
    · exact ht

end Sys2Proof
end

section
/-!
PROOFS. The rings: configuration, commands, doorbells, counters and requests (R334 to R350).
-/

namespace Sys2Proof.Machine

section
variable {s : State}

/-! ### Configuration (R335, R350) -/

section
variable {i : BitVec 6} {r : BitVec 2} {v : Word}

/-- The offset of a ring's configuration register. -/
theorem ringCfg_off (hr : r ≠ 3) :
    (if r.toNat = 0 then Reg.RING_BASE_LO else if r.toNat = 1 then Reg.RING_BASE_HI else Reg.RING_CFG) + 32 * i.toNat =
      Reg.RING_BASE_LO + 32 * i.toNat + 4 * r.toNat := by
  match r with
  | 0 => rfl
  | 1 => simp [Reg.RING_BASE_LO, Reg.RING_BASE_HI]; omega
  | 2 => simp [Reg.RING_BASE_LO, Reg.RING_CFG]; omega
  | 3 => exact absurd rfl hr

/-- What a ring's configuration may become. -/
def State.ringCfgOk (s t : State) (i : Nat) : Bool :=
  (s.ring i).free && decide (4 ≤ fld (t.ringCfg i) 16 5) && decide (fld (t.ringCfg i) 16 5 ≤ 16) &&
    !arrayTooHigh (t.ringBase i) (fld (t.ringCfg i) 16 5)

theorem ringCfgAct_eq (hr : r ≠ 3) {off : Nat} (hoff : Reg.RING_BASE_LO + 32 * i.toNat + 4 * r.toNat = off) {t : State}
    (ht : s.writeRw off v = t) :
    ringCfgAct i.toNat r.toNat v s =
      if s.ringCfgOk t i.toNat = false then s.raise Ev.DMA_CFG_REFUSED (offDetail off)
      else if r = 2 then
        t.setRing i.toNat { s.ring i.toNat with
          st := if wbit v 31 then (if (s.ring i.toNat).st = 0 then 1 else (s.ring i.toNat).st) else 0 }
      else t := by
  have hok : (!(s.ring i.toNat).free || decide (fld (t.ringCfg i.toNat) 16 5 < 4) || decide (16 < fld (t.ringCfg i.toNat) 16 5) ||
      arrayTooHigh (t.ringBase i.toNat) (fld (t.ringCfg i.toNat) 16 5)) = !s.ringCfgOk t i.toNat := by
    simp [State.ringCfgOk, Bool.not_and, ← decide_not]
  subst hoff ht
  rw [ringCfgAct, ringCfg_off hr, hok]
  simp only [toNat_eq_two_iff, Bool.not_eq_true']

end

/-! ### START and STOP (R339) -/

section
variable {i slot : Nat}

theorem ringStartAct_ignored (h : (s.ring i).st ∉ [1, 5] ∨ 2 ^ fld (s.ringCfg i) 16 5 ≤ slot) :
    ringStartAct i slot s = s.raise Ev.DMA_IGNORED i := by
  rw [ringStartAct]
  exact if_pos (by simpa using h)

theorem ringStartAct_starts (h : (s.ring i).st = 1 ∨ (s.ring i).st = 5) (hs : slot < 2 ^ fld (s.ringCfg i) 16 5) :
    ringStartAct i slot s = (s.setRing i { (s.ring i).giveUp with errCode := 0, errSlot := 0 }).fetchSlot i slot := by
  rw [ringStartAct]
  exact if_neg (by omega)

theorem ringStopAct_ignored (h : (s.ring i).st ∉ [2, 3, 4]) : ringStopAct i s = s.raise Ev.DMA_IGNORED i := by
  rw [ringStopAct]
  exact if_neg (by simpa using h)

theorem ringStopAct_runs (h : (s.ring i).st = 2 ∨ (s.ring i).st = 3 ∨ (s.ring i).st = 4) : ringStopAct i s = s.stopRing i := by
  rw [ringStopAct]
  exact if_pos h

theorem State.stopRing_parked (h : (s.ring i).st = 3) : s.stopRing i = s.setRing i { (s.ring i).giveUp with st := 1 } := by
  rw [State.stopRing]
  exact if_pos h

theorem State.stopRing_busy (h : (s.ring i).st = 2) (hb : (s.ring i).bursts ≠ []) :
    s.stopRing i = s.setRing i { s.ring i with stopReq := true } := by
  rw [State.stopRing]
  exact (if_neg (by omega)).trans (if_pos (by simp [h, hb]))

theorem State.stopRing_ends (h : (s.ring i).st = 4 ∨ (s.ring i).st = 2 ∧ (s.ring i).bursts = []) :
    s.stopRing i = s.endStopped i := by
  rw [State.stopRing]
  refine (if_neg (by omega)).trans (if_neg ?_)
  obtain h | ⟨h, hb⟩ := h
  · simp [h]
  · simp [hb]

/-- The command register of a ring takes the row of its OP. -/
theorem ringCmd_reg (i : BitVec 6) :
    let off := Reg.RING_BASE_LO + 32 * i.toNat + 0x10
    off / 0x1000 = 3 ∧ ¬ off % 0x1000 < 0x40 ∧ ¬ ((cntClrOf 3).map Prod.fst) = some off ∧ listed off = true ∧
      off ≠ Reg.DMA_FAIR ∧ off ≠ Reg.DMA_ERR_INFO ∧ ¬ off < Reg.RING_BASE_LO ∧ off % 32 = 0x10 ∧
      (off - Reg.RING_BASE_LO) / 32 = i.toNat := by
  revert i; decide +kernel

theorem ringCmd_ne_tpCmd (i : BitVec 6) (p : Party) : Reg.RING_BASE_LO + 32 * i.toNat + 0x10 ≠ Reg.TP_CMD + bankOf p := by
  have h : Reg.TP_CMD + bankOf p < Reg.RING_BASE_LO := by cases p <;> decide
  omega

theorem regWriteAct_ringCmd (a : Acc) (i : BitVec 6) (v : Word) :
    regWriteAct a (Reg.RING_BASE_LO + 32 * i.toNat + 0x10) v s = ringCmdAct i.toNat v s := by
  obtain ⟨hp, h1, h2, h3, h4, h5, h6, h7, h8⟩ := ringCmd_reg i
  rw [regWriteAct, hp]
  simp only [h1, h2, h3, if_false, if_true, blockWrite, writeDma, h4, h5, h6, h7, h8]

theorem ringCmdAct_noRow {v : Word} (h : fld v 30 2 = 0 ∨ fld v 30 2 = 3) : ringCmdAct i v s = s.raise Ev.DMA_IGNORED i := by
  obtain h | h := h <;> simp only [ringCmdAct, h]

theorem dmaFairAct_refuses {v : Word} (h : fld v 0 7 = 1 ∨ 64 < fld v 0 7) :
    dmaFairAct v s = s.raise Ev.DMA_CFG_REFUSED (offDetail Reg.DMA_FAIR) := by
  rw [dmaFairAct]; exact if_pos h

theorem dmaFairAct_stores {v : Word} (h1 : fld v 0 7 ≠ 1) (h2 : fld v 0 7 ≤ 64) : dmaFairAct v s = s.writeRw Reg.DMA_FAIR v := by
  rw [dmaFairAct]; exact if_neg (by omega)

theorem dmaFair_ne_tpCmd (p : Party) : Reg.DMA_FAIR ≠ Reg.TP_CMD + bankOf p := by
  cases p <;> decide

/-! ### Requests and messages that wait (R331, log entries 13, 50 and 51) -/

section
variable {t : Tlp} {ts : List Tlp}

theorem State.emit_now (hh : s.link.held = []) (h : s.mayIssue t = true) : s.emit t = s.sendTlp t := by
  rw [State.emit, hh, h]; rfl

theorem State.emit_waits (h : s.link.held ≠ [] ∨ s.mayIssue t = false) :
    s.emit t = { s with link := { s.link with held := s.link.held ++ [t] } } := by
  rw [State.emit]
  refine if_neg ?_
  obtain h | h := h <;> simp [h]

theorem State.mayIssue_other (h : t.isRead = false) : s.mayIssue t = s.busMaster := by
  rw [State.mayIssue, h, Bool.not_false, Bool.true_or, Bool.and_true]

theorem State.mayIssue_read (h : t.isRead = true) :
    s.mayIssue t = (s.busMaster && s.sram.zeroed &&
      decide (s.readsOpen ≤ s.maxReads + (s.link.held.filter Tlp.isRead).length)) := by
  rw [State.mayIssue, h, Bool.not_true, Bool.false_or, Bool.and_assoc]

theorem State.held_sendTlp (t : Tlp) : (s.sendTlp t).link.held = s.link.held := by
  rw [State.sendTlp, State.leaves]; split <;> rfl

variable (h : s.link.held = t :: ts) {u : State} (hu : { s with link := { s.link with held := ts } } = u)
include h hu

/-- The request at the front: it goes, with those behind it, or all wait. -/
theorem State.issueHeld_cons :
    s.issueHeld = if (t.isMsix || u.mayIssue t) = true then (u.sendHeld t).flushHeld ts.length else s := by
  subst hu
  unfold State.issueHeld
  rw [h, List.length_cons, State.flushHeld]
  split
  case h_1 hn => cases hn.symm.trans h
  case h_2 t' ts' hc =>
    obtain ⟨rfl, rfl⟩ := List.cons.inj (hc.symm.trans h)
    rfl

theorem State.issueHeld_waits (hm : t.isMsix = false) (hi : u.mayIssue t = false) : s.issueHeld = s := by
  rw [State.issueHeld_cons h hu, hm, hi]; rfl

theorem State.issueHeld_goes (hm : t.isMsix = false) (hi : u.mayIssue t = true) : s.issueHeld = (u.sendTlp t).issueHeld := by
  have hs : u.sendHeld t = u.sendTlp t := by
    cases t with
    | msix => cases hm
    | _ => rfl
  have hheld : u.link.held = ts := by subst hu; rfl
  rw [State.issueHeld_cons h hu, hi, Bool.or_true, if_pos rfl, hs, State.issueHeld, State.held_sendTlp, hheld]

end

section
variable {v addr : Nat} {data : Word} {ts : List Tlp} (h : s.link.held = .msix v addr data :: ts) {u : State}
  (hu : { s with link := { s.link with held := ts } } = u)
include h hu

theorem State.issueHeld_msix : s.issueHeld = (u.sendHeld (.msix v addr data)).flushHeld ts.length := by
  rw [State.issueHeld_cons h hu]; exact if_pos rfl

theorem State.issueHeld_msixDropped (hd : s.link.msixEn = false ∨ s.mainUp = false) : s.issueHeld = u.issueHeld := by
  have hs : u.sendHeld (.msix v addr data) = u := by
    subst hu
    refine if_pos ?_
    change (!s.link.msixEn || !s.mainUp) = true
    obtain hd | hd := hd <;> simp [hd]
  rw [State.issueHeld_msix h hu, hs, State.issueHeld]
  subst hu
  rfl

section
variable (h1 : s.link.msixEn = true) (h2 : s.mainUp = true)
include h1 h2

omit h in
theorem State.sendHeld_msix :
    u.sendHeld (.msix v addr data) =
      if s.msixHeld v = true then { u with link := { u.link with pba := sput false u.link.pba v true } }
      else u.sendTlp (s.msixTlp v) := by
  subst hu
  refine if_neg ?_
  change ¬ (!s.link.msixEn || !s.mainUp) = true
  rw [h1, h2]
  nofun

theorem State.issueHeld_msixPends (hp : s.msixHeld v = true) :
    s.issueHeld = State.issueHeld { u with link := { u.link with pba := sput false u.link.pba v true } } := by
  rw [State.issueHeld_msix h hu, State.sendHeld_msix hu h1 h2, if_pos hp, State.issueHeld]
  subst hu
  rfl

theorem State.issueHeld_msixGoes (hp : s.msixHeld v = false) : s.issueHeld = (u.sendTlp (s.msixTlp v)).issueHeld := by
  have hheld : u.link.held = ts := by subst hu; rfl
  rw [State.issueHeld_msix h hu, State.sendHeld_msix hu h1 h2, if_neg (ne_true_of_eq_false hp), State.issueHeld,
    State.held_sendTlp, hheld]

end

end

/-! ### Doorbells, counters and the error capture (R343 to R347) -/

theorem doorbellAct_parked (h : (s.ring i).st = 3) : doorbellAct i s = s.rereadSlot i := by
  rw [doorbellAct]; exact if_pos h

theorem doorbellAct_busy (h : (s.ring i).st = 2 ∨ (s.ring i).st = 4) :
    doorbellAct i s = s.setRing i { s.ring i with dbPend := true } := by
  rw [doorbellAct]; exact (if_neg (by omega)).trans (if_pos h)

theorem doorbellAct_idle (h : (s.ring i).st ∉ [2, 3, 4]) : doorbellAct i s = s := by
  simp only [List.mem_cons, List.not_mem_nil, or_false, not_or] at h
  rw [doorbellAct]; exact (if_neg (by omega)).trans (if_neg (by omega))

theorem ringEvtAct_alone (v : Word) :
    ringEvtAct .alone i v s = (s.setRing i { s.ring i with evt := v.toNat }).wakeWaits 64 := by
  have hn : (if Tie.inDevice .alone = true then s.cyc.incs.count i else 0) = 0 := if_neg Bool.false_ne_true
  rw [ringEvtAct, hn, Nat.add_zero, Nat.mod_eq_of_lt v.isLt]

theorem ringEvtAct_device (v : Word) :
    ringEvtAct .device i v s =
      (s.setRing i { s.ring i with evt := (v.toNat + s.cyc.incs.count i) % 2 ^ 32 }).wakeWaits 64 := by
  have hn : (if Tie.inDevice .device = true then s.cyc.incs.count i else 0) = s.cyc.incs.count i := if_pos rfl
  rw [ringEvtAct, hn]

theorem solo_device : Tie.Solo .device := fun _ => ⟨nofun, nofun⟩

end

end

end Sys2Proof.Machine

namespace Sys2Proof

open Machine

/-- Settles O39: the configuration, the commands by the state of the ring, and the requests that wait by the one in front. -/
theorem ringsStartStopAndRing : Obligations.RingsStartStopAndRing := by
  unfold Obligations.RingsStartStopAndRing
  refine ⟨fun s a i r v hr => ?cfg, fun s a i slot ht => ?cmd, fun s a w v ht hw => ?fair, fun s i slot => ⟨rfl, rfl⟩,
    fun s t => ⟨State.emit_now, State.emit_waits, State.mayIssue_other, State.mayIssue_read, rfl, State.issueHeld_nil,
      fun ts h => ⟨State.issueHeld_goes h rfl, State.issueHeld_waits h rfl, ?_⟩⟩,
    fun s a i ht => ⟨fun h => rowWrite_answers ht (doorbellAct_parked h), fun h => rowWrite_answers ht (doorbellAct_busy h),
      fun h => rowWrite_answers ht (doorbellAct_idle h)⟩,
    fun s a i v ht => rowWrite_answers ht (by rw [ht.2]; exact ringEvtAct_alone v), fun s a i v htie hj => ?tied,
    fun s a v ht => ⟨fun h => rowWrite_answers ht (if_pos h), fun h => rowWrite_answers ht (if_neg (ne_true_of_eq_false h))⟩⟩
  case cfg =>
    intro off t g size ok ht
    have hwf : Instr.wf (.ringCfgWrite a i r v) = true := bne_iff_ne.mpr hr
    have hact := ringCfgAct_eq (s := s) (i := i) (v := v) hr (off := off) rfl (t := t) rfl
    have ans {u : State} (h : ringCfgAct i.toNat r.toNat v s = u) : exec (.ringCfgWrite a i r v) s = .next u.settle :=
      checked_answers hwf (rowWrite_answers ht h)
    have free (h : ok = true) : ¬ ok = false := by rw [h]; nofun
    exact ⟨fun h => ans (hact.trans (if_pos h)), fun h h2 => ans (hact.trans ((if_neg (free h)).trans (if_neg h2))),
      fun h h2 => ans (hact.trans ((if_neg (free h)).trans (if_pos h2)))⟩
  case cmd =>
    refine ⟨fun h => rowWrite_answers ht (ringStartAct_ignored h), fun h hs => rowWrite_answers ht (ringStartAct_starts h hs),
      fun h => rowWrite_answers ht (ringStopAct_ignored h),
      fun h => rowWrite_answers ht ((ringStopAct_runs (by omega)).trans (State.stopRing_parked h)),
      fun h hb => rowWrite_answers ht ((ringStopAct_runs (by omega)).trans (State.stopRing_busy h hb)),
      fun h => rowWrite_answers ht ((ringStopAct_runs (by omega)).trans (State.stopRing_ends h)), fun w v hw => ?_⟩
    have hne := ringCmd_ne_tpCmd i a.party
    have hrow (act lost : State → State) (hact : ringCmdAct i.toNat v s = act s) :
        exec (.registerWrite a w v) s = rowWrite a (Reg.RING_BASE_LO + 32 * i.toNat + 0x10) act lost s :=
      (registerWrite_answers hw hne ht ((regWriteAct_ringCmd a i v).trans hact)).trans (rowWrite_answers ht rfl).symm
    have hslot : (v.extractLsb' 0 16).toNat = fld v 0 16 := by simp [fld, nfld, BitVec.extractLsb'_toNat]
    refine ⟨fun h => hrow (ringStartAct i.toNat (v.extractLsb' 0 16).toNat) _ (by simp only [ringCmdAct, h, hslot]),
      fun h => hrow (ringStopAct i.toNat) _ (by simp only [ringCmdAct, h]), fun h => ?_⟩
    exact registerWrite_answers hw hne ht ((regWriteAct_ringCmd a i v).trans (ringCmdAct_noRow h))
  case fair =>
    exact ⟨fun h => registerWrite_answers hw (dmaFair_ne_tpCmd _) ht (dmaFairAct_refuses h),
      fun h1 h2 => registerWrite_answers hw (dmaFair_ne_tpCmd _) ht (dmaFairAct_stores h1 h2)⟩
  case tied =>
    change finish (s.writeAccess a (Reg.RING_BASE_LO + 32 * i.toNat + 0x18) (ringEvtAct a.tie i.toNat v) _) = _
    rw [State.writeAccess_solo (by rw [htie]; exact solo_device), hj, htie]
    exact congrArg finish (ringEvtAct_device v)
  · intro v addr data ht
    subst ht
    exact ⟨State.issueHeld_msixDropped h rfl, State.issueHeld_msixPends h rfl, State.issueHeld_msixGoes h rfl⟩

end Sys2Proof
end

section
/-!
PROOFS. Descriptors: their fetch, their checks, their end, and what a completion shows (R323, R342 to R347).
-/

namespace Sys2Proof.Machine

section
variable {s : State} {i : Nat} {st : Cpl}

/-! ### Completions (R323) -/

theorem cplTaken_dropped (f : Cpl → State → State) (h : wbit (s.cfg Cfg.aerControl) 8 = true) :
    cplTaken f .ecrc s = s.drawHdr.aerReport 19 s.freeHdr := (if_neg (not_not.mpr rfl)).trans (if_pos h)

theorem cplTaken_unchecked (f : Cpl → State → State) (h : wbit (s.cfg Cfg.aerControl) 8 = false) :
    cplTaken f .ecrc s = cplTaken f .ok s :=
  (if_neg (not_not.mpr rfl)).trans ((if_neg (ne_true_of_eq_false h)).trans (cplTaken_sound s f (by decide)).symm)

theorem cplFails_of_ne (h : st ≠ .ok) : cplFails st = true := bne_iff_ne.mpr h

theorem State.lateEnds_none (h : (s.ring i).late = 0) : s.lateEnds i st = s := by
  rw [State.lateEnds]; exact if_pos h

theorem State.lateEnds_some (h : (s.ring i).late ≠ 0) :
    s.lateEnds i st = (s.setRing i { s.ring i with late := (s.ring i).late - 1 }).cplNoted st := by
  rw [State.lateEnds]; exact if_neg h

/-! ### What configuration space shows of a poisoned completion -/

theorem State.cfg_setCfg_same (dw : Nat) (v : Word) : (s.setCfg dw v).cfg dw = v := sget_sput_same

theorem State.cfg_setCfg_other {dw dw' : Nat} (v : Word) (h : dw' ≠ dw) : (s.setCfg dw v).cfg dw' = s.cfg dw' := sget_sput_other h

theorem State.cfg_errMsg (kind dw : Nat) : (s.errMsg kind).cfg dw = s.cfg dw := by
  unfold State.errMsg State.sendTlp State.leaves
  split
  · split <;> rfl
  · rfl

theorem wbit_setBit_24 (w : Word) : wbit (setBit w 24 true) 31 = wbit w 31 := by
  have hlt := w.isLt
  have h (x : Nat) (hx : x < 2 ^ 32) : (BitVec.ofNat 32 x).getLsbD 31 = decide (2 ^ 31 ≤ x) := by
    rw [BitVec.getLsbD_ofNat, Nat.testBit_eq_decide_div_mod_eq]
    simp only [show 31 < 32 from by decide, decide_true, Bool.true_and, decide_eq_decide]
    omega
  have hw : w.getLsbD 31 = decide (2 ^ 31 ≤ w.toNat) := by
    rw [← h _ hlt, BitVec.ofNat_toNat, BitVec.setWidth_eq]
  unfold wbit setBit setFld b2n w32 nfld
  rw [hw, if_pos rfl, h _ (by omega), decide_eq_decide]
  omega

/-- An error reported through AER sets its status bit. -/
theorem State.aerStatus_aerReport {b : Nat} (hb : b < 32) (hdr : List Word) :
    wbit ((s.aerReport b hdr).cfg Cfg.aerStatus) b = true := by
  have hlog (t : State) (k : Nat) (v : Word) (hk : k ≠ Cfg.aerStatus) (ht : wbit (t.cfg Cfg.aerStatus) b = true) :
      wbit ((t.setCfg k v).cfg Cfg.aerStatus) b = true := by rwa [State.cfg_setCfg_other v (Ne.symm hk)]
  unfold State.aerReport
  extract_lets fatal advisory kind first masked s1 s2 s3 s4
  have h1 : wbit (s1.cfg Cfg.aerStatus) b = true := by
    simp only [s1]
    rw [State.cfg_setCfg_same]
    exact wbit_setBit _ hb
  have h2 : wbit (s2.cfg Cfg.aerStatus) b = true := by
    simp only [s2]
    split
    · exact hlog _ _ _ (by decide) h1
    · exact h1
  have h3 : wbit (s3.cfg Cfg.aerStatus) b = true := hlog _ _ _ (by decide) h2
  split
  · exact h3
  · rw [State.cfg_errMsg]
    simp only [s4]
    split
    · exact foldl_keeps_prop (P := fun t : State => wbit (t.cfg Cfg.aerStatus) b = true) (hlog _ _ _ (by decide) h3)
        fun t i ht => hlog t _ _ (by simp only [Cfg.aerLog, Cfg.aerStatus]; omega) ht
    · exact h3

theorem State.cplNoted_poisoned :
    wbit ((s.cplNoted .ep).cfg Cfg.aerStatus) 12 = true ∧ wbit ((s.cplNoted .ep).cfg Cfg.command) 31 = true := by
  have h12 : wbit ((s.drawHdr.poisonSeen s.freeHdr).cfg Cfg.aerStatus) 12 = true := by
    unfold State.poisonSeen
    rw [State.cfg_setCfg_other _ (by decide)]
    exact State.aerStatus_aerReport (by decide) _
  have h31 : wbit ((s.drawHdr.poisonSeen s.freeHdr).cfg Cfg.command) 31 = true := by
    unfold State.poisonSeen
    rw [State.cfg_setCfg_same]
    exact wbit_setBit _ (by decide)
  unfold State.cplNoted
  dsimp only
  split
  · rw [State.cfg_setCfg_other _ (by decide), State.cfg_setCfg_same, wbit_setBit_24]
    exact ⟨h12, h31⟩
  · exact ⟨h12, h31⟩

/-! ### The fetch (R342, R343, R347) -/

section
variable {st : Cpl} {ws : List Word} {hits : List SramHit}

theorem descriptorFetchAct_early {late : Bool} (hz : s.sram.zeroed = false) : descriptorFetchAct i late st ws hits s = s := by
  rw [descriptorFetchAct, hz]; rfl

theorem descriptorFetchAct_late (hz : s.sram.zeroed = true) : descriptorFetchAct i true st ws [] s = s.lateEnds i st := by
  rw [descriptorFetchAct, hz]; rfl

section
variable (hz : s.sram.zeroed = true) {h : Bool} {t : State} (ht : s.hostHits hits = (h, t))
include hz ht

theorem descriptorFetchAct_none (hr : (t.ring i).st ≠ 2 ∨ (t.ring i).fetch = false) :
    descriptorFetchAct i false st ws hits s = t := by
  rw [descriptorFetchAct, hz, ht]
  refine (if_neg (by nofun)).trans ((if_neg Bool.false_ne_true).trans (if_pos ?_))
  obtain hr | hr := hr <;> simp [hr]

variable (hst : (t.ring i).st = 2) (hf : (t.ring i).fetch = true)
include hst hf

theorem descriptorFetchAct_fetching :
    descriptorFetchAct i false st ws hits s =
      if cplFails st = true then ((t.setRing i { t.ring i with fetch := false }).cplNoted st).ringError i 7 false
      else if h = true then t.fetchSlot i (t.ring i).slot
      else
        let d := ws.map BitVec.toNat
        let s1 := (t.setRing i { t.ring i with fetch := false, desc := d, moved := 0, bursts := [] }).rewrites 5
        if descCheck i d ≠ 0 then s1.ringError i (descCheck i d) true
        else if dw d 0 24 4 = 1 then s1
        else if (decide (dw d 0 24 4 = 2) && !waitHolds (s1.ring (dw d 1 0 6)).evt (d.getD 2 0)) = true then
          s1.setRing i { s1.ring i with st := 4 }
        else (s1.descDone i).wakeWaits 64 := by
  rw [descriptorFetchAct, hz, ht]
  exact (if_neg (by nofun)).trans ((if_neg Bool.false_ne_true).trans (if_neg (by simp [hst, hf])))

theorem descriptorFetchAct_fails (hc : st ≠ .ok) :
    descriptorFetchAct i false st ws hits s = ((t.setRing i { t.ring i with fetch := false }).cplNoted st).ringError i 7 false :=
  (descriptorFetchAct_fetching hz ht hst hf).trans (if_pos (cplFails_of_ne hc))

theorem descriptorFetchAct_spoilt (hc : st = .ok) (hh : h = true) :
    descriptorFetchAct i false st ws hits s = t.fetchSlot i (t.ring i).slot := by
  subst hc
  exact (descriptorFetchAct_fetching hz ht hst hf).trans ((if_neg (by decide)).trans (if_pos hh))

section
variable (hc : st = .ok) (hh : h = false) {d : List Nat} (hd : ws.map BitVec.toNat = d) {s1 : State}
  (h1 : (t.setRing i { t.ring i with fetch := false, desc := d, moved := 0, bursts := [] }).rewrites 5 = s1)
include hc hh hd h1

/-- A descriptor that has come is checked, and then begins, waits or completes. -/
theorem descriptorFetchAct_taken :
    descriptorFetchAct i false st ws hits s =
      if descCheck i d ≠ 0 then s1.ringError i (descCheck i d) true
      else if dw d 0 24 4 = 1 then s1
      else if (decide (dw d 0 24 4 = 2) && !waitHolds (s1.ring (dw d 1 0 6)).evt (d.getD 2 0)) = true then
        s1.setRing i { s1.ring i with st := 4 }
      else (s1.descDone i).wakeWaits 64 := by
  subst hc hh hd h1
  exact (descriptorFetchAct_fetching hz ht hst hf).trans ((if_neg (by decide)).trans (if_neg Bool.false_ne_true))

theorem descriptorFetchAct_refused (hk : descCheck i d ≠ 0) :
    descriptorFetchAct i false st ws hits s = s1.ringError i (descCheck i d) true :=
  (descriptorFetchAct_taken hz ht hst hf hc hh hd h1).trans (if_pos hk)

variable (hk : descCheck i d = 0)
include hk

theorem descriptorFetchAct_copies (hty : dw d 0 24 4 = 1) : descriptorFetchAct i false st ws hits s = s1 :=
  (descriptorFetchAct_taken hz ht hst hf hc hh hd h1).trans ((if_neg (not_not.mpr hk)).trans (if_pos hty))

theorem descriptorFetchAct_waits (hty : dw d 0 24 4 = 2) (hw : waitHolds (s1.ring (dw d 1 0 6)).evt (d.getD 2 0) = false) :
    descriptorFetchAct i false st ws hits s = s1.setRing i { s1.ring i with st := 4 } :=
  (descriptorFetchAct_taken hz ht hst hf hc hh hd h1).trans ((if_neg (not_not.mpr hk)).trans ((if_neg (by omega)).trans
    (if_pos (by rw [hw, decide_eq_true hty]; rfl))))

theorem descriptorFetchAct_completes (h1' : dw d 0 24 4 ≠ 1)
    (hw : dw d 0 24 4 ≠ 2 ∨ waitHolds (s1.ring (dw d 1 0 6)).evt (d.getD 2 0) = true) :
    descriptorFetchAct i false st ws hits s = (s1.descDone i).wakeWaits 64 := by
  refine (descriptorFetchAct_taken hz ht hst hf hc hh hd h1).trans ((if_neg (not_not.mpr hk)).trans ((if_neg h1').trans
    (if_neg ?_)))
  obtain hw | hw := hw
  · rw [decide_eq_false hw]; nofun
  · rw [hw, Bool.not_true, Bool.and_false]; nofun

end

end

end

/-! ### Re-reads, waits and time-outs -/

section
variable {w : Word}

theorem parkRereadAct_late : parkRereadAct i true st w s = s.lateEnds i st := by
  rw [parkRereadAct]; exact if_pos rfl

theorem parkRereadAct_none (h : (s.ring i).st ≠ 3 ∨ (s.ring i).reread = 0) : parkRereadAct i false st w s = s := by
  rw [parkRereadAct]
  refine (if_neg Bool.false_ne_true).trans (if_pos ?_)
  obtain h | h := h <;> simp [h]

section
variable (h3 : (s.ring i).st = 3) (hr : (s.ring i).reread ≠ 0) {r1 : Ring} (h1 : { s.ring i with reread := (s.ring i).reread - 1 } = r1)
include h3 hr h1

theorem parkRereadAct_parked :
    parkRereadAct i false st w s =
      if cplFails st = true then ((s.setRing i r1).cplNoted st).ringError i 7 false
      else if wbit w 31 = true then s.setRing i r1
      else (s.setRing i r1.giveUp).fetchSlot i (nextSlot (fld (s.ringCfg i) 16 5) (s.ring i).slot) := by
  subst h1
  rw [parkRereadAct]
  exact (if_neg Bool.false_ne_true).trans (if_neg (by simp [h3, hr]))

end

theorem descriptorCompleteAct_iff {moved : Bool}
    (hm : ((s.ring i).st == 2 && !(s.ring i).fetch && dw (s.ring i).desc 0 24 4 == 1 &&
      decide (copyTotal (s.ring i).desc ≤ (s.ring i).moved) && (s.ring i).bursts.isEmpty && !s.link.held.any (Tlp.writesFor i)) = moved) :
    descriptorCompleteAct i s = if moved = true then (s.descDone i).wakeWaits 64 else s := by
  subst hm
  rw [descriptorCompleteAct]
  simp only [beq_eq_decide]

theorem waitTimeoutAct_none (h : (s.ring i).st ≠ 4) : waitTimeoutAct i s = s := by
  rw [waitTimeoutAct]; exact if_pos h

theorem waitTimeoutAct_waiting (h : (s.ring i).st = 4) :
    waitTimeoutAct i s =
      if waitHolds (s.ring (dw (s.ring i).desc 1 0 6)).evt ((s.ring i).desc.getD 2 0) = true then (s.descDone i).wakeWaits 64
      else s.ringError i 6 true := by
  rw [waitTimeoutAct]; exact if_neg (not_not.mpr h)

section
variable {late : Bool} {q : Option Nat}

theorem hostCplTmoAct_disabled (h : wbit (s.cfg Cfg.devCtl2) 4 = true) : hostCplTmoAct i late q s = s := by
  rw [hostCplTmoAct.eq_def]; exact if_pos h

section
variable (h : wbit (s.cfg Cfg.devCtl2) 4 = false)
include h

theorem hostCplTmoAct_late : hostCplTmoAct i true q s = if (s.ring i).late = 0 then s else s.timedOut.lateEnds i .ok := by
  rw [hostCplTmoAct.eq_def]; exact if_neg (ne_true_of_eq_false h)

theorem hostCplTmoAct_data (p : Nat) :
    hostCplTmoAct i false (some p) s =
      if (s.ring i).awaits p = true then (s.timedOut.setRing i ((s.ring i).onReq p true Req.ended)).drainRing i else s := by
  rw [hostCplTmoAct.eq_def]; exact if_neg (ne_true_of_eq_false h)

theorem hostCplTmoAct_slot :
    hostCplTmoAct i false none s =
      if (s.ring i).fetch = true then (s.timedOut.setRing i { s.ring i with fetch := false }).ringError i 7 false
      else if 0 < (s.ring i).reread then
        (s.timedOut.setRing i { s.ring i with reread := (s.ring i).reread - 1 }).ringError i 7 false
      else s := by
  rw [hostCplTmoAct.eq_def]; exact if_neg (ne_true_of_eq_false h)

end

/-- With nothing outstanding a time-out changes nothing, whether enabled or not. -/
theorem hostCplTmoAct_keeps (h : wbit (s.cfg Cfg.devCtl2) 4 = false → hostCplTmoAct i late q s = s) :
    hostCplTmoAct i late q s = s := by
  cases he : wbit (s.cfg Cfg.devCtl2) 4 with
  | true => exact hostCplTmoAct_disabled he
  | false => exact h he

end

end

end

/-! ### The checks of a descriptor (R342, R343) -/

/-- Both sides of a COPY are aligned (check 3). -/
abbrev Side.Aligned (a : Side) : Prop := a.addr % 64 = 0 ∧ a.len % 64 = 0 ∧ a.stride % 64 = 0

section
variable {i : Nat} {d : List Nat}

theorem descCheck_type (h : 2 < dw d 0 24 4) : descCheck i d = 1 := by
  rw [descCheck]; exact if_pos h

theorem descCheck_reserved (h : dw d 0 24 4 ≤ 2) (hr : descReservedZero d = false) : descCheck i d = 2 := by
  rw [descCheck, hr]; exact (if_neg (Nat.not_lt.mpr h)).trans (if_pos rfl)

section
variable (hr : descReservedZero d = true)
include hr

theorem descCheck_nop (h : dw d 0 24 4 = 0) : descCheck i d = 0 := by
  simp [descCheck, hr, h]

theorem descCheck_wait (h : dw d 0 24 4 = 2) :
    descCheck i d = if dw d 1 0 6 = i ∨ dw d 3 0 24 = 0 then 2 else 0 := by
  simp [descCheck, hr, h]

theorem descCheck_copy (h : dw d 0 24 4 = 1) :
    descCheck i d =
      if (srcSide d).dev = false ∧ (dstSide d).dev = false then 2
      else if ¬ ((srcSide d).Aligned ∧ (dstSide d).Aligned) then 3
      else if (srcSide d).len = 0 ∨ (dstSide d).len = 0 ∨ (srcSide d).count = 0 ∨ (dstSide d).count = 0 ∨
        (srcSide d).len * (srcSide d).count ≠ (dstSide d).len * (dstSide d).count then 4
      else if ¬ (sideEnd (srcSide d) < (if (srcSide d).dev = true then 2 ^ 35 else 2 ^ 64) ∧
        sideEnd (dstSide d) < (if (dstSide d).dev = true then 2 ^ 35 else 2 ^ 64)) then 5
      else 0 := by
  have hfits (x : Side) : (if x.dev then decide (sideEnd x < 2 ^ 35) else decide (sideEnd x < 2 ^ 64)) =
      decide (sideEnd x < (if x.dev = true then 2 ^ 35 else 2 ^ 64)) := by split <;> rfl
  unfold descCheck
  simp only [hr, h, hfits]
  refine (if_neg (by decide)).trans ((if_neg (by decide)).trans (if_congr (by simp) rfl ((if_neg (by simp)).trans
    ((if_neg (by simp)).trans (if_congr ?_ rfl (if_congr (by simp [or_assoc]) rfl (if_congr ?_ rfl rfl)))))))
  · simp [and_assoc, Classical.or_iff_not_imp_left]
  · simp [Classical.or_iff_not_imp_left]

end

end

end Sys2Proof.Machine

namespace Sys2Proof

open Machine

/-- Settles O40: a fetch by its outcome, re-reads, waits and time-outs by the state of the ring, and the checks in their order. -/
theorem descriptorsAreFetchedAndChecked : Obligations.DescriptorsAreFetchedAndChecked := by
  unfold Obligations.DescriptorsAreFetchedAndChecked
  refine ⟨fun s0 i st ws hits hl hwf hst => ?fetch, fun s i late pos w ws hits data hl hwf => ?ecrc,
    fun s i st w hl hst => ?reread, fun s i hl => ?ends, fun s i st w ws hl hst => ?late,
    fun s i st => ⟨State.lateEnds_none, State.lateEnds_some⟩, fun s => ⟨rfl, rfl, rfl, State.cplNoted_poisoned⟩, fun i d => ?checks⟩
  case fetch =>
    have ans {t : State} (h : descriptorFetchAct i.toNat false st ws hits s0 = t) :
        exec (.descriptorFetch i false st ws hits) s0 = .next t.settle :=
      checked_answers hwf (onPage_answers hl ((cplTaken_sound s0 _ hst).trans h))
    refine ⟨fun hz => ans (descriptorFetchAct_early hz), fun hz => ?_⟩
    intro s g d s1 answers
    have ht : s0.hostHits hits = ((s0.hostHits hits).1, s) := rfl
    refine ⟨fun h => ans (descriptorFetchAct_none hz ht h), fun h2 hf => ⟨fun hc => ans (descriptorFetchAct_fails hz ht h2 hf hc),
      fun hc hh => ans (descriptorFetchAct_spoilt hz ht h2 hf hc hh), fun hc hh =>
        ⟨fun hk => ans (descriptorFetchAct_refused hz ht h2 hf hc hh rfl rfl hk), fun hk =>
          ⟨fun hty => ans (descriptorFetchAct_copies hz ht h2 hf hc hh rfl rfl hk hty),
            fun hty hw => ans (descriptorFetchAct_waits hz ht h2 hf hc hh rfl rfl hk hty hw),
            fun hty hw => ans (descriptorFetchAct_completes hz ht h2 hf hc hh rfl rfl hk hty hw)⟩⟩⟩⟩
  case ecrc =>
    have hwf' : Instr.wf (.descriptorFetch i late .ok ws hits) = true := hwf
    refine ⟨fun h => ⟨checked_answers hwf (onPage_answers hl (cplTaken_dropped _ h)), onPage_answers hl (cplTaken_dropped _ h),
      onPage_answers hl (cplTaken_dropped _ h)⟩, fun h => ⟨?_, ?_, ?_⟩⟩
    · exact (checked_answers hwf (onPage_answers hl (cplTaken_unchecked _ h))).trans
        (checked_answers hwf' (onPage_answers hl rfl)).symm
    · exact (onPage_answers hl (cplTaken_unchecked _ h)).trans (onPage_answers hl rfl).symm
    · exact (onPage_answers hl (cplTaken_unchecked _ h)).trans (onPage_answers hl rfl).symm
  case reread =>
    have ans {t : State} (h : parkRereadAct i.toNat false st w s = t) : exec (.parkReread i false st w) s = .next t.settle :=
      onPage_answers hl ((cplTaken_sound s _ hst).trans h)
    refine ⟨fun h => ans (parkRereadAct_none h), fun h3 hr => ?_⟩
    have hact := parkRereadAct_parked (st := st) (w := w) h3 hr rfl
    have hok (h : st = .ok) : ¬ cplFails st = true := by rw [h]; decide
    exact ⟨fun h => ans (hact.trans (if_pos (cplFails_of_ne h))),
      fun h hw => ans (hact.trans ((if_neg (hok h)).trans (if_pos hw))),
      fun h hw => ans (hact.trans ((if_neg (hok h)).trans (if_neg (ne_true_of_eq_false hw))))⟩
  case ends =>
    intro g moved due s1 enabled
    refine ⟨fun h => onPage_answers hl ((descriptorCompleteAct_iff rfl).trans (if_pos h)),
      fun h => onPage_answers hl ((descriptorCompleteAct_iff rfl).trans (if_neg (ne_true_of_eq_false h))),
      fun h => onPage_answers hl (waitTimeoutAct_none h),
      fun h hd => onPage_answers hl ((waitTimeoutAct_waiting h).trans (if_pos hd)),
      fun h hd => onPage_answers hl ((waitTimeoutAct_waiting h).trans (if_neg (ne_true_of_eq_false hd))),
      fun he hf => onPage_answers hl ((hostCplTmoAct_slot he).trans (if_pos hf)),
      fun he hf hr => onPage_answers hl ((hostCplTmoAct_slot he).trans ((if_neg (ne_true_of_eq_false hf)).trans
        (if_pos (Nat.pos_of_ne_zero hr)))),
      fun hf hr => onPage_answers hl (hostCplTmoAct_keeps fun he => (hostCplTmoAct_slot he).trans
        ((if_neg (ne_true_of_eq_false hf)).trans (if_neg (not_lt.mpr (le_of_eq hr))))),
      fun he late q => onPage_answers hl (hostCplTmoAct_disabled (Bool.eq_true_of_not_eq_false he)), fun p =>
      ⟨fun he ha => onPage_answers hl ((hostCplTmoAct_data he p).trans (if_pos ha)),
        fun ha => onPage_answers hl (hostCplTmoAct_keeps fun he => (hostCplTmoAct_data he p).trans
          (if_neg (ne_true_of_eq_false ha))),
        fun he hz q => onPage_answers hl ((hostCplTmoAct_late he).trans (if_neg hz)),
        fun hz q => onPage_answers hl (hostCplTmoAct_keeps fun he => (hostCplTmoAct_late he).trans (if_pos hz))⟩⟩
  case late =>
    refine ⟨onPage_answers hl ((cplTaken_sound s _ hst).trans parkRereadAct_late), fun hok hlen hz => ?_⟩
    have hwf : Instr.wf (.descriptorFetch i true st ws []) = true := by simp [Instr.wf, hlen]
    exact checked_answers hwf (onPage_answers hl ((cplTaken_sound s _ hst).trans (descriptorFetchAct_late hz)))
  case checks =>
    intro ty a b aligned sized inside
    refine ⟨descCheck_type, descCheck_reserved, fun h hr => descCheck_nop hr h,
      fun h hr => ⟨fun hw => (descCheck_wait hr h).trans (if_pos hw),
        fun h1 h2 => (descCheck_wait hr h).trans (if_neg (not_or.mpr ⟨h1, h2⟩))⟩, fun h hr => ?_⟩
    have hcopy := descCheck_copy (i := i) hr h
    refine ⟨fun ha hb => hcopy.trans (if_pos ⟨ha, hb⟩), fun hdev => ?_⟩
    have hdev' : ¬ ((srcSide d).dev = false ∧ (dstSide d).dev = false) := fun ⟨ha, hb⟩ =>
      hdev.elim (fun h => absurd h (ne_true_of_eq_false ha)) fun h => absurd h (ne_true_of_eq_false hb)
    have hal : aligned ↔ (srcSide d).Aligned ∧ (dstSide d).Aligned := by
      simp only [aligned, Side.Aligned, and_assoc]
      exact Iff.rfl
    have hsz : sized ↔ ¬ ((srcSide d).len = 0 ∨ (dstSide d).len = 0 ∨ (srcSide d).count = 0 ∨ (dstSide d).count = 0 ∨
        (srcSide d).len * (srcSide d).count ≠ (dstSide d).len * (dstSide d).count) := by
      simp only [not_or, not_not]
      exact Iff.rfl
    refine ⟨fun h3 => ?_, fun h3 h4 => ?_, fun h3 h4 h5 => ?_, fun h3 h4 h5 h6 => ?_⟩
    · exact hcopy.trans ((if_neg hdev').trans (if_pos (hal.not.mp h3)))
    · exact hcopy.trans ((if_neg hdev').trans ((if_neg (not_not.mpr (hal.mp h3))).trans
        (if_pos (Classical.not_not.mp (hsz.not.mp h4)))))
    · exact hcopy.trans ((if_neg hdev').trans ((if_neg (not_not.mpr (hal.mp h3))).trans ((if_neg (hsz.mp h4)).trans (if_pos h5))))
    · exact hcopy.trans ((if_neg hdev').trans ((if_neg (not_not.mpr (hal.mp h3))).trans ((if_neg (hsz.mp h4)).trans
        (if_neg (not_not.mpr ⟨h5, h6⟩)))))

end Sys2Proof
end

section
/-!
PROOFS. Copies: the ring that a channel serves, its bursts and their delivery (R337, R338, R341, R347, R394).
-/

namespace Sys2Proof.Machine

/-! ### The least of a list -/

theorem leastBy_eq_none {key : Nat → Nat} {l : List Nat} : leastBy key l = none ↔ l = [] := by
  cases l with
  | nil => exact ⟨fun _ => rfl, fun _ => rfl⟩
  | cons i l =>
    unfold leastBy
    split
    · simp
    · split <;> simp

/-- The element that `leastBy` finds has the least key, and is the first that has it. -/
theorem leastBy_spec {key : Nat → Nat} {l : List Nat} {i : Nat} (h : leastBy key l = some i) :
    i ∈ l ∧ (∀ j ∈ l, key i ≤ key j) ∧ (l.Pairwise (· < ·) → ∀ j ∈ l, key j = key i → i ≤ j) := by
  induction l generalizing i with
  | nil => cases h
  | cons a l ih =>
    unfold leastBy at h
    split at h
    · rename_i hn
      obtain rfl := leastBy_eq_none.mp hn
      obtain rfl := Option.some.inj h
      simp
    · rename_i j hj
      obtain ⟨hm, hle, hfirst⟩ := ih hj
      split at h
      · rename_i hlt
        obtain rfl := Option.some.inj h
        refine ⟨List.mem_cons_of_mem _ hm, List.forall_mem_cons.mpr ⟨hlt.le, hle⟩, fun hp => List.forall_mem_cons.mpr ⟨?_, ?_⟩⟩
        · intro he; omega
        · exact hfirst (List.pairwise_cons.mp hp).2
      · rename_i hge
        obtain rfl := Option.some.inj h
        refine ⟨List.mem_cons_self, List.forall_mem_cons.mpr ⟨le_rfl, fun k hk => ?_⟩, fun hp =>
          List.forall_mem_cons.mpr ⟨fun _ => le_rfl, fun k hk _ => ((List.pairwise_cons.mp hp).1 k hk).le⟩⟩
        exact (Nat.le_of_not_lt hge).trans (hle k hk)

/-- A maximum taken by a fold bounds the list, and is the start or an element's. -/
theorem foldl_max_spec (f : Nat → Nat) (l : List Nat) (a : Nat) :
    a ≤ l.foldl (fun m i => max m (f i)) a ∧ (∀ i ∈ l, f i ≤ l.foldl (fun m i => max m (f i)) a) ∧
      (l.foldl (fun m i => max m (f i)) a = a ∨ ∃ i ∈ l, f i = l.foldl (fun m i => max m (f i)) a) := by
  induction l generalizing a with
  | nil => exact ⟨le_rfl, nofun, Or.inl rfl⟩
  | cons i l ih =>
    obtain ⟨h1, h2, h3⟩ := ih (max a (f i))
    refine ⟨(le_max_left _ _).trans h1, List.forall_mem_cons.mpr ⟨(le_max_right _ _).trans h1, h2⟩, ?_⟩
    rw [List.foldl_cons]
    obtain h3 | ⟨k, hk, he⟩ := h3
    · rw [h3]
      obtain h | h := max_choice a (f i)
      · exact Or.inl h
      · exact Or.inr ⟨i, List.mem_cons_self, h.symm⟩
    · exact Or.inr ⟨k, List.mem_cons_of_mem _ hk, he⟩

/-! ### The order of turns (R337) -/

/-- The turn of ring `j` after the last one served. -/
def turnAfter (last j : Nat) : Nat := (j + 64 - last % 64) % 64

theorem ringsAfter_getElem (last k : Nat) (hk : k < 64) : (ringsAfter last)[k]? = some ((last + k) % 64) := by
  simp [ringsAfter, hk]

theorem ringsAfter_turn {last j : Nat} (hj : j < 64) : (ringsAfter last)[turnAfter last j]? = some j := by
  rw [turnAfter, ringsAfter_getElem _ _ (Nat.mod_lt _ (by decide))]
  congr 1
  omega

theorem turnAfter_of_getElem {last k : Nat} (hk : k < 64) : turnAfter last ((last + k) % 64) = k := by
  rw [turnAfter]; omega

/-- The first ring in turn that meets a condition. -/
theorem find_ringsAfter {last i : Nat} {p : Nat → Bool} (h : (ringsAfter last).find? p = some i) :
    p i = true ∧ ∀ j < 64, p j = true → turnAfter last i ≤ turnAfter last j := by
  obtain ⟨hp, k, hk, hi, hmin⟩ := List.find?_eq_some_iff_getElem.mp h
  have hk64 : k < 64 := by simpa [ringsAfter] using hk
  refine ⟨hp, fun j hj hpj => ?_⟩
  have hti : turnAfter last i = k := by
    rw [← hi, ← Option.some.inj ((ringsAfter_getElem last k hk64).symm.trans (List.getElem?_eq_getElem hk)), turnAfter_of_getElem hk64]
  rw [hti]
  by_contra hlt
  have hj' := ringsAfter_turn (last := last) hj
  have := hmin (turnAfter last j) (by omega)
  rw [List.getElem?_eq_getElem (by omega)] at hj'
  rw [Option.some.inj hj', hpj] at this
  cases this

section
variable {s : State} {ch : Nat}

/-! ### The ring that is served -/

/-- Ring `i` waits for a burst of channel `ch`. -/
def State.waitsFor (s : State) (ch i : Nat) : Prop :=
  i < 64 ∧ fld (s.ringCfg i) 0 4 = ch ∧ (s.ring i).st = 2 ∧ (s.ring i).fetch = false ∧ (s.ring i).stopReq = false ∧
    dw (s.ring i).desc 0 24 4 = 1 ∧ (s.ring i).moved < copyTotal (s.ring i).desc

/-- The rings that wait. -/
def State.waiting (s : State) (ch : Nat) : List Nat := (List.range 64).filter fun i => fld (s.ringCfg i) 0 4 == ch && s.hasBurst i

theorem State.mem_waiting {i : Nat} : i ∈ s.waiting ch ↔ s.waitsFor ch i := by
  simp only [State.waiting, State.hasBurst, State.waitsFor, List.mem_filter, List.mem_range, Bool.and_eq_true, beq_iff_eq,
    Bool.not_eq_true', decide_eq_true_eq]
  tauto

/-- The highest priority of the rings that wait. -/
def State.topPrio (s : State) (ch : Nat) : Nat := (s.waiting ch).foldl (fun a i => max a (fld (s.ringCfg i) 8 3)) 0

theorem State.chooseRing_eq :
    s.chooseRing ch =
      if s.rf Reg.DMA_FAIR 0 7 ≠ 0 ∧ ((s.chan ch).count + 1) % s.rf Reg.DMA_FAIR 0 7 = 0 then
        leastBy (fun i => (s.ring i).lastBurst) (s.waiting ch)
      else (ringsAfter (sget 0 (s.chan ch).last (s.topPrio ch))).find? fun i =>
        (s.waiting ch).contains i && fld (s.ringCfg i) 8 3 == s.topPrio ch := rfl

theorem State.chooseRing_none (h : ∀ i, ¬ s.waitsFor ch i) : s.chooseRing ch = none := by
  have hnil : s.waiting ch = [] := List.eq_nil_iff_forall_not_mem.mpr fun i hi => h i (State.mem_waiting.mp hi)
  rw [State.chooseRing_eq, hnil]
  split
  · rfl
  · exact List.find?_eq_none.mpr fun i _ => by simp

theorem State.prio_le_top {j : Nat} (h : s.waitsFor ch j) : fld (s.ringCfg j) 8 3 ≤ s.topPrio ch :=
  (foldl_max_spec (fun i => fld (s.ringCfg i) 8 3) (s.waiting ch) 0).2.1 j (State.mem_waiting.mpr h)

theorem State.exists_top (h : ∃ i, s.waitsFor ch i) : ∃ i, s.waitsFor ch i ∧ fld (s.ringCfg i) 8 3 = s.topPrio ch := by
  obtain ⟨j, hj⟩ := h
  obtain hz | ⟨i, hi, he⟩ := (foldl_max_spec (fun i => fld (s.ringCfg i) 8 3) (s.waiting ch) 0).2.2
  · exact ⟨j, hj, Nat.le_antisymm (State.prio_le_top hj) ((Nat.le_of_eq hz).trans (Nat.zero_le _))⟩
  · exact ⟨i, State.mem_waiting.mp hi, he⟩

theorem State.chooseRing_some (h : ∃ i, s.waitsFor ch i) : ∃ i, s.chooseRing ch = some i := by
  rw [State.chooseRing_eq]
  split
  · obtain ⟨j, hj⟩ := h
    rw [← Option.isSome_iff_exists, Option.isSome_iff_ne_none, ne_eq, leastBy_eq_none]
    exact List.ne_nil_of_mem (State.mem_waiting.mpr hj)
  · obtain ⟨j, hj, hp⟩ := State.exists_top h
    rw [← Option.isSome_iff_exists, List.find?_isSome]
    refine ⟨j, List.mem_of_getElem? (ringsAfter_turn hj.1), ?_⟩
    rw [List.contains_iff_mem.mpr (State.mem_waiting.mpr hj), hp, beq_self_eq_true]
    rfl

section
variable {i : Nat} (h : s.chooseRing ch = some i)
include h

/-- Every N-th burst goes to the ring that has waited longest. -/
theorem State.chooseRing_fair (hf : s.rf Reg.DMA_FAIR 0 7 ≠ 0 ∧ ((s.chan ch).count + 1) % s.rf Reg.DMA_FAIR 0 7 = 0) :
    s.waitsFor ch i ∧ ∀ j, s.waitsFor ch j → (s.ring i).lastBurst ≤ (s.ring j).lastBurst := by
  rw [State.chooseRing_eq, if_pos hf] at h
  obtain ⟨hm, hle, _⟩ := leastBy_spec h
  exact ⟨State.mem_waiting.mp hm, fun j hj => hle j (State.mem_waiting.mpr hj)⟩

/-- Any other burst goes by priority, and by turn among equals. -/
theorem State.chooseRing_turn (hf : ¬ (s.rf Reg.DMA_FAIR 0 7 ≠ 0 ∧ ((s.chan ch).count + 1) % s.rf Reg.DMA_FAIR 0 7 = 0)) :
    s.waitsFor ch i ∧ ∀ j, s.waitsFor ch j → fld (s.ringCfg j) 8 3 ≤ fld (s.ringCfg i) 8 3 ∧
      (fld (s.ringCfg j) 8 3 = fld (s.ringCfg i) 8 3 →
        turnAfter (sget 0 (s.chan ch).last (fld (s.ringCfg i) 8 3)) i ≤ turnAfter (sget 0 (s.chan ch).last (fld (s.ringCfg i) 8 3)) j) := by
  rw [State.chooseRing_eq, if_neg hf] at h
  obtain ⟨hp, hmin⟩ := find_ringsAfter h
  have hiff (k : Nat) : ((s.waiting ch).contains k && fld (s.ringCfg k) 8 3 == s.topPrio ch) = true ↔
      s.waitsFor ch k ∧ fld (s.ringCfg k) 8 3 = s.topPrio ch := by
    rw [Bool.and_eq_true, List.contains_iff_mem, State.mem_waiting, beq_iff_eq]
  obtain ⟨hw, htop⟩ := (hiff i).mp hp
  refine ⟨hw, fun j hj => ⟨htop ▸ State.prio_le_top hj, fun he => ?_⟩⟩
  rw [htop]
  exact hmin j hj.1 ((hiff j).mpr ⟨hj, he.trans htop⟩)

end

end

/-! ### The length of a burst (R337) -/

theorem burstLen_spec (a b : Side) (p : Nat) (ha : 0 < a.len) (hb : 0 < b.len) :
    0 < burstLen a b p ∧ burstLen a b p ≤ 4096 ∧ p % a.len + burstLen a b p ≤ a.len ∧ p % b.len + burstLen a b p ≤ b.len ∧
      (a.dev = false → sideAddr a p % 4096 + burstLen a b p ≤ 4096) ∧
      (b.dev = false → sideAddr b p % 4096 + burstLen a b p ≤ 4096) ∧
      (burstLen a b p = 4096 ∨ p % a.len + burstLen a b p = a.len ∨ p % b.len + burstLen a b p = b.len ∨
        (a.dev = false ∧ (sideAddr a p + burstLen a b p) % 4096 = 0) ∨
        (b.dev = false ∧ (sideAddr b p + burstLen a b p) % 4096 = 0)) := by
  have h1 := Nat.mod_lt p ha
  have h2 := Nat.mod_lt p hb
  unfold burstLen toPage
  generalize sideAddr a p = x
  generalize sideAddr b p = y
  generalize p % a.len = q at h1 ⊢
  generalize p % b.len = r at h2 ⊢
  cases a.dev <;> cases b.dev <;> simp only [Bool.false_eq_true, if_false, if_true, true_and, false_and, or_false, false_or,
    true_implies, false_implies, reduceCtorEq] <;> omega

/-! ### The bursts of a ring -/

section
variable {s : State} {i : Nat}

theorem State.drain_last (n : Nat) (hb : (s.ring i).bursts = []) :
    s.drain i (n + 1) = if (s.ring i).stopReq = true then s.endStopped i else s := by
  simp only [State.drain, hb]

theorem State.drain_next (n : Nat) {b : Burst} {bs : List Burst} (hb : (s.ring i).bursts = b :: bs) :
    s.drain i (n + 1) =
      if b.bad = true then s.ringError i 7 true
      else if (!b.full || ((dstSide (s.ring i).desc).dev && !s.dramOpen)) = true then s
      else ((s.deliver i b.pos (b.reqs.flatMap Req.got)).setRing i { s.ring i with bursts := bs }).drain i n := by
  rw [State.drain]
  split
  case h_1 hc => cases hc.symm.trans hb
  case h_2 b' bs' hc =>
    obtain ⟨rfl, rfl⟩ := List.cons.inj (hc.symm.trans hb)
    rfl

section
variable {pos : Nat} {st : Cpl} {data : List Byte}

theorem hostCompletionAct_late : hostCompletionAct i true pos st data s = s.lateEnds i st := by
  rw [hostCompletionAct]; exact if_pos rfl

theorem hostCompletionAct_stray (h : (s.ring i).awaits pos = false) : hostCompletionAct i false pos st data s = s := by
  rw [hostCompletionAct, h]; rfl

theorem hostCompletionAct_awaited (h : (s.ring i).awaits pos = true) :
    hostCompletionAct i false pos st data s =
      if cplFails st = true then ((s.setRing i ((s.ring i).onReq pos true Req.ended)).cplNoted st).drainRing i
      else (s.setRing i ((s.ring i).onReq pos false fun q => { q with got := (q.got ++ data).take q.len })).drainRing i := by
  rw [hostCompletionAct, h]
  exact (if_neg Bool.false_ne_true).trans (if_neg (by nofun))

end

/-! ### A burst begins -/

section
variable {ch : Nat}

theorem dmaBurstAct_none (h : s.chooseRing ch = none) : dmaBurstAct ch s = s := by
  simp only [dmaBurstAct, h]

variable (h : s.chooseRing ch = some i) {n : Nat} (hn : burstLen (srcSide (s.ring i).desc) (dstSide (s.ring i).desc) (s.ring i).moved = n)
  {closed : Bool} (hc : (!s.dramOpen || (!(srcSide (s.ring i).desc).dev && decide (0 < s.readsOpen ∧ s.maxReads < s.readsOpen +
    (s.burstReqs (s.ring i).moved n).length + 64))) = closed)
include h hn hc

theorem dmaBurstAct_closed (hcl : closed = true) : dmaBurstAct ch s = s := by
  subst hn hc
  unfold dmaBurstAct
  split
  case h_1 hx => cases hx.symm.trans h
  case h_2 j hj =>
    obtain rfl := Option.some.inj (hj.symm.trans h)
    exact if_pos hcl

variable (hcl : closed = false) {s2 : State}
  (h2 : ({ s with burstNo := s.burstNo + 1 } : State).setChan ch
    ⟨(s.chan ch).count + 1, sput 0 (s.chan ch).last (fld (s.ringCfg i) 8 3) (i + 1)⟩ = s2) {g1 : Ring}
  (hg : { s.ring i with moved := (s.ring i).moved + n, lastBurst := s.burstNo + 1 } = g1)
include hcl h2 hg

theorem dmaBurstAct_host (hd : (srcSide (s.ring i).desc).dev = false) :
    dmaBurstAct ch s =
      (s.burstReqs (s.ring i).moved n).foldl
        (fun (t : State) q => t.emit (.hostRead i (sideAddr (srcSide (s.ring i).desc) (s.ring i).moved + (q.pos - (s.ring i).moved))
          q.len false (wbit (s.ringCfg i) 24)))
        (s2.setRing i { g1 with bursts := g1.bursts ++ [⟨(s.ring i).moved, s.burstReqs (s.ring i).moved n, false⟩] }) := by
  subst hn hc h2 hg
  unfold dmaBurstAct
  split
  case h_1 hx => cases hx.symm.trans h
  case h_2 j hj =>
    obtain rfl := Option.some.inj (hj.symm.trans h)
    exact (if_neg (ne_true_of_eq_false hcl)).trans (if_neg (ne_true_of_eq_false hd))

variable {got : Option (List Byte) × State}
  (hgot : (s2.setRing i g1).dramRead 8 (sideAddr (srcSide (s.ring i).desc) (s.ring i).moved) n = got)
include hgot

theorem dmaBurstAct_dram (hd : (srcSide (s.ring i).desc).dev = true) :
    dmaBurstAct ch s = got.1.elim (got.2.ringError i 8 true) fun bytes => got.2.deliver i (s.ring i).moved bytes := by
  subst hn hc h2 hg hgot
  unfold dmaBurstAct
  split
  case h_1 hx => cases hx.symm.trans h
  case h_2 j hj =>
    obtain rfl := Option.some.inj (hj.symm.trans h)
    refine (if_neg (ne_true_of_eq_false hcl)).trans ((if_pos hd).trans ?_)
    dsimp only
    split <;> rename_i hx <;> rw [hx] <;> rfl

end

end

end Sys2Proof.Machine

namespace Sys2Proof

open Machine

/-- Settles O41: the ring chosen by priority, turn and age, the length of a burst, and its way to the destination. -/
theorem copiesMoveInBursts : Obligations.CopiesMoveInBursts := by
  unfold Obligations.CopiesMoveInBursts
  refine ⟨fun s ch hl => ⟨fun h => onPage_answers hl (dmaBurstAct_none h), fun i h => ?burst⟩,
    fun s i pos st data hl hst => ⟨fun h => ?stray, fun h => ?awaited, ?late⟩, fun s i n => ⟨rfl, fun hb hs => ?_, fun hb hs => ?_,
      fun b bs hb => ?drain⟩, fun s ch => ⟨State.chooseRing_none, State.chooseRing_some, fun i h => ⟨?_, fun hf => (State.chooseRing_fair h hf).2,
        fun hf => (State.chooseRing_turn h hf).2⟩⟩, burstLen_spec⟩
  case burst =>
    intro g a n reqs closed c s2 g1 got
    refine ⟨fun hcl => onPage_answers hl (dmaBurstAct_closed h rfl rfl hcl), fun hcl hd hg => ?_, fun bytes hcl hd hg => ?_,
      fun hcl hd => onPage_answers hl (dmaBurstAct_host h rfl rfl hcl rfl rfl hd)⟩
    · have hact := dmaBurstAct_dram (got := got) h rfl rfl hcl rfl rfl rfl hd
      rw [hg] at hact
      exact onPage_answers hl hact
    · have hact := dmaBurstAct_dram (got := got) h rfl rfl hcl rfl rfl rfl hd
      rw [hg] at hact
      exact onPage_answers hl hact
  case stray => exact onPage_answers hl ((cplTaken_sound s _ hst).trans (hostCompletionAct_stray h))
  case awaited =>
    have hact := hostCompletionAct_awaited (st := st) (data := data) h
    refine ⟨fun hf => onPage_answers hl ((cplTaken_sound s _ hst).trans (hact.trans (if_pos (cplFails_of_ne hf)))), fun hok => ?_⟩
    exact onPage_answers hl ((cplTaken_sound s _ hst).trans (hact.trans (if_neg (by rw [hok]; decide))))
  case late => exact onPage_answers hl ((cplTaken_sound s _ hst).trans hostCompletionAct_late)
  case drain =>
    have hd := State.drain_next n hb
    exact ⟨fun h => hd.trans (if_pos h), fun h hw => hd.trans ((if_neg (ne_true_of_eq_false h)).trans (if_pos hw)),
      fun h hw => hd.trans ((if_neg (ne_true_of_eq_false h)).trans (if_neg (ne_true_of_eq_false hw)))⟩
  · exact (State.drain_last n hb).trans (if_neg (ne_true_of_eq_false hs))
  · exact (State.drain_last n hb).trans (if_pos hs)
  · by_cases hf : s.rf Reg.DMA_FAIR 0 7 ≠ 0 ∧ ((s.chan ch).count + 1) % s.rf Reg.DMA_FAIR 0 7 = 0
    · exact (State.chooseRing_fair h hf).1
    · exact (State.chooseRing_turn h hf).1

end Sys2Proof
end

section
/-!
PROOFS. Writes of DRAM: what a line holds after one, and a BAR2 write that reads back (R324, R364, R366).
-/

namespace Sys2Proof.Machine

section
variable {s : State} {i l mark : Nat} {bs : List Byte}

/-! ### A line stored -/

@[simp] theorem State.data_dramStore : (s.dramStore l mark bs).dram.data = memWriteList s.dram.data (64 * l) bs := by
  simp [State.dramStore]

theorem State.lineErr_dramStore : (s.dramStore l mark bs).dram.lineErr l = [] := by
  simp [State.dramStore, Dram.lineErr, Dram.setPoison, Dram.clearErr, skeep, List.filter_filter]

theorem State.poison_dramStore : (s.dramStore l mark bs).dram.poison l = mark := sget_sput_same

/-- A line stored counts as written. -/
theorem Dram.never_fill (m : Dram) (l : Nat) : (m.fill l).never l = false := by
  unfold Dram.fill
  split
  · rename_i h
    simp only [Dram.unknown, Bool.and_eq_true, Bool.or_eq_true, beq_iff_eq] at h
    obtain ⟨h | ⟨h, _⟩, _⟩ := h
    · have hb : m.block l = 2 := h
      simp only [Dram.never, Dram.block] at hb ⊢
      simp [hb]
    · simp [Dram.never, h]
  · split
    · simp [Dram.never, Dram.block, sget_sput_same]
    · rename_i h
      exact Bool.eq_false_of_not_eq_true h

theorem State.never_dramStore : (s.dramStore l mark bs).dram.never l = false := Dram.never_fill s.dram l

/-- Written bytes over old ones. -/
theorem length_mergeBytes {old : List Byte} {new : List (Option Byte)} : (mergeBytes old new).length = min old.length new.length := by
  simp [mergeBytes]

theorem mergeBytes_getElem {old : List Byte} {new : List (Option Byte)} {j : Nat} (ho : j < old.length) (hn : j < new.length)
    (h : j < (mergeBytes old new).length) : (mergeBytes old new)[j] = new[j].getD old[j] := by
  simp [mergeBytes]

/-- A line that a full write replaces. -/
theorem memRead_dramStore {j : Nat} (hj : j < bs.length) : memRead (s.dramStore l mark bs).dram.data (64 * l + j) = bs[j] := by
  rw [State.data_dramStore, memRead_memWriteList_same _ _ _ _ hj]

/-! ### A line written (R364) -/

section
variable {new : List (Option Byte)}

/-- The state in which a line is written: its request is raised, and that of the fill of a block that nothing has written. -/
def State.dramRaised (s : State) (i l : Nat) : State :=
  if (s.portRaise i).dram.never l then (s.portRaise i).portRaise 10 else s.portRaise i

theorem State.dramRaised_arb (i l : Nat) : ∃ a, s.dramRaised i l = { s with arb := a } := by
  obtain ⟨a, ha⟩ := s.portRaise_arb i
  unfold State.dramRaised
  split
  · rw [ha]
    obtain ⟨b, hb⟩ := State.portRaise_arb (s := { s with arb := a }) 10
    exact ⟨b, hb⟩
  · exact ⟨a, ha⟩

theorem State.dramRaised_dram : (s.dramRaised i l).dram = s.dram := by
  obtain ⟨a, ha⟩ := s.dramRaised_arb i l
  rw [ha]

/-- A written line that a write changes in part, by what the line is read as (R364). -/
def State.dramMerge (s : State) (i l : Nat) (new : List (Option Byte)) : State :=
  let u := s.dramRaised i l
  let p := s.dram.poison l
  let bytes := mergeBytes (s.dram.decide l).2 new
  match (s.dram.decide l).1 with
  | .good => u.dramStore l 0 bytes
  | .corrected n => (u.dramStore l 0 bytes).dramCorrected i l n
  | .bad => (u.dramStore l p bytes).makePoison i l (untouchedMask new)
  | .poisoned => u.dramStore l (if p < 2 then 1 else 2 * (p / 2 &&& untouchedMask new)) bytes

theorem State.dramWriteLine_eq :
    s.dramWriteLine i l new =
      if new.all Option.isNone = true then s
      else if new.all Option.isSome = true then (s.dramRaised i l).dramStore l 0 (new.map fun b => b.getD 0)
      else if s.dram.never l = true then (s.dramRaised i l).dramStore l 0 (mergeBytes (List.replicate 64 0) new)
      else s.dramMerge i l new := by
  have hd : (s.dramRaised i l).dram = s.dram := State.dramRaised_dram
  unfold State.dramWriteLine State.dramMerge
  dsimp only
  generalize hu : (if (s.portRaise i).dram.never l = true then (s.portRaise i).portRaise 10 else s.portRaise i) = u
  obtain rfl : s.dramRaised i l = u := hu
  rw [hd] <;> rfl

theorem State.dramWriteLine_none (h : new.all Option.isNone = true) : s.dramWriteLine i l new = s := by
  rw [State.dramWriteLine_eq, if_pos h]

theorem all_isNone_of_any (h : new.any Option.isSome = true) : ¬ new.all Option.isNone = true := by
  obtain ⟨b, hb, hs⟩ := List.any_eq_true.mp h
  intro hn
  have := List.all_eq_true.mp hn b hb
  cases b <;> simp_all

theorem State.dramWriteLine_whole (ha : new.any Option.isSome = true) (h : new.all Option.isSome = true) :
    s.dramWriteLine i l new = (s.dramRaised i l).dramStore l 0 (new.map fun b => b.getD 0) := by
  rw [State.dramWriteLine_eq, if_neg (all_isNone_of_any ha), if_pos h]

/-- A line of a block that nothing has written: the bytes it is not given are zero. -/
theorem State.dramWriteLine_never (hn : new.length = 64) (ha : new.any Option.isSome = true) (h : s.dram.never l = true) :
    ∃ bs, bs.length = 64 ∧ s.dramWriteLine i l new = (s.dramRaised i l).dramStore l 0 bs ∧
      ∀ j (hj : j < bs.length), bs[j] = (new[j]?.getD none).getD 0 := by
  by_cases hall : new.all Option.isSome = true
  · refine ⟨_, by rw [List.length_map, hn], State.dramWriteLine_whole ha hall, fun j hj => ?_⟩
    rw [List.length_map] at hj
    rw [List.getElem_map, List.getElem?_eq_getElem hj, Option.getD_some]
  · refine ⟨mergeBytes (List.replicate 64 0) new, by rw [length_mergeBytes, hn]; rfl, ?_, fun j hj => ?_⟩
    · rw [State.dramWriteLine_eq, if_neg (all_isNone_of_any ha), if_neg hall, if_pos h]
    · rw [length_mergeBytes, hn, List.length_replicate] at hj
      rw [mergeBytes_getElem (by simpa using hj) (by omega), List.getElem?_eq_getElem (by omega), List.getElem_replicate]
      rfl

/-- A good line keeps the bytes it is not given. -/
theorem State.dramWriteLine_good (hn : new.length = 64) (ha : new.any Option.isSome = true) (h : s.dram.Good l) :
    ∃ bs, bs.length = 64 ∧ s.dramWriteLine i l new = (s.dramRaised i l).dramStore l 0 bs ∧
      ∀ j (hj : j < bs.length), bs[j] = (new[j]?.getD none).getD (memRead s.dram.data (64 * l + j)) := by
  by_cases hall : new.all Option.isSome = true
  · refine ⟨_, by rw [List.length_map, hn], State.dramWriteLine_whole ha hall, fun j hj => ?_⟩
    rw [List.length_map] at hj
    have hs : new[j].isSome = true := List.all_eq_true.mp hall _ (List.getElem_mem hj)
    rw [List.getElem_map, List.getElem?_eq_getElem hj, Option.getD_some]
    obtain ⟨b, hb⟩ := Option.isSome_iff_exists.mp hs
    rw [hb]
    rfl
  · refine ⟨mergeBytes (s.dram.lineBytes l []) new, by rw [length_mergeBytes, hn, length_lineBytes]; rfl, ?_, fun j hj => ?_⟩
    · rw [State.dramWriteLine_eq, if_neg (all_isNone_of_any ha), if_neg hall, if_neg (ne_true_of_eq_false h.1), State.dramMerge, h.decide]
    · rw [length_mergeBytes, hn, length_lineBytes] at hj
      rw [mergeBytes_getElem (by rw [length_lineBytes]; omega) (by omega), List.getElem?_eq_getElem (by omega)]
      simp [lineBytes_clean]

/-- Whatever a line holds, a write changes bytes of that line alone. -/
theorem State.data_dramWriteLine (hn : new.length ≤ 64) :
    ∃ bs, bs.length ≤ 64 ∧ (s.dramWriteLine i l new).dram.data = memWriteList s.dram.data (64 * l) bs := by
  have hm (old : List Byte) : (mergeBytes old new).length ≤ 64 := by rw [length_mergeBytes]; omega
  rw [State.dramWriteLine_eq]
  split
  · exact ⟨[], by decide, rfl⟩
  · split
    · exact ⟨new.map fun b => b.getD 0, by rwa [List.length_map], by rw [State.data_dramStore, State.dramRaised_dram]⟩
    · split
      · exact ⟨_, hm _, by rw [State.data_dramStore, State.dramRaised_dram]⟩
      · unfold State.dramMerge
        dsimp only
        split
        · exact ⟨_, hm _, by rw [State.data_dramStore, State.dramRaised_dram]⟩
        · exact ⟨_, hm _, by rw [State.dramCorrected_dram, State.data_dramStore, State.dramRaised_dram]⟩
        · exact ⟨_, hm _, by rw [State.makePoison_data, State.data_dramStore, State.dramRaised_dram]⟩
        · exact ⟨_, hm _, by rw [State.data_dramStore, State.dramRaised_dram]⟩

theorem State.memRead_dramWriteLine_other (hn : new.length ≤ 64) {a : Nat} (h : a / 64 ≠ l) :
    memRead (s.dramWriteLine i l new).dram.data a = memRead s.dram.data a := by
  obtain ⟨bs, hbs, hd⟩ := State.data_dramWriteLine (s := s) (i := i) (l := l) hn
  rw [hd, memRead_memWriteList_other _ _ _ _ (by omega)]

/-- A good line that is not written at all keeps its bytes too. -/
theorem State.memRead_dramWriteLine_good (hn : new.length = 64) (h : s.dram.Good l) {j : Nat} (hj : j < 64) :
    memRead (s.dramWriteLine i l new).dram.data (64 * l + j) = (new[j]?.getD none).getD (memRead s.dram.data (64 * l + j)) := by
  by_cases ha : new.any Option.isSome = true
  · obtain ⟨bs, hbs, hw, hb⟩ := State.dramWriteLine_good (i := i) hn ha h
    rw [hw, memRead_dramStore (by omega), hb j (by omega)]
  · have hnone : new.all Option.isNone = true := by simpa [Option.isNone_iff_eq_none] using ha
    rw [State.dramWriteLine_none hnone, List.getElem?_eq_getElem (by omega), Option.getD_some,
      Option.isNone_iff_eq_none.mp (List.all_eq_true.mp hnone _ (List.getElem_mem (by omega)))]
    rfl

/-! ### A BAR2 write to good lines -/

/-- A line stored leaves the other lines good, and is good itself. -/
theorem State.good_dramStore {k : Nat} (hl : s.dram.Good l) (hk : s.dram.Good k) : (s.dramStore l 0 bs).dram.Good k := by
  have hfill : s.dram.fill l = s.dram := by rw [Dram.fill, hl.2.1, hl.1]; rfl
  obtain ⟨hn, hu, he, hp⟩ := hk
  unfold State.dramStore
  rw [hfill]
  refine ⟨hn, hu, ?_, ?_⟩
  · have he' : s.dram.err.filter (fun p => p.1 / 72 == k) = [] := List.map_eq_nil_iff.mp he
    simp only [Dram.lineErr, Dram.setPoison, Dram.clearErr, skeep, List.filter_filter, List.map_eq_nil_iff]
    rw [List.filter_eq_nil_iff] at he' ⊢
    intro p hp'
    have := he' p hp'
    simp_all
  · by_cases hkl : k = l
    · subst hkl
      exact sget_sput_same (d := 0) (m := s.dram.pois) (k := k) (v := 0)
    · exact (sget_sput_other (d := 0) (m := s.dram.pois) (v := 0) hkl).trans hp

/-- A write of a good line: the memory and the requests change, good lines stay good. -/
theorem State.dramWriteLine_frame (hn : new.length = 64) (h : s.dram.Good l) :
    ∃ m a, s.dramWriteLine i l new = { s with dram := m, arb := a } ∧ ∀ k, s.dram.Good k → m.Good k := by
  by_cases ha : new.any Option.isSome = true
  · obtain ⟨bs, hbs, hw, hb⟩ := State.dramWriteLine_good (i := i) hn ha h
    obtain ⟨a, hr⟩ := s.dramRaised_arb i l
    rw [hr] at hw
    exact ⟨_, a, hw, fun k hk => State.good_dramStore (s := { s with arb := a }) h hk⟩
  · have hnone : new.all Option.isNone = true := by simpa [Option.isNone_iff_eq_none] using ha
    exact ⟨s.dram, s.arb, State.dramWriteLine_none hnone, fun k hk => hk⟩

end

/-- The byte that a write from `addr` gives for an address. -/
def byteFor (addr : Nat) (bytes : List (Option Byte)) (x : Nat) : Option Byte :=
  if x < addr then none else (bytes[x - addr]?).getD none

theorem linePart_getElem (addr : Nat) (bytes : List (Option Byte)) (l : Nat) {j : Nat} (hj : j < 64) :
    ((linePart addr bytes l)[j]?.getD none) = byteFor addr bytes (64 * l + j) := by
  simp [linePart, byteFor, hj]

theorem length_linePart (addr : Nat) (bytes : List (Option Byte)) (l : Nat) : (linePart addr bytes l).length = 64 := by
  simp [linePart]

/-- Good lines written one after another take the bytes of the write. -/
theorem State.dramWriteLines_good (addr : Nat) (bytes : List (Option Byte)) (first n : Nat)
    (h : ∀ k, first ≤ k → k < first + n → s.dram.Good k) :
    ∃ m a, (List.range n).foldl (fun (u : State) k => u.dramWriteLine i (first + k) (linePart addr bytes (first + k))) s =
        { s with dram := m, arb := a } ∧
      (∀ k, s.dram.Good k → m.Good k) ∧
      ∀ x, memRead m.data x =
        if first ≤ x / 64 ∧ x / 64 < first + n then (byteFor addr bytes x).getD (memRead s.dram.data x) else memRead s.dram.data x := by
  induction n with
  | zero => exact ⟨s.dram, s.arb, rfl, fun _ hk => hk, fun x => (if_neg (by omega)).symm⟩
  | succ n ih =>
    obtain ⟨m, a, hf, hgood, hread⟩ := ih fun k h1 h2 => h k h1 (by omega)
    have hl : ({ s with dram := m, arb := a } : State).dram.Good (first + n) := hgood _ (h _ (by omega) (by omega))
    obtain ⟨m', a', hw, hgood'⟩ := State.dramWriteLine_frame (i := i) (length_linePart addr bytes (first + n)) hl
    have hdata : m'.data = (({ s with dram := m, arb := a } : State).dramWriteLine i (first + n) (linePart addr bytes (first + n))).dram.data := by
      rw [hw]
    refine ⟨m', a', ?_, fun k hk => hgood' k (hgood k hk), fun x => ?_⟩
    · rw [List.range_succ, List.foldl_append, hf]
      exact hw
    · rw [hdata]
      by_cases hx : x / 64 = first + n
      · obtain ⟨j, hj, rfl⟩ : ∃ j < 64, x = 64 * (first + n) + j := ⟨x % 64, Nat.mod_lt _ (by decide), by omega⟩
        rw [State.memRead_dramWriteLine_good (length_linePart ..) hl hj, linePart_getElem _ _ _ hj, if_pos (by omega)]
        dsimp only
        rw [hread, if_neg (by omega)]
      · rw [State.memRead_dramWriteLine_other (length_linePart ..).le hx]
        dsimp only
        rw [hread]
        exact if_congr (by omega) rfl rfl

/-- A write to good lines changes the bytes it gives and no other. -/
theorem State.dramWrite_good {addr : Nat} {bytes : List (Option Byte)} (hne : bytes ≠ [])
    (h : ∀ k, addr / 64 ≤ k → k ≤ (addr + bytes.length - 1) / 64 → s.dram.Good k) :
    ∃ m a, s.dramWrite i addr bytes = { s with dram := m, arb := a } ∧
      ∀ x, memRead m.data x = (byteFor addr bytes x).getD (memRead s.dram.data x) := by
  have hlen := List.length_pos_iff.mpr hne
  obtain ⟨m, a, hw, _, hread⟩ := State.dramWriteLines_good (s := s) (i := i) addr bytes (addr / 64)
    ((addr + bytes.length + 63) / 64 - addr / 64) fun k h1 h2 => h k h1 (by omega)
  refine ⟨m, a, hw, fun x => ?_⟩
  rw [hread]
  split
  · rfl
  · rename_i hx
    have hnone : byteFor addr bytes x = none := by
      unfold byteFor
      split
      · rfl
      · rw [List.getElem?_eq_none (by omega), Option.getD_none]
    rw [hnone, Option.getD_none]

/-- The end of a command in a state that a write to DRAM left of a quiet one. -/
theorem State.settle_of_dramChange (hq : s.Quiet) (m : Dram) (a : Arb) :
    ∃ e d r u c, ({ s with dram := m, arb := a } : State).settle =
      { s with dram := m, arb := a, sram := e, draws := d, recent := r, due := u, cyc := c } := by
  obtain ⟨⟨hdue, hung, htest, hsame, hincs, hseen⟩, hbar, hrings, hfresh, htop, hheld⟩ := hq
  have hopen : ({ s with dram := m, arb := a } : State).openCycle = { s with dram := m, arb := a, recent := [] } := by
    simp [State.openCycle, hsame]
  unfold State.settle
  rw [State.bar2Flush_of_none (s := { s with dram := m, arb := a }) hbar,
    State.dmaFlush_of_none (s := { s with dram := m, arb := a }) hrings,
    State.issueHeld_nil (s := { s with dram := m, arb := a }) hheld, hopen,
    State.takeActions_nil (s := { s with dram := m, arb := a, recent := [] }) hdue hfresh htop,
    State.gateAgain_of_ungated (s := { s with dram := m, arb := a, recent := [] }) hung,
    State.testGate_of_clocked (s := { s with dram := m, arb := a, recent := [] }) htest]
  obtain ⟨e, d, c, h⟩ := State.closeCycle_eq { s with dram := m, arb := a, recent := [] }
  exact ⟨e, d, [], [], c, h⟩

end

end Sys2Proof.Machine

namespace Sys2Proof

open Machine

/-- Settles O44: a write of a line by what the line was, and a BAR2 write as writes of its lines in a quiet state. -/
theorem dramKeepsTheBytesOutsideAWrite : Obligations.DramKeepsTheBytesOutsideAWrite := by
  unfold Obligations.DramKeepsTheBytesOutsideAWrite
  refine ⟨fun s input line new hn => ⟨fun h => State.dramWriteLine_wf h _ _ _,
    fun a ha => State.memRead_dramWriteLine_other hn.le ha, fun hall => ?whole, fun hany hnever => ?never,
    fun h1 h2 h3 h4 j hj => State.memRead_dramWriteLine_good hn ⟨h1, h2, h3, h4⟩ hj⟩,
    fun s off bytes hl hup hmem hq hdeep hz hne hin => ?bar2⟩
  case whole =>
    have hany : new.any Option.isSome = true := by
      obtain ⟨b, bs, rfl⟩ := List.exists_cons_of_ne_nil (List.ne_nil_of_length_pos (by omega : 0 < new.length))
      rw [List.any_cons, (List.all_eq_true.mp hall) b List.mem_cons_self, Bool.true_or]
    rw [State.dramWriteLine_whole hany hall]
    refine ⟨State.lineErr_dramStore, State.poison_dramStore, State.never_dramStore, fun j hj b hb => ?_⟩
    obtain ⟨hj', hb'⟩ := List.getElem?_eq_some_iff.mp hb
    rw [memRead_dramStore (by rwa [List.length_map]), List.getElem_map, hb']
    rfl
  case never =>
    obtain ⟨bs, hbs, hw, hb⟩ := State.dramWriteLine_never (i := input) hn hany hnever
    rw [hw]
    exact ⟨State.never_dramStore, fun j hj => by rw [memRead_dramStore (by omega), hb j (by omega)]⟩
  case bar2 =>
    intro addr hgood
    have hserve := bar2Act_serves hup hmem (q := .write addr bytes) hdeep hz hq.2.1
    have hans : exec (.bar2Write off bytes) s = .next (s.dramWrite 9 addr bytes).settle :=
      checked_answers (decide_eq_true ⟨List.length_pos_iff.mpr hne, hin⟩) (onPage_answers hl hserve)
    obtain ⟨m, a, hw, hread⟩ := State.dramWrite_good (s := s) (i := 9) hne fun k h1 h2 =>
      have ⟨hn, hu, he, hp⟩ := hgood k h1 h2
      ⟨hn, hu, he, hp⟩
    obtain ⟨e, d, r, u, c, hs⟩ := State.settle_of_dramChange hq m a
    have hbyte (i : Nat) : byteFor addr bytes (addr + i) = (bytes[i]?).getD none := by
      rw [byteFor, if_neg (by omega), Nat.add_sub_cancel_left]
    refine ⟨_, hans, ?_⟩
    rw [hw, hs]
    refine ⟨fun i b hb => ?_, fun i hi => ?_, fun x hx => ?_, rfl, rfl, rfl, rfl⟩
    · dsimp only
      rw [hread, hbyte, hb]
      rfl
    · dsimp only
      rw [hread, hbyte, hi]
      rfl
    · have hnone : byteFor addr bytes x = none := by
        unfold byteFor
        split
        · rfl
        · rw [List.getElem?_eq_none (by omega), Option.getD_none]
      dsimp only
      rw [hread, hnone]
      rfl

end Sys2Proof
end

section
/-!
PROOFS. SRAM zeroing, row remaps and page retirement (R357, R358, R366 to R368).
-/

namespace Sys2Proof.Machine

section
variable {s : State}

/-! ### The memories come up (R357, R399) -/

theorem zeroedAct_zeroes (h : s.clk.seq = 6) (hz : s.sram.zeroed = false) :
    zeroedAct s = { s with sram := { s.sram with zeroed := true, err := [], used := [], rowMap := [] } } := by
  simp [zeroedAct, sramZeroedAct, h, hz]

theorem zeroedAct_not (h : s.clk.seq ≠ 6 ∨ s.sram.zeroed = true) : zeroedAct s = s := by
  rw [zeroedAct]
  exact if_neg (by rcases h with h | h <;> simp [h])

theorem dramInitAct_ready (h : s.clk.seq = 6) (hr : s.dram.ready = false) :
    dramInitAct s = { s with dram := { s.dram with ready := true } } := by
  simp [dramInitAct, dramReadyAct, h, hr]

theorem dramInitAct_not (h : s.clk.seq ≠ 6 ∨ s.dram.ready = true) : dramInitAct s = s := by
  rw [dramInitAct]
  exact if_neg (by rcases h with h | h <;> simp [h])

/-! ### A spare row (R358) -/

/-- The end of a remap command with a code. -/
def State.remapAnswered (s : State) (g row code : Nat) : State :=
  ((s.setReg Reg.MEM_REMAP_INFO (pack [(12, g), (0, row)])).resDone Reg.MEM_REMAP_STAT [(28, code)]).raise
    Ev.MEM_REMAP_DONE code

section
variable {v : Word}

theorem remapCmdAct_busy (h : s.sram.remap ≠ none) :
    remapCmdAct v s = s.raise Ev.MEM_CFG_REFUSED (offDetail Reg.MEM_REMAP_CMD) := by
  rw [remapCmdAct]
  exact if_pos (Option.isSome_iff_ne_none.mpr h)

/-- A remap command with none running, by its group and the spares of the group. -/
theorem remapCmdAct_free (h : s.sram.remap = none) {s1 : State} (h1 : s.setRf Reg.MEM_REMAP_STAT 31 1 0 = s1) :
    remapCmdAct v s =
      if 95 < fld v 12 7 then s1.remapAnswered (fld v 12 7) (fld v 0 12) 2
      else if 64 ≤ sget 0 s.sram.used (fld v 12 7) then s1.remapAnswered (fld v 12 7) (fld v 0 12) 1
      else { s1 with sram := { s1.sram with remap := some (fld v 12 7, fld v 0 12) } } := by
  subst h1
  rw [remapCmdAct, h]
  rfl

end

theorem remapDoneAct_idle (h : s.sram.remap = none ∨ s.sram.zeroed = false) : remapDoneAct s = s := by
  unfold remapDoneAct
  split
  case h_1 g row hr hz => rcases h with h | h <;> simp_all
  case h_2 => rfl

/-- The row copied, and the next spare of its group put in its place. -/
def State.rowReplaced (s : State) (g row : Nat) : State :=
  let n := sget 0 s.sram.used g
  let s1 := (List.range 256).foldl (fun a b => a.copyByte g row (4096 + n) b) s
  { s1 with
    sram := { s1.sram with
      used := sput 0 s1.sram.used g (n + 1), rowMap := sput 0 s1.sram.rowMap (g * 4096 + row) (n + 1), remap := none } }

theorem State.physRow_rowReplaced (g row : Nat) : (s.rowReplaced g row).sram.physRow g row = 4096 + sget 0 s.sram.used g := by
  simp [State.rowReplaced, Sram.physRow, sget_sput_same]

theorem remapDoneAct_ends {g row : Nat} (hz : s.sram.zeroed = true) (h : s.sram.remap = some (g, row)) :
    remapDoneAct s = (s.rowReplaced g row).remapAnswered g row 0 := by
  unfold remapDoneAct
  split
  case h_1 g' row' hr _ =>
    obtain ⟨rfl, rfl⟩ := Prod.mk.inj (Option.some.inj (hr.symm.trans h))
    rfl
  case h_2 hno => exact absurd hz (fun hz => hno g row h hz)

/-! ### A spare page (R367, R368) -/

section
variable {v : Word}

theorem retireCmdAct_busy (h : s.dram.retire ≠ none) :
    retireCmdAct v s = s.raise Ev.DRAM_CFG_REFUSED (offDetail Reg.DRAM_RET_CMD) := by
  rw [retireCmdAct]
  exact if_pos (Option.isSome_iff_ne_none.mpr h)

/-- A retirement with none running, by the spare pages left. -/
theorem retireCmdAct_free (h : s.dram.retire = none) {s1 : State} (h1 : s.setRf Reg.DRAM_RET_STAT 31 1 0 = s1) :
    retireCmdAct v s =
      if 4096 ≤ s.dram.retUsed then
        ((s1.setReg Reg.DRAM_RET_INFO (w32 (fld v 0 23))).resDone Reg.DRAM_RET_STAT [(28, 1)]).raise Ev.DRAM_RETIRE_DONE 1
      else { s1 with dram := { s1.dram with retire := some (fld v 0 23) } } := by
  subst h1
  rw [retireCmdAct, h]
  rfl

end

theorem retireDoneAct_idle (h : s.dram.retire = none ∨ s.sram.zeroed = false) : retireDoneAct s = s := by
  unfold retireDoneAct
  split
  case h_1 => rfl
  case h_2 page hp =>
    have hz : s.sram.zeroed = false := h.resolve_left (by rw [hp]; nofun)
    exact if_pos (by rw [hz]; rfl)

/-- The lines of a page copied, and the next spare page put in its place. -/
def State.pageReplaced (s : State) (page : Nat) : State :=
  let s1 := (List.range 64).foldl (fun a i => a.retireLine (64 * page + i)) s
  let m := s1.dram
  let old := sget 0 m.retMap page
  let freed := if old = 0 then m.retSpare else sput 0 m.retSpare (old - 1) 0
  { s1 with
    dram := { m with
      retMap := sput 0 m.retMap page (m.retUsed + 1), retSpare := sput 0 freed m.retUsed (page + 1),
      retUsed := m.retUsed + 1, retire := none } }

theorem retireDoneAct_ends {page : Nat} (h : s.dram.retire = some page) (hz : s.sram.zeroed = true) :
    retireDoneAct s =
      (((s.pageReplaced page).setReg Reg.DRAM_RET_INFO (w32 page)).resDone Reg.DRAM_RET_STAT [(28, 0)]).raise
        Ev.DRAM_RETIRE_DONE 0 := by
  unfold retireDoneAct
  split
  case h_1 hn => exact absurd (hn.symm.trans h) nofun
  case h_2 page' hp =>
    obtain rfl := Option.some.inj (hp.symm.trans h)
    exact if_neg (by rw [hz]; exact Bool.false_ne_true)

end

end Sys2Proof.Machine

namespace Sys2Proof

open Machine

/-- Settles O42: each command by what runs already and the spares that are left. -/
theorem sparesReplaceRowsAndPages : Obligations.SparesReplaceRowsAndPages := by
  unfold Obligations.SparesReplaceRowsAndPages
  refine ⟨fun s hl => ⟨fun h hz => onPage_answers hl (zeroedAct_zeroes h hz), fun h => onPage_answers hl (zeroedAct_not h)⟩,
    fun s hl => ⟨fun h hr => onPage_answers hl (dramInitAct_ready h hr), fun h => onPage_answers hl (dramInitAct_not h)⟩,
    fun s a v ht => ⟨fun h => rowWrite_answers ht (if_pos h), fun h => rowWrite_answers ht (if_neg (ne_true_of_eq_false h))⟩,
    fun s a v ht => ?remapCmd,
    fun s hl => ⟨fun h => onPage_answers hl (remapDoneAct_idle h),
      fun g row hz h => ⟨State.physRow_rowReplaced g row, onPage_answers hl (remapDoneAct_ends hz h)⟩⟩,
    fun s a v ht => ?retireCmd,
    fun s hl => ⟨fun h => onPage_answers hl (retireDoneAct_idle h),
      fun page h hz => onPage_answers hl (retireDoneAct_ends h hz)⟩⟩
  case remapCmd =>
    have hfree (h : s.sram.remap = none) := remapCmdAct_free (v := v) h rfl
    exact ⟨fun h => rowWrite_answers ht (remapCmdAct_busy h),
      fun h hg => rowWrite_answers ht ((hfree h).trans (if_pos hg)),
      fun h hg hu => rowWrite_answers ht ((hfree h).trans ((if_neg (by omega)).trans (if_pos hu))),
      fun h hg hu => rowWrite_answers ht ((hfree h).trans ((if_neg (by omega)).trans (if_neg (by omega))))⟩
  case retireCmd =>
    have hfree (h : s.dram.retire = none) := retireCmdAct_free (v := v) h rfl
    exact ⟨fun h => rowWrite_answers ht (retireCmdAct_busy h),
      fun h hu => rowWrite_answers ht ((hfree h).trans (if_pos hu)),
      fun h hu => rowWrite_answers ht ((hfree h).trans (if_neg (by omega)))⟩

end Sys2Proof
end

section
/-!
PROOFS. The port of DRAM: the requests, and the arbiter's choice (R370 to R374).
-/

namespace Sys2Proof.Machine

/-! ### The inputs of the port -/

section
variable {m : Arb}

theorem Arb.input_setInput (i : Nat) (v : ArbIn) (j : Nat) : (m.setInput i v).input j = if j = i then v else m.input j := by
  by_cases h : j = i
  · subst h
    rw [if_pos rfl]
    exact sget_sput_same
  · rw [if_neg h]
    exact sget_sput_other h

/-- An input as a request raised at a time leaves it. -/
def ArbIn.raisedAt (x : ArbIn) (time : Nat) : ArbIn := if x.req then x else { x with req := true, since := time }

theorem ArbIn.raisedAt_req (x : ArbIn) (time : Nat) : (x.raisedAt time).req = true := by
  unfold ArbIn.raisedAt
  split
  case isTrue h => exact h
  case isFalse => rfl

theorem ArbIn.raisedAt_raisedAt (x : ArbIn) (time : Nat) : (x.raisedAt time).raisedAt time = x.raisedAt time :=
  if_pos (x.raisedAt_req time)

theorem ArbIn.raisedAt_since {x : ArbIn} (h : x.req = false) (time : Nat) : (x.raisedAt time).since = time := by
  rw [ArbIn.raisedAt, if_neg (ne_true_of_eq_false h)]

/-- The two states of the arbiter agree but for their inputs. -/
def Arb.SameGrants (m m' : Arb) : Prop := m'.owner = m.owner ∧ m'.number = m.number ∧ m'.last = m.last ∧ m'.clock = m.clock

/-- The two states of the arbiter agree in their grants and in what waits since when. -/
def Arb.SameQueue (m m' : Arb) : Prop :=
  m.SameGrants m' ∧ ∀ j, (m'.input j).req = (m.input j).req ∧ (m'.input j).since = (m.input j).since

theorem Arb.SameQueue.refl : m.SameQueue m := ⟨⟨rfl, rfl, rfl, rfl⟩, fun _ => ⟨rfl, rfl⟩⟩

/-- An input changed in neither its request nor its age. -/
theorem Arb.SameQueue.setInput {m' : Arb} (h : m.SameQueue m') {i : Nat} {v : ArbIn}
    (hv : v.req = (m'.input i).req ∧ v.since = (m'.input i).since) : m.SameQueue (m'.setInput i v) := by
  refine ⟨h.1, fun j => ?_⟩
  rw [Arb.input_setInput]
  split
  case isTrue hj =>
    subst hj
    exact ⟨hv.1.trans (h.2 j).1, hv.2.trans (h.2 j).2⟩
  case isFalse => exact h.2 j

end

section
variable {s : State}

/-! ### Requests (R370, R371) -/

theorem State.portRaise_spec (i : Nat) : ∃ a, s.portRaise i = { s with arb := a } ∧ s.arb.SameGrants a ∧
    ∀ j, a.input j = if j = i then (s.arb.input j).raisedAt s.portTime else s.arb.input j := by
  unfold State.portRaise
  split
  case isTrue h =>
    refine ⟨s.arb, rfl, ⟨rfl, rfl, rfl, rfl⟩, fun j => ?_⟩
    split
    case isTrue hj => rw [hj, ArbIn.raisedAt, if_pos h]
    case isFalse => rfl
  case isFalse h =>
    refine ⟨_, rfl, ⟨rfl, rfl, rfl, rfl⟩, fun j => ?_⟩
    rw [Arb.input_setInput]
    split
    case isTrue hj => rw [hj, ArbIn.raisedAt, if_neg h]
    case isFalse => rfl

theorem State.portRaise_req (i : Nat) : ((s.portRaise i).arb.input i).req = true := by
  obtain ⟨a, ha, _, hin⟩ := s.portRaise_spec i
  rw [ha]
  dsimp only
  rw [hin, if_pos rfl]
  exact ArbIn.raisedAt_req _ _

/-- A request stays while others are raised. -/
theorem State.portRaise_req_keeps {i j : Nat} (h : (s.arb.input j).req = true) : ((s.portRaise i).arb.input j).req = true := by
  by_cases hj : j = i
  · subst hj
    exact s.portRaise_req j
  · obtain ⟨a, ha, _, hin⟩ := s.portRaise_spec i
    rw [ha]
    dsimp only
    rw [hin, if_neg hj]
    exact h

/-- A new request waits from the cycle in which it is raised. -/
theorem State.portRaise_since {i : Nat} (h : (s.arb.input i).req = false) :
    ((s.portRaise i).arb.input i).since = s.portTime := by
  obtain ⟨a, ha, _, hin⟩ := s.portRaise_spec i
  rw [ha]
  dsimp only
  rw [hin, if_pos rfl]
  exact ArbIn.raisedAt_since h _

/-- What is raised at one time leaves an input as it is raised once. -/
theorem State.raiseFold_spec (raised : Nat) (l : List Nat) (s : State) :
    ∃ a, l.foldl (fun (u : State) i => if raised.testBit i then u.portRaise i else u) s = { s with arb := a } ∧
      s.arb.SameGrants a ∧
      ∀ j, a.input j = if j ∈ l ∧ raised.testBit j = true then (s.arb.input j).raisedAt s.portTime else s.arb.input j := by
  induction l generalizing s with
  | nil => exact ⟨s.arb, rfl, ⟨rfl, rfl, rfl, rfl⟩, fun j => (if_neg (by simp)).symm⟩
  | cons i l ih =>
    rw [List.foldl_cons]
    by_cases hi : raised.testBit i = true
    · obtain ⟨a, ha, ⟨ho, hn, hl, hc⟩, hin⟩ := s.portRaise_spec i
      obtain ⟨b, hb, ⟨ho', hn', hl', hc'⟩, hin'⟩ := ih (s.portRaise i)
      rw [if_pos hi]
      rw [ha] at hb ho' hn' hl' hc' hin' ⊢
      refine ⟨b, hb, ⟨ho'.trans ho, hn'.trans hn, hl'.trans hl, hc'.trans hc⟩, fun j => ?_⟩
      have htime : State.portTime { s with arb := a } = s.portTime := congrArg (s.ctl + ·) hc
      rw [hin' j, htime]
      dsimp only
      rw [hin j]
      by_cases hj : j = i
      · subst hj
        simp [hi, ArbIn.raisedAt_raisedAt]
      · simp [hj]
    · obtain ⟨b, hb, hg, hin⟩ := ih s
      rw [if_neg hi]
      refine ⟨b, hb, hg, fun j => ?_⟩
      rw [hin j]
      by_cases hj : j = i
      · subst hj; simp [hi]
      · simp [hj]

theorem State.raiseMask_spec (raised : Nat) : ∃ a, s.raiseMask raised = { s with arb := a } ∧ s.arb.SameGrants a ∧
    ∀ j, a.input j = if j < 12 ∧ raised.testBit j = true then (s.arb.input j).raisedAt s.portTime else s.arb.input j := by
  obtain ⟨a, ha, hg, hin⟩ := State.raiseFold_spec raised (List.range 12) s
  exact ⟨a, ha, hg, fun j => by simp only [hin j, List.mem_range]⟩

/-! ### The accesses that raise a request (R370) -/

section
variable {i l : Nat} {new : List (Option Byte)}

theorem State.dramCorrected_arb (n : Nat) : (s.dramCorrected i l n).arb = s.arb := by
  unfold State.dramCorrected State.bucketAdd
  dsimp only
  split <;> simp [State.memLog]

theorem State.makePoison_arb (mask : Nat) : (s.makePoison i l mask).arb = s.arb := by
  unfold State.makePoison
  dsimp only
  split <;> simp [State.memLog]

/-- A line that is read as corrected is written back, which is a request of input 10. -/
theorem State.dramReadLine_arb_corrected {n : Nat} (hn : s.dram.never l = false) (hd : (s.dram.decide l).1 = .corrected n) :
    (s.dramReadLine i l).2.arb = ((s.portRaise i).portRaise 10).arb := by
  simp only [State.dramReadLine, State.portRaise_dram, hn, hd, Bool.false_eq_true, if_false]
  exact State.dramCorrected_arb n

/-- A read raises the request of its input, and perhaps that of input 10. -/
theorem State.dramReadLine_arb :
    (s.dramReadLine i l).2.arb = (s.portRaise i).arb ∨ (s.dramReadLine i l).2.arb = ((s.portRaise i).portRaise 10).arb := by
  unfold State.dramReadLine
  dsimp only
  split
  · left; split <;> simp
  · split
    · exact Or.inl rfl
    · exact Or.inr (State.dramCorrected_arb _)
    · exact Or.inl rfl
    · left; simp [State.dramBad, State.memLog]

/-- A write raises the request of its input, and that of input 10 where it fills a block. -/
theorem State.dramWriteLine_arb (ha : new.any Option.isSome = true) :
    (s.dramWriteLine i l new).arb = (s.dramRaised i l).arb := by
  rw [State.dramWriteLine_eq, if_neg (all_isNone_of_any ha)]
  split
  · rfl
  · split
    · rfl
    · unfold State.dramMerge
      dsimp only
      split
      · rfl
      · exact State.dramCorrected_arb _
      · exact State.makePoison_arb _
      · rfl

/-- With the request of an access raised, that of input 10 changes none of it. -/
theorem State.portRaise_ten_input (hr : (s.arb.input i).req = true) : (s.portRaise 10).arb.input i = s.arb.input i := by
  obtain ⟨a, ha, _, hin⟩ := s.portRaise_spec 10
  rw [ha]
  dsimp only
  rw [hin]
  split
  · rw [ArbIn.raisedAt, if_pos hr]
  · rfl

theorem State.dramReadLine_input : (s.dramReadLine i l).2.arb.input i = (s.portRaise i).arb.input i := by
  obtain h | h := State.dramReadLine_arb (s := s) (i := i) (l := l)
  · rw [h]
  · rw [h, State.portRaise_ten_input (s.portRaise_req i)]

theorem State.dramWriteLine_input (ha : new.any Option.isSome = true) :
    (s.dramWriteLine i l new).arb.input i = (s.portRaise i).arb.input i := by
  rw [State.dramWriteLine_arb ha, State.dramRaised]
  split
  · exact State.portRaise_ten_input (s.portRaise_req i)
  · rfl

theorem State.dramWriteLine_fills (hn : s.dram.never l = true) (ha : new.any Option.isSome = true) :
    ((s.dramWriteLine i l new).arb.input 10).req = true := by
  rw [State.dramWriteLine_arb ha, State.dramRaised, if_pos (by rw [State.portRaise_dram, hn])]
  exact State.portRaise_req 10

end

end

/-! ### The choice of an input (R371) -/

/-- The turn of an input after the last one served. -/
def inputTurn (last j : Nat) : Nat := (j + 16 - last % 16) % 16

theorem inputsAfter_getElem (last k : Nat) (hk : k < 16) : (inputsAfter last)[k]? = some ((last + k) % 16) := by
  simp [inputsAfter, hk]

theorem inputsAfter_turn {last j : Nat} (hj : j < 16) : (inputsAfter last)[inputTurn last j]? = some j := by
  rw [inputTurn, inputsAfter_getElem _ _ (Nat.mod_lt _ (by decide))]
  congr 1
  omega

theorem inputTurn_of_getElem {last k : Nat} (hk : k < 16) : inputTurn last ((last + k) % 16) = k := by
  rw [inputTurn]; omega

/-- The first input in turn that meets a condition. -/
theorem find_inputsAfter {last i : Nat} {p : Nat → Bool} (h : (inputsAfter last).find? p = some i) :
    p i = true ∧ ∀ j < 16, p j = true → inputTurn last i ≤ inputTurn last j := by
  obtain ⟨hp, k, hk, hi, hmin⟩ := List.find?_eq_some_iff_getElem.mp h
  have hk16 : k < 16 := by simpa [inputsAfter] using hk
  refine ⟨hp, fun j hj hpj => ?_⟩
  have hti : inputTurn last i = k := by
    rw [← hi, ← Option.some.inj ((inputsAfter_getElem last k hk16).symm.trans (List.getElem?_eq_getElem hk)),
      inputTurn_of_getElem hk16]
  rw [hti]
  by_contra hlt
  have hj' := inputsAfter_turn (last := last) hj
  have := hmin (inputTurn last j) (by omega)
  rw [List.getElem?_eq_getElem (by omega)] at hj'
  rw [Option.some.inj hj', hpj] at this
  cases this

section
variable {m : Arb} {n number : Nat}

/-- The inputs that wait. -/
def Arb.waiting (m : Arb) : List Nat := (List.range 12).filter fun i => (m.input i).req

theorem Arb.mem_waiting {i : Nat} : i ∈ m.waiting ↔ i < 12 ∧ (m.input i).req = true := by
  rw [Arb.waiting, List.mem_filter, List.mem_range]

/-- The highest priority of the inputs that wait. -/
def Arb.topPrio (m : Arb) : Nat := m.waiting.foldl (fun a i => max a (m.input i).prio) 0

theorem Arb.prio_le_top {i : Nat} (h : i ∈ m.waiting) : (m.input i).prio ≤ m.topPrio :=
  (foldl_max_spec (fun i => (m.input i).prio) m.waiting 0).2.1 i h

theorem Arb.exists_top (h : m.waiting ≠ []) : ∃ i ∈ m.waiting, (m.input i).prio = m.topPrio := by
  obtain ⟨j, hj⟩ := List.exists_mem_of_ne_nil _ h
  obtain hz | h := (foldl_max_spec (fun i => (m.input i).prio) m.waiting 0).2.2
  · exact ⟨j, hj, Nat.le_antisymm (Arb.prio_le_top hj) ((Nat.le_of_eq hz).trans (Nat.zero_le _))⟩
  · exact h

theorem Arb.byPrio_eq :
    m.byPrio m.waiting =
      (inputsAfter (sget 0 m.last m.topPrio)).find? fun i => m.waiting.contains i && (m.input i).prio == m.topPrio := rfl

/-- Where an input waits, one is granted. -/
theorem Arb.winner_some (h : m.waiting ≠ []) : ∃ i, m.winner n number m.waiting = some i := by
  unfold Arb.winner
  split
  · rw [← Option.isSome_iff_exists, Option.isSome_iff_ne_none, ne_eq, Arb.byAge, leastBy_eq_none]
    exact h
  · obtain ⟨j, hj, hp⟩ := Arb.exists_top h
    rw [Arb.byPrio_eq, ← Option.isSome_iff_exists, List.find?_isSome]
    refine ⟨j, List.mem_of_getElem? (inputsAfter_turn (by have := (Arb.mem_waiting.mp hj).1; omega)), ?_⟩
    rw [List.contains_iff_mem.mpr hj, hp, beq_self_eq_true]
    rfl

section
variable {o : Nat} (h : m.winner n number m.waiting = some o)
include h

/-- Every N-th grant goes to the input that has waited longest. -/
theorem Arb.winner_fair (hf : number % n = 0) :
    o ∈ m.waiting ∧ ∀ i ∈ m.waiting, (m.input o).since ≤ (m.input i).since ∧ ((m.input i).since = (m.input o).since → o ≤ i) := by
  rw [Arb.winner, if_pos hf] at h
  obtain ⟨hm, hle, hfirst⟩ := leastBy_spec h
  exact ⟨hm, fun i hi => ⟨hle i hi, hfirst (List.pairwise_lt_range.filter _) i hi⟩⟩

/-- Any other grant goes by priority, and by turn among equals. -/
theorem Arb.winner_turn (hf : number % n ≠ 0) :
    o ∈ m.waiting ∧ ∀ i ∈ m.waiting, (m.input i).prio ≤ (m.input o).prio ∧
      ((m.input i).prio = (m.input o).prio →
        inputTurn (sget 0 m.last (m.input o).prio) o ≤ inputTurn (sget 0 m.last (m.input o).prio) i) := by
  rw [Arb.winner, if_neg hf, Arb.byPrio_eq] at h
  obtain ⟨hp, hmin⟩ := find_inputsAfter h
  have hiff (k : Nat) : (m.waiting.contains k && (m.input k).prio == m.topPrio) = true ↔
      k ∈ m.waiting ∧ (m.input k).prio = m.topPrio := by
    rw [Bool.and_eq_true, List.contains_iff_mem, beq_iff_eq]
  obtain ⟨hw, htop⟩ := (hiff o).mp hp
  refine ⟨hw, fun i hi => ?_⟩
  rw [htop]
  refine ⟨Arb.prio_le_top hi, fun he => hmin i ?_ ((hiff i).mpr ⟨hi, he⟩)⟩
  have := (Arb.mem_waiting.mp hi).1
  omega

theorem Arb.winner_waits : o ∈ m.waiting := by
  by_cases hf : number % n = 0
  · exact (Arb.winner_fair h hf).1
  · exact (Arb.winner_turn h hf).1

end

/-- The head of the order of service is the next winner. -/
theorem Arb.order_head (k : Nat) : (m.order n (k + 1) number m.waiting).head? = m.winner n number m.waiting := by
  unfold Arb.order
  cases m.winner n number m.waiting <;> rfl

end

/-! ### A new arbitration (R371) -/

section
variable {s : State}

/-- The registers put in force change no request. -/
theorem State.arbAdopt_fold_spec (l : List Nat) : ∃ a, l.foldl (fun (u : State) i => u.arbAdopt i) s = { s with arb := a } ∧
    s.arb.SameQueue a :=
  foldl_keeps_prop (P := fun u => ∃ a, u = { s with arb := a } ∧ s.arb.SameQueue a) ⟨s.arb, rfl, .refl⟩
    fun u i ⟨a, ha, hq⟩ => by
      subst ha
      exact ⟨_, rfl, hq.setInput ⟨rfl, rfl⟩⟩

/-- The estimates of turns change neither a request nor a priority. -/
theorem Arb.turn_fold_spec (m : Arb) (l : List (Nat × Nat)) {m1 : Arb}
    (h1 : l.foldl (fun (a : Arb) p => a.setInput p.1 { a.input p.1 with turn := min p.2 255 }) m = m1) :
    m.SameQueue m1 ∧ ∀ j, (m1.input j).prio = (m.input j).prio := by
  subst h1
  refine foldl_keeps_prop (P := fun a => m.SameQueue a ∧ ∀ j, (a.input j).prio = (m.input j).prio)
    ⟨.refl, fun _ => rfl⟩ fun a p ⟨hq, hp⟩ => ⟨hq.setInput ⟨rfl, rfl⟩, fun j => ?_⟩
  rw [Arb.input_setInput]
  split
  case isTrue hj => rw [hj, ← hp]
  case isFalse => exact hp j

/-- What an arbitration grants, with the fairness number `n`, after `k` grants and with the inputs served last. -/
structure Arb.Served (n k : Nat) (last : Store Nat) (t : Arb) (o : Nat) : Prop where
  lt : o < 12
  req : (t.input o).req = true
  number : t.number = k + 1
  fair : t.number % n = 0 → ∀ i < 12, (t.input i).req = true →
    (t.input o).since ≤ (t.input i).since ∧ ((t.input i).since = (t.input o).since → o ≤ i)
  turn : t.number % n ≠ 0 → ∀ i < 12, (t.input i).req = true →
    (t.input i).prio ≤ (t.input o).prio ∧
      ((t.input i).prio = (t.input o).prio →
        inputTurn (sget 0 last (t.input o).prio) o ≤ inputTurn (sget 0 last (t.input o).prio) i)
  served : ∀ p, sget 0 t.last p = if p = (t.input o).prio then o + 1 else sget 0 last p

/-- The cycles of the port that go by change nothing of what is granted. -/
theorem Arb.Served.later {n k : Nat} {last : Store Nat} {t : Arb} {o : Nat} (h : Arb.Served n k last t o) (c : Nat) :
    Arb.Served n k last { t with clock := c } o := ⟨h.lt, h.req, h.number, h.fair, h.turn, h.served⟩

/-- The winner with its grant recorded. -/
theorem Arb.served_of_winner {n : Nat} {m t : Arb} {o : Nat} (h : m.winner n (m.number + 1) m.waiting = some o)
    (hin : ∀ j, (t.input j).req = (m.input j).req ∧ (t.input j).since = (m.input j).since ∧ (t.input j).prio = (m.input j).prio)
    (hnum : t.number = m.number + 1) (hlast : t.last = sput 0 m.last (m.input o).prio (o + 1)) : Arb.Served n m.number m.last t o := by
  obtain ⟨ho, hreq⟩ := Arb.mem_waiting.mp (Arb.winner_waits h)
  refine ⟨ho, (hin o).1.trans hreq, hnum, fun hf i hi hr => ?_, fun hf i hi hr => ?_, fun p => ?_⟩
  · rw [(hin o).2.1, (hin i).2.1]
    exact (Arb.winner_fair h (hnum ▸ hf)).2 i (Arb.mem_waiting.mpr ⟨hi, (hin i).1.symm.trans hr⟩)
  · rw [(hin o).2.2, (hin i).2.2]
    exact (Arb.winner_turn h (hnum ▸ hf)).2 i (Arb.mem_waiting.mpr ⟨hi, (hin i).1.symm.trans hr⟩)
  · rw [hlast, (hin o).2.2]
    by_cases hp : p = (m.input o).prio
    · rw [hp, if_pos rfl, sget_sput_same]
    · rw [if_neg hp, sget_sput_other hp]

section
variable {m m1 : Arb} {n : Nat} (hm : (List.range 12).foldl (fun (u : State) i => u.arbAdopt i) s = { s with arb := m })
  (hn : s.rf Reg.ARB_CTL 0 7 = n)
  (h1 : (m.order n 16 (m.number + 1) m.waiting).zipIdx.foldl
    (fun (a : Arb) p => a.setInput p.1 { a.input p.1 with turn := min p.2 255 }) m = m1)
include hm hn h1

theorem State.grantNext_none (h : m.winner n (m.number + 1) m.waiting = none) : s.grantNext = { s with arb := m1 } := by
  subst hn h1
  unfold State.grantNext
  rw [hm]
  dsimp only
  split
  case h_1 => rfl
  case h_2 i hi => exact absurd ((hi.symm.trans (Arb.order_head 15)).trans h) nofun

theorem State.grantNext_some {o : Nat} (h : m.winner n (m.number + 1) m.waiting = some o) :
    s.grantNext.ctl = s.ctl ∧
      s.grantNext.arb =
        { (m1.setInput o { m1.input o with grants := (m1.input o).grants + 1, turn := 0 }).granted o with
          owner := o + 1, number := m1.number + 1 } := by
  subst hn h1
  unfold State.grantNext
  rw [hm]
  dsimp only
  split
  case h_1 hi => exact absurd (h.symm.trans ((Arb.order_head 15).symm.trans hi)) nofun
  case h_2 i hi =>
    obtain rfl := Option.some.inj ((hi.symm.trans (Arb.order_head 15)).trans h)
    split
    · exact ⟨State.bump_ctl _ _, State.bump_arb _ _⟩
    · exact ⟨rfl, rfl⟩

end

/-- A new arbitration: no request changes, and one of those that wait is granted. -/
theorem State.grantNext_spec (h0 : s.arb.owner = 0) {t : State} (ht : s.grantNext = t) :
    (∀ j, (t.arb.input j).req = (s.arb.input j).req ∧ (t.arb.input j).since = (s.arb.input j).since) ∧
      t.portTime = s.portTime ∧
      (t.arb.owner = 0 → t.arb.number = s.arb.number ∧ ∀ i < 12, (t.arb.input i).req = false) ∧
      (∀ o, t.arb.owner = o + 1 → Arb.Served (s.rf Reg.ARB_CTL 0 7) s.arb.number s.arb.last t.arb o) := by
  obtain ⟨m, hm, ⟨hown, hnum, hlast, hclk⟩, hq⟩ := State.arbAdopt_fold_spec (s := s) (List.range 12)
  obtain ⟨m1, h1⟩ : ∃ m1, m1 = (m.order (s.rf Reg.ARB_CTL 0 7) 16 (m.number + 1) m.waiting).zipIdx.foldl
    (fun (a : Arb) p => a.setInput p.1 { a.input p.1 with turn := min p.2 255 }) m := ⟨_, rfl⟩
  obtain ⟨⟨⟨hown1, hnum1, hlast1, hclk1⟩, hq1⟩, hp1⟩ := Arb.turn_fold_spec m _ h1.symm
  subst ht
  cases hw : m.winner (s.rf Reg.ARB_CTL 0 7) (m.number + 1) m.waiting with
  | none =>
    rw [State.grantNext_none hm rfl h1.symm hw]
    refine ⟨fun j => ⟨(hq1 j).1.trans (hq j).1, (hq1 j).2.trans (hq j).2⟩, congrArg (s.ctl + ·) (hclk1.trans hclk),
      fun _ => ⟨hnum1.trans hnum, fun i hi => ?_⟩, fun o ho => ?_⟩
    · have hnil : m.waiting = [] := by
        by_contra hne
        obtain ⟨o, ho⟩ := Arb.winner_some (n := s.rf Reg.ARB_CTL 0 7) (number := m.number + 1) hne
        exact absurd (hw.symm.trans ho) nofun
      refine (hq1 i).1.trans (Bool.eq_false_iff.mpr fun hr => ?_)
      exact List.not_mem_nil (hnil ▸ Arb.mem_waiting.mpr ⟨hi, hr⟩)
    · exact absurd (((hown1.trans hown).trans h0).symm.trans ho) nofun
  | some o =>
    obtain ⟨hctl, harb⟩ := State.grantNext_some hm rfl h1.symm hw
    have hin (j : Nat) : (s.grantNext.arb.input j).req = (m.input j).req ∧ (s.grantNext.arb.input j).since = (m.input j).since ∧
        (s.grantNext.arb.input j).prio = (m.input j).prio := by
      rw [harb]
      change ((m1.setInput o _).input j).req = _ ∧ ((m1.setInput o _).input j).since = _ ∧ ((m1.setInput o _).input j).prio = _
      rw [Arb.input_setInput]
      split
      case isTrue hj => rw [hj]; exact ⟨(hq1 o).1, (hq1 o).2, hp1 o⟩
      case isFalse => exact ⟨(hq1 j).1, (hq1 j).2, hp1 j⟩
    have hserved := Arb.served_of_winner hw hin (by rw [harb, hnum1]) (by
      rw [harb]
      change sput 0 m1.last ((m1.setInput o _).input o).prio (o + 1) = _
      rw [Arb.input_setInput, if_pos rfl, hlast1]
      exact congrArg (sput 0 m.last · (o + 1)) (hp1 o))
    rw [hnum, hlast] at hserved
    refine ⟨fun j => ⟨(hin j).1.trans (hq j).1, (hin j).2.1.trans (hq j).2⟩, ?_, fun h => ?_, fun o' ho' => ?_⟩
    · rw [State.portTime, hctl, harb]
      exact congrArg (s.ctl + ·) (hclk1.trans hclk)
    · rw [harb] at h
      exact absurd h (Nat.succ_ne_zero o)
    · rw [harb] at ho'
      obtain rfl := Nat.succ.inj ho'
      exact hserved

/-! ### The command (R371) -/

/-- The owner gives the port up. -/
theorem State.endGrant_spec (dropped : Bool) : ∃ a, s.endGrant dropped = { s with arb := a } ∧ a.owner = 0 ∧
    a.number = s.arb.number ∧ a.last = s.arb.last ∧ a.clock = s.arb.clock := by
  unfold State.endGrant
  split
  case isTrue h => exact ⟨s.arb, rfl, h, rfl, rfl, rfl⟩
  case isFalse h => exact ⟨_, rfl, rfl, rfl, rfl, rfl⟩

section
variable {raised issued : Nat} {dropped : Bool} {found : List Lookup} {s0 : State}

/-- Whether the grant of the owner ends. -/
def State.grantEnds (s : State) (issued : Nat) (dropped : Bool) : Prop :=
  s.arb.owner = 0 ∨ dropped = true ∨ (s.arb.input (s.arb.owner - 1)).burst ≤ issued

theorem arbitrate_goesOn (hs : found.foldl State.lookup s0 = s) (h : ¬ s.grantEnds issued dropped) :
    arbitrate raised issued dropped found s0 = (s.portTick.raiseMask raised).portTick := by
  subst hs
  exact congrArg State.portTick (if_neg h)

theorem arbitrate_ends (hs : found.foldl State.lookup s0 = s) (h : s.grantEnds issued dropped) :
    arbitrate raised issued dropped found s0 = ((s.portTick.endGrant dropped).raiseMask raised).grantNext.portTick := by
  subst hs
  exact congrArg State.portTick (if_pos h)

/-- A grant that goes on: the requests raised wait from the cycle of the command. -/
theorem arbitrate_goesOn_spec (hs : found.foldl State.lookup s0 = s) (h : ¬ s.grantEnds issued dropped) {t : State}
    (ht : arbitrate raised issued dropped found s0 = t) :
    (∀ i < 12, raised.testBit i = true → (t.arb.input i).req = true ∧
      ((s.arb.input i).req = false → (t.arb.input i).since = s.portTime + 1)) ∧
      t.portTime = s.portTime + 2 ∧ t.arb.owner = s.arb.owner ∧ t.arb.number = s.arb.number := by
  rw [arbitrate_goesOn hs h] at ht
  obtain ⟨a, ha, ⟨hown, hnum, _, hclk⟩, hin⟩ := State.raiseMask_spec (s := s.portTick) raised
  rw [ha] at ht
  subst ht
  refine ⟨fun i hi hr => ?_, congrArg (fun c => s.ctl + (c + 1)) hclk, hown, hnum⟩
  have he : a.input i = (s.arb.input i).raisedAt (s.portTime + 1) := (hin i).trans (if_pos ⟨hi, hr⟩)
  change (a.input i).req = true ∧ (_ → (a.input i).since = _)
  rw [he]
  exact ⟨ArbIn.raisedAt_req _ _, fun hf => ArbIn.raisedAt_since hf _⟩

/-- A grant that ends: every request raised so far takes part in the next arbitration. -/
theorem arbitrate_ends_spec (hs : found.foldl State.lookup s0 = s) (h : s.grantEnds issued dropped) {t : State}
    (ht : arbitrate raised issued dropped found s0 = t) :
    (∀ i < 12, raised.testBit i = true → (t.arb.input i).req = true) ∧ t.portTime = s.portTime + 2 ∧
      (t.arb.owner = 0 → t.arb.number = s.arb.number ∧ ∀ i < 12, (t.arb.input i).req = false) ∧
      (∀ o, t.arb.owner = o + 1 → Arb.Served (s.rf Reg.ARB_CTL 0 7) s.arb.number s.arb.last t.arb o) := by
  rw [arbitrate_ends hs h] at ht
  obtain ⟨a, ha, hown, hnum, hlast, hclk⟩ := State.endGrant_spec (s := s.portTick) dropped
  obtain ⟨b, hb, ⟨hown', hnum', hlast', hclk'⟩, hin⟩ := State.raiseMask_spec (s := { s.portTick with arb := a }) raised
  rw [ha, hb] at ht
  obtain ⟨hq, htime, hfree, hgrant⟩ := State.grantNext_spec (s := { s.portTick with arb := b }) (hown'.trans hown) rfl
  subst ht
  refine ⟨fun i hi hr => ?_, ?_, fun h0 => ?_, fun o ho => ?_⟩
  · refine (hq i).1.trans ?_
    change (b.input i).req = true
    rw [hin i, if_pos ⟨hi, hr⟩]
    exact ArbIn.raisedAt_req _ _
  · refine (congrArg (· + 1) htime).trans ?_
    exact congrArg (fun c => s.ctl + c + 1) (hclk'.trans hclk)
  · exact ⟨(hfree h0).1.trans (hnum'.trans hnum), (hfree h0).2⟩
  · have hserved := hgrant o ho
    rw [show b.number = s.arb.number from hnum'.trans hnum, show b.last = s.arb.last from hlast'.trans hlast] at hserved
    exact hserved.later _

end

/-! ### The registers of the arbiter (R374, R377) -/

section
variable {i : Nat} {v : Word}

theorem arbRowAct_unused (hi : 12 ≤ i) (h16 : i ≠ 16) :
    arbRowAct i v s = s.raise Ev.DRAM_CFG_REFUSED (offDetail (Reg.ARB_REQ0 + 4 * i)) := by
  rw [arbRowAct, if_neg h16, arbReqAct, if_pos hi]

theorem arbRowAct_input (hi : i < 12) :
    arbRowAct i v s =
      if (s.arb.input i).req = true then s.writeRw (Reg.ARB_REQ0 + 4 * i) v
      else (s.writeRw (Reg.ARB_REQ0 + 4 * i) v).arbAdopt i := by
  rw [arbRowAct, if_neg (by omega), arbReqAct, if_neg (by omega)]

theorem arbCtlAct_stores (h1 : 2 ≤ fld v 0 7) (h2 : fld v 0 7 ≤ 64) : arbCtlAct v s = s.writeRw Reg.ARB_CTL v :=
  if_neg (by omega)

theorem arbCtlAct_refuses (h : fld v 0 7 < 2 ∨ 64 < fld v 0 7) :
    arbCtlAct v s = s.raise Ev.DRAM_CFG_REFUSED (offDetail Reg.ARB_CTL) := if_pos h

theorem arbOff_input (hi : i < 16) : arbOff i = Reg.ARB_REQ0 + 4 * i := if_neg (by omega)

end

end

end Sys2Proof.Machine

namespace Sys2Proof

open Machine

/-- Settles O43: requests by what an access raises, grants by age or by priority and turn, settings by the input. -/
theorem theArbiterGrantsByPriorityAndAge : Obligations.TheArbiterGrantsByPriorityAndAge := by
  unfold Obligations.TheArbiterGrantsByPriorityAndAge
  refine ⟨fun s0 raised issued dropped found hl hwf => ?arbitration, fun s input line new hr => ?raise,
    fun s input line new => ⟨fun n hn hd => ?_, fun hn ha => State.dramWriteLine_fills hn ha⟩,
    fun s a r v hr ht => ?input, fun s a r v hr hr' ht => ?unused, fun s a v ht => ?ctl⟩
  case arbitration =>
    intro t s n ended
    refine ⟨checked_answers hwf (onPage_answers hl rfl), ?_⟩
    by_cases h : ended
    · obtain ⟨hreq, htime, hfree, hgrant⟩ := arbitrate_ends_spec (s := s) rfl h (t := t) rfl
      refine ⟨hreq, fun i hi hr hf hne => absurd h hne, htime, fun hne => absurd h hne, fun _ => ⟨hfree, fun o ho => ?_⟩⟩
      obtain ⟨hlt, hreq, hnum, hfair, hturn, hlast⟩ := hgrant o ho
      exact ⟨hlt, hreq, hnum, hfair, hturn, hlast⟩
    · obtain ⟨hreq, htime, hown, hnum⟩ := arbitrate_goesOn_spec (s := s) rfl h (t := t) rfl
      exact ⟨fun i hi hr => (hreq i hi hr).1, fun i hi hr hf _ => (hreq i hi hr).2 hf, htime, fun _ => ⟨hown, hnum⟩,
        fun he => absurd he h⟩
  case raise =>
    rw [State.dramReadLine_input]
    refine ⟨State.portRaise_req input, State.portRaise_since hr, fun ha => ?_⟩
    rw [State.dramWriteLine_input ha]
    exact ⟨State.portRaise_req input, State.portRaise_since hr⟩
  · rw [State.dramReadLine_arb_corrected hn hd]
    exact State.portRaise_req 10
  case input =>
    intro t
    have hwf : Instr.wf (.arbWrite a r v) = true := decide_eq_true (by omega)
    have ans {u : State} (h : arbRowAct r.toNat v s = u) : exec (.arbWrite a r v) s = .next u.settle :=
      checked_answers hwf (rowWrite_answers ((arbOff_input (Nat.lt_of_lt_of_le hr (by decide))).symm ▸ ht) h)
    exact ⟨fun hq => ans ((arbRowAct_input hr).trans (if_pos hq)),
      fun hq => ans ((arbRowAct_input hr).trans (if_neg (ne_true_of_eq_false hq)))⟩
  case unused =>
    have hwf : Instr.wf (.arbWrite a r v) = true := decide_eq_true (by omega)
    exact checked_answers hwf (rowWrite_answers ((arbOff_input hr').symm ▸ ht) (arbRowAct_unused hr (by omega)))
  case ctl =>
    have hwf : Instr.wf (.arbWrite a 16 v) = true := rfl
    exact ⟨fun h1 h2 => checked_answers hwf (rowWrite_answers ht (arbCtlAct_stores h1 h2)),
      fun h => checked_answers hwf (rowWrite_answers ht (arbCtlAct_refuses h))⟩

end Sys2Proof
end

section
/-!
PROOFS. Clock sources, their monitors, the fallback, the moves of the active source and the switches of the islands
(R383 to R391), and the modes, gates and power states (R392 to R395).
-/

namespace Sys2Proof.Machine

/-! ### The switch of an island (R391) -/

theorem testBit_maskBit (m i : Nat) (b : Bool) (j : Nat) : (maskBit m i b).testBit j = if j = i then b else m.testBit j := by
  have hor (k : Nat) : (m ||| 2 ^ i).testBit k = (m.testBit k || decide (i = k)) := by
    rw [Nat.testBit_or, Nat.testBit_two_pow]
  cases b with
  | true =>
    rw [maskBit, if_pos rfl, hor]
    by_cases h : j = i
    · simp [h]
    · simp [h, Ne.symm h]
  | false =>
    rw [maskBit, if_neg Bool.false_ne_true]
    have hlt : (m ||| 2 ^ i) % 2 ^ i < 2 ^ i := Nat.mod_lt _ (Nat.two_pow_pos i)
    have hodd : (m ||| 2 ^ i) / 2 ^ i % 2 = 1 := by
      have := hor i
      rw [Nat.testBit_eq_decide_div_mod_eq] at this
      simpa using this
    obtain ⟨q, hq⟩ : ∃ q, (m ||| 2 ^ i) / 2 ^ i = 2 * q + 1 := ⟨(m ||| 2 ^ i) / 2 ^ i / 2, by omega⟩
    have hx : 2 ^ i * (2 * q + 1) + (m ||| 2 ^ i) % 2 ^ i = m ||| 2 ^ i := by rw [← hq]; exact Nat.div_add_mod _ _
    have hsub : (m ||| 2 ^ i) - 2 ^ i = 2 ^ i * (2 * q) + (m ||| 2 ^ i) % 2 ^ i := by
      rw [Nat.mul_add, Nat.mul_one] at hx
      omega
    have hb := hor j
    rw [← hx, Nat.testBit_two_pow_mul_add _ hlt] at hb
    rw [hsub, Nat.testBit_two_pow_mul_add _ hlt]
    by_cases h : j = i
    · subst h
      simp [Nat.testBit_zero]
    · rw [if_neg h]
      by_cases hji : j < i
      · rw [if_pos hji] at hb ⊢
        simpa [Ne.symm h] using hb
      · obtain ⟨k, hk⟩ : ∃ k, j - i = k + 1 := ⟨j - i - 1, by omega⟩
        rw [if_neg hji, hk, Nat.testBit_succ] at hb ⊢
        rw [show (2 * q + 1) / 2 = 2 * q / 2 by omega] at hb
        simpa [Ne.symm h] using hb

/-- What the clock state holds of one island. -/
structure Island where
  switching : Bool
  stops : Bool
  goal : Bool
  again : Bool
  safe : Bool

def Clk.island (c : Clk) (i : Nat) : Island :=
  ⟨c.switching.testBit i, c.stops.testBit i, c.goal.testBit i, c.again.testBit i, c.safe.testBit i⟩

/-- What a request leaves of the island that is asked. -/
def Island.ask (method safe : Bool) (x : Island) : Island :=
  if x.switching then
    if x.stops then { x with again := x.goal != safe } else { x with goal := safe, stops := true }
  else if x.safe = safe then x
  else { x with switching := true, goal := safe, again := false, stops := method }

section
variable {method safe : Bool} {x : Island}

theorem Island.ask_stopping (hw : x.switching = true) (ht : x.stops = true) :
    x.ask method safe = { x with again := x.goal != safe } := (if_pos hw).trans (if_pos ht)

theorem Island.ask_ramping (hw : x.switching = true) (ht : x.stops = false) :
    x.ask method safe = { x with goal := safe, stops := true } := (if_pos hw).trans (if_neg (ne_true_of_eq_false ht))

theorem Island.ask_there (hw : x.switching = false) (hs : x.safe = safe) : x.ask method safe = x :=
  (if_neg (ne_true_of_eq_false hw)).trans (if_pos hs)

theorem Island.ask_away (hw : x.switching = false) (hs : x.safe ≠ safe) :
    x.ask method safe = { x with switching := true, goal := safe, again := false, stops := method } :=
  (if_neg (ne_true_of_eq_false hw)).trans (if_neg hs)

end

theorem Clk.island_ask (method : Nat) (safe : Bool) (c : Clk) (i j : Nat) :
    (c.ask method safe i).island j = if j = i then (c.island j).ask (method.testBit j) safe else c.island j := by
  by_cases h : j = i
  · subst h
    rw [if_pos rfl]
    by_cases hw : c.switching.testBit j = true
    · by_cases ht : c.stops.testBit j = true <;>
        simp [Clk.ask, Island.ask, Clk.island, hw, ht, testBit_maskBit]
    · by_cases hs : c.safe.testBit j = safe <;>
        simp [Clk.ask, Island.ask, Clk.island, hw, hs, testBit_maskBit]
  · rw [if_neg h, Clk.ask]
    split
    · split <;> simp [Clk.island, testBit_maskBit, h]
    · split <;> simp [Clk.island, testBit_maskBit, h]

/-- Requests to different islands. -/
theorem Clk.island_askFold (method : Nat) (safe : Bool) (l : List Nat) (hl : l.Nodup) (c : Clk) (j : Nat) :
    (l.foldl (Clk.ask method safe) c).island j =
      if j ∈ l then (c.island j).ask (method.testBit j) safe else c.island j := by
  induction l generalizing c with
  | nil => simp
  | cons i l ih =>
    obtain ⟨hi, hl⟩ := List.nodup_cons.mp hl
    rw [List.foldl_cons, ih hl, Clk.island_ask]
    by_cases h : j = i
    · subst h; simp [hi]
    · simp [h]

/-- A request changes only what tells where the islands switch to. -/
theorem Clk.ask_frame (method : Nat) (safe : Bool) (c : Clk) (i : Nat) :
    ∃ w t g a, c.ask method safe i = { c with switching := w, stops := t, goal := g, again := a } := by
  unfold Clk.ask
  split
  · split <;> exact ⟨_, _, _, _, rfl⟩
  · split <;> exact ⟨_, _, _, _, rfl⟩

theorem Clk.askFold_frame (method : Nat) (safe : Bool) (l : List Nat) (c : Clk) :
    ∃ w t g a, l.foldl (Clk.ask method safe) c = { c with switching := w, stops := t, goal := g, again := a } :=
  foldl_keeps_prop (P := fun d => ∃ w t g a, d = { c with switching := w, stops := t, goal := g, again := a })
    ⟨_, _, _, _, rfl⟩ fun d i ⟨w, t, g, a, hd⟩ => by
      obtain ⟨w', t', g', a', h⟩ := Clk.ask_frame method safe d i
      exact ⟨w', t', g', a', by rw [h, hd]⟩

section
variable {s : State}

theorem State.askAll_frame (safe : Bool) :
    ∃ w t g a, s.askAll safe = { s with clk := { s.clk with switching := w, stops := t, goal := g, again := a } } := by
  obtain ⟨w, t, g, a, h⟩ := Clk.askFold_frame (s.rf Reg.CLK_SWITCH 0 8) safe (List.range 8) s.clk
  exact ⟨w, t, g, a, congrArg (fun c => ({ s with clk := c } : State)) h⟩

theorem State.island_askAll (safe : Bool) {i : Nat} (hi : i < 8) :
    (s.askAll safe).clk.island i = (s.clk.island i).ask ((s.rf Reg.CLK_SWITCH 0 8).testBit i) safe :=
  (Clk.island_askFold _ safe (List.range 8) List.nodup_range s.clk i).trans (if_pos (List.mem_range.mpr hi))

/-! ### Trips (R383 to R390) -/

section
variable {kind : TripKind} {n src : Nat}

/-- A trip of the active source on its bit; an RC that is not judged any more is restarted. -/
def State.activeTrip (s : State) (kind : TripKind) (n : Nat) : State :=
  let t := s.tripBit s.clk.active kind n
  if s.clk.active = 0 ∧ t.clk.rcOk = false then { t with clk := { t.clk with rcStarting := true } } else t

theorem clkFailAct_off (h : s.monitors s.clk.active kind = false) : clkFailAct kind n s = s := by
  rw [clkFailAct, h]
  rfl

theorem clkFailAct_passes (h : s.monitors s.clk.active kind = true) (ht : s.trips s.clk.active kind n = false) :
    clkFailAct kind n s = s.monReg s.clk.active kind n := by
  rw [clkFailAct, h, ht]
  rfl

/-- A trip of the active source: during a fallback it goes no further, in service-only dark hold it only raises CLK_FAIL. -/
theorem clkFailAct_trips (h : s.monitors s.clk.active kind = true) (ht : s.trips s.clk.active kind n = true) {u : State}
    (hu : s.activeTrip kind n = u) :
    clkFailAct kind n s =
      if s.clk.fallback ≠ 0 then u
      else if s.clk.svcOnly = true then u.raise Ev.CLK_FAIL (s.clk.active + 16 * kindNum kind)
      else
        ((State.raiseExp { u with
          clk := { u.clk with coast := true, fallback := 1, tripSrc := s.clk.active, tripKind := kindNum kind, move := 0 } }
          Ev.CLK_FAIL (s.clk.active + 16 * kindNum kind)).enterRecovery).fallbackStart := by
  subst hu
  rw [clkFailAct, h, ht]
  simp only [Bool.not_true, Bool.false_eq_true, if_false, Bool.not_eq_true']
  rfl

theorem srcFailAct_off (h : (src != 0 && src != s.clk.active && kind != .lock && s.monitors src kind) = false) :
    srcFailAct src kind n s = s := by
  rw [srcFailAct]
  refine if_pos ?_
  have := congrArg (!·) h
  simpa [Bool.not_and, or_assoc, bne] using this

theorem srcFailAct_on (h : (src != 0 && src != s.clk.active && kind != .lock && s.monitors src kind) = true) :
    srcFailAct src kind n s =
      if s.trips src kind n = false then s.monReg src kind n
      else (s.tripBit src kind n).raise Ev.CLK_SRC_FAIL (src + 16 * kindNum kind) := by
  rw [srcFailAct]
  refine (if_neg ?_).trans (by simp only [Bool.not_eq_true'])
  simpa [and_assoc] using h

theorem rcRestartAct_off (h : s.clk.active = 0 ∨ (s.clk.rcOk = false ∧ s.monForced 0 .activity = false)) :
    rcRestartAct s = s := by
  rw [rcRestartAct]
  exact if_pos (by simpa using h)

theorem rcRestartAct_on (h : s.clk.active ≠ 0) (hr : s.clk.rcOk = true ∨ s.monForced 0 .activity = true) {t : State}
    (ht : s.tripBit 0 .activity 0 = t) :
    rcRestartAct s = ({ t with clk := { t.clk with rcStarting := true } } : State).raise Ev.CLK_RC_RESTART 0 := by
  subst ht
  rw [rcRestartAct]
  exact if_neg (by rcases hr with hr | hr <;> simp [h, hr])

theorem rcLostAct_off (h : s.clk.rcStarting = false ∨ s.clk.rcOk = true) : rcLostAct s = s := by
  rw [rcLostAct]
  exact if_pos (by simpa using h)

theorem rcLostAct_on (h : s.clk.rcStarting = true) (hr : s.clk.rcOk = false) :
    rcLostAct s = ({ s with clk := { s.clk with rcStarting := false } } : State).raise Ev.CLK_RC_LOST 0 := by
  rw [rcLostAct]
  exact if_neg (by simp [h, hr])

theorem loopRelockAct_off (h : s.clk.fallback ≠ 2 ∨ s.clk.inReset = true ∨ s.clk.svcOnly = true) : loopRelockAct s = s := by
  rw [loopRelockAct]
  exact if_pos (by simpa [or_assoc] using h)

theorem loopRelockAct_on (h : s.clk.fallback = 2) (hr : s.clk.inReset = false) (hs : s.clk.svcOnly = false) :
    loopRelockAct s = ({ s with clk := { s.clk with fallback := 3 } } : State).askAll false := by
  rw [loopRelockAct]
  exact if_neg (by simp [h, hr, hs])

end

/-! ### An island that finishes its switch (R391) -/

/-- The clock state with an island on the clock that it was asked for. -/
def State.islandSwitched (s : State) (b : Nat) : State :=
  let safe := s.clk.goal.testBit b
  let t : State :=
    { s with
      clk := { s.clk with
        switching := maskBit s.clk.switching b false, safe := maskBit s.clk.safe b safe,
        step5 := if s.clk.seq = 5 ∧ s.clk.fallback = 0 ∧ safe = false then maskBit s.clk.step5 b true else s.clk.step5 } }
  if s.clk.again.testBit b then { t with clk := t.clk.ask (s.rf Reg.CLK_SWITCH 0 8) (!safe) b } else t

theorem islandSwitchAct_off {b : Nat} (h : s.clk.switching.testBit b = false ∨ s.clk.svcOnly = true) : islandSwitchAct b s = s := by
  rw [islandSwitchAct]
  exact if_pos (by simpa using h)

theorem islandSwitchAct_on {b : Nat} (h : s.clk.switching.testBit b = true) (hs : s.clk.svcOnly = false) {u : State}
    (hu : s.islandSwitched b = u) :
    islandSwitchAct b s = (if u.clk.switching = 0 then u.allSwitched else u).lanesBack s := by
  subst hu
  rw [islandSwitchAct, h, hs, State.islandSwitched]
  simp only [Bool.not_true, Bool.or_false, Bool.false_eq_true, if_false, Bool.not_eq_true']
  rfl

theorem State.allSwitched_powerUp (hf : s.clk.fallback = 0) (hm : s.clk.move ≠ 2) (hs : s.clk.seq = 5) :
    s.allSwitched = { s with clk := { s.clk with seq := 6, active := s.clk.upSrc } } := by
  simp only [State.allSwitched, hf, hm, hs, State.updClk]
  rfl

end

end Sys2Proof.Machine

namespace Sys2Proof

open Machine

/-- Settles O45: a monitor by whether it runs and trips, an island by what it was asked for. -/
theorem tripsStartTheFallback : Obligations.TripsStartTheFallback := by
  unfold Obligations.TripsStartTheFallback
  refine ⟨fun s kind meas hl => ?clkFail, fun s src kind meas hl => ?srcFail, fun s hl => ?rc, fun s safe i hi => ?ask,
    fun s i hl => ?island, fun s hf hm hs => State.allSwitched_powerUp hf hm hs⟩
  case clkFail =>
    intro src n t t2 detail
    refine ⟨fun h => onService_answers hl (clkFailAct_off h), fun h ht => onService_answers hl (clkFailAct_passes h ht),
      fun h ht => ?_⟩
    have act := clkFailAct_trips h ht (u := t2) rfl
    exact ⟨fun hf => onService_answers hl (act.trans (if_pos hf)),
      fun hf hs => onService_answers hl (act.trans ((if_neg (by simpa using hf)).trans (if_pos hs))),
      fun hf hs => onService_answers hl
        (act.trans ((if_neg (by simpa using hf)).trans (if_neg (ne_true_of_eq_false hs))))⟩
  case srcFail =>
    exact ⟨fun h => onService_answers hl (srcFailAct_off h), fun h =>
      ⟨fun ht => onService_answers hl ((srcFailAct_on h).trans (if_pos ht)),
        fun ht => onService_answers hl ((srcFailAct_on h).trans (if_neg (by rw [ht]; nofun)))⟩⟩
  case rc =>
    exact ⟨fun h => onService_answers hl (rcRestartAct_off h), fun h hr => onService_answers hl (rcRestartAct_on h hr rfl),
      fun h => onService_answers hl (rcLostAct_off h), fun h hr => onService_answers hl (rcLostAct_on h hr),
      fun h => onService_answers hl (loopRelockAct_off h), fun h hr hs => onService_answers hl (loopRelockAct_on h hr hs)⟩
  case ask =>
    intro t busy stop
    have hisl : t.clk.island i = (s.clk.island i).ask ((s.rf Reg.CLK_SWITCH 0 8).testBit i) safe := State.island_askAll safe hi
    have hsafe : t.clk.safe = s.clk.safe := by
      obtain ⟨w, st, g, a, h⟩ := State.askAll_frame (s := s) safe
      change (s.askAll safe).clk.safe = _
      rw [h]
    refine ⟨fun hw ht => ?_, fun hw ht => ?_, fun hw hs => ?_, fun hw hs => ?_, hsafe⟩
    · have h := hisl.trans (Island.ask_stopping hw ht)
      exact ⟨(congrArg Island.switching h).trans hw, (congrArg Island.stops h).trans ht, congrArg Island.goal h,
        congrArg Island.again h⟩
    · have h := hisl.trans (Island.ask_ramping hw ht)
      exact ⟨(congrArg Island.switching h).trans hw, congrArg Island.stops h, congrArg Island.goal h⟩
    · exact (congrArg Island.switching (hisl.trans (Island.ask_there hw hs))).trans hw
    · have h := hisl.trans (Island.ask_away hw hs)
      exact ⟨congrArg Island.switching h, congrArg Island.goal h, congrArg Island.again h, congrArg Island.stops h⟩
  case island =>
    intro b safe t u
    refine ⟨fun h => onService_answers hl (islandSwitchAct_off h), fun h hs => ?_⟩
    have act := islandSwitchAct_on h hs (u := u) rfl
    exact ⟨fun hn => onService_answers hl (act.trans (by rw [if_neg hn])),
      fun hn => onService_answers hl (act.trans (by rw [if_pos hn]))⟩

end Sys2Proof
end

section
/-!
PROOFS. Sources that come up, the moves of the active source, and the commands of CLK_CMD (R384, R385, R399, R400).
-/

namespace Sys2Proof.Machine

section
variable {s : State}

/-! ### A source comes up (R384, R399, R416) -/

section
variable {coarse fine : Nat}

theorem srcUpAct_rc_off (h : s.clk.rcOk = true ∨ s.clk.rcStarting = false) : srcUpAct .rc coarse fine s = s := by
  rw [srcUpAct]
  exact if_pos (by simpa using h)

theorem srcUpAct_rc (h : s.clk.rcOk = false) (hr : s.clk.rcStarting = true) :
    srcUpAct .rc coarse fine s =
      ((({ s with clk := { s.clk with rcOk := true, rcStarting := false } } : State).raise Ev.CLK_SRC_UP 0).fallbackStart).startUp := by
  rw [srcUpAct]
  exact if_neg (by simp [h, hr])

theorem srcUpAct_xtal_off (h : s.clk.rcOk = false) : srcUpAct .xtal coarse fine s = s := by
  rw [srcUpAct]
  exact if_pos (by simp [h])

/-- XTAL with RC judged: the count is kept; a force trips the window, one that passes sets XTAL_OK. -/
theorem srcUpAct_xtal (h : s.clk.rcOk = true) {t : State} (ht : s.setReg Reg.CLK_MON_XTAL (w32 (coarse % 2 ^ 11)) = t) :
    srcUpAct .xtal coarse fine s =
      if s.monForced 1 .coarse = true then evalMon 1 .coarse coarse t
      else if s.clk.xtalOk = true ∨ coarse % 2 ^ 11 < 1004 ∨ 1044 < coarse % 2 ^ 11 then t
      else (({ t with clk := { t.clk with xtalOk := true } } : State).raise Ev.CLK_SRC_UP 1).startUp := by
  subst ht
  rw [srcUpAct]
  refine (if_neg (by simp [h])).trans ?_
  have hf : s.fails 1 .coarse coarse = decide (coarse % 2 ^ 11 < 1004 ∨ 1044 < coarse % 2 ^ 11) := rfl
  simp only [hf, Bool.or_eq_true, decide_eq_true_eq]
  rfl

theorem srcUpAct_sys_off (h : s.clk.rcOk = false ∨ s.clk.xtalOk = false) : srcUpAct .sys coarse fine s = s := by
  rw [srcUpAct]
  exact if_pos (by simpa using h)

/-- Both windows of SYSREF pass. -/
def State.sysPasses (s : State) (coarse fine : Nat) : Prop :=
  2007 ≤ coarse ∧ coarse ≤ 2089 ∧ 763 * (sext 16 fine).natAbs ≤ 100 * s.rf Reg.CLK_CTL 16 16

/-- SYSREF stays as it is while it is judged, or where a window does not pass. -/
theorem State.sysStays_iff (hc : coarse < 2 ^ 12) :
    (s.clk.sysOk || s.fails 2 .coarse coarse || s.fails 2 .fine fine) = true ↔
      s.clk.sysOk = true ∨ ¬ s.sysPasses coarse fine := by
  have hf : s.fails 2 .fine fine = decide (100 * s.rf Reg.CLK_CTL 16 16 < 763 * (sext 16 fine).natAbs) := rfl
  have hcc : s.fails 2 .coarse coarse = decide (coarse % 2 ^ 12 < 2007 ∨ 2089 < coarse % 2 ^ 12) := rfl
  rw [hf, hcc, Nat.mod_eq_of_lt hc]
  simp only [State.sysPasses, Bool.or_eq_true, decide_eq_true_eq, or_assoc]
  exact or_congr Iff.rfl (by omega)

/-- SYSREF with both judged: both counts are kept; a force trips its window, the coarse one first. -/
theorem srcUpAct_sys (h : s.clk.rcOk = true) (hx : s.clk.xtalOk = true) (hc : coarse < 2 ^ 12) (hfine : fine < 2 ^ 16)
    {t : State} (ht : (s.setReg Reg.CLK_MON_SYSC (w32 coarse)).setReg Reg.CLK_MON_SYS (w32 fine) = t) :
    srcUpAct .sys coarse fine s =
      if s.monForced 2 .coarse = true then evalMon 2 .coarse coarse t
      else if s.monForced 2 .fine = true then evalMon 2 .fine fine t
      else if (s.clk.sysOk || s.fails 2 .coarse coarse || s.fails 2 .fine fine) = true then t
      else ({ t with clk := { t.clk with sysOk := true } } : State).raise Ev.CLK_SRC_UP 2 := by
  subst ht
  rw [srcUpAct]
  refine (if_neg (by simp [h, hx])).trans ?_
  have hmc : s.monReg 2 .coarse coarse = s.setReg Reg.CLK_MON_SYSC (w32 coarse) :=
    congrArg (fun n => s.setReg Reg.CLK_MON_SYSC (w32 n)) (Nat.mod_eq_of_lt hc)
  have hmf (u : State) : u.monReg 2 .fine fine = u.setReg Reg.CLK_MON_SYS (w32 fine) :=
    congrArg (fun n => u.setReg Reg.CLK_MON_SYS (w32 n)) (Nat.mod_eq_of_lt hfine)
  simp only [hmc, hmf]
  rfl

end

/-- A monitor is evaluated as the command of a trip of its source does it. -/
theorem exec_evalMon (hl : s.svcUp = true) (src : Src) (kind : TripKind) (meas : BitVec 16) :
    (if s.clk.active = srcNum src then exec (.clkFail kind meas) s else exec (.srcFail src kind meas) s) =
      .next (evalMon (srcNum src) kind meas.toNat s).settle := by
  rw [evalMon]
  by_cases h : srcNum src = s.clk.active
  · rw [if_pos h, if_pos h.symm]
    exact onService_answers hl rfl
  · rw [if_neg h, if_neg (Ne.symm h)]
    exact onService_answers hl rfl

/-! ### The power-up sequence and the moves (R385, R399) -/

theorem xtalTimeoutAct_off (h : s.clk.seq ≠ 4 ∨ s.clk.xtalOk = true ∨ s.clk.fallback ≠ 0) : xtalTimeoutAct s = s := by
  rw [xtalTimeoutAct]
  exact if_pos (by simpa [or_assoc] using h)

theorem xtalTimeoutAct_on (h : s.clk.seq = 4) (hx : s.clk.xtalOk = false) (hf : s.clk.fallback = 0) {t : State}
    (ht : s.openDetail.2 = t) :
    xtalTimeoutAct s =
      (({ t with clk := { t.clk with seq := 5, upSrc := 0 } } : State).askAll false).raise Ev.CLK_SRC_FAIL
        (1 + 16 * (s.openDetail.1 % 16)) := by
  subst ht
  rw [xtalTimeoutAct]
  exact if_neg (by simp [h, hx, hf])

theorem sourceMoveAct_off
    (h : s.moveTarget = none ∨ s.mainUp = false ∨ s.clk.fallback ≠ 0 ∨ s.clk.seq = 4 ∨ s.clk.seq = 5) : sourceMoveAct s = s := by
  unfold sourceMoveAct
  split
  case h_1 => rfl
  case h_2 n hn =>
    have h := h.resolve_left (by rw [hn]; nofun)
    exact if_pos (by simpa [or_assoc] using h)

theorem sourceMoveAct_on {n : Nat} (h : s.moveTarget = some n) (hm : s.mainUp = true) (hf : s.clk.fallback = 0)
    (h4 : s.clk.seq ≠ 4) (h5 : s.clk.seq ≠ 5) :
    sourceMoveAct s =
      if n = s.clk.active then { s with clk := { s.clk with move := 0 } }
      else ({ s with clk := { s.clk with move := 2, moveTo := n } } : State).askAll true := by
  unfold sourceMoveAct
  split
  case h_1 hn => exact absurd (hn.symm.trans h) nofun
  case h_2 m hm' =>
    obtain rfl := Option.some.inj (hm'.symm.trans h)
    exact if_neg (by simp [hm, hf, h4, h5])

theorem sourceChangedAct_off (h : s.clk.move ≠ 3 ∨ s.clk.switching ≠ 0) : sourceChangedAct s = s := by
  rw [sourceChangedAct]
  exact if_pos (by simpa using h)

theorem sourceChangedAct_on (h : s.clk.move = 3) (hs : s.clk.switching = 0) :
    sourceChangedAct s =
      ({ s with clk := { s.clk with active := s.clk.moveTo, move := 0 } } : State).raise Ev.CLK_SOURCE_CHANGED s.clk.moveTo := by
  rw [sourceChangedAct]
  exact if_neg (by simp [h, hs])

theorem readyAct_off (h : s.clk.seq ≠ 6 ∨ s.sram.zeroed = false ∨ s.dram.ready = false ∨ s.clk.fallback ≠ 0) :
    readyAct s = s := by
  rw [readyAct]
  exact if_pos (by simpa [or_assoc] using h)

theorem readyAct_on (h : s.clk.seq = 6) (hz : s.sram.zeroed = true) (hr : s.dram.ready = true) (hf : s.clk.fallback = 0)
    {t : State} (ht : { s with clk := { s.clk with
      ready := true, seq := 10, held := if s.clk.held = 1 then 0 else s.clk.held } } = t)
    {u : State} (hu : (if s.clk.mode = 1 then t.setMode 0 else t).lanePower = u) :
    readyAct s = (u.fill u.fillBeams).restartPath.raise Ev.CLK_READY 0 := by
  subst hu ht
  rw [readyAct]
  exact if_neg (by simp [h, hz, hr, hf])

/-! ### The commands (R385, R400) -/

/-- What refuses a commanded move. -/
def State.selectRefuses (s : State) (n : Nat) : Prop :=
  s.running = true ∨ s.clk.okOf n = false ∨ s.clk.active = n ∨ n = 2 ∧ s.clk.active = 0 ∨ s.clk.move ≠ 0 ∨
    s.clk.fallback ≠ 0 ∨ s.autoTarget ≠ none

theorem selectAct_cond (n : Nat) :
    (s.running || !s.clk.okOf n || s.clk.active = n || (n = 2 && s.clk.active = 0) || s.clk.move ≠ 0 ||
      s.clk.fallback ≠ 0 || s.autoTarget.isSome) = true ↔ s.selectRefuses n := by
  simp [State.selectRefuses, or_assoc, Option.isSome_iff_ne_none]

theorem selectAct_refused {n : Nat} (h : s.selectRefuses n) :
    selectAct n s = s.raise Ev.CLK_CFG_REFUSED (offDetail Reg.CLK_CMD) := by
  rw [selectAct]
  exact if_pos ((selectAct_cond n).mpr h)

theorem selectAct_moves {n : Nat} (h : ¬ s.selectRefuses n) :
    selectAct n s = { s with clk := { s.clk with move := 1, moveTo := n, autoHeld := decide (n < s.clk.active) } } := by
  rw [selectAct]
  exact if_neg fun hc => h ((selectAct_cond n).mp hc)

theorem clkCmd_ne_tpCmd (p : Party) : Reg.CLK_CMD ≠ Reg.TP_CMD + bankOf p := by
  cases p <;> decide

theorem clkCmdAct_noRow {n : Nat} (h : n = 0 ∨ 6 ≤ n) : clkCmdAct n s = s.raise Ev.CLK_CFG_REFUSED (offDetail Reg.CLK_CMD) := by
  unfold clkCmdAct
  split
  case h_6 => rfl
  all_goals omega

end

end Sys2Proof.Machine

namespace Sys2Proof

open Machine

/-- Settles O46: a source by what is judged and forced, a move by what is under way, a write of CLK_CMD by its OP. -/
theorem sourcesComeUpAndMove : Obligations.SourcesComeUpAndMove := by
  unfold Obligations.SourcesComeUpAndMove
  refine ⟨fun s coarse fine hl => ⟨fun h => onService_answers hl (srcUpAct_rc_off h),
      fun h hr => onService_answers hl (srcUpAct_rc h hr), fun h => onService_answers hl (srcUpAct_xtal_off h), ?xtal,
      fun h => onService_answers hl (srcUpAct_sys_off h), ?sys⟩,
    fun s hl => ⟨fun h => onService_answers hl (xtalTimeoutAct_off h),
      fun h hx hf => onService_answers hl (xtalTimeoutAct_on h hx hf rfl),
      fun h => onService_answers hl (sourceMoveAct_off h), fun n h hm hf h4 h5 => ?move,
      fun h => onService_answers hl (sourceChangedAct_off h), fun h hs => onService_answers hl (sourceChangedAct_on h hs),
      fun h => onService_answers hl (readyAct_off h), fun h hz hr hf => onService_answers hl (readyAct_on h hz hr hf rfl rfl)⟩,
    fun s a ht => ?commands⟩
  case xtal =>
    intro hr n t forced
    have act := srcUpAct_xtal (coarse := coarse.toNat) (fine := fine.toNat) hr (t := t) rfl
    refine ⟨fun hf => ?_,
      fun hf h => onService_answers hl (act.trans ((if_neg (ne_true_of_eq_false hf)).trans (if_pos h))),
      fun hf h h1 h2 => onService_answers hl
        (act.trans ((if_neg (ne_true_of_eq_false hf)).trans (if_neg (by rw [h]; simp only [Bool.false_eq_true, false_or]; omega))))⟩
    refine (onService_answers hl (act.trans (if_pos hf))).trans (.trans ?_ (exec_evalMon (s := t) hl .xtal .coarse _).symm)
    rw [BitVec.toNat_setWidth_of_le (by decide)]
    rfl
  case sys =>
    intro hr hx n off t passes trips forced
    have act := srcUpAct_sys (coarse := coarse.toNat) (fine := fine.toNat) hr hx coarse.isLt fine.isLt (t := t) rfl
    have stays := State.sysStays_iff (s := s) (coarse := coarse.toNat) (fine := fine.toNat) coarse.isLt
    have unforced (hf : forced = false) : s.monForced 2 .coarse = false ∧ s.monForced 2 .fine = false := Bool.or_eq_false_iff.mp hf
    refine ⟨fun hf => ?_, fun hf hg => ?_, fun hf h => ?_, fun hf h hp => ?_⟩
    · refine (onService_answers hl (act.trans (if_pos hf))).trans (.trans ?_ (exec_evalMon (s := t) hl .sys .coarse _).symm)
      rw [BitVec.toNat_setWidth_of_le (by decide)]
      rfl
    · exact (onService_answers hl (act.trans ((if_neg (ne_true_of_eq_false hf)).trans (if_pos hg)))).trans
        (exec_evalMon (s := t) hl .sys .fine fine).symm
    · obtain ⟨hc, hg⟩ := unforced hf
      exact onService_answers hl (act.trans ((if_neg (ne_true_of_eq_false hc)).trans
        ((if_neg (ne_true_of_eq_false hg)).trans (if_pos (stays.mpr h)))))
    · obtain ⟨hc, hg⟩ := unforced hf
      refine onService_answers hl (act.trans ((if_neg (ne_true_of_eq_false hc)).trans
        ((if_neg (ne_true_of_eq_false hg)).trans (if_neg fun hs => ?_))))
      exact (stays.mp hs).elim (ne_true_of_eq_false h) (absurd hp)
  case move =>
    have act := sourceMoveAct_on h hm hf h4 h5
    exact ⟨fun hn => onService_answers hl (act.trans (if_pos hn)), fun hn => onService_answers hl (act.trans (if_neg hn))⟩
  case commands =>
    intro refuses refused moves
    have refuse {n : Nat} (h : refuses n) : rowWrite a Reg.CLK_CMD (selectAct n) id s = .next refused :=
      rowWrite_answers ht (selectAct_refused h)
    have move {n : Nat} (h : ¬ refuses n) : rowWrite a Reg.CLK_CMD (selectAct n) id s = .next (moves n) :=
      rowWrite_answers ht (selectAct_moves h)
    refine ⟨refuse, move, refuse, move, refuse, move, fun w v hw => ?_⟩
    have hrow (act : State → State) (hact : clkCmdAct (fld v 0 3) s = act s) :
        exec (.registerWrite a w v) s = rowWrite a Reg.CLK_CMD act id s :=
      (registerWrite_answers hw (clkCmd_ne_tpCmd _) ht hact).trans (rowWrite_answers ht rfl).symm
    refine ⟨fun h => hrow (selectAct 1) ?_, fun h => hrow (selectAct 2) ?_, fun h => hrow (selectAct 0) ?_,
      fun h => hrow serviceAct ?_, fun h => hrow holdExitAct ?_,
      fun h => registerWrite_answers hw (clkCmd_ne_tpCmd _) ht (clkCmdAct_noRow h)⟩
    all_goals rw [h]; rfl

end Sys2Proof
end

section
/-!
PROOFS. Modes, dark hold, power states, gates and the clock settings (R391 to R395, R400).
-/

namespace Sys2Proof.Machine

section
variable {s : State}

/-! ### SERVICE and dark hold (R392, R395) -/

theorem serviceAct_refused (h : s.clk.active = 0 ∨ s.clk.coast = true ∨ s.clk.hold = true ∨ s.clk.mode = 1) :
    serviceAct s = s.raise Ev.CLK_CFG_REFUSED (offDetail Reg.CLK_CMD) := by
  rw [serviceAct]
  exact if_pos (by simpa [or_assoc] using h)

theorem serviceAct_enters (h : s.clk.active ≠ 0) (hc : s.clk.coast = false) (hh : s.clk.hold = false) (hm : s.clk.mode ≠ 1) :
    serviceAct s =
      if s.clk.mode = 2 then { s with clk := { s.clk with held := 0 } }
      else ({ s with clk := { s.clk with mode := 0 } } : State).regate s := by
  rw [serviceAct]
  exact if_neg (by simp [h, hc, hh, hm])

theorem holdExitAct_refused (h : s.clk.hold = false ∨ s.clk.svcOnly = true ∨ s.fatalBit = true) :
    holdExitAct s = s.raise Ev.CLK_CFG_REFUSED (offDetail Reg.CLK_CMD) := by
  rw [holdExitAct]
  exact if_pos (by simpa [or_assoc] using h)

theorem holdExitAct_leaves (h : s.clk.hold = true) (hs : s.clk.svcOnly = false) (hf : s.fatalBit = false) :
    holdExitAct s =
      ({ s with clk := { s.clk with hold := false } } : State).raise Ev.CLK_HOLD_EXIT (s.rf Reg.CLK_HOLD 0 4) := by
  rw [holdExitAct]
  exact if_neg (by simp [h, hs, hf])

section
variable {cause page : Nat} {shown : State}
  (hs : ({ s with clk := { s.clk with hold := true } } : State).setReg Reg.CLK_HOLD (pack [(16, page), (0, cause)]) = shown)
include hs

theorem State.enterHold_first (h : s.clk.hold = false) : s.enterHold cause page = shown.enterRecovery.motDarkHold := by
  subst hs
  rw [State.enterHold, h]
  rfl

theorem State.enterHold_again (h : s.clk.hold = true) (hc : cause ≠ 1) : s.enterHold cause page = shown := by
  subst hs
  rw [State.enterHold, h]
  exact (if_neg (by simpa using hc)).trans (if_pos rfl)

end

theorem State.enterHold_fatal {cause page : Nat} (h : s.clk.hold = true) (hc : cause = 1) : s.enterHold cause page = s := by
  rw [State.enterHold]
  exact if_pos (by simp [h, hc])

/-! ### Settings (R391, R393, R394, R400) -/

section
variable {v : Word}

theorem clkPwrAct_refused (h : fld v 0 2 = 3 ∨ fld v 0 2 ≠ 0 ∧ s.running = true) :
    clkPwrAct v s = s.raise Ev.CLK_CFG_REFUSED (offDetail Reg.CLK_PWR) := by
  rw [clkPwrAct]
  exact if_pos (by simpa using h)

theorem clkPwrAct_stores (h : fld v 0 2 ≠ 3) (hr : fld v 0 2 = 0 ∨ s.running = false) :
    clkPwrAct v s = ((s.writeRw Reg.CLK_PWR v).regate s).lanesBack s := by
  rw [clkPwrAct]
  exact if_neg (by rcases hr with hr | hr <;> simp [h, hr])

/-- A write of an enable set would gate a block that is not gated. -/
def State.gates (s t : State) : Prop := ∃ b < 13, wbit s.gateSet b = true ∧ wbit t.gateSet b = false

theorem State.gates_iff {t : State} :
    ((List.range 13).any fun b => wbit s.gateSet b && !wbit t.gateSet b) = true ↔ s.gates t := by
  simp only [List.any_eq_true, List.mem_range, Bool.and_eq_true, Bool.not_eq_true', State.gates]

section
variable {set : Nat} {t : State} (ht : s.writeRw (gateOff set) v = t)
include ht

theorem clkGateAct_refused (h : s.running = true) (hg : s.gates t) :
    clkGateAct set v s = s.raise Ev.CLK_CFG_REFUSED (offDetail (gateOff set)) := by
  subst ht
  rw [clkGateAct]
  exact if_pos (by rw [h, State.gates_iff.mpr hg]; rfl)

theorem clkGateAct_stores (h : s.running = false ∨ ¬ s.gates t) : clkGateAct set v s = t.lanesBack s := by
  subst ht
  rw [clkGateAct]
  refine if_neg fun hc => ?_
  obtain ⟨hr, hg⟩ := Bool.and_eq_true_iff.mp hc
  exact h.elim (ne_true_of_eq_false · hr) (absurd (State.gates_iff.mp hg))

end

theorem clkCfgAct_switch :
    clkCfgAct true v s =
      if fld v 8 8 = 0 ∨ s.clk.switching ≠ 0 then s.raise Ev.CLK_CFG_REFUSED (offDetail Reg.CLK_SWITCH)
      else s.writeRw Reg.CLK_SWITCH v := rfl

theorem clkCfgAct_ctl :
    clkCfgAct false v s =
      if fld v 16 16 < 50 ∨ 1000 < fld v 16 16 then s.raise Ev.CLK_CFG_REFUSED (offDetail Reg.CLK_CTL)
      else s.writeRw Reg.CLK_CTL v := rfl

end

end

end Sys2Proof.Machine

namespace Sys2Proof

open Machine

/-- Settles O47: each command and setting by what refuses it; entry to dark hold by whether it lasts already. -/
theorem modesGatesAndPowerStates : Obligations.ModesGatesAndPowerStates := by
  unfold Obligations.ModesGatesAndPowerStates
  refine ⟨fun s a ht => ?commands, fun s cause page => ⟨State.enterHold_first rfl, State.enterHold_again rfl, State.enterHold_fatal⟩,
    fun s a v ht => ⟨fun h => rowWrite_answers ht (clkPwrAct_refused h), fun h hr => rowWrite_answers ht (clkPwrAct_stores h hr)⟩,
    fun s a set v => ?gate, fun s a v => ⟨fun ht => ?switch, fun ht => ?ctl⟩⟩
  case commands =>
    intro refused
    refine ⟨fun h => rowWrite_answers ht (serviceAct_refused h), fun h hc hh hm => ?_,
      fun h => rowWrite_answers ht (holdExitAct_refused h), fun h hs hf => rowWrite_answers ht (holdExitAct_leaves h hs hf)⟩
    have act := serviceAct_enters h hc hh hm
    exact ⟨fun h2 => rowWrite_answers ht (act.trans (if_pos h2)), fun h2 => rowWrite_answers ht (act.trans (if_neg h2))⟩
  case gate =>
    intro off t gates ht
    exact ⟨fun h hg => rowWrite_answers ht (clkGateAct_refused rfl h hg), fun h => rowWrite_answers ht (clkGateAct_stores rfl h)⟩
  case switch =>
    exact ⟨fun h => rowWrite_answers ht (clkCfgAct_switch.trans (if_pos h)),
      fun h hs => rowWrite_answers ht (clkCfgAct_switch.trans (if_neg (by omega)))⟩
  case ctl =>
    exact ⟨fun h => rowWrite_answers ht (clkCfgAct_ctl.trans (if_pos h)),
      fun h1 h2 => rowWrite_answers ht (clkCfgAct_ctl.trans (if_neg (by omega)))⟩

end Sys2Proof
end

section
/-!
PROOFS. Two statements on what the loss of a supply leaves to program (R49, R398, R438), refuted: they speak of every state,
also of one whose list of programming slots names a word as not pending. No command makes such a list (a slot that empties
is dropped from it), so what fails is the reach of the statements and not the model's act, which completes what is pending.
-/

namespace Sys2Proof.Machine

/-- A state that lists word 0 as not pending: `finishNv` finds nothing to program, and keeps the entry. -/
def idleSlotListed : State := { State.reset with nvSlot := [(0, false)] }

/-- The same with VIN12 present. -/
def idleSlotPowered : State := { idleSlotListed with pins := { idleSlotListed.pins with vin12 := true } }

theorem idleSlotPowered_quiet : idleSlotPowered.Quiet := by
  refine ⟨⟨rfl, fun _ => rfl, ?_, rfl, rfl, rfl⟩, rfl, nofun, rfl, rfl, rfl⟩
  decide

/-- The entry outlives a BROWNOUT and its action. -/
theorem idleSlotPowered_brownout : (brownoutAct idleSlotPowered).settle.nvSlot = [(0, false)] := by
  decide +kernel

end Sys2Proof.Machine

namespace Sys2Proof

open Machine

/-- Refutes O48: without VIN12 the loss of VAUX33 leaves the entry of a word that is listed and not pending, where the
statement has no entry left. -/
theorem not_resetsSuppliesAndSensors : ¬ Obligations.ResetsSuppliesAndSensors := by
  unfold Obligations.ResetsSuppliesAndSensors
  rintro ⟨-, -, -, -, hpins⟩
  obtain ⟨-, -, ⟨-, hlost⟩, -⟩ := hpins { idleSlotListed with pins := { idleSlotListed.pins with vin12 := false } }
  obtain ⟨-, hslot, -⟩ := hlost (Or.inl rfl)
  exact absurd hslot (by decide)

/-- Refutes O50: in a quiet state with VIN12 that lists a word as not pending, BROWNOUT leaves the entry, where the statement
has no entry left. -/
theorem not_brownoutHoldsTheDeviceUntilPowerOn : ¬ Obligations.BrownoutHoldsTheDeviceUntilPowerOn := by
  unfold Obligations.BrownoutHoldsTheDeviceUntilPowerOn
  rintro ⟨hfirst, -⟩
  obtain ⟨t, ht, -, -, -, -, hslot, -⟩ := hfirst idleSlotPowered idleSlotPowered_quiet rfl
  obtain rfl : (brownoutAct idleSlotPowered).settle = t := Host.Outcome.next.inj ht
  exact absurd (idleSlotPowered_brownout.symm.trans hslot) nofun

end Sys2Proof
end

section
/-!
PROOFS. The test block: perturbations, memory operations and the TAP (R404 to R422).
-/

namespace Sys2Proof.Machine

section
variable {s : State}

/-! ### Settings (R404 to R417) -/

section
variable {v : Word}

theorem testWrite_enabled (h : s.testEn = true) (party : Party) (off : Nat) (act : State → State) :
    testWrite party off act s = act s := if_pos h

/-- The row of a register of the test block with EN set. -/
theorem testRow_answers {a : Acc} {off : Nat} {act lost : State → State} {t : State} (ht : Taken a off s) (hen : s.testEn = true)
    (h : act s = t) : rowWrite a off (testWrite a.party off act) lost s = .next t.settle :=
  rowWrite_answers ht ((testWrite_enabled hen _ _ _).trans h)

theorem xingCfgAct_eq {t : State} (ht : { s with test := { s.test with xing := sput 0 s.test.xing (s.rf Reg.TEST_XING_SEL 0 3) v } } = t) :
    xingCfgAct v s = if v &&& 0xFFFFFF00 = 0 then t else t.bump Reg.TEST_INJ := by
  subst ht
  rw [xingCfgAct, xingActs]
  by_cases h : v &&& 0xFFFFFF00 = 0
  · rw [if_pos h, if_neg fun hb => bne_iff_ne.mp hb h]
  · rw [if_neg h, if_pos (bne_iff_ne.mpr h)]

theorem testMonAct_ignored (h : fld v 0 3 = 0 ∨ s.monRuns (fld v 0 3) = false) :
    testMonAct v s = s.raise Ev.TEST_IGNORED (offDetail Reg.TEST_MON) := by
  have hr : s.monRuns (fld v 0 3) = false := h.elim (fun h0 => by rw [h0]; rfl) id
  rw [testMonAct, hr]
  rfl

theorem testMonAct_stores (h : s.monRuns (fld v 0 3) = true) : testMonAct v s = s.writeRw Reg.TEST_MON v := by
  rw [testMonAct, h]
  rfl

/-- What R411 and R412 do not allow in a write of TEST_LANE_CFG. -/
theorem laneCfgAct_cond (v : Word) :
    ((if wbit v 31 then !auxLaneOk (fld v 20 4) else decide (fld v 8 10 < 2 ∨ 397 < fld v 8 10)) || fld v 0 8 = 0) = true ↔
      fld v 0 8 = 0 ∨ (wbit v 31 = true ∧ (fld v 20 4 = 6 ∨ fld v 20 4 = 7 ∨ 13 < fld v 20 4)) ∨
        (wbit v 31 = false ∧ (fld v 8 10 < 2 ∨ 397 < fld v 8 10)) := by
  cases wbit v 31
  · simp [or_comm]
  · simp [auxLaneOk]
    omega

/-- No register of the test block is the command register of the two-party protocol. -/
theorem test_ne_tpCmd {off : Nat} (h : Reg.TEST_XING_SEL ≤ off) (p : Party) : off ≠ Reg.TP_CMD + bankOf p := by
  have : Reg.TP_CMD + bankOf p < Reg.TEST_XING_SEL := by cases p <;> decide
  omega

section
variable {a : Acc} (hen : s.testEn = true)
include hen

theorem regWriteAct_testMemCmd : regWriteAct a Reg.TEST_MEM_CMD v s = testMemAct (fld v 0 2) s := if_pos hen

theorem regWriteAct_testXingSel : regWriteAct a Reg.TEST_XING_SEL v s = xingSelAct v s := if_pos hen

theorem regWriteAct_testLaneCfg : regWriteAct a Reg.TEST_LANE_CFG v s = laneCfgAct v s := if_pos hen

end

/-! ### Memory operations (R413, R414) -/

theorem testMemAct_ignored {op : Nat} (h : op = 0 ∨ s.test.memOp ≠ 0) :
    testMemAct op s = s.raise Ev.TEST_IGNORED (offDetail Reg.TEST_MEM_CMD) := by
  rw [testMemAct]
  exact if_pos (by simpa using h)

/-- A memory operation begins on the address and the mask as they stand. -/
def State.memBegun (s t : State) (op : Nat) : State :=
  { t with test := { t.test with memOp := op, memAddr := s.reg Reg.TEST_MEM_ADDR, memMask := s.reg Reg.TEST_MEM_MASK } }

theorem testMemAct_begins {op : Nat} (h0 : op ≠ 0) (h : s.test.memOp = 0) :
    testMemAct op s =
      s.memBegun (if op = 1 then s.setRf Reg.TEST_MEM_STAT 31 1 0 else (s.setRf Reg.TEST_MEM_STAT 31 1 0).portRaise 11) op := by
  rw [testMemAct]
  exact if_neg (by simp [h0, h])

theorem memDoneAct_waits {written : Bool} (h : s.test.memOp = 0 ∨ s.sram.zeroed = false) : memDoneAct written s = s := by
  rw [memDoneAct]
  by_cases hz : s.sram.zeroed = false
  · exact if_pos (by rw [hz]; rfl)
  · rw [h.resolve_right hz]
    exact ite_self _

section
variable {written : Bool}

theorem memDoneAct_sram (h : s.test.memOp = 1) (hz : s.sram.zeroed = true) : memDoneAct written s = s.flipSramDone written := by
  rw [memDoneAct, hz, h]
  rfl

theorem memDoneAct_dram (h : s.test.memOp = 2) (hz : s.sram.zeroed = true) : memDoneAct written s = s.flipDramDone := by
  rw [memDoneAct, hz, h]
  rfl

theorem memDoneAct_read (h : s.test.memOp = 3) (hz : s.sram.zeroed = true) : memDoneAct written s = s.readDramDone := by
  rw [memDoneAct, hz, h]
  rfl

end

/-- A pattern XORed into `n` bytes of a line, from the byte `first` on. -/
def flipped (line first n v : Nat) (err : Store Nat) : Store Nat :=
  (List.range n).foldl (fun (m : Store Nat) i => sput 0 m (72 * line + (first + i) % 72) (sget 0 m (72 * line + (first + i) % 72) ^^^ v))
    err

theorem sget_flipped {line first n v : Nat} (hn : n ≤ 72) (err : Store Nat) (k : Nat) :
    sget 0 (flipped line first n v err) k =
      if ∃ i < n, k = 72 * line + (first + i) % 72 then sget 0 err k ^^^ v else sget 0 err k := by
  induction n with
  | zero => simp [flipped]
  | succ n ih =>
    have hstep : flipped line first (n + 1) v err =
        sput 0 (flipped line first n v err) (72 * line + (first + n) % 72)
          (sget 0 (flipped line first n v err) (72 * line + (first + n) % 72) ^^^ v) := by
      rw [flipped, List.range_succ, List.foldl_append]
      rfl
    rw [hstep]
    by_cases hk : k = 72 * line + (first + n) % 72
    · have hnot : ¬ ∃ i < n, k = 72 * line + (first + i) % 72 := by
        rintro ⟨i, hi, he⟩
        omega
      rw [← hk, sget_sput_same, ih (by omega), if_neg hnot, if_pos ⟨n, by omega, hk⟩]
    · have hiff : (∃ i < n + 1, k = 72 * line + (first + i) % 72) ↔ ∃ i < n, k = 72 * line + (first + i) % 72 := by
        constructor
        · rintro ⟨i, hi, he⟩
          exact ⟨i, by rcases Nat.lt_succ_iff_lt_or_eq.mp hi with h | rfl; exacts [h, absurd he hk], he⟩
        · rintro ⟨i, hi, he⟩
          exact ⟨i, by omega, he⟩
      rw [sget_sput_other hk, ih (by omega)]
      simp only [hiff]

theorem State.flipDramDone_eq {line first n v : Nat} (hl : fld s.test.memAddr 0 29 = line) (hf : fld s.test.memMask 0 7 = first)
    (hn : fld s.test.memMask 13 3 = n) (hv : fld s.test.memMask 16 8 = v) :
    s.flipDramDone =
      if 71 < first ∨ n = 0 ∨ 5 < n ∨ v = 0 then s.memOpDone 1 0
      else if s.arb.owner ≠ 12 then s
      else if s.dram.never line = true then s.memOpDone 3 0
      else
        (({ s with dram := { s.dram with err := flipped line first n v s.dram.err } } : State).bump Reg.TEST_INJ).memOpDone 0 0 := by
  subst hl hf hn hv
  rfl

end

/-! ### The TAP (R418 to R420) -/

theorem selectsBoundary_iff {op : Byte} : selectsBoundary op = true ↔ op ∈ [(0 : Byte), 2, 3, 4] := by
  simp [selectsBoundary, or_assoc]

theorem State.length_captureCells : s.captureCells.1.length = 171 := by
  rw [State.captureCells, List.length_map, List.length_zipIdx]
  rfl

/-- A scan of the boundary cells captures them and leaves the bits shifted in. -/
theorem State.scanDr_boundary {bits : List Bool} (hb : bits.length = 171) (h : selectsBoundary s.tap = true) :
    (s.scanDr bits).bsr = bits ∧ (s.scanDr bits).tdo = s.captureCells.1 := by
  have hlen : s.captureCells.1.length = bits.length := State.length_captureCells.trans hb.symm
  rw [State.scanDr]
  dsimp only
  rw [if_pos h, ← hlen]
  exact ⟨List.drop_left, List.take_left⟩

theorem State.scanDr_other {bits : List Bool} (h : selectsBoundary s.tap = false) : (s.scanDr bits).bsr = s.bsr := by
  rw [State.scanDr]
  dsimp only
  rw [if_neg (ne_true_of_eq_false h)]
  split <;> rfl

/-- An instruction is loaded, and a scan made under it. -/
def State.tapRun (s : State) (op : Byte) (scan : Option (List Bool)) : State :=
  scan.elim { s with tap := op } (State.scanDr { s with tap := op })

theorem jtagAct_eq (op : Byte) (scan : Option (List Bool)) :
    jtagAct op scan s =
      if (scan.isNone || op != s.tap) && jtagDrives op && s.mainUp then (s.tapRun op scan).raise Ev.TEST_JTAG_EXTEST op.toNat
      else s.tapRun op scan := rfl

theorem jtagAct_drives {op : Byte} {scan : Option (List Bool)} (h : op ∈ [(0 : Byte), 3, 4, 5, 6]) (hm : s.mainUp = true)
    (hl : scan = none ∨ op ≠ s.tap) : jtagAct op scan s = (s.tapRun op scan).raise Ev.TEST_JTAG_EXTEST op.toNat := by
  rw [jtagAct_eq, if_pos]
  rw [(jtagDrives_iff _).mpr h, hm]
  rcases hl with rfl | hl <;> simp_all

theorem jtagAct_scans {op : Byte} {scan : Option (List Bool)}
    (h : op ∉ [(0 : Byte), 3, 4, 5, 6] ∨ s.mainUp = false ∨ (scan ≠ none ∧ op = s.tap)) : jtagAct op scan s = s.tapRun op scan := by
  rw [jtagAct_eq, if_neg]
  simp only [Bool.and_eq_true, jtagDrives_iff, Bool.or_eq_true, Option.isNone_iff_eq_none, bne_iff_ne]
  rintro ⟨⟨hl, hd⟩, hm⟩
  obtain h | h | ⟨hs, ho⟩ := h
  · exact h hd
  · exact ne_true_of_eq_false h hm
  · exact hl.elim hs (absurd ho)

theorem State.outLevel_eq {b : Ball} (h : b.observes = false) :
    s.outLevel b =
      if s.tap = 6 then none else if jtagDrives s.tap = true then s.bsr[boundaryCells.idxOf b]? else s.coreLevel b := by
  simp [State.outLevel, h]

end

end Sys2Proof.Machine

namespace Sys2Proof

open Machine

/-- Settles O52: each setting and operation by what it refuses, the TAP by its instruction. -/
theorem perturbationsAreArmedAndRun : Obligations.PerturbationsAreArmedAndRun := by
  unfold Obligations.PerturbationsAreArmedAndRun
  refine ⟨fun s a v hen => ?settings, fun s written hm => ?memDone, fun s op scan hl => ?tap, fun s bits _ hb => ?scan,
    fun s b hb _ => ?levels⟩
  case settings =>
    intro x sx d sd
    refine ⟨fun ht => ?xing, fun ht => ?dly, fun ht => ⟨fun h => testRow_answers ht hen (if_pos h),
        fun h => testRow_answers ht hen (if_neg h)⟩,
      fun ht => testRow_answers ht hen rfl, fun ht => testRow_answers ht hen rfl, fun ht => testRow_answers ht hen rfl,
      fun ht => ⟨fun h => testRow_answers ht hen (testMonAct_ignored h), fun _ h => testRow_answers ht hen (testMonAct_stores h)⟩,
      fun ht => ?mem, fun w ht => ?reg⟩
    case xing =>
      have act := xingCfgAct_eq (v := v) (t := sx) rfl
      exact ⟨fun h => testRow_answers ht hen (act.trans (if_pos h)), fun h => testRow_answers ht hen (act.trans (if_neg h))⟩
    case dly =>
      exact ⟨fun h => testRow_answers ht hen (if_pos h), fun h => testRow_answers ht hen (if_neg h)⟩
    case mem =>
      intro refused begun t
      refine ⟨fun h => ?_, fun h => ?_⟩
      · have ignored (op : Nat) := testMemAct_ignored (op := op) (Or.inr h)
        exact ⟨testRow_answers ht hen (ignored 1), testRow_answers ht hen (ignored 2), testRow_answers ht hen (ignored 3)⟩
      · have begins {op : Nat} (h0 : op ≠ 0) {u : State} (hu : (if op = 1 then t else t.portRaise 11) = u) :
            testMemAct op s = s.memBegun u op := hu ▸ testMemAct_begins h0 h
        exact ⟨testRow_answers ht hen (begins (by decide) (if_pos rfl)),
          testRow_answers ht hen (begins (by decide) (if_neg (by decide))),
          testRow_answers ht hen (begins (by decide) (if_neg (by decide))), State.portRaise_req 11⟩
    case reg =>
      obtain ⟨off, hw⟩ : ∃ off, 4 * w.toNat = off := ⟨_, rfl⟩
      rw [hw] at ht ⊢
      intro refused stored
      have ans (hoff : Reg.TEST_XING_SEL ≤ off) {u : State} (h : regWriteAct a off v s = u) :
          exec (.registerWrite a w v) s = .next u.settle :=
        registerWrite_answers hw (test_ne_tpCmd hoff _) ht h
      refine ⟨fun h => ?memCmd, fun h => ?xingSel, fun h => ?laneCfg⟩ <;> subst h
      case memCmd =>
        have act := regWriteAct_testMemCmd (a := a) (v := v) hen
        have hrow (op : Nat) (lost : State → State) (h : fld v 0 2 = op) : exec (.registerWrite a w v) s =
            rowWrite a Reg.TEST_MEM_CMD (testWrite a.party Reg.TEST_MEM_CMD (testMemAct op)) lost s :=
          (ans (by decide) (act.trans (by rw [h]))).trans (testRow_answers ht hen rfl).symm
        exact ⟨fun h => ans (by decide) (act.trans (testMemAct_ignored (Or.inl h))), hrow 1 _, hrow 2 _, hrow 3 _⟩
      case xingSel =>
        have act := regWriteAct_testXingSel (a := a) (v := v) hen
        exact ⟨fun h => ans (by decide) (act.trans (if_pos h)), fun h => ans (by decide) (act.trans (if_neg (by omega)))⟩
      case laneCfg =>
        have act := regWriteAct_testLaneCfg (a := a) (v := v) hen
        exact ⟨fun h => ans (by decide) (act.trans (if_pos ((laneCfgAct_cond v).mpr h))),
          fun h => ans (by decide) (act.trans (if_neg fun hc => h ((laneCfgAct_cond v).mp hc)))⟩
  case memDone =>
    intro answers
    have hmain {t : State} (h : memDoneAct written s = t) : exec (.memDone written) s = .next t.settle :=
      congrArg finish ((if_pos hm).trans h)
    refine ⟨fun h => hmain (memDoneAct_waits h), fun h1 hz => ?sram, fun h2 hz => ?dram, fun h3 hz ho => ?_, fun h3 hz ho => ?_⟩
    case sram =>
      intro g m n
      have act := memDoneAct_sram (written := written) h1 hz
      have fits (hg : g ≤ 95) (h1 : 1 ≤ n) (h2 : n ≤ 2) : ¬ (95 < g ∨ n = 0 ∨ 2 < n) := by omega
      exact ⟨fun h => hmain (act.trans (if_pos h)),
        fun hg h1 h2 hw => hmain (act.trans ((if_neg (fits hg h1 h2)).trans (if_pos hw))),
        fun hg h1 h2 hw => hmain (act.trans ((if_neg (fits hg h1 h2)).trans (if_neg (ne_true_of_eq_false hw))))⟩
    case dram =>
      intro line first n p
      have act := (memDoneAct_dram (written := written) h2 hz).trans
        (State.flipDramDone_eq (line := line) (first := first) (n := n) (v := p) rfl rfl rfl rfl)
      refine ⟨fun h => hmain (act.trans (if_pos h)),
        fun hf h1 h5 hp ho => hmain (act.trans ((if_neg (by omega)).trans (if_pos ho))),
        fun hf h1 h5 hp ho hn => hmain (act.trans ((if_neg (by omega)).trans ((if_neg (by omega)).trans (if_pos hn)))),
        fun hf h1 h5 hp ho hn => ⟨flipped line first n p s.dram.err,
          hmain (act.trans ((if_neg (by omega)).trans ((if_neg (by omega)).trans (if_neg (ne_true_of_eq_false hn))))),
          fun k => sget_flipped (by omega) _ k⟩⟩
    · exact hmain ((memDoneAct_read h3 hz).trans (if_pos ho))
    · exact hmain ((memDoneAct_read h3 hz).trans (if_neg (by omega)))
  case tap =>
    intro loaded t
    have hrun : s.tapRun op scan = t := by cases scan <;> rfl
    refine ⟨onService_answers hl rfl, fun h hm hs => onService_answers hl ?_, fun h => onService_answers hl ?_⟩
    · rw [jtagAct_drives h hm hs, hrun]
    · rw [jtagAct_scans h, hrun]
  case scan =>
    refine ⟨fun h => ?_, fun h => State.scanDr_other (Bool.eq_false_iff.mpr fun hs => h (selectsBoundary_iff.mp hs))⟩
    obtain ⟨hbsr, htdo⟩ := State.scanDr_boundary hb (selectsBoundary_iff.mpr h)
    exact ⟨hbsr, htdo, State.length_captureCells⟩
  case levels =>
    rw [State.outLevel_eq hb]
    refine ⟨fun h => if_pos h, fun h => ?_, fun h => ?_⟩
    · rw [if_neg (by rintro h6; rw [h6] at h; revert h; decide), if_pos ((jtagDrives_iff _).mpr ?_)]
      revert h
      simp only [List.mem_cons, List.not_mem_nil, or_false]
      tauto
    · rw [if_neg fun h6 => h (by rw [h6]; decide), if_neg fun hd => h ((jtagDrives_iff _).mp hd)]

end Sys2Proof
end
